-- ==== Sys2Proof/Word.lean ====
section
/-! DEFINITION. The word and byte types of the block (`00_scope.md` R4, R7) and the plainest arithmetic over them. -/

namespace Sys2Proof

abbrev Byte := BitVec 8
abbrev Word := BitVec 32
abbrev Quad := BitVec 64
/-- A port P0 to P15 (R4). -/
abbrev PortId := Fin 16

/-- A condition as a one-bit field value. -/
def b2n (b : Bool) : Nat := if b then 1 else 0

end Sys2Proof
end

