-- ==== Sys2Proof/Machine/Bits.lean ====
section
/-! DEFINITION. The field, byte-order, saturation and list helpers that every register, record and message uses
(`00_scope.md` R4, R7: multi-byte fields are little-endian and bit 0 is the least significant bit). -/

set_option linter.unusedVariables false

namespace Sys2Proof

/-- The bits `[hi:lo]` of a register, as a number. -/
def Word.fld (w : Word) (hi lo : Nat) : Nat := (w.toNat >>> lo) % 2 ^ (hi + 1 - lo)

/-- One bit of a register. -/
def Word.bit (w : Word) (i : Nat) : Bool := w.getLsbD i

/-- A register with its field `[hi:lo]` replaced. -/
def Word.put (w : Word) (hi lo v : Nat) : Word :=
  let m := BitVec.ofNat 32 ((2 ^ (hi + 1 - lo) - 1) <<< lo)
  (w &&& ~~~ m) ||| (BitVec.ofNat 32 (v <<< lo) &&& m)

/-- `n` as a saturating count of `w` bits. -/
def satN (w n : Nat) : Nat := min n (2 ^ w - 1)

/-- A saturating increment of a counter register. -/
def satInc {w : Nat} (c : BitVec w) : BitVec w := if c = BitVec.allOnes w then c else c + 1

/-- One of the four saturating byte counters of a count register, incremented. -/
def Word.cntInc (w : Word) (k : Nat) : Word :=
  let v := w.fld (8 * k + 7) (8 * k)
  w.put (8 * k + 7) (8 * k) (min (v + 1) 255)

/-- The `n` bytes of `v`, least significant first (R7). -/
def leBytes : Nat → Nat → List Byte
  | 0, _ => []
  | n + 1, v => BitVec.ofNat 8 v :: leBytes n (v / 256)

/-- The number that a little-endian byte string spells (R7). -/
def leVal : List Byte → Nat
  | [] => 0
  | b :: bs => b.toNat + 256 * leVal bs

/-- The number that a big-endian byte string spells. -/
def beVal (bs : List Byte) : Nat := bs.foldl (fun a b => 256 * a + b.toNat) 0

/-- The `n` bytes of `v`, most significant first. -/
def beBytes (n v : Nat) : List Byte := (leBytes n v).reverse

/-- The bytes `[off, off + n)` of a byte string, zeros beyond its end. -/
def getBytes (bs : List Byte) (off n : Nat) : List Byte :=
  let t := (bs.drop off).take n
  t ++ List.replicate (n - t.length) 0

/-- The little-endian field of `n` bytes at `off`. -/
def getLE (bs : List Byte) (off n : Nat) : Nat := leVal (getBytes bs off n)

/-- A byte string with the bytes at `off` replaced. -/
def putBytes (bs : List Byte) (off : Nat) (v : List Byte) : List Byte :=
  getBytes bs 0 off ++ v ++ bs.drop (off + v.length)

/-- A byte string with the little-endian field of `n` bytes at `off` replaced. -/
def putLE (bs : List Byte) (off n v : Nat) : List Byte := putBytes bs off (leBytes n v)

/-- A signed number as a field of `w` bits. -/
def ofI (w : Nat) (i : Int) : Nat := (BitVec.ofInt w i).toNat

/-- The signed number that the low `w` bits of `n` spell. -/
def sgn (w n : Nat) : Int := (BitVec.ofNat w n).toInt

/-- A list with `x` at its end unless it is already a member: lists that stand for sets. -/
def insertNew {α : Type} [DecidableEq α] (x : α) (l : List α) : List α := if x ∈ l then l else l ++ [x]

/-- A list without `x`. -/
def dropAll {α : Type} [DecidableEq α] (x : α) (l : List α) : List α := l.filter (fun y => decide (y ≠ x))

/-- The set bits of a 16-bit port map. -/
def mapOf (f : PortId → Bool) : BitVec 16 :=
  BitVec.ofNat 16 ((List.finRange 16).foldl (fun a p => a + (if f p then 2 ^ p.val else 0)) 0)

end Sys2Proof
end

