-- ==== Sys2Proof/Machine/Types.lean ====
section
/-! DEFINITION. The plain data types that the commands carry and that State is made of: the enumerations of the
spec's tables (port, path, sequencer and core states, causes, kinds), PD messages and objects, descriptors,
records, cell payloads and the effects that leave the block. -/

set_option linter.unusedVariables false

namespace Sys2Proof

/-- Port states of Table 4-3 (04 R100). -/
inductive PortSt | disabled | unattached | attachWait | attachedSrc | attachedSnk | debugAcc | audioAcc
  | wet | foreign | holdoff | faultLatched
  deriving DecidableEq, Repr

/-- The code of Table 4-3. -/
def PortSt.code : PortSt → Nat
  | .disabled => 0 | .unattached => 1 | .attachWait => 2 | .attachedSrc => 3 | .attachedSnk => 4
  | .debugAcc => 5 | .audioAcc => 6 | .wet => 7 | .foreign => 8 | .holdoff => 9 | .faultLatched => 10

/-- A CC pin (04 R91). -/
inductive Pin | cc1 | cc2 deriving DecidableEq, Repr

/-- The other CC pin. -/
def Pin.other : Pin → Pin
  | .cc1 => .cc2
  | .cc2 => .cc1

/-- Comparator reports (04 R91). -/
inductive CcRep | opn | rd | ra deriving DecidableEq, Repr

/-- A report that a pin's comparators change to, and whether the thresholds of a new level alone changed it (04 R92). -/
structure CcReport where
  rep : CcRep
  byLevel : Bool := false
  deriving DecidableEq, Repr

/-- Pin classes of Table 4-1 with the register codes of Table 4-9. -/
inductive CcClass | opn | rd | ra | wet | foreign | notYet deriving DecidableEq, Repr

def CcClass.code : CcClass → Nat
  | .opn => 0 | .rd => 1 | .ra => 2 | .wet => 3 | .foreign => 4 | .notYet => 5

/-- Port verdicts: the rows of Table 4-2 (04 R96). -/
inductive Verdict | foreign | wet | debug | sink | audio | cable | nothing deriving DecidableEq, Repr

/-- The row number of Table 4-2. -/
def Verdict.row : Verdict → Nat
  | .foreign => 1 | .wet => 2 | .debug => 3 | .sink => 4 | .audio => 5 | .cable => 6 | .nothing => 7

/-- Occasions of a classification window (04 R97). -/
inductive WinOccasion | attach | cable | idle | reprobe | hold | present deriving DecidableEq, Repr

/-- SOP* of Table 5-2. -/
inductive Sopx | sop | sopp | soppp deriving DecidableEq, Repr

def Sopx.code : Sopx → Nat | .sop => 0 | .sopp => 1 | .soppp => 2

/-- A PD message: its SOP*, header and the bytes after the header, extended header included (05 R146). -/
structure PdMsg where
  sopx : Sopx := .sop
  hdr : BitVec 16 := 0
  data : List Byte := []
  deriving DecidableEq, Repr

/-- A K-code of an ordered set, or none that is correct (05 R119). -/
inductive KCode | sync1 | sync2 | sync3 | rst1 | rst2 | other deriving DecidableEq, Repr

/-- The four K-codes with which a frame or a reset signal begins. -/
structure OrdSet where
  a : KCode := .sync1
  b : KCode := .sync1
  c : KCode := .sync1
  d : KCode := .sync2
  deriving DecidableEq, Repr

/-- A frame with a valid CRC on the wire: its ordered set, and the message behind it (05 R119, R120). -/
structure PdFrame where
  set : OrdSet := {}
  msg : PdMsg
  deriving DecidableEq, Repr

/-- An ordered set that a port's receiver meets before its message (05 R119). -/
structure SopSeen where
  port : PortId
  set : OrdSet
  deriving DecidableEq, Repr

/-- How a port in the sink role reads its partner's Rp: SinkTxOK or SinkTxNG (05 R134). -/
structure RpRead where
  port : PortId
  ok : Bool
  deriving DecidableEq, Repr

/-- Who handed a message to the protocol layer (05 R147): the sequencer, or a service core through VDMTX. -/
inductive PdProd | seq | core deriving DecidableEq, Repr

/-- Phase of a transmission: waiting for an idle channel, for the AMS wait, for SinkTxOK, on the wire, awaiting
GoodCRC, awaiting a Chunk Request (05 R121, R126, R132, R134, R138). -/
inductive TxPhase | held | amsWait | sinkWait | wire | waitCrc | chunkWait deriving DecidableEq, Repr

/-- Whose atomic message sequence is in progress (05 R131). -/
inductive Ams | idle | device | partner deriving DecidableEq, Repr

/-- Outcomes of a transmission, Table 5-5 byte 7. -/
inductive TxOutcome | acked | exhausted | abandoned | hardReset | cableReset | detach | refused
  deriving DecidableEq, Repr

def TxOutcome.code : TxOutcome → Nat
  | .acked => 1 | .exhausted => 2 | .abandoned => 3 | .hardReset => 4 | .cableReset => 5 | .detach => 6
  | .refused => 7

/-- Sequencer states of Table 6-1. -/
inductive SeqSt | off | startup | cableDisc | sendCaps | waitRequest | negotiate | transition | ready
  | eprEntry | softReset | noPd | hardReset | swap | sink
  deriving DecidableEq, Repr

def SeqSt.code : SeqSt → Nat
  | .off => 0 | .startup => 1 | .cableDisc => 2 | .sendCaps => 3 | .waitRequest => 4 | .negotiate => 5
  | .transition => 6 | .ready => 7 | .eprEntry => 8 | .softReset => 9 | .noPd => 10 | .hardReset => 11
  | .swap => 12 | .sink => 13

/-- Contract kinds of PRT_POL_STAT.KIND. -/
inductive CtrKind | fixed | pps | sprAvs | eprAvs deriving DecidableEq, Repr

def CtrKind.code : CtrKind → Nat | .fixed => 0 | .pps => 1 | .sprAvs => 2 | .eprAvs => 3

/-- A power data object as the sequencer offers it (06 R157 to R159); `none` stands for a zero object. -/
inductive Pdo
  | fixed (mv ma : Nat)
  | pps (mvMax ma : Nat)
  | sprAvs (watts ma : Nat)
  | eprAvs (mvMin mvMax watts : Nat)
  | zero
  deriving DecidableEq, Repr

/-- What the cable declared (06 Table 6-2, R172): its current, EPR capability and rated voltage, and a SOP″
controller. -/
structure CableRec where
  ma : Nat := 3000
  epr : Bool := false
  v50 : Bool := false
  active : Bool := false
  deriving DecidableEq, Repr

/-- Swap kinds of PRT_SWAP_STAT.SWAP_KIND. -/
inductive SwapKind | idle | toSink | toSource | fr | vconn deriving DecidableEq, Repr

def SwapKind.code : SwapKind → Nat | .idle => 0 | .toSink => 1 | .toSource => 2 | .fr => 3 | .vconn => 4

/-- The message a Wait answer makes the device repeat (06 R188). -/
inductive WaitKind | prSwap | vconnSwap | request deriving DecidableEq, Repr

/-- The lookup a port has outstanding (08 R232). -/
inductive LookupReq | cable | sop | again deriving DecidableEq, Repr

/-- PWM output levels of Table 9-1. -/
inductive PwmLevel | high | low | off deriving DecidableEq, Repr

/-- Set-point sources of Table 9-3. -/
inductive SetSrc | stopped | start | sequencer | trim | holdup deriving DecidableEq, Repr

/-- A phase of the port converter. -/
inductive Ph | a | b | c deriving DecidableEq, Repr

def Ph.ix : Ph → Nat | .a => 0 | .b => 1 | .c => 2

/-- The rule of R279 or R281 under which a phase or the path is flagged. -/
inductive FailRule | rail | deviation | underShare | inconsistent deriving DecidableEq, Repr

def FailRule.code : FailRule → Nat | .rail => 1 | .deviation => 2 | .underShare => 3 | .inconsistent => 4

/-- Path states of Table 10-2. -/
inductive PathSt | off | proving | closing | on | opening | backfeed deriving DecidableEq, Repr

def PathSt.code : PathSt → Nat
  | .off => 0 | .proving => 1 | .closing => 2 | .on => 3 | .opening => 4 | .backfeed => 5

/-- Path requests of R294. -/
inductive PathReq | none | attach | holdoff | hardReset | swapBack | debug deriving DecidableEq, Repr

/-- Trip causes of Table 10-3, in its order. -/
inductive TripCause | short | phasePeak | vbusOv | i2t | inrush | softstart | busin | gateCollapse | connOt
  deriving DecidableEq, Repr

def TripCause.code : TripCause → Nat
  | .short => 1 | .phasePeak => 2 | .vbusOv => 3 | .i2t => 4 | .inrush => 5 | .softstart => 6
  | .busin => 7 | .gateCollapse => 8 | .connOt => 9

/-- The causes counted as retries (Table 10-3). -/
def TripCause.counted : TripCause → Bool
  | .short | .phasePeak | .vbusOv | .i2t | .inrush | .softstart => true
  | _ => false

/-- A trip in progress (Table 10-4): the causes that have acted, the first of them, whether Hard Reset
signalling is awaited before step 9, and the state the port is to enter. -/
structure TripSt where
  first : TripCause
  acted : List TripCause := []
  toState : Option PortSt := none
  deriving DecidableEq, Repr

/-- Routing modes of Table 11-6. -/
inductive WmMode | normal | startup | recovery | test deriving DecidableEq, Repr

def WmMode.code : WmMode → Nat | .normal => 0 | .startup => 1 | .recovery => 2 | .test => 3

/-- An edge of a window monitor. -/
inductive Edge | lower | upper deriving DecidableEq, Repr

/-- A monitor's return into its window: the edge that it had crossed, and the code of its input (11 R344). -/
structure MonReturn where
  edge : Edge
  code : BitVec 10
  deriving DecidableEq, Repr

/-- The checks of Table 11-11, with the codes of cause 0x0700. -/
inductive LegChk | readback | tie | swap | input deriving DecidableEq, Repr

def LegChk.code : LegChk → Nat | .readback => 1 | .tie => 2 | .swap => 3 | .input => 4

/-- Back-feed opening causes of Table 10-7. -/
inductive BfCause | overcurrent | reverse | vbus | short | i2t | host deriving DecidableEq, Repr

def BfCause.code : BfCause → Nat
  | .overcurrent => 1 | .reverse => 2 | .vbus => 3 | .short => 4 | .i2t => 5 | .host => 6

/-- End reasons of Table 12-4. -/
inductive EndReason | detach | trip | supply | swap | timebase | converter | monitor | stopped | device
  | interrupted
  deriving DecidableEq, Repr

def EndReason.code : EndReason → Nat
  | .detach => 1 | .trip => 2 | .supply => 3 | .swap => 4 | .timebase => 5 | .converter => 6
  | .monitor => 7 | .stopped => 8 | .device => 9 | .interrupted => 10

/-- A descriptor with the queue and slot it came from (13 R396). -/
structure Desc where
  sq : Fin 16 := 0
  slot : BitVec 12 := 0
  op : BitVec 8 := 0
  flags : BitVec 8 := 0
  port : BitVec 8 := 0
  cls : BitVec 8 := 0
  tag : Word := 0
  params : List Byte := List.replicate 52 0
  deferMs : Word := 0
  deriving DecidableEq, Repr

/-- Phase of an outstanding descriptor (13 R407, 14 R425). -/
inductive DPhase | fetched | waiting | running | done deriving DecidableEq, Repr

/-- State of a queue (Table 13-17). -/
inductive QSt | absent | live | deleting | faulted deriving DecidableEq, Repr

def QSt.code : QSt → Nat | .absent => 0 | .live => 1 | .deleting => 2 | .faulted => 3

/-- Core states of WVL_STAT (16 R466). -/
inductive CoreSt | reset | run | wait | halted | fault deriving DecidableEq, Repr

def CoreSt.code : CoreSt → Nat | .reset => 0 | .run => 1 | .wait => 2 | .halted => 3 | .fault => 4

/-- Controller states of TWI_CnSTAT.STATE. -/
inductive TwcSt | disabled | idle | busy | quarantined deriving DecidableEq, Repr

def TwcSt.code : TwcSt → Nat | .disabled => 0 | .idle => 1 | .busy => 2 | .quarantined => 3

/-- Power states of PWR_STAT.STATE and HIBERNATE (19 R514). -/
inductive PwrSt | run | idle | doze | hibernate deriving DecidableEq, Repr

def PwrSt.code : PwrSt → Nat | .run => 0 | .idle => 1 | .doze => 2 | .hibernate => 3

/-- An event record, Table 13-7, without its PHASE bit; `num` is 0 for an unnumbered fault-log entry's flag. -/
structure EvRec where
  cause : Nat := 0
  port : Nat := 0
  cls : Nat := 0
  sev : Nat := 0
  coal : Nat := 1
  seq : Quad := 0
  time : Quad := 0
  data : Quad := 0
  unnum : Bool := false
  deriving DecidableEq, Repr

/-- A completion, Table 13-6, without its PHASE bit, with the queue it goes to. -/
structure CplRec where
  tag : Word := 0
  status : BitVec 16 := 0
  port : BitVec 8 := 0
  deferred : Bool := false
  notify : Bool := false
  sq : Nat := 0
  slot : BitVec 12 := 0
  cq : Nat := 0
  seq : Quad := 0
  time : Quad := 0
  result : Quad := 0
  orphan : Bool := false
  cls : Nat := 0
  deriving DecidableEq, Repr

/-- An interval record of metering (Table 12-2). -/
structure IvRec where
  port : Nat := 0
  ses : Nat := 0xFF
  merged : Nat := 1
  eFwd : Nat := 0
  time : Quad := 0
  vMin : Int := 0
  vMax : Int := 0
  vMean : Int := 0
  iMin : Int := 0
  iMax : Int := 0
  iMean : Int := 0
  eRev : Nat := 0
  lost : Nat := 0
  deriving DecidableEq, Repr

/-- A capture frame in progress (11 R346, Table 11-10). -/
structure CapFrame where
  mon : Nat := 0
  upper : Bool := false
  skipped : Nat := 0
  attach : BitVec 16 := 0
  cells : Nat := 0
  pre : Nat := 0
  time : Quad := 0
  more : Nat := 0
  stored : Bool := true
  deriving DecidableEq, Repr

/-- A transaction item of a two-wire controller (17 R483): from TWI_XFER, or from a core's flow port, `bad` where the core's cell
breaks the ranges of Table 17-4. -/
structure TwItem where
  core : Option (Fin 4) := none
  sq : Fin 16 := 0
  slot : BitVec 12 := 0
  addr10 : Bool := false
  addr : BitVec 16 := 0
  wlen : Nat := 0
  rlen : Nat := 0
  wdata : List Byte := []
  rdataAddr : Quad := 0
  tag : Word := 0
  bad : Bool := false
  deriving DecidableEq, Repr

/-- A journal entry (Table 12-6) that waits to be written. -/
inductive JrnEntry
  | opn (body : List Byte) (pre : Nat)
  | snap (id : Quad) (tb cal : Quad) (energy charge : Nat)
  | close (body : List Byte)
  | ack (id : Quad) (sq : Fin 16) (slot : BitVec 12) (ctx : Nat)
  | timeFix (epoch : Word) (t0 c0 : Quad)
  | counters (body : List Byte)
  deriving DecidableEq, Repr

/-- What a cell of the store carries. -/
inductive Payload
  | ev (r : EvRec)
  | cpl (r : CplRec)
  | desc (d : Desc)
  /-- A message of PDRX, or of PDTX with its producer and whether it starts an AMS of the device (05 R132). -/
  | pd (m : PdMsg) (attach : BitVec 16) (tx : Option (PdProd × Bool)) (time : Quad)
  | iv (r : IvRec)
  | bytes (b : List Byte)
  | tw (i : TwItem)
  /-- A journal entry on its way to W0 (12 R372). -/
  | jrn (e : JrnEntry)
  /-- A record that its consumer has read (03 R65). -/
  | gone
  deriving DecidableEq, Repr

/-- A producer that waits for credit on a flow (03 R76, R77). -/
inductive Waiter
  | seq (p : PortId) (m : PdMsg) (prod : PdProd) (first : Bool)
  | flowPort (core : Fin 4) (fp : Fin 16)
  /-- A cell whose content is ready: a two-wire item of the host's, or a result for a core. -/
  | cell (r : Payload)
  deriving DecidableEq, Repr

/-- An entry held in the journal area of flash: its kind and its bytes. -/
structure JrnUnit where
  kind : Nat := 0
  bytes : List Byte := []
  deriving DecidableEq, Repr

/-- A set-point trim in progress (09 R270). -/
structure TrimCmd where
  sq : Fin 16 := 0
  slot : BitVec 12 := 0
  deltaMv : Int := 0
  deriving DecidableEq, Repr

/-- Converter fields that take effect only at a converter start (09 R292). -/
structure CnvLatched where
  fsw : Nat := 500
  lph : Nat := 30
  rHarn : Nat := 0
  imcal : Vector Word 3 := #v[0x03E80320, 0x03E80320, 0x03E80320]
  deriving DecidableEq, Repr

/-- Guard fields in force since the last entry to PROVING (10 R324). -/
structure EfLatched where
  cfg : Word := 0x00320528
  inrush : Word := 0x00001428
  i2t : Word := 0x00000A78
  retry : Word := 0x00001E03
  bf : Word := 0x0000033C
  deriving DecidableEq, Repr

/-- One MSI-X table entry: address, data and vector control with its mask bit (13 R390). -/
structure MsixEntry where
  addrLo : Word := 0
  addrHi : Word := 0
  data : Word := 0
  ctrl : Word := 1
  deriving DecidableEq, Repr

/-- The timers of a port that run; each expires by a command of its own. -/
inductive Tmr
  | reprobe | holdoff | tReceive | chunk | amsWait | sendCap | sender | srcTrans | transLimit | pps
  | chunkTx | keepAlive | cableDisc | vdmBusy | vdmResp | waitSpacing | psHardReset | srcRecover | psSourceOn
  | psSourceOff | psTransition | sinkWaitCap | vconnSource | frsWait | takeover | returnRetry | fleetEnter
  | auth | vdmAnswer | trimLimit | goodService | bfReclose | cableAgain | budgetHr | prot40
  deriving DecidableEq, Repr

/-- The interface through which a register is read or written (22 R568). -/
inductive Iface | bar0 | twt deriving DecidableEq, Repr

/-- What leaves the block: bus writes, signalling and frames, in the order they are driven. -/
inductive Out
  | hostWrite (addr : Quad) (bytes : List Byte)
  | msix (vec : Nat) (addr : Quad) (data : Word)
  | ltr (us : Nat)
  | pme
  | l1Request
  | frame (p : PortId) (m : PdMsg)
  | hardReset (p : PortId)
  | cableReset (p : PortId)
  /-- A GoodCRC with its MessageID, roles, Cable Plug bit and revision code (05 R123, R124, R130). -/
  | goodCrc (p : PortId) (sopx : Sopx) (id : BitVec 3) (source dfp plug : Bool) (rev : Nat)
  | frSignal (p : PortId)
  | pdOutcome (p : PortId) (m : PdMsg) (prod : PdProd) (o : TxOutcome) (time : Quad) (tries : Nat)
  | bistCarrier (p : PortId)
  | readData (i : Iface) (off : Nat) (v : Word)
  | windowBytes (bytes : List Byte)
  | nack
  | twiRequest (sup ev held : Nat)
  | flashWrite (addr : Nat) (len : Nat)
  | twiStart (bus : Fin 4) (item : TwItem)
  | capture (p : PortId) (f : CapFrame)
  deriving DecidableEq, Repr

/-- What clears the host queues (13 R417). -/
inductive FlrKind | flr | conventional | linkDown deriving DecidableEq, Repr

/-- What an error check of a store word finds (03 R64, R87). -/
inductive EccRes | clean | single | double deriving DecidableEq, Repr

/-- How the memories answer an instruction: sound, or with a corrected or an uncorrectable error in the fetched word or in
the data it reads (16 R449, R455). -/
inductive Fetch | ok | fetchCe | fetchUe | dataCe | dataUe deriving DecidableEq, Repr

/-- A register number of a Weevil instruction (16 Table 16-4). -/
abbrev Reg := BitVec 4

/-- The fields of an R-format instruction (16 Table 16-4): `z` is [5:0], which must be 0. -/
structure InsR where
  rd : Reg := 0
  ra : Reg := 0
  rb : Reg := 0
  s : Bool := false
  sh : BitVec 5 := 0
  z : BitVec 6 := 0
  deriving DecidableEq, Repr

/-- The fields of an I-format instruction: `z` is bit 16, which must be 0. -/
structure InsI where
  rd : Reg := 0
  ra : Reg := 0
  s : Bool := false
  z : Bool := false
  imm : BitVec 16 := 0
  deriving DecidableEq, Repr

/-- The fields of an M-format instruction: MODE, RT, RB and bits [16:0], which MODE divides (Table 16-7). -/
structure InsM where
  mode : BitVec 2 := 0
  rt : Reg := 0
  rb : Reg := 0
  x : BitVec 17 := 0
  deriving DecidableEq, Repr

/-- The fields of a SYS instruction (Table 16-8): `z` is [17:16], which must be 0. -/
structure InsS where
  reg : Reg := 0
  z : BitVec 2 := 0
  imm : BitVec 16 := 0
  deriving DecidableEq, Repr

/-- A job of the crypto engine: the context registers as CX_GO found them (16 Table 16-19). -/
structure CxJob where
  op : Word := 0
  src : Word := 0
  len : Word := 0
  dst : Word := 0
  aux : Word := 0
  deriving DecidableEq, Repr

/-- What a control update measures (09 R258 to R260, R276): VOUT before the divider correction, VBUS_SNS and BUSIN as sensed
for WM5, in mV, the shunt current in mA, the IMON inputs in µV, the least current in mA that each phase has reached while Low
since the last update, the fall of VOUT over 320 ns in mV/µs, and whether the update starts a period of the port. -/
structure CnvMeas where
  vout : Int := 0
  vsns : Int := 0
  busin : Int := 0
  shunt : Int := 0
  imA : Int := 0
  imB : Int := 0
  imC : Int := 0
  lowA : Option Int := none
  lowB : Option Int := none
  lowC : Option Int := none
  fall : Nat := 0
  first : Bool := true
  deriving DecidableEq, Repr

/-- A dip of a port's VOUT: VOUT before the divider correction in mV, and its fall over the last 320 ns in mV/µs (09 R273). -/
structure SwarmDip where
  port : PortId
  vout : Int
  fall : Nat
  deriving DecidableEq, Repr

/-- A tamper input that has held its level for the debounce, or has left it (19 R534). -/
structure TamperLevel where
  input : Fin 2
  holds : Bool
  deriving DecidableEq, Repr

/-- What the isolation check measures over the last two periods in which it holds a phase Off: the sum of the currents of the
two phases left, and the shunt current, in mA (09 R281). -/
structure IsoMeas where
  sum : Int := 0
  shunt : Int := 0
  deriving DecidableEq, Repr

/-- How a two-wire transaction of a controller goes on the wire (17 Table 17-5, R483 to R488): done with the bytes read; a byte
not acknowledged, with its index and phase; arbitration lost at a bit, or while a STOP or a repeated START forms; a START or STOP
by another controller within a byte; SCL stretched by the target so that it does not end; or SDA low before the START. `moved`
counts the data bytes acknowledged or read. -/
inductive TwcRes
  | done (data : List Byte)
  | nack (byte phase moved : Nat)
  | arbLost (byte bit phase moved : Nat)
  | arbStop (byte moved : Nat)
  | arbRestart (byte moved : Nat)
  | busError (byte phase moved : Nat)
  | stretched
  | busLow
  deriving DecidableEq, Repr

/-- What the checks of start-up find (20 Table 20-3, R542, R543; 18 R506, R581): the crystal running, a directory copy and
the counters intact, code slots A and B holding four images that match their hashes, the era's write back to flash done (02 R47),
and whether the backup domain has lost its state (19 R529). -/
structure BootIn where
  crystal : Bool := true
  dirOk : Bool := true
  countersOk : Bool := true
  codeAOk : Bool := true
  codeBOk : Bool := true
  eraWritten : Bool := true
  backupLost : Bool := false
  deriving DecidableEq, Repr

/-- A write to configuration space (13 Table 13-2, R387). -/
inductive CfgSpace
  | ltrEn (b : Bool) | aspmL1 (b : Bool) | msixEn (b : Bool) | msixMask (b : Bool) | pmeEn (b : Bool)
  | pmeClear | aerClear (m : Word)
  deriving DecidableEq, Repr

end Sys2Proof
end

