-- ==== Sys2Proof/Syntax.lean ====
section
/-! DEFINITION. The commands of the block: one constructor for each row of spec/opcode_table.json, in the table's order,
with the row's operands (Machine/Types.lean gives the operand types). -/

namespace Sys2Proof

inductive Instr
  /-- NOP (R430): Command that does nothing and completes OK when it starts. -/
  | nop (d : Desc)
  /-- PORT_ENABLE (R430): Command that enables a DISABLED port: Rp is presented and the port enters UNATTACHED, subject to the floor check of R177. -/
  | portEnable (d : Desc)
  /-- PORT_DISABLE (R430): Command that stops a port, removes Rp and puts the port in DISABLED. -/
  | portDisable (d : Desc)
  /-- PORT_RESET (R546): Command that stops one port, clears its learned state and returns it to its new state. -/
  | portReset (d : Desc)
  /-- CLEAR_FAULT (R322): Command that ends HOLDOFF or FAULT_LATCHED, clears the retry counter and latch, and returns the port to UNATTACHED. -/
  | clearFault (d : Desc)
  /-- HARD_RESET (R432): Command that asks the sequencer to send Hard Reset on a port. -/
  | hardReset (d : Desc)
  /-- RENEGOTIATE (R430): Command that latches renegotiation and completes at the GoodCRC of the capabilities that clear the latch. -/
  | renegotiate (d : Desc)
  /-- SETPOINT_TRIM (R270): Command that trims the port set-point relative to the contract voltage. -/
  | setpointTrim (d : Desc)
  /-- ROLE_SWAP (R221): Command that starts a power role swap to source or to sink. -/
  | roleSwap (d : Desc)
  /-- VCONN_SWAP (R221): Command that starts a VCONN_Swap to take or give VCONN. -/
  | vconnSwap (d : Desc)
  /-- VCONN_SET (R431): Command that switches VCONN on or off directly. -/
  | vconnSet (d : Desc)
  /-- BACKFEED_SET (R322): Command that opens or closes the back-feed switch of a port in ATTACHED_SNK. -/
  | backfeedSet (d : Desc)
  /-- PHASE_CLEAR (R284): Command that clears failed phases so that they rejoin the converter. -/
  | phaseClear (d : Desc)
  /-- SESSION_READ (R379): Command that copies a 256-byte session context to host memory. -/
  | sessionRead (d : Desc)
  /-- SESSION_ACK (R379): Command that journals an ACK entry for a journaled session and frees its context. -/
  | sessionAck (d : Desc)
  /-- CAL_SET (R532): Command that sets the calendar and marks it valid. -/
  | calSet (d : Desc)
  /-- POD_WRITE (R433): Command that writes or deletes a block of Pod Table entries fetched from host memory. -/
  | podWrite (d : Desc) (block : List Byte)
  /-- POD_RELOOKUP (R238): Command that looks the port's identity digest up afresh and applies the outcome. -/
  | podRelookup (d : Desc)
  /-- AUTHENTICATE (R249): Command that runs a new authentication job for the port's partner. -/
  | authenticate (d : Desc)
  /-- FLEET_MODE (R243): Command that enters or exits the fleet vendor mode. -/
  | fleetMode (d : Desc)
  /-- MONITOR_TEST (R351): Command that injects a crossing into a monitor and times the Firefly action on a DISABLED port. -/
  | monitorTest (d : Desc) (leg0 : Option Nat) (leg1 : Option Nat)
  /-- TWI_XFER (R483): Command that queues a two-wire controller transaction on one of TWC0 to TWC3. -/
  | twiXfer (d : Desc) (wdata : List Byte)
  /-- FAULT_LOG_READ (R441): Command that copies fault log entries to host memory and optionally removes them. -/
  | faultLogRead (d : Desc)
  /-- IMG_BLOCK (R500): Command that writes one block of an update package to the candidate flash slots. -/
  | imgBlock (d : Desc) (block : List Byte) (fails : Nat)
  /-- IMG_ACTIVATE (R503): Command that activates staged kinds through the activation sequence. -/
  | imgActivate (d : Desc)
  /-- IMG_CONFIRM (R507): Command that confirms or rejects a trial and makes the candidates active or falls back. -/
  | imgConfirm (d : Desc)
  /-- POWER_STATE (R519): Command that requests entry to DOZE or HIBERNATE. -/
  | powerState (d : Desc)
  /-- BUFFER_DESCRIPTOR (R413): Buffer descriptor posted on a meter or capture stream SQ for stream data. -/
  | bufferDescriptor (d : Desc)
  /-- DEFERRED_START (R425): A command waiting under DEFER passes its re-judgement and starts. -/
  | deferredStart (sq : Fin 16) (slot : BitVec 12)
  /-- DEFER_TIMEOUT (R425): DEFER_MS expires for a waiting command, which completes TIMEOUT. -/
  | deferTimeout (sq : Fin 16) (slot : BitVec 12)
  /-- SQ_TAIL_DOORBELL (R401): Host write of an SQ tail doorbell that submits descriptors. -/
  | sqTailDoorbell (sq : Fin 16) (v : Word)
  /-- CQ_HEAD_DOORBELL (R404): Host write of a CQ head doorbell that releases completion entries. -/
  | cqHeadDoorbell (cq : Fin 16) (v : Word)
  /-- EQ_HEAD_DOORBELL (R404): Host write of the EQ head doorbell that releases event entries. -/
  | eqHeadDoorbell (v : Word)
  /-- DESCRIPTOR_FETCH (R403): The host interface reads and checks a descriptor once CMD and CPL room and outstanding-table room allow it. -/
  | descriptorFetch (sq : Fin 16) (bytes : List Byte)
  /-- HOST_FETCH_ERROR (R389): A descriptor read completes with an error, and the SQ is faulted. -/
  | hostFetchError (sq : Fin 16) (why : Nat)
  /-- HOST_RECORD_WRITE (R56): The host interface writes the next record or completion to its ring once conditions and ring space allow. -/
  | hostRecordWrite
  /-- MODERATION_TIMER_EXPIRY (R411): TIME_US passes since the first unsignalled entry and the queue becomes due. -/
  | moderationTimerExpiry (q : Option (Fin 16)) (sev : Fin 4)
  /-- MSIX_UNMASK (R412): Unmasking a vector with its PBA bit set sends one message and clears the bit. -/
  | msixUnmask (vec : Fin 32)
  /-- STREAM_FLUSH_EXPIRY (R414): FLUSH_MS passes since the first item of a stream buffer, which completes. -/
  | streamFlushExpiry (meter : Bool)
  /-- QUEUE_CREATE (R394): HIF_QCTRL operation that creates the selected SQ, CQ or EQ. -/
  | queueCreate
  /-- QUEUE_DELETE (R395): HIF_QCTRL operation that deletes the selected queue. -/
  | queueDelete
  /-- DISCARD_ORPHANS (R418): HIF_QCTRL operation that discards the orphan completions of a CQ index. -/
  | discardOrphans
  /-- RING_SEL_WRITE (R392): Write of HIF_VER.RING_SEL that chooses the ring format or is refused. -/
  | ringSelWrite (v : Word)
  /-- FUNCTION_LEVEL_RESET (R417): Function-level reset, conventional reset or link down that clears the queues and ends unstarted descriptors. -/
  | functionLevelReset (k : FlrKind)
  /-- PCI_PM_STATE_CHANGE (R388): The host changes D-state or Bus Master Enable, suspending or resuming memory writes. -/
  | pciPmStateChange (d3 : Bool) (bme : Bool)
  /-- L1_ENTRY_REQUEST (R387): No TLP has been pending for L1_IDLE_US and the device requests ASPM L1 entry. -/
  | l1EntryRequest
  /-- REGISTER_WRITE (R5): Write through BAR0 to a register that has no row of its own, under its access code and range checks. -/
  | registerWrite (i : Iface) (off : BitVec 20) (v : Word)
  /-- RC_READ (R5): Read of an RC register that returns its value and clears it. -/
  | rcRead (i : Iface) (off : BitVec 20)
  /-- LO_LATCH_READ (R568): Read of the LO half of a register pair, which latches the HI half for the reading interface. -/
  | loLatchRead (i : Iface) (off : BitVec 20)
  /-- LIMIT_WRITE (R191): Write of GLB_BUDGET_CFG that changes LIMIT and starts an allocation round. -/
  | limitWrite (i : Iface) (v : Word)
  /-- LOCK_SET (R572): Write of 1 to HIF_LOCK.LOCK that makes every RWL field read only. -/
  | lockSet (i : Iface) (v : Word)
  /-- FLOG_DATA0_READ (R576): Read of GLB_FLOG_DATA0 that latches the selected or next held fault log entry. -/
  | flogData0Read (i : Iface)
  /-- FLOG_DATA7_LAST_READ (R576): Read of the top byte of GLB_FLOG_DATA7 that advances WCOUNT past the latched entry. -/
  | flogData7LastRead (i : Iface)
  /-- POD_READ_SLOT (R252): POD_CTRL operation that reads a slot into POD_DATA. -/
  | podReadSlot
  /-- POD_WRITE_SLOT (R237): POD_CTRL operation that checks and writes POD_DATA to a slot. -/
  | podWriteSlot
  /-- POD_DELETE_SLOT (R237): POD_CTRL operation that deletes a slot. -/
  | podDeleteSlot
  /-- WARM_RESET (R544): Keyed write of HIF_RST.WARM that requests a warm reset. -/
  | warmReset (i : Iface) (v : Word)
  /-- WARM_RESET_PROCEED (R544): A warm reset waiting on hold-up ACTIVE proceeds through W1 to W6 once ACTIVE clears. -/
  | warmResetProceed
  /-- BKP_SET (R532): Write of 1 to BKP_CTRL.SET that sets the calendar from BKP_SET_LO and BKP_SET_HI. -/
  | bkpSet (v : Word)
  /-- TAMPER_LATCH_CLEAR (R534): Write of 1 to a LAT bit of BKP_TAMP_STAT that clears the latch and its count. -/
  | tamperLatchClear (v : Word)
  /-- CORE_HOLD (R466): Write of WVL_CTRL.HOLD_n that holds a core in RESET or releases it. -/
  | coreHold (n : Fin 4) (hold : Bool)
  /-- CORE_HALT (R466): Write of WVL_CTRL.HALT_n that halts a core at an instruction boundary or resumes it. -/
  | coreHalt (n : Fin 4) (halt : Bool)
  /-- CORE_RESTART (R466): Write of 1 to WVL_CTRL.RESTART_n that resets and starts a core. -/
  | coreRestart (n : Fin 4)
  /-- TWT_MAP_SEL_WRITE (R478): Write of TWI_TVER.SEL through TWT that chooses the register map version. -/
  | twtMapSelWrite (v : Byte)
  /-- EVENT_OCCURRENCE (R79): An event occurrence is offered to its EVH and EVS flows, numbered and entered, or counted. -/
  | eventOccurrence (cause : Nat) (port : Nat) (data : Quad)
  /-- EVENT_FLOW_FLUSH (R80): An out-of-credit event flow regains two free record slots and its counters are flushed as coalesced records. -/
  | eventFlowFlush (flow : Nat)
  /-- CREDIT_RETURN (R77): A released cell returns credit to a flow and the waiting producer that began to wait first resumes. -/
  | creditReturn (flow : Nat)
  /-- SCRUB_READ (R86): The scrubber reads and corrects one store word on its schedule. -/
  | scrubRead (cell : Nat) (word : Fin 32) (r : EccRes)
  /-- CELL_REWRITE_CHECK (R88): A freed cell with an uncorrectable error is rewritten with zeros, read back and possibly retired. -/
  | cellRewriteCheck (cell : Nat) (bad : Bool)
  /-- TIMEBASE_LOST (R43): The Timebase unit declares loss and the device runs the sequence of Table 2-3. -/
  | timebaseLost (noEdge : Bool)
  /-- TIMEBASE_RESTORED (R45): The crystal meets both conditions for 10 ms, FALLBACK clears and the disabled ports return to UNATTACHED. -/
  | timebaseRestored
  /-- CALIBRATION_CYCLE (R40): A calibration window ends and the delay-line step settings of every port are updated. -/
  | calibrationCycle (us : Nat) (steps : List Nat)
  /-- ERA_WRITE_RETRY (R47): W0 repeats a failed write of the sequence era every 1 s. -/
  | eraWriteRetry (ok : Bool)
  /-- CC_ATTACH_DETECTED (R100): A pin shows SRC.Rd, or both pins SRC.Ra, and the port enters ATTACH_WAIT. -/
  | ccAttachDetected (p : PortId)
  /-- PROBE_SAMPLE (R93): The impedance probe takes one sample of CC1 and then CC2. -/
  | probeSample (p : PortId) (r1 : Option Nat) (r2 : Option Nat)
  /-- REPROBE_EXPIRY (R97): The re-probe interval expires and a classification window starts. -/
  | reprobeExpiry (p : PortId)
  /-- TCCDEBOUNCE_EXPIRY (R101): tCCDebounce is met and the port proceeds toward path closing or an accessory state. -/
  | tccDebounceExpiry (p : PortId)
  /-- TPDDEBOUNCE_EXPIRY (R110): A pin has shown SRC.Open, or VBUS has stayed low, for tPDDebounce. -/
  | tpdDebounceExpiry (p : PortId) (onVbus : Bool)
  /-- VCONN_FAULT (R107): The VCONN switch opens on overload, a sustained clamp or VCONNIN out of range. -/
  | vconnFault (p : PortId) (why : Nat) (ma : Nat)
  /-- HOLDOFF_EXPIRY (R113): The hold-off expires and the port takes the first matching row of R113. -/
  | holdoffExpiry (p : PortId)
  /-- PD_MESSAGE_RECEIVED (R124): A valid PD message is received, acknowledged with GoodCRC and passed to the sequencer. -/
  | pdMessageReceived (p : PortId) (pin : Pin) (m : PdFrame)
  /-- GOODCRC_RECEIVED (R125): A GoodCRC arrives that acknowledges the pending transmission. -/
  | goodcrcReceived (p : PortId) (sopx : Sopx) (id : BitVec 3)
  /-- FRAME_CRC_ERROR (R120): A frame with a CRC, decoding or length error is discarded without GoodCRC. -/
  | frameCrcError (p : PortId)
  /-- TRECEIVE_EXPIRY (R126): tReceive expires without GoodCRC and the message is retransmitted or completes with retries exhausted. -/
  | treceiveExpiry (p : PortId)
  /-- CHANNEL_IDLE (R121): The CC channel becomes idle and a held transmission starts its preamble. -/
  | channelIdle (p : PortId)
  /-- PDTX_MESSAGE (R147): A producer hands a message to the protocol layer through PDTX. -/
  | pdtxMessage (p : PortId) (m : PdMsg) (prod : PdProd)
  /-- HARD_RESET_RECEIVED (R141): A Hard Reset ordered set is received and the layer clears all SOP* state. -/
  | hardResetReceived (p : PortId)
  /-- HARD_RESET_SIGNALLING_END (R219): The Hard Reset signalling ends and tPSHardReset or a trip's HOLDOFF entry follows. -/
  | hardResetSignallingEnd (p : PortId)
  /-- CABLE_RESET_RECEIVED (R143): A received Cable Reset, which the device ignores. -/
  | cableResetReceived (p : PortId)
  /-- CHUNK_TIMER_EXPIRY (R137): A chunk timer expires and assembly or chunked transmission ends. -/
  | chunkTimerExpiry (p : PortId)
  /-- AMS_START_WAIT_EXPIRY (R132): The 16 to 20 ms wait after SinkTxNG ends and the device's first AMS message starts. -/
  | amsStartWaitExpiry (p : PortId)
  /-- SINKTXOK_READ (R134): In the sink role the partner's Rp is read as SinkTxOK and a held first message starts; with `ok` false it is read as SinkTxNG. -/
  | sinktxokRead (r : RpRead)
  /-- TTYPECSENDSOURCECAP_EXPIRY (R150): tTypeCSendSourceCap expires and the capabilities are sent again. -/
  | sendSourceCapExpiry (p : PortId)
  /-- TSENDERRESPONSE_EXPIRY (R150): tSenderResponse expires without the awaited response. -/
  | senderResponseExpiry (p : PortId)
  /-- TSRCTRANSITION_EXPIRY (R166): tSrcTransition expires after Accept and the output starts to move. -/
  | srcTransitionExpiry (p : PortId)
  /-- TRANSITION_LIMIT_EXPIRY (R167): The transition limit expires before PS_RDY and Hard Reset follows. -/
  | transitionLimitExpiry (p : PortId)
  /-- TPPSTIMEOUT_EXPIRY (R169): tPPSTimeout expires in a PPS contract and Hard Reset follows. -/
  | ppsTimeoutExpiry (p : PortId)
  /-- TSOURCEEPRKEEPALIVE_EXPIRY (R174): tSourceEPRKeepAlive expires in EPR mode and Hard Reset follows. -/
  | eprKeepAliveExpiry (p : PortId)
  /-- CABLE_DISC_TIMEOUT (R150): 75 ms pass in CABLE_DISC and the cable is taken as giving no e-marker response. -/
  | cableDiscTimeout (p : PortId)
  /-- TVDMBUSY_EXPIRY (R236): tVDMBusy passes after BUSY and Discover Identity is repeated. -/
  | vdmBusyExpiry (p : PortId)
  /-- VDM_RESPONSE_TIMEOUT (R236): tVDMSenderResponse expires without a VDM response. -/
  | vdmResponseTimeout (p : PortId)
  /-- VBUS_IN_BAND (R166): The reference is at its final target and VBUS lies in the band, so STARTUP proceeds or PS_RDY is sent. -/
  | vbusInBand (p : PortId) (mv : Nat)
  /-- ALLOCATION_ROUND (R181): The budget allocator runs a round and sets targets and grants. -/
  | allocationRound
  /-- RENEGOTIATION_CAPS (R185): With the latch set and the sequencer in READY, fresh capabilities are built and sent. -/
  | renegotiationCaps (p : PortId)
  /-- BUDGET_HARD_RESET_EXPIRY (R182): The sum of commitments still exceeds LIMIT 0.9 s after a decrease, and Hard Reset is signalled on excess ports. -/
  | budgetHardResetExpiry
  /-- CONNECTOR_TEMP_READ (R186): The once-per-second connector temperature read, which may latch renegotiation. -/
  | connectorTempRead (p : PortId) (deciC : Int)
  /-- CABLE_REDISCOVERY (R187): A further Discover Identity on SOP′ is sent at its 1 s interval after a late e-marker. -/
  | cableRediscovery (p : PortId)
  /-- WAIT_SPACING_EXPIRY (R188): The Wait retry spacing expires and the same message is sent again. -/
  | waitSpacingExpiry (p : PortId)
  /-- TPSHARDRESET_EXPIRY (R219): tPSHardReset expires and step H3 stops the port and discharges VBUS. -/
  | psHardResetExpiry (p : PortId)
  /-- TSRCRECOVER_EXPIRY (R219): tSrcRecover expires at H4 and the path request of H5 follows when allowed. -/
  | srcRecoverExpiry (p : PortId)
  /-- TPSSOURCEON_EXPIRY (R198): tPSSourceOn expires without the partner's PS_RDY. -/
  | psSourceOnExpiry (p : PortId)
  /-- TPSSOURCEOFF_EXPIRY (R200): tPSSourceOff expires without the partner's PS_RDY at T3 and Hard Reset follows. -/
  | psSourceOffExpiry (p : PortId)
  /-- TPSTRANSITION_EXPIRY (R217): tPSTransition expires in SINK without PS_RDY. -/
  | psTransitionExpiry (p : PortId)
  /-- TSINKWAITCAP_EXPIRY (R217): tSinkWaitCap expires with no Source_Capabilities. -/
  | sinkWaitCapExpiry (p : PortId)
  /-- TVCONNSOURCETIMEOUT_EXPIRY (R203): tVCONNSourceTimeout expires without the partner's PS_RDY in a VCONN_Swap. -/
  | vconnSourceTimeoutExpiry (p : PortId)
  /-- FR_SWAP_WAIT_EXPIRY (R213): No FR_Swap arrives within the message wait and the donor takes an implicit sink contract. -/
  | frSwapWaitExpiry (p : PortId)
  /-- TAKEOVER_LIMIT_EXPIRY (R214): The donor take-over limit expires without back-feed, and the donor fails. -/
  | takeoverLimitExpiry (p : PortId)
  /-- HOLDUP_VBUS_LOW (R26): A donor's VBUS reaches 5.25 V during hold-up, and its eFuse opens and converter stops. -/
  | holdupVbusLow (p : PortId)
  /-- BACKFEED_CLOSE (R27): VBUS stays within 4.75 to 5.5 V for 50 µs with the eFuse off, and the back-feed switch is commanded closed. -/
  | backfeedClose (p : PortId)
  /-- RETURN_CRITERION (R215): WM5 reports BUSIN within its window for RETURN_T and the port resumes from hold-up. -/
  | returnCriterion (p : PortId)
  /-- HOLDUP_RETURN_RETRY (R216): The 10 s interval after a refused automatic return expires and PR_Swap is tried again. -/
  | holdupReturnRetry (p : PortId)
  /-- ARMED_SET_RECOMPUTE (R209): The armed donor set is recomputed after a change of eligibility, rank, MAX_DONORS or VMAX. -/
  | armedSetRecompute
  /-- GET_SINK_CAP_START (R195): The device starts its Get_Sink_Cap AMS once discovery, lookup and authentication have ended. -/
  | getSinkCapStart (p : PortId)
  /-- DISCOVER_IDENTITY_START (R236): The sequencer starts the SOP Discover Identity after the first CONTRACT_ESTABLISHED. -/
  | discoverIdentityStart (p : PortId)
  /-- FLEET_MODE_ENTRY (R242): The conditions for fleet mode hold and the sequencer starts Discover SVIDs. -/
  | fleetModeEntry (p : PortId)
  /-- FLEET_ENTER_MODE_TIMEOUT (R242): tVDMWaitModeEntry expires without an Enter Mode answer. -/
  | fleetEnterModeTimeout (p : PortId)
  /-- IDENTITY_DIGEST (R227): A Discover Identity ACK yields an identity digest and a lookup request. -/
  | identityDigest (p : PortId) (cable : Bool)
  /-- POD_LOOKUP (R233): A Pod Table lookup is served and its outcome is applied. -/
  | podLookup (p : PortId)
  /-- AUTH_RESULT (R249): An authentication result item arrives through VDMTX and the profile is applied or kept. -/
  | authResult (p : PortId)
  /-- AUTH_TIMEOUT (R248): The authentication time limit expires and outcome 6 is recorded. -/
  | authTimeout (p : PortId)
  /-- VDMTX_ITEM (R244): A service core hands a VDM or answer item through VDMTX for sending. -/
  | vdmtxItem (p : PortId)
  /-- VDM_ANSWER_TIMEOUT (R241): No service core answer to a fleet Structured VDM arrives in time, and BUSY is sent. -/
  | vdmAnswerTimeout (p : PortId)
  /-- CONTROL_UPDATE (R261): A voltage loop update computes the current demand and phase shares, and reloads tracked thresholds. -/
  | controlUpdate (p : PortId) (meas : CnvMeas)
  /-- PHASE_SHED (R257): Port current stays below a shed threshold for 1 ms and a phase is shed. -/
  | phaseShed (p : PortId)
  /-- SWARM_FIRE (R273): Slope and depth conditions hold and all working phases go High. -/
  | swarmFire (dip : SwarmDip)
  /-- SWARM_END (R275): Swarm ends on VOUT recovery or TMAX, and the loops are preset. -/
  | swarmEnd (p : PortId)
  /-- PEAK_LIMIT (R264): IMON exceeds the fast peak limit and the phase's High level ends. -/
  | peakLimit (p : PortId) (ph : Ph) (mv : Nat)
  /-- PHASE_FAILURE_DECLARED (R282): A phase flagged for 16 counted periods is declared PHASE_FAILED or SENSE_FAILED. -/
  | phaseFailureDeclared (p : PortId) (ph : Ph) (rule : FailRule)
  /-- ISOLATION_CHECK (R281): An inconsistent current sum starts the isolation check that holds each phase Off in turn. -/
  | isolationCheck (p : PortId) (m : IsoMeas)
  /-- DIVIDER_CORRECTION (R285): Shunt current stays below 50 mA for 10 ms and the divider correction is recomputed. -/
  | dividerCorrection (p : PortId) (vout : Int) (vsns : Int)
  /-- COMPENSATION_SAMPLE (R286): The once-per-millisecond path resistance sample for IR-drop compensation. -/
  | compensationSample (p : PortId) (vout : Int) (vsns : Int) (ma : Int)
  /-- TXSLEW_LIMIT_EXPIRY (R269): tXSLEW_LIMIT expires before a trim completes, and Hard Reset follows. -/
  | txslewLimitExpiry (p : PortId)
  /-- VSAFE0V_PROVEN (R295): VBUS stays at or below 0.8 V for 1 ms, and PROVING enters CLOSING or OPENING enters OFF. -/
  | vsafe0vProven (p : PortId)
  /-- GATE_RISE_COMPLETE (R298): GATE − SRC reaches 4 V without inrush limiting and the path enters ON. -/
  | gateRiseComplete (p : PortId)
  /-- GATE_RISE_TIMEOUT (R298): tGATE_RISE expires first and the port is latched with a gate-stuck fault. -/
  | gateRiseTimeout (p : PortId) (mv : Nat)
  /-- INRUSH_TIMEOUT (R297): Inrush regulation still limits TINR_MS after CLOSING began and the path trips. -/
  | inrushTimeout (p : PortId)
  /-- SOFTSTART_TIMEOUT (R299): VBUS is not within vSafe5V 250 ms after CLOSING began and the path trips. -/
  | softstartTimeout (p : PortId)
  /-- VBUS_UNEXPECTED (R303): VBUS stays above 0.8 V without falling for 650 ms with DSCH on. -/
  | vbusUnexpected (p : PortId)
  /-- PASS_FET_SHORTED (R305): VOUT tracks a falling VBUS for 20 ms during discharge, and the port is latched. -/
  | passFetShorted (p : PortId)
  /-- GOOD_SERVICE_EXPIRY (R315): The path stays ON without a trip for GOOD_S and the retry counter clears. -/
  | goodServiceExpiry (p : PortId)
  /-- BACKFEED_OPENED (R320): A cause of Table 10-7 opens the back-feed switch. -/
  | backfeedOpened (p : PortId) (cause : BfCause)
  /-- BACKFEED_RECLOSE (R321): At least 1 s after an opening in ATTACHED_SNK, the back-feed switch closes again. -/
  | backfeedReclose (p : PortId)
  /-- MONITOR_CROSSING (R343): A window monitor's input leaves its window, and it is routed to Firefly, event, capture or wake. -/
  | monitorCrossing (p : PortId) (m : Fin 32) (e : Edge) (code : BitVec 10)
  /-- MONITOR_RETURN (R344): A monitor input returns into its window, and a record may follow. -/
  | monitorReturn (p : PortId) (m : Fin 32) (r : MonReturn)
  /-- THRESHOLD_SETTLED (R331): A large threshold change settles on the standby leg or shadow DAC and takes over. -/
  | thresholdSettled (p : PortId) (m : Fin 32)
  /-- LEG_CHECK (R347): A standby leg completes its checks and the legs exchange roles, or the leg fails. -/
  | legCheck (p : PortId) (m : Fin 8) (fail : Option (LegChk × Int))
  /-- GENERAL_MONITOR_CHECK (R349): A general-class monitor's readback or tie check runs when due. -/
  | generalMonitorCheck (p : PortId) (m : Fin 32) (fail : Option (LegChk × Int))
  /-- METERING_SAMPLE (R357): A 125 µs metering sample adds energy to the accumulators and updates the I²t model. -/
  | meteringSample (p : PortId) (uv : Int) (ua : Int)
  /-- METERING_INTERVAL (R361): A metering interval ends and an interval record is produced into MTR. -/
  | meteringInterval (p : PortId)
  /-- SESSION_CONTEXT_UPDATE (R368): The 1 s interval expires while STREAM_EN is 0 and the open session's context is updated. -/
  | sessionContextUpdate (p : PortId)
  /-- SNAPSHOT (R373): The 60 s snapshot instant copies session energy and is journaled with COUNTERS. -/
  | snapshot
  /-- JOURNAL_WRITE (R372): W0 writes a pending journal entry and reads it back. -/
  | journalWrite (ok : Bool)
  /-- JOURNAL_RETRY (R374): The 10 s interval after a journal fault expires and W0 tries the write again. -/
  | journalRetry (ok : Bool)
  /-- JOURNAL_SCAN (R377): W0 scans the journal at boot, recovers sessions and sets RECOVERY_DONE. -/
  | journalScan
  /-- ADD (R452): Instruction rd = ra + rb. -/
  | add (c : Fin 4) (f : Fetch) (i : InsR)
  /-- SUB (R452): Instruction rd = ra − rb. -/
  | sub (c : Fin 4) (f : Fetch) (i : InsR)
  /-- ADC (R452): Instruction add with carry. -/
  | adc (c : Fin 4) (f : Fetch) (i : InsR)
  /-- SBC (R452): Instruction subtract with borrow. -/
  | sbc (c : Fin 4) (f : Fetch) (i : InsR)
  /-- AND (R452): Instruction bitwise AND. -/
  | and (c : Fin 4) (f : Fetch) (i : InsR)
  /-- OR (R452): Instruction bitwise OR. -/
  | or (c : Fin 4) (f : Fetch) (i : InsR)
  /-- XOR (R452): Instruction bitwise exclusive OR. -/
  | xor (c : Fin 4) (f : Fetch) (i : InsR)
  /-- ANDN (R452): Instruction ra AND NOT rb. -/
  | andn (c : Fin 4) (f : Fetch) (i : InsR)
  /-- SLL (R452): Instruction shift left logical by register. -/
  | sll (c : Fin 4) (f : Fetch) (i : InsR)
  /-- SRL (R452): Instruction shift right logical by register. -/
  | srl (c : Fin 4) (f : Fetch) (i : InsR)
  /-- SRA (R452): Instruction shift right arithmetic by register. -/
  | sra (c : Fin 4) (f : Fetch) (i : InsR)
  /-- ROR (R452): Instruction rotate right by register. -/
  | ror (c : Fin 4) (f : Fetch) (i : InsR)
  /-- SLLI (R452): Instruction shift left logical by SHAMT. -/
  | slli (c : Fin 4) (f : Fetch) (i : InsR)
  /-- SRLI (R452): Instruction shift right logical by SHAMT. -/
  | srli (c : Fin 4) (f : Fetch) (i : InsR)
  /-- SRAI (R452): Instruction shift right arithmetic by SHAMT. -/
  | srai (c : Fin 4) (f : Fetch) (i : InsR)
  /-- RORI (R452): Instruction rotate right by SHAMT. -/
  | rori (c : Fin 4) (f : Fetch) (i : InsR)
  /-- MUL (R452): Instruction low 32 bits of the product. -/
  | mul (c : Fin 4) (f : Fetch) (i : InsR)
  /-- MULHU (R452): Instruction high 32 bits of the unsigned product. -/
  | mulhu (c : Fin 4) (f : Fetch) (i : InsR)
  /-- MULHS (R452): Instruction high 32 bits of the signed product. -/
  | mulhs (c : Fin 4) (f : Fetch) (i : InsR)
  /-- DIVU (R452): Instruction unsigned quotient. -/
  | divu (c : Fin 4) (f : Fetch) (i : InsR)
  /-- DIVS (R452): Instruction signed quotient. -/
  | divs (c : Fin 4) (f : Fetch) (i : InsR)
  /-- REMU (R452): Instruction unsigned remainder. -/
  | remu (c : Fin 4) (f : Fetch) (i : InsR)
  /-- REMS (R452): Instruction signed remainder. -/
  | rems (c : Fin 4) (f : Fetch) (i : InsR)
  /-- CMP (R452): Instruction compare that sets the arithmetic flags. -/
  | cmp (c : Fin 4) (f : Fetch) (i : InsR)
  /-- TST (R452): Instruction test that sets the logical flags. -/
  | tst (c : Fin 4) (f : Fetch) (i : InsR)
  /-- MIN (R452): Instruction signed minimum. -/
  | min (c : Fin 4) (f : Fetch) (i : InsR)
  /-- MAX (R452): Instruction signed maximum. -/
  | max (c : Fin 4) (f : Fetch) (i : InsR)
  /-- MINU (R452): Instruction unsigned minimum. -/
  | minu (c : Fin 4) (f : Fetch) (i : InsR)
  /-- MAXU (R452): Instruction unsigned maximum. -/
  | maxu (c : Fin 4) (f : Fetch) (i : InsR)
  /-- CLZ (R452): Instruction count leading zeros. -/
  | clz (c : Fin 4) (f : Fetch) (i : InsR)
  /-- REV (R452): Instruction byte order reverse. -/
  | rev (c : Fin 4) (f : Fetch) (i : InsR)
  /-- SEXTB (R452): Instruction sign-extend a byte. -/
  | sextb (c : Fin 4) (f : Fetch) (i : InsR)
  /-- SEXTH (R452): Instruction sign-extend a halfword. -/
  | sexth (c : Fin 4) (f : Fetch) (i : InsR)
  /-- ADDI (R452): Instruction add a sign-extended immediate. -/
  | addi (c : Fin 4) (f : Fetch) (i : InsI)
  /-- ANDI (R452): Instruction AND with a zero-extended immediate. -/
  | andi (c : Fin 4) (f : Fetch) (i : InsI)
  /-- ORI (R452): Instruction OR with a zero-extended immediate. -/
  | ori (c : Fin 4) (f : Fetch) (i : InsI)
  /-- XORI (R452): Instruction XOR with a zero-extended immediate. -/
  | xori (c : Fin 4) (f : Fetch) (i : InsI)
  /-- CMPI (R452): Instruction compare with an immediate. -/
  | cmpi (c : Fin 4) (f : Fetch) (i : InsI)
  /-- TSTI (R452): Instruction test with an immediate. -/
  | tsti (c : Fin 4) (f : Fetch) (i : InsI)
  /-- LUI (R452): Instruction load the upper immediate. -/
  | lui (c : Fin 4) (f : Fetch) (i : InsI)
  /-- ADDPC (R452): Instruction PC-relative address. -/
  | addpc (c : Fin 4) (f : Fetch) (i : InsI)
  /-- LB (R453): Instruction load signed byte. -/
  | lb (c : Fin 4) (f : Fetch) (i : InsM)
  /-- LBU (R453): Instruction load unsigned byte. -/
  | lbu (c : Fin 4) (f : Fetch) (i : InsM)
  /-- LH (R453): Instruction load signed halfword. -/
  | lh (c : Fin 4) (f : Fetch) (i : InsM)
  /-- LHU (R453): Instruction load unsigned halfword. -/
  | lhu (c : Fin 4) (f : Fetch) (i : InsM)
  /-- LW (R453): Instruction load word. -/
  | lw (c : Fin 4) (f : Fetch) (i : InsM)
  /-- SB (R453): Instruction store byte. -/
  | sb (c : Fin 4) (f : Fetch) (i : InsM)
  /-- SH (R453): Instruction store halfword. -/
  | sh (c : Fin 4) (f : Fetch) (i : InsM)
  /-- SW (R453): Instruction store word. -/
  | sw (c : Fin 4) (f : Fetch) (i : InsM)
  /-- BCC (R453): Instruction conditional branch. -/
  | bcc (c : Fin 4) (f : Fetch) (cond : BitVec 4) (off : BitVec 22)
  /-- BL (R453): Instruction branch and link. -/
  | bl (c : Fin 4) (f : Fetch) (off : BitVec 26)
  /-- JALR (R453): Instruction jump to a register and link. -/
  | jalr (c : Fin 4) (f : Fetch) (rd : Reg) (ra : Reg) (z : BitVec 18)
  /-- AMO (R453): Instruction indivisible atomic operation on a shared RAM word. -/
  | amo (c : Fin 4) (f : Fetch) (rd : Reg) (ra : Reg) (rb : Reg) (op : BitVec 2) (z : BitVec 12)
  /-- TRAP (R453): Instruction that raises TRAP. -/
  | trap (c : Fin 4) (f : Fetch) (i : InsS)
  /-- RFE (R454): Instruction return from exception. -/
  | rfe (c : Fin 4) (f : Fetch) (i : InsS)
  /-- WAIT (R454): Instruction that suspends the core until an enabled line is pending. -/
  | wait (c : Fin 4) (f : Fetch) (i : InsS)
  /-- FENCE (R454): Instruction that makes earlier code RAM stores take effect for fetch. -/
  | fence (c : Fin 4) (f : Fetch) (i : InsS)
  /-- CRR (R454): Instruction control register read. -/
  | crr (c : Fin 4) (f : Fetch) (i : InsS)
  /-- CRW (R454): Instruction control register write. -/
  | crw (c : Fin 4) (f : Fetch) (i : InsS)
  /-- BRK (R453): Instruction that raises BREAK. -/
  | brk (c : Fin 4) (f : Fetch) (i : InsS)
  /-- WAIT_RESUME (R454): An enabled interrupt line becomes pending and a core suspended by WAIT resumes. -/
  | waitResume (c : Fin 4)
  /-- INTERRUPT_TAKEN (R456): At an instruction boundary an enabled pending line is taken as an interrupt. -/
  | interruptTaken (c : Fin 4)
  /-- TCMP_MATCH (R456): The Timebase count reaches TCMP and line 17 becomes pending. -/
  | tcmpMatch (c : Fin 4)
  /-- WATCHDOG_EXPIRY (R457): The core watchdog expires and raises WATCHDOG or puts the core in FAULT. -/
  | watchdogExpiry (c : Fin 4)
  /-- CORE_AUTO_RESTART (R466): 10 ms after FAULT with AUTO_RESTART set, the core is reset and started. -/
  | coreAutoRestart (c : Fin 4)
  /-- WDKICK (R457): A write to WDKICK that restarts the watchdog. -/
  | wdkick (c : Fin 4) (v : Word)
  /-- SIG_SEND (R463): A write to SIG_SEND that raises line 16 on the named cores. -/
  | sigSend (c : Fin 4) (v : Word)
  /-- PORTMAP_APPLIED (R446): The VDM flows of a port drain and the new core assignment takes effect. -/
  | portmapApplied (p : PortId)
  /-- BIND (R459): A write of FP_BIND that binds a flow port to a flow in one role. -/
  | bind (c : Fin 4) (fp : Fin 16) (v : Word)
  /-- TAKE (R459): Flow port command that moves the oldest waiting cell into the buffer. -/
  | take (c : Fin 4) (fp : Fin 16)
  /-- RELEASE (R459): Flow port command that frees the held cell and returns its credit. -/
  | release (c : Fin 4) (fp : Fin 16)
  /-- ALLOC (R459): Flow port command that claims a new cell, waiting for credit if needed. -/
  | alloc (c : Fin 4) (fp : Fin 16)
  /-- COMMIT (R459): Flow port command that appends the held cell to the flow. -/
  | commit (c : Fin 4) (fp : Fin 16)
  /-- ABANDON (R459): Flow port command that frees the held cell without appending it. -/
  | abandon (c : Fin 4) (fp : Fin 16)
  /-- CANCEL (R459): Flow port command that ends a waiting TAKE or ALLOC. -/
  | cancel (c : Fin 4) (fp : Fin 16)
  /-- FLOW_PORT_WAIT_DONE (R459): A waiting TAKE or ALLOC completes when a cell or credit becomes available. -/
  | flowPortWaitDone (c : Fin 4) (fp : Fin 16)
  /-- PP_READ (R464): Pod port operation that reads a Pod Table slot. -/
  | ppRead (c : Fin 4)
  /-- PP_WRITE (R464): Pod port operation by W0 that writes a Pod Table slot. -/
  | ppWrite (c : Fin 4)
  /-- PP_DELETE (R464): Pod port operation by W0 that deletes a Pod Table slot. -/
  | ppDelete (c : Fin 4)
  /-- SHA256 (R465): Crypto operation that hashes CX_LEN bytes with SHA-256. -/
  | sha256 (c : Fin 4) (cont : Bool) (final : Bool)
  /-- ECDSA_VERIFY (R465): Crypto operation that verifies an ECDSA P-256 signature. -/
  | ecdsaVerify (c : Fin 4) (slot : BitVec 3)
  /-- ECDSA_SIGN (R465): Crypto operation that signs a hash with a key slot. -/
  | ecdsaSign (c : Fin 4) (slot : BitVec 3)
  /-- AES_CTR (R465): Crypto operation AES-128 in CTR mode. -/
  | aesCtr (c : Fin 4) (slot : BitVec 3)
  /-- AES_CBC_ENCRYPT (R465): Crypto operation AES-128 CBC encryption. -/
  | aesCbcEncrypt (c : Fin 4) (slot : BitVec 3)
  /-- AES_CBC_DECRYPT (R465): Crypto operation AES-128 CBC decryption. -/
  | aesCbcDecrypt (c : Fin 4) (slot : BitVec 3)
  /-- RANDOM (R465): Crypto operation that writes bytes from the true random source. -/
  | random (c : Fin 4)
  /-- CRYPTO_JOB_DONE (R465): A crypto job completes, DONE is set and the next waiting context is taken. -/
  | cryptoJobDone (err : Bool)
  /-- TWT_REGISTER_WRITE (R475): A supervisor register window write through TWT. -/
  | twtRegisterWrite (addr : BitVec 7) (bytes : List Byte)
  /-- TWT_REGISTER_READ (R474): A supervisor register window read through TWT. -/
  | twtRegisterRead (addr : BitVec 7) (bytes : List Byte) (n : Nat)
  /-- TWT_EVENT_READ (R479): A supervisor read of the TWT event window, which delivers records. -/
  | twtEventRead (addr : BitVec 7) (n : Nat)
  /-- ALERT_RESPONSE (R481): A read at the Alert Response Address, answered with the event window address. -/
  | alertResponse
  /-- IN_BAND_REQUEST (R482): TWT sends an in-band request as controller when the event window becomes non-empty. -/
  | inBandRequest
  /-- IBR_RESEND_EXPIRY (R482): The RESEND interval expires with records still undelivered and the request is sent again. -/
  | ibrResendExpiry
  /-- TWT_TIMEOUT (R471): SCL is held low for more than 35 ms and TWT abandons the transaction. -/
  | twtTimeout (addr : BitVec 7) (n : Nat)
  /-- TWC_ITEM (R483): A controller starts the next item of its TWQ flow. -/
  | twcItem (b : Fin 4) (r : TwcRes)
  /-- ARB_RETRY (R486): After an arbitration loss the item restarts once the next STOP and the bus free time have passed. -/
  | arbRetry (b : Fin 4) (r : TwcRes)
  /-- STRETCH_TIMEOUT (R485): A target stretches SCL beyond the limit and the item completes TWI_STRETCH_TIMEOUT. -/
  | stretchTimeout (b : Fin 4) (n : Nat)
  /-- BUS_RECOVERY (R488): A controller runs stuck-bus recovery and may quarantine the bus. -/
  | busRecovery (b : Fin 4) (sda : Bool) (scl : Bool) (pulses : Nat)
  /-- QUARANTINE_RETRY (R488): The RECOVER interval of a quarantined bus expires and recovery is attempted again. -/
  | quarantineRetry (b : Fin 4) (sda : Bool) (scl : Bool) (pulses : Nat)
  /-- TWC_INBAND (R490): A controller port receives an in-band write at its listen address. -/
  | twcInband (b : Fin 4) (bytes : List Byte)
  /-- CORE_READY (R504): A reloaded core reports ready during activation, or fails to in time. -/
  | coreReady (n : Fin 4) (ok : Bool)
  /-- HEALTH_WINDOW_EXPIRY (R505): The health window expires without IMG_CONFIRM and the device falls back. -/
  | healthWindowExpiry
  /-- IDLE_ENTRY (R515): Every path has been OFF for 1 s and the device enters IDLE. -/
  | idleEntry
  /-- QUIESCE_COMPLETE (R520): Quiesce ends and the commit point decides between sleep entry and a wake. -/
  | quiesceComplete
  /-- QUIESCE_TIMEOUT (R522): Quiesce overruns QUIESCE and entry is abandoned. -/
  | quiesceTimeout
  /-- DOZE_TIMER_EXPIRY (R524): Table 19-2 has held for DOZE_S and entry to DOZE is requested. -/
  | dozeTimerExpiry
  /-- HIBERNATE_TIMER_EXPIRY (R524): HIB_MIN minutes pass in DOZE and entry to HIBERNATE is requested. -/
  | hibernateTimerExpiry
  /-- WAKE_FROM_DOZE (R526): The wake latch is set in DOZE and the device returns to RUN. -/
  | wakeFromDoze
  /-- WAKE_FROM_HIBERNATE (R527): The wake latch is set in HIBERNATE, CORE_EN rises and a power-on reset follows. -/
  | wakeFromHibernate
  /-- HIBERNATE_CC_WAKE (R525): SRC.Rd is held for 10 ms on a port in PWR_WAKE_PORT and a wake is latched. -/
  | hibernateCcWake (p : PortId)
  /-- ADDRESS_MATCH_WAKE (R491): The Cricket domain matches a WAKE address on a two-wire bus and latches a wake. -/
  | addressMatchWake (addr : BitVec 8)
  /-- PERST_RISE (R525): PERST_N rises in HIBERNATE and latches a wake. -/
  | perstRise
  /-- BUSIN_RISE_WAKE (R525): BUSIN_SNS_P0 rises through 50 V and latches a wake. -/
  | businRiseWake
  /-- CALENDAR_TRIM (R530): Every 16 s the calendar adds or removes its TRIM units. -/
  | calendarTrim
  /-- CALENDAR_OSC_FAIL (R531): No calendar crystal edge for 4 ms: the calendar stops and VALID clears. -/
  | calendarOscFail
  /-- CAL_ALARM (R533): The calendar reaches the alarm seconds and the alarm fires and latches a wake. -/
  | calAlarm
  /-- TAMPER (R534): A tamper input holds its level for the debounce and makes a tamper event, or leaves its level. -/
  | tamper (x : TamperLevel)
  /-- VBAT_MEASURE (R535): The once-per-minute VBAT measurement, which may enter VBAT_LOW. -/
  | vbatMeasure (mv : Nat)
  /-- BACKUP_SUPPLY_SWITCH (R529): VDD33 crosses its thresholds and the backup domain switches between VDD33 and VBAT. -/
  | backupSupplySwitch (onVbat : Bool)
  /-- POWER_ON_RESET (R537): A supply, RST_N or HIBERNATE wake starts a power-on reset and the boot of Table 20-3. -/
  | powerOnReset (cause : Fin 8) (boot : BootIn)
  /-- CRYSTAL_START_TIMEOUT (R542): The crystal is not running 10 ms after reset release and boot continues on the ring oscillator. -/
  | crystalStartTimeout
  /-- CC_REPORT_CHANGE (R92): A CC pin's comparator report changes (for example SRC.Rd to SRC.Open or back) and the pin's tCCDebounce or tPDDebounce timer starts or restarts; with `byLevel` the report differs only because of the thresholds of a new level. -/
  | ccReportChange (p : PortId) (pin : Pin) (r : CcReport)
  /-- SOP_ORDERED_SET_RECOGNISED (R133): The receiver recognises a partner SOP ordered set and abandons the device's own first message that has not yet started its preamble. -/
  | sopOrderedSetRecognised (x : SopSeen)
  /-- FR_SWAP_SIGNAL_END (R25): The fast role swap signal ends after CC has been held low for 60 to 120 µs, and the FR_Swap message wait starts. -/
  | frSwapSignalEnd (p : PortId)
  /-- FRAME_TRANSMITTED (R126): The device's transmitted frame ends on CC (EOP and tEndDriveBMC), and the wait of tReceive for its GoodCRC starts. -/
  | frameTransmitted (p : PortId)
  /-- VCONN_PIN_SETTLED (R107): After VCONN is applied or removed, the CC pin reaches 4.75 to 5.5 V or is discharged below 0.8 V, after which Rp is presented again or PS_RDY is sent. -/
  | vconnPinSettled (p : PortId)
  /-- BFEED_ON_LEVEL_REACHED (R319): BFEED reaches its on level after the back-feed switch is commanded closed, which completes a back-feed CLOSE and enters BACKFEED_CLOSED. -/
  | bfeedOnLevelReached (p : PortId)
  /-- COMMAND_TIME_LIMIT_EXPIRY (R54): A command's own time limit expires before its effect is observed, for example port reset after 650 ms or back-feed CLOSE after 1 ms, and the command completes with its chapter's status. -/
  | commandTimeLimitExpiry (sq : Fin 16) (slot : BitVec 12)
  /-- CONFIG_SPACE_WRITE (R387): A host write to PCI Express configuration space, such as LTR Mechanism Enable, ASPM control in Link Control or the MSI-X function mask, changes device behaviour; setting LTR Mechanism Enable sends an LTR message. -/
  | configSpaceWrite (w : CfgSpace)
  /-- LINK_TRAINED (R386): The PCI Express link trains and comes up at the highest common rate, after which record delivery can resume. -/
  | linkTrained (rate : BitVec 2)
  /-- CALENDAR_OSC_RETURN (R531): Calendar crystal edges return after an oscillator failure, and the calendar counts again from the value it held, with VALID still 0. -/
  | calendarOscReturn
  /-- CAPTURE_FRAME_END (R346): A waveform capture frame in progress takes its last sample and is completed in WAVE, so a later crossing may start a new frame. -/
  | captureFrameEnd (p : PortId) (samples : List Byte)
  deriving DecidableEq, Repr

end Sys2Proof
end

