-- ==== Sys2Proof/Decode.lean ====
section
/-! DEFINITION. What words spell. The rows of spec/opcode_table.json give no bits, so no word spells a command of the block
(`decodeTableWord`). The words of the Weevil cores have an encoding of their own (16 R451, Tables 16-4 to 16-8): `weevil` reads one,
`weevilWord` writes one. -/

set_option linter.unusedVariables false

namespace Sys2Proof

/-- The command that a word spells by the bits of the opcode table: the table gives bits to no row. -/
def decodeTableWord (nbits w : Nat) : Option Instr := none

/-! ### Instruction words of the Weevil cores -/

/-- The fields of an R-format word (Table 16-4). -/
def insR (w : Word) : InsR :=
  { rd := w.extractLsb' 20 4, ra := w.extractLsb' 16 4, rb := w.extractLsb' 12 4, s := w.getLsbD 11
    sh := w.extractLsb' 6 5, z := w.extractLsb' 0 6 }

/-- The fields of an I-format word. -/
def insI (w : Word) : InsI :=
  { rd := w.extractLsb' 22 4, ra := w.extractLsb' 18 4, s := w.getLsbD 17, z := w.getLsbD 16, imm := w.extractLsb' 0 16 }

/-- The fields of an M-format word. -/
def insM (w : Word) : InsM :=
  { mode := w.extractLsb' 25 2, rt := w.extractLsb' 21 4, rb := w.extractLsb' 17 4, x := w.extractLsb' 0 17 }

/-- The fields of a SYS word (Table 16-8). -/
def insS (w : Word) : InsS := { reg := w.extractLsb' 18 4, z := w.extractLsb' 16 2, imm := w.extractLsb' 0 16 }

/-- The R-format function of FN (Table 16-5). -/
def rFun (fn : Nat) : Option (Fin 4 → Fetch → InsR → Instr) :=
  match fn with
  | 0x00 => some .add | 0x01 => some .sub | 0x02 => some .adc | 0x03 => some .sbc
  | 0x04 => some .and | 0x05 => some .or | 0x06 => some .xor | 0x07 => some .andn
  | 0x08 => some .sll | 0x09 => some .srl | 0x0A => some .sra | 0x0B => some .ror
  | 0x0C => some .slli | 0x0D => some .srli | 0x0E => some .srai | 0x0F => some .rori
  | 0x10 => some .mul | 0x11 => some .mulhu | 0x12 => some .mulhs | 0x13 => some .divu
  | 0x14 => some .divs | 0x15 => some .remu | 0x16 => some .rems | 0x17 => some .cmp
  | 0x18 => some .tst | 0x19 => some .min | 0x1A => some .max | 0x1B => some .minu
  | 0x1C => some .maxu | 0x1D => some .clz | 0x1E => some .rev | 0x1F => some .sextb
  | 0x20 => some .sexth
  | _ => none

/-- The I-format function of FN (Table 16-6). -/
def iFun (fn : Nat) : Option (Fin 4 → Fetch → InsI → Instr) :=
  match fn with
  | 0 => some .addi | 1 => some .andi | 2 => some .ori | 3 => some .xori
  | 4 => some .cmpi | 5 => some .tsti | 6 => some .lui | 7 => some .addpc
  | _ => none

/-- The M-format operation of OP (R453). -/
def mFun (op : Nat) : Option (Fin 4 → Fetch → InsM → Instr) :=
  match op with
  | 0 => some .lb | 1 => some .lbu | 2 => some .lh | 3 => some .lhu
  | 4 => some .lw | 5 => some .sb | 6 => some .sh | 7 => some .sw
  | _ => none

/-- The SYS function of SUB (Table 16-8). -/
def sFun (sub : Nat) : Option (Fin 4 → Fetch → InsS → Instr) :=
  match sub with
  | 0 => some .trap | 1 => some .rfe | 2 => some .wait | 3 => some .fence
  | 4 => some .crr | 5 => some .crw | 6 => some .brk
  | _ => none

/-- A B-format word (Table 16-8). -/
def bFun (c : Fin 4) (f : Fetch) (w : Word) : Option Instr :=
  match (w.extractLsb' 26 4).toNat with
  | 0 => some (.bcc c f (w.extractLsb' 22 4) (w.extractLsb' 0 22))
  | 1 => some (.bl c f (w.extractLsb' 0 26))
  | 2 => some (.jalr c f (w.extractLsb' 22 4) (w.extractLsb' 18 4) (w.extractLsb' 0 18))
  | 3 => some (.amo c f (w.extractLsb' 22 4) (w.extractLsb' 18 4) (w.extractLsb' 14 4) (w.extractLsb' 12 2) (w.extractLsb' 0 12))
  | 15 => (sFun (w.extractLsb' 22 4).toNat).map fun k => k c f (insS w)
  | _ => none

/-- The instruction that a word spells for core `c`, by its format [31:30] (R451); none for an undefined function code. -/
def weevil (c : Fin 4) (f : Fetch) (w : Word) : Option Instr :=
  match (w.extractLsb' 30 2).toNat with
  | 0 => (rFun (w.extractLsb' 24 6).toNat).map fun k => k c f (insR w)
  | 1 => (iFun (w.extractLsb' 26 4).toNat).map fun k => k c f (insI w)
  | 2 => (mFun (w.extractLsb' 27 3).toNat).map fun k => k c f (insM w)
  | _ => bFun c f w

/-! ### The encoder -/

/-- An R-format word. -/
def wordR (fn : BitVec 6) (i : InsR) : Word := 0#2 ++ fn ++ i.rd ++ i.ra ++ i.rb ++ BitVec.ofBool i.s ++ i.sh ++ i.z
/-- An I-format word. -/
def wordI (fn : BitVec 4) (i : InsI) : Word := 1#2 ++ fn ++ i.rd ++ i.ra ++ BitVec.ofBool i.s ++ BitVec.ofBool i.z ++ i.imm
/-- An M-format word. -/
def wordM (op : BitVec 3) (i : InsM) : Word := 2#2 ++ op ++ i.mode ++ i.rt ++ i.rb ++ i.x
/-- A SYS word. -/
def wordS (sub : BitVec 4) (i : InsS) : Word := 3#2 ++ 15#4 ++ sub ++ i.reg ++ i.z ++ i.imm

/-- The word of a Weevil instruction; the other commands have none. -/
def weevilWord : Instr → Option Word
  | .add _ _ i => some (wordR 0x00 i) | .sub _ _ i => some (wordR 0x01 i) | .adc _ _ i => some (wordR 0x02 i)
  | .sbc _ _ i => some (wordR 0x03 i) | .and _ _ i => some (wordR 0x04 i) | .or _ _ i => some (wordR 0x05 i)
  | .xor _ _ i => some (wordR 0x06 i) | .andn _ _ i => some (wordR 0x07 i) | .sll _ _ i => some (wordR 0x08 i)
  | .srl _ _ i => some (wordR 0x09 i) | .sra _ _ i => some (wordR 0x0A i) | .ror _ _ i => some (wordR 0x0B i)
  | .slli _ _ i => some (wordR 0x0C i) | .srli _ _ i => some (wordR 0x0D i) | .srai _ _ i => some (wordR 0x0E i)
  | .rori _ _ i => some (wordR 0x0F i) | .mul _ _ i => some (wordR 0x10 i) | .mulhu _ _ i => some (wordR 0x11 i)
  | .mulhs _ _ i => some (wordR 0x12 i) | .divu _ _ i => some (wordR 0x13 i) | .divs _ _ i => some (wordR 0x14 i)
  | .remu _ _ i => some (wordR 0x15 i) | .rems _ _ i => some (wordR 0x16 i) | .cmp _ _ i => some (wordR 0x17 i)
  | .tst _ _ i => some (wordR 0x18 i) | .min _ _ i => some (wordR 0x19 i) | .max _ _ i => some (wordR 0x1A i)
  | .minu _ _ i => some (wordR 0x1B i) | .maxu _ _ i => some (wordR 0x1C i) | .clz _ _ i => some (wordR 0x1D i)
  | .rev _ _ i => some (wordR 0x1E i) | .sextb _ _ i => some (wordR 0x1F i) | .sexth _ _ i => some (wordR 0x20 i)
  | .addi _ _ i => some (wordI 0 i) | .andi _ _ i => some (wordI 1 i) | .ori _ _ i => some (wordI 2 i)
  | .xori _ _ i => some (wordI 3 i) | .cmpi _ _ i => some (wordI 4 i) | .tsti _ _ i => some (wordI 5 i)
  | .lui _ _ i => some (wordI 6 i) | .addpc _ _ i => some (wordI 7 i)
  | .lb _ _ i => some (wordM 0 i) | .lbu _ _ i => some (wordM 1 i) | .lh _ _ i => some (wordM 2 i)
  | .lhu _ _ i => some (wordM 3 i) | .lw _ _ i => some (wordM 4 i) | .sb _ _ i => some (wordM 5 i)
  | .sh _ _ i => some (wordM 6 i) | .sw _ _ i => some (wordM 7 i)
  | .bcc _ _ cond off => some (3#2 ++ 0#4 ++ cond ++ off)
  | .bl _ _ off => some (3#2 ++ 1#4 ++ off)
  | .jalr _ _ rd ra z => some (3#2 ++ 2#4 ++ rd ++ ra ++ z)
  | .amo _ _ rd ra rb op z => some (3#2 ++ 3#4 ++ rd ++ ra ++ rb ++ op ++ z)
  | .trap _ _ i => some (wordS 0 i) | .rfe _ _ i => some (wordS 1 i) | .wait _ _ i => some (wordS 2 i)
  | .fence _ _ i => some (wordS 3 i) | .crr _ _ i => some (wordS 4 i) | .crw _ _ i => some (wordS 5 i)
  | .brk _ _ i => some (wordS 6 i)
  | _ => none

/-- The core and the memories' answer that a Weevil instruction carries. -/
def Instr.coreFetch : Instr → Option (Fin 4 × Fetch)
  | .add c f _ | .sub c f _ | .adc c f _ | .sbc c f _ | .and c f _ | .or c f _ | .xor c f _ | .andn c f _
  | .sll c f _ | .srl c f _ | .sra c f _ | .ror c f _ | .slli c f _ | .srli c f _ | .srai c f _ | .rori c f _
  | .mul c f _ | .mulhu c f _ | .mulhs c f _ | .divu c f _ | .divs c f _ | .remu c f _ | .rems c f _
  | .cmp c f _ | .tst c f _ | .min c f _ | .max c f _ | .minu c f _ | .maxu c f _ | .clz c f _ | .rev c f _
  | .sextb c f _ | .sexth c f _ => some (c, f)
  | .addi c f _ | .andi c f _ | .ori c f _ | .xori c f _ | .cmpi c f _ | .tsti c f _ | .lui c f _ | .addpc c f _ => some (c, f)
  | .lb c f _ | .lbu c f _ | .lh c f _ | .lhu c f _ | .lw c f _ | .sb c f _ | .sh c f _ | .sw c f _ => some (c, f)
  | .bcc c f _ _ | .bl c f _ | .jalr c f _ _ _ | .amo c f _ _ _ _ _ => some (c, f)
  | .trap c f _ | .rfe c f _ | .wait c f _ | .fence c f _ | .crr c f _ | .crw c f _ | .brk c f _ => some (c, f)
  | _ => none

end Sys2Proof
end

