-- ==== Sys2Proof/Machine/Aes.lean ====
section
/-! DEFINITION. AES-128 for the crypto engine (16 Table 16-20 names the algorithm; the published standard it refers to is
PRESUMED, notes/assumptions/7). A state of the cipher is its sixteen bytes in order, column by column. -/

set_option linter.unusedVariables false

namespace Sys2Proof

/-- Multiplication by x in the field of the cipher. -/
def xtime (b : Byte) : Byte := (b <<< 1) ^^^ (if b.getLsbD 7 then 0x1B#8 else 0#8)

/-- `n` steps of the product of `a` and `b` in the field. -/
def gmulN : Nat → Byte → Byte → Byte
  | 0, _, _ => 0
  | n + 1, a, b => (if b.getLsbD 0 then a else 0) ^^^ gmulN n (xtime a) (b >>> 1)

def gmul (a b : Byte) : Byte := gmulN 8 a b

/-- The inverse in the field, 0 for 0: the 254th power. -/
def ginv (a : Byte) : Byte :=
  let a2 := gmul a a
  let a4 := gmul a2 a2
  let a8 := gmul a4 a4
  let a16 := gmul a8 a8
  let a32 := gmul a16 a16
  let a64 := gmul a32 a32
  gmul (gmul (gmul a2 a4) (gmul a8 a16)) (gmul (gmul a32 a64) (gmul a64 a64))

/-- The substitution of a byte. -/
def subByte (a : Byte) : Byte :=
  let b := ginv a
  b ^^^ b.rotateLeft 1 ^^^ b.rotateLeft 2 ^^^ b.rotateLeft 3 ^^^ b.rotateLeft 4 ^^^ 0x63#8

/-- The inverse substitution. -/
def invSubByte (a : Byte) : Byte := ginv (a.rotateLeft 1 ^^^ a.rotateLeft 3 ^^^ a.rotateLeft 6 ^^^ 0x05#8)

def xorBytes (a b : List Byte) : List Byte := List.zipWith (· ^^^ ·) a b

/-- Bytes of a state in the order that ShiftRows, or its inverse, gives. -/
def shiftRows (s : List Byte) : List Byte := (List.range 16).map fun i => s.getD ((i + 4 * (i % 4)) % 16) 0
def invShiftRows (s : List Byte) : List Byte := (List.range 16).map fun i => s.getD ((i + 16 - 4 * (i % 4)) % 16) 0

/-- One column under the four coefficients of its first row. -/
def mixWith (k : List Byte) (s : List Byte) : List Byte :=
  (List.range 16).map fun i =>
    let c := i / 4 * 4
    (List.range 4).foldl (fun a j => a ^^^ gmul (k.getD ((j + 4 - i % 4) % 4) 0) (s.getD (c + j) 0)) 0

def mixColumns : List Byte → List Byte := mixWith [2, 3, 1, 1]
def invMixColumns : List Byte → List Byte := mixWith [14, 11, 13, 9]

/-- The round keys after this one, `n` of them. -/
def roundKeys : Nat → Byte → List Byte → List (List Byte)
  | 0, _, k => [k]
  | n + 1, rc, k =>
    let t := [subByte (k.getD 13 0) ^^^ rc, subByte (k.getD 14 0), subByte (k.getD 15 0), subByte (k.getD 12 0)]
    let w0 := xorBytes (k.take 4) t
    let w1 := xorBytes ((k.drop 4).take 4) w0
    let w2 := xorBytes ((k.drop 8).take 4) w1
    let w3 := xorBytes (k.drop 12) w2
    k :: roundKeys n (xtime rc) (w0 ++ w1 ++ w2 ++ w3)

/-- One block encrypted. -/
def aesEncrypt (key block : List Byte) : List Byte :=
  match roundKeys 10 1 key with
  | k0 :: ks =>
    let s := (ks.take 9).foldl (fun s k => xorBytes (mixColumns (shiftRows (s.map subByte))) k) (xorBytes block k0)
    xorBytes (shiftRows (s.map subByte)) (ks.getD 9 [])
  | [] => block

/-- One block decrypted. -/
def aesDecrypt (key block : List Byte) : List Byte :=
  match (roundKeys 10 1 key).reverse with
  | k10 :: ks =>
    let s := (ks.take 9).foldl (fun s k => invMixColumns (xorBytes ((invShiftRows s).map invSubByte) k)) (xorBytes block k10)
    xorBytes ((invShiftRows s).map invSubByte) (ks.getD 9 [])
  | [] => block

/-- The blocks of a byte string, at most `n`. -/
def blocksOf : Nat → List Byte → List (List Byte)
  | 0, _ => []
  | n + 1, b => if b.isEmpty then [] else b.take 16 :: blocksOf n (b.drop 16)

/-- Counter mode: the counter block counts up, big-endian. -/
def aesCtr (key ctr : List Byte) (bs : List (List Byte)) : List Byte :=
  (bs.zipIdx.map fun x => xorBytes x.1 (aesEncrypt key (beBytes 16 ((beVal ctr + x.2) % 2 ^ 128)))).flatten

/-- Cipher block chaining. -/
def aesCbcEnc (key : List Byte) : List Byte → List (List Byte) → List Byte
  | _, [] => []
  | iv, b :: r => let c := aesEncrypt key (xorBytes b iv); c ++ aesCbcEnc key c r

def aesCbcDec (key : List Byte) : List Byte → List (List Byte) → List Byte
  | _, [] => []
  | iv, b :: r => xorBytes (aesDecrypt key b) iv ++ aesCbcDec key b r

end Sys2Proof
end

