-- ==== Sys2Proof/Machine/Flags.lean ====
section
/-! DEFINITION. The flags of the Weevil cores (16 R452, Table 16-3) and the results of the arithmetic, logical, shift and
divide functions (16 Tables 16-5, 16-6). -/

set_option linter.unusedVariables false

namespace Sys2Proof.Machine

/-- A result with the flags it sets: C and V where the row names them. -/
structure Alu where
  val : Word
  c : Option Bool := none
  v : Option Bool := none
  deriving DecidableEq, Repr

/-- STATUS after an instruction that sets flags: N and Z of the result, C and V where given (Table 16-3). -/
def setFlags (st : Word) (r : Alu) : Word :=
  let put (w : Word) (i : Nat) (b : Bool) : Word := w.put i i (b2n b)
  let st := put (put st 31 (r.val.bit 31)) 30 (r.val == 0)
  let st := match r.c with | some b => put st 29 b | none => st
  match r.v with | some b => put st 28 b | none => st

def flagN (st : Word) : Bool := st.bit 31
def flagZ (st : Word) : Bool := st.bit 30
def flagC (st : Word) : Bool := st.bit 29
def flagV (st : Word) : Bool := st.bit 28

/-- a + b + c with the carry out and the signed overflow. -/
def addC (a b : Word) (c : Bool) : Alu :=
  let u := a.toNat + b.toNat + b2n c
  let i := a.toInt + b.toInt + (b2n c : Int)
  { val := BitVec.ofNat 32 u, c := some (decide (2 ^ 32 ≤ u)), v := some (decide (i < -2 ^ 31 ∨ 2 ^ 31 ≤ i)) }

/-- a − b − (1 − c), with C 1 when there is no borrow. -/
def subC (a b : Word) (c : Bool) : Alu :=
  let k := 1 - b2n c
  let i := a.toInt - b.toInt - (k : Int)
  { val := a - b - BitVec.ofNat 32 k, c := some (decide (b.toNat + k ≤ a.toNat)), v := some (decide (i < -2 ^ 31 ∨ 2 ^ 31 ≤ i)) }

def logic (w : Word) : Alu := { val := w }

/-- The shifts, with C the last bit shifted out and unchanged for an amount of 0. -/
inductive Shift | sll | srl | sra | ror deriving DecidableEq, Repr

def shiftBy (k : Shift) (a : Word) (n : Nat) : Alu :=
  let r : Word := match k with
    | .sll => a <<< n | .srl => a >>> n | .sra => a.sshiftRight n | .ror => a.rotateRight n
  let out : Bool := match k with
    | .sll => a.bit (32 - n) | _ => a.bit (n - 1)
  { val := r, c := if n = 0 then none else some out }

/-- Quotient and remainder, unsigned (16 section Formats): a divisor of 0 gives 0xFFFF_FFFF and ra. -/
def divU (a b : Word) : Word := if b = 0 then BitVec.allOnes 32 else a / b
def remU (a b : Word) : Word := if b = 0 then a else a % b

/-- Quotient rounded toward zero and remainder with the sign of ra; a divisor of 0 gives −1 and ra. -/
def divS (a b : Word) : Word := if b = 0 then BitVec.allOnes 32 else BitVec.ofInt 32 (Int.tdiv a.toInt b.toInt)
def remS (a b : Word) : Word := if b = 0 then a else BitVec.ofInt 32 (Int.tmod a.toInt b.toInt)

/-- Leading zeros, 0 to 32. -/
def clzN (w : Word) : Nat → Nat
  | 0 => 0
  | n + 1 => if w.bit n then 0 else 1 + clzN w n

/-- The byte order reversed. -/
def revBytes (w : Word) : Word := BitVec.ofNat 32 (leVal (leBytes 4 w.toNat).reverse)

/-- The conditions of Bcc by COND (Table 16-8); 15 is not one. -/
def condHolds (st : Word) (k : Nat) : Bool :=
  match k with
  | 0 => true
  | 1 => flagZ st
  | 2 => !flagZ st
  | 3 => flagN st
  | 4 => !flagN st
  | 5 => flagV st
  | 6 => !flagV st
  | 7 => flagC st
  | 8 => !flagC st
  | 9 => flagC st && !flagZ st
  | 10 => !flagC st || flagZ st
  | 11 => flagN st == flagV st
  | 12 => flagN st != flagV st
  | 13 => !flagZ st && flagN st == flagV st
  | 14 => flagZ st || flagN st != flagV st
  | _ => false

end Sys2Proof.Machine
end

