-- ==== Sys2Proof/Config.lean ====
section
/-! DEFINITION. What an implementation fixes and the spec leaves open, as constants with no body: nothing can be
proved of their values, so a statement that holds here holds whatever they are (notes/assumptions/10). -/

namespace Sys2Proof.Config

/-- The device stepping of HIF_VER (13 R419 gives no value). -/
opaque stepping : BitVec 8
/-- The data object of a Revision message (06 Table 6-2 gives no contents). -/
opaque revisionObject : BitVec 32
/-- Bytes of the true random source, by draw (16 R465). -/
opaque randomByte : Nat → Byte
/-- The nonce of an ECDSA signature, by draw (16 Table 16-19). -/
opaque nonce : Nat → Nat
/-- The boot ROM of W0, by address offset (16 Table 16-1). -/
opaque bootRom : Nat → Byte
/-- The device key of key slot 0, unique to the part (16 R465, 18 R508). -/
opaque deviceKey : BitVec 256
/-- The public key, X and Y, fused in a key slot for package signatures; slot 1 may not be programmed (18 R499). -/
opaque fusedKey : Nat → Option (Nat × Nat)
/-- What the phase current loop adds to the duty of a phase, by L_PH in 0.5 µH and the share less the measured phase current in
mA (09 Table 9-2 gives its input and its output, and no law; notes/assumptions/96). -/
opaque phaseLoop : Nat → Rat → Rat
/-- A value the spec leaves undefined, by draw; each use takes the bits it needs. -/
opaque freeValue : Nat → BitVec 256

end Sys2Proof.Config
end

