-- ==== Sys2Proof/Machine/Parts.lean ====
section
/-! DEFINITION. The parts State is made of, one structure per unit of the block, each field with the spec file and
rule that names it and, as its default, its value at reset (INVENTORY.md, State, lists them all with their widths). -/

set_option linter.unusedVariables false

namespace Sys2Proof.Machine

/-- A memory as the list of its listed bytes: addresses strictly rising, and no entry that equals what an
unlisted address reads as. -/
abbrev Mem := List Host.Cell

/-- Timebase unit and sequence counter (02). -/
structure TbState where
  count : Quad := 0  -- 02 R36, 00 R8
  running : Bool := false  -- 02 R46 Table 2-5 RUNNING
  fallback : Bool := false  -- 02 R46 FALLBACK
  lostSeen : Bool := false  -- 02 R46 LOST_SEEN
  calDone : Bool := false  -- 02 R46 CAL_DONE
  calCycleUs : Byte := 0  -- 02 R46 CAL_CYCLE_US
  lossCount : Quad := 0  -- 02 R45 (Timebase count at loss)
  tbDisabled : BitVec 16 := 0  -- 02 R45 (ports left DISABLED by Table 2-3)
  era : BitVec 24 := 0  -- 02 Table 2-6 ERA, R47
  seqCount : Nat := 0  -- 02 Table 2-6 COUNT (next number of the era; 2^40 once the era's last is used)
  seqLast : Quad := 0  -- 02 R46 HIF_SEQ_LAST
  eraStored : BitVec 24 := 0  -- 02 R47 (the era kept in the settings area of flash)
  eraSaved : Bool := true  -- 02 R47, R48 (no write of the era is outstanding)
  eraAdvanced : Bool := false  -- 02 R48 (advance write of the next era succeeded)
  deriving DecidableEq, Repr

/-- A coalescing counter of one (flow, port, cause) (03 R79). -/
structure CoalCtr where
  port : Nat := 0  -- 03 R79
  cause : Nat := 0  -- 03 R79
  cnt : Nat := 0  -- 03 R79
  firstT : Quad := 0  -- 03 R79
  lastT : Quad := 0  -- 03 R79
  worst : Quad := 0  -- 03 R79
  sev : Nat := 0  -- 15 R434 (highest severity counted)
  deriving DecidableEq, Repr

/-- A held cell of the central store with its cell-index entry (03). -/
structure Cell where
  idx : Nat := 0  -- 03 Cells (cell index)
  pay : List Payload := []  -- 03 Cells, R65 (records, descriptors, message or bytes it carries; a record the consumer has read stands as gone)
  ue : Option Nat := none  -- 03 R64, R87 (word with an uncorrectable error that no read has met yet)
  ce : List Nat := []  -- 03 R64 (words with a single-bit error that no read has corrected yet)
  deriving DecidableEq, Repr

/-- One flow of Table 3-2 (03). -/
structure Flow where
  cls : Nat := 0  -- 03 R89 Table 3-8 CLASS
  resv : Nat := 0  -- 03 R66, Table 3-8 RESERVED
  cap : Nat := 0  -- 03 R66, Table 3-8 CAP
  dRes : Nat := 0  -- 03 R67 (cells drawn from the reservation)
  dPool : Nat := 0  -- 03 R67 (cells drawn from the pooled floor)
  dShared : Nat := 0  -- 03 R67, R89 STO_FLOW_STAT
  cells : List Cell := []  -- 03 (cells of the flow, oldest first)
  loose : List Nat := []  -- 03 R67, 16 R459 (indexes of cells taken by a producer or held by a consumer and not in the queue)
  room : Nat := 0  -- 03 R73 (records reserved at fetch, not yet used)
  hwm : Nat := 0  -- 03 R89 STO_FLOW_HWM
  cnt : Word := 0  -- 03 R89 STO_FLOW_CNT
  waiters : List Waiter := []  -- 03 R76, R77 (waiting producers, first to wait first)
  ooc : Option Quad := none  -- 03 R79, R80 (out of credit since)
  regain : Option Quad := none  -- 03 R80 (time at which two free record slots were regained)
  counted : Nat := 0  -- 03 R80 (occurrences counted since)
  pairs : List (Nat × Nat) := []  -- 03 R80 (pairs of port and cause counted since)
  ctrs : List CoalCtr := []  -- 03 R79
  deriving DecidableEq, Repr

/-- A flow at its reset set-up. -/
def mkFlow (cls resv cap : Nat) : Flow := { cls, resv, cap }

/-- The flows of Table 3-2 in order of flow ID (03 R70). -/
def defaultFlowList : List Flow :=
  List.replicate 16 (mkFlow 0 4 16) ++ List.replicate 16 (mkFlow 0 4 16)
    ++ List.replicate 16 (mkFlow 1 4 32) ++ List.replicate 16 (mkFlow 1 4 32)
    ++ List.replicate 16 (mkFlow 2 0 64) ++ List.replicate 16 (mkFlow 2 0 256)
    ++ [mkFlow 0 384 512, mkFlow 1 256 512, mkFlow 2 0 512, mkFlow 0 64 96, mkFlow 1 32 64, mkFlow 2 0 64,
        mkFlow 0 64 128, mkFlow 1 128 256, mkFlow 2 0 64, mkFlow 0 64 128, mkFlow 1 128 256, mkFlow 2 0 64,
        mkFlow 1 16 64, mkFlow 2 0 1024, mkFlow 1 128 256, mkFlow 1 32 128, mkFlow 1 32 128]
    ++ List.replicate 4 (mkFlow 1 8 32)

def defaultFlows : Vector Flow 117 := ⟨defaultFlowList.toArray, rfl⟩

/-- Central store (03). -/
structure StoState where
  flows : Vector Flow 117 := defaultFlows  -- 03 R70 Table 3-2
  freed : List Nat := []  -- 03 R67 (released cell indexes, taken again first)
  fresh : Nat := 0  -- 03 R67 (first cell index never used)
  retired : List Nat := []  -- 03 R88
  suspect : List (Nat × Nat) := []  -- 03 R88 (cells, with the word, with an uncorrectable error awaiting rewrite once free)
  cfg : Word := 0x00000303  -- 03 R89 STO_CFG
  c2cap : Word := 0x00002800  -- 03 R89 STO_C2_CAP
  ce : Word := 0  -- 03 R89 STO_ECC_CE
  ue : Word := 0  -- 03 R89 STO_ECC_UE
  ueLast : Word := 0  -- 03 R89 STO_UE_LAST
  cfgErr : Word := 0  -- 03 R89 STO_CFG_ERR
  scrubLate : Bool := false  -- 03 STO_STAT[30]
  scrubN : Nat := 0  -- 03 R86 (words read in the scrub pass in progress)
  scrubFrom : Quad := 0  -- 03 R86 (start of the scrub pass in progress)
  deriving DecidableEq, Repr

/-- CC front end of a port (04). -/
structure CcState where
  st : PortSt := .disabled  -- 04 R100, R116 PRT_CC_STAT.STATE
  rpOn : Bool := false  -- 04 Table 4-3 (Rp presented)
  rpLevel : BitVec 2 := 2  -- 04 R91, R92 (level in force)
  rdOn : Bool := false  -- 04 Table 4-3 ATTACHED_SNK (Rd presented)
  rep1 : CcRep := .opn  -- 04 R91, R92 (report of CC1 that its timers stand on)
  rep2 : CcRep := .opn  -- 04 R91, R92 (report of CC2 that its timers stand on)
  raw1 : CcRep := .opn  -- 04 R92 (what the comparators of CC1 report with the thresholds in force)
  raw2 : CcRep := .opn  -- 04 R92 (what the comparators of CC2 report with the thresholds in force)
  met1 : Bool := false  -- 04 R97, R101 (CC1's report has held for tCCDebounce)
  met2 : Bool := false  -- 04 R97, R101 (CC2's report has held for tCCDebounce)
  win : Option WinOccasion := none  -- 04 R97 (window in progress and its occasion)
  smp1 : List (Option Nat) := []  -- 04 R93, R95 (CC1 samples of the window in ohms, none above 250 k)
  smp2 : List (Option Nat) := []  -- 04 R93, R95 (CC2 samples)
  cls1 : CcClass := .notYet  -- 04 R116 CLASS_CC1
  cls2 : CcClass := .notYet  -- 04 R116 CLASS_CC2
  med1 : BitVec 16 := 0xFFFF  -- 04 R99 PRT_CC_PROBE
  med2 : BitVec 16 := 0xFFFF  -- 04 R99 PRT_CC_PROBE
  verdict : Option Verdict := none  -- 04 R96 (verdict of the last window of this attach)
  vHeld : Bool := false  -- 04 R112, R113 (the verdict has held for tCCDebounce)
  counted : Bool := false  -- 04 R112 (the present verdict has entered its HOLDOFF_REATTACH)
  active : Option Pin := none  -- 04 R105 (active pin)
  svcPin : Option Pin := none  -- 04 R109 (service channel pin)
  orient : Bool := false  -- 04 R116 ORIENT
  clean : Nat := 0  -- 04 R103 (consecutive clean windows)
  occ2Done : Option Pin := none  -- 04 R98 (SRC.Ra pin of a powered cable, until it shows SRC.Open)
  broken : Bool := false  -- 04 R112 (a report has changed since the start of the window for the partner present at entry)
  inst : BitVec 16 := 0  -- 04 R102 PRT_ATTACH_CNT
  reattach : Byte := 0  -- 04 R112, R116 REATTACH
  atEntry : Bool := false  -- 04 R112 (the partner present at entry to HOLDOFF or FAULT_LATCHED is still there)
  cfgErr : Bool := false  -- 04 R116 CFG_ERR
  cfg : Word := 0x0F960406  -- 04 R116 PRT_CC_CFG
  vcfg : Word := 0x00000C01  -- 04 R116 PRT_VCONN_CFG
  vconnOn : Bool := false  -- 04 R116 VCONN_ON
  vconnBusy : Bool := false  -- 04 R107, Table 2-7 (pin not yet settled after a switch of VCONN)
  vconnPin : Option Pin := none  -- 04 R105, R107 (pin that VCONN was last applied to)
  vin : Bool := true  -- 04 R106 (VCONNIN within 4.75 to 5.5 V as last reported)
  vconnIlim : Byte := 12  -- 04 R107 (ILIM taken at the last application)
  vconnFault : Bool := false  -- 04 R107 (VCONN off for the rest of the attach instance)
  detaching : Bool := false  -- 04 Table 4-6 (steps 2 to 8 in progress)
  detachFrom : PortSt := .disabled  -- 04 R110 (port state before)
  deriving DecidableEq, Repr

/-- Message IDs of one SOP* (05). -/
structure PdLane where
  txId : BitVec 3 := 0  -- 05 R127 MessageIDCounter
  rxId : Option (BitVec 3) := none  -- 05 R124 (stored MessageID)
  deriving DecidableEq, Repr

/-- A transmission of the protocol layer (05). -/
structure PdTx where
  msg : PdMsg := {}  -- 05 R145, R146 (message, its SOP*, attach instance)
  prod : PdProd := .seq  -- 05 R147 (producer)
  ph : TxPhase := .held  -- 05 R121, R126, R132, R134 (held, on the wire, awaiting GoodCRC)
  tries : Nat := 0  -- 05 R146 TRIES
  cur : Nat := 0  -- 05 R126, R138 (transmissions of the present chunk)
  first : Bool := false  -- 05 R132 (first message of an AMS of the device)
  chunk : Nat := 0  -- 05 R138 (chunk being sent)
  deriving DecidableEq, Repr

/-- Assembly buffer (05 R137). -/
structure PdAsm where
  sopx : Sopx := .sop  -- 05 R137
  want : Nat := 0  -- 05 R137 (chunk number requested)
  size : Nat := 0  -- 05 R137 (Data Size)
  header : BitVec 16 := 0  -- 05 R137
  bytes : List Byte := []  -- 05 R137 (264-byte buffer)
  deriving DecidableEq, Repr

/-- PD protocol layer of a port (05). -/
structure PdState where
  cfg : Word := 0x00000003  -- 05 R148 PRT_PD_CFG
  cfgNow : Word := 0x00000003  -- 05 R148 (value in force since the last UNATTACHED)
  revSop : BitVec 2 := 0  -- 05 R129 REV_SOP
  revCable : BitVec 2 := 0  -- 05 R130 REV_CABLE
  caActive : Bool := false  -- 05 R131, R134 CA_ACTIVE
  rpNg : Bool := false  -- 05 R131 RP_NG
  sop : PdLane := {}  -- 05 R124
  sopp : PdLane := {}  -- 05 R124
  soppp : PdLane := {}  -- 05 R124
  tx : Option PdTx := none  -- 05 R126 (transmission in progress or held)
  asm : Option PdAsm := none  -- 05 R137 ASSEMBLING
  ams : Ams := .idle  -- 05 R131 (whose atomic message sequence is in progress)
  hrLand : Nat := 0  -- 15 Table 15-4 HARD_RESET (state, SWAP_KIND and SWAP_STEP at the landing)
  hrPend : Bool := false  -- 05 R140, R142 (Hard Reset requested, preamble not started)
  soppp2 : Bool := false  -- 05 Table 5-2 (the cable declared a SOP'' controller)
  bistTest : Bool := false  -- 05 R144 (BIST Test Data mode)
  stopped : Bool := false  -- 05 R117 (layer stopped by a detach)
  crcErr : Byte := 0  -- 05 R148 CRC_ERR
  txFail : Byte := 0  -- 05 R148 TX_FAIL
  txAbandon : Byte := 0  -- 05 R148 TX_ABANDON
  dupRx : Byte := 0  -- 05 R148 DUP_RX
  deriving DecidableEq, Repr

/-- The explicit contract in force (06). -/
structure Contract where
  pos : Nat := 0  -- 06 R190 OBJ_POS
  kind : CtrKind := .fixed  -- 06 R190 KIND
  mv : Nat := 0  -- 06 R190 PRT_POL_CONTRACT (mV)
  opMa : Nat := 0  -- 06 R171 (operating current, mA)
  maxMa : Nat := 0  -- 06 R171, R190 (maximum operating current, mA)
  eprCap : Bool := false  -- 06 R172 (RDO carried EPR Mode Capable)
  epr : Bool := false  -- 06 R170 (made in EPR mode)
  deriving DecidableEq, Repr

/-- Policy sequencer of a port (06). -/
structure PolState where
  seq : SeqSt := .off  -- 06 R149, R190 SEQ_STATE
  cfg : Word := 0x030A17FF  -- 06 R190 PRT_POL_CFG
  lim : Word := 0x000064F0  -- 06 R190 PRT_POL_LIM
  cfgNow : Word := 0x030A17FF  -- 06 R190 (PRT_POL_CFG of the capabilities last built)
  limNow : Word := 0x000064F0  -- 06 R190 (PRT_POL_LIM of the capabilities last built)
  xslew : Word := 0x03200190  -- 06 R190 PRT_POL_XSLEW
  cnt : Word := 0  -- 06 R190 PRT_POL_CNT (four saturating counts)
  cfgErr : Bool := false  -- 06 R190 CFG_ERR
  capsCtr : Nat := 0  -- 06 R151 CapsCounter
  hrCtr : Nat := 0  -- 06 R151 HardResetCounter, HR_COUNT
  rejects : Nat := 0  -- 06 Table 6-2 (consecutive Rejects)
  contract : Option Contract := none  -- 06 R190 EXPLICIT
  pendCtr : Option Contract := none  -- 06 R166 (contract being entered in TRANSITION)
  firstDone : Bool := false  -- 06 R170 (an explicit contract since the last entry to STARTUP)
  eprMode : Bool := false  -- 06 R190 EPR_MODE
  eprStep : Nat := 0  -- 06 R172 (step of the EPR entry)
  reneg : Bool := false  -- 06 R184 RENEG_PENDING
  renegCmd : Bool := false  -- 06 R163, R185 (the capabilities in transmission cleared the latch)
  cableSeen : Bool := false  -- 06 R190 CABLE_EMARKED
  cable : Option CableRec := none  -- 06 Table 6-2 (cable record)
  cableReq : Nat := 0  -- 06 Table 6-2 (Discover Identity requests made)
  cableBusy : Bool := false  -- 06 R187, 07 R204 (Discover Identity on SOP' in progress outside CABLE_DISC)
  cableAsk : Bool := false  -- 07 R204, 14 R431 (one Discover Identity on SOP' due in READY)
  cableLate : Nat := 0  -- 06 R187 (further requests made)
  ackedCaps : List Pdo := []  -- 06 R162 (last capabilities acknowledged, by object position)
  sentCaps : List Pdo := []  -- 06 R156 (capabilities in transmission)
  ackedFirst : Nat := 0  -- 06 R162 (first fixed PDO of the capabilities last acknowledged, as offered)
  sentFirst : Nat := 0  -- 06 R161 (first fixed PDO of the capabilities in transmission)
  sentEpr : Bool := false  -- 06 Table 6-2 (capabilities in transmission are EPR)
  anyMsg : Bool := false  -- 06 Table 6-2 (a PD message received in this attach instance)
  capsDue : Bool := false  -- 06 R156 (capabilities to be built once the allocation round has completed)
  demanding : Bool := false  -- 06 R178 (first SEND_CAPS of the attach instance passed)
  target : Nat := 0  -- 06 R179, R190 TARGET
  grant : Nat := 0  -- 06 R180, R190 GRANT
  commit : Nat := 0  -- 06 R171, R190 COMMIT
  commitOld : Nat := 0  -- 06 R171 (old value during a transition)
  tempDeciC : Option Int := none  -- 06 R186 (connector temperature last read, 0.1 degC)
  iLimTemp : Nat := 0  -- 06 R186 (I_lim of the capabilities last built, mA)
  tempReneg : Option Quad := none  -- 06 R186 (time of the last temperature renegotiation)
  waitLeft : Nat := 0  -- 06 R188 (further attempts left)
  waitMsg : Option WaitKind := none  -- 06 R188 (message to send again)
  ilim : Nat := 0  -- 06 R168 (current loop limit, mA)
  deriving DecidableEq, Repr

/-- Role swaps of a port (07). -/
structure SwapState where
  cfg : Word := 0x3C0A0031  -- 07 R223 PRT_SWAP_CFG
  cnt : Word := 0  -- 07 R223 PRT_SWAP_CNT (four saturating counts)
  cfgErr : Bool := false  -- 07 R223 CFG_ERR
  elig : Bool := false  -- 07 R208 DONOR_ELIG
  armed : Bool := false  -- 07 R209 DONOR_ARMED
  snkValid : Bool := false  -- 07 R195 SNKCAP_VALID
  snkAsked : Bool := false  -- 07 R195 (Get_Sink_Cap made in this attach instance)
  drp : Bool := false  -- 07 R223 PARTNER_DRP
  frs : BitVec 2 := 0  -- 07 R223 PARTNER_FRS
  vconnSrc : Bool := false  -- 07 R223 VCONN_SRC
  kind : SwapKind := .idle  -- 07 R223 SWAP_KIND
  step : Nat := 0  -- 07 R223 SWAP_STEP
  vcGive : Bool := false  -- 07 Table 7-4 (direction of the VCONN_Swap: the device gives VCONN)
  byDev : Bool := false  -- 07 R198, R205 (the device requested the swap)
  accepted : Bool := false  -- 07 Table 7-5 F5 (Accept acknowledged)
  withdrawn : Bool := false  -- 07 R205-R207 (own request withdrawn, to be re-evaluated)
  snkContract : Bool := false  -- 07 Table 7-7 (sink contract in force)
  snkRdo : Word := 0  -- 07 Table 7-7, 06 R188 (Request last sent as sink, kept for its repeat)
  snkAsk : Bool := false  -- 07 Table 7-7 (a Request of the sink awaits its answer)
  late : Bool := false  -- 07 R206 (a withdrawn request that was acknowledged may still be answered)
  frStep : Nat := 0  -- 07 R214 (step that the fast role swap has reached)
  cfgNow : Word := 0x3C0A0031  -- 07 R223 (PRT_SWAP_CFG taken at the start of the swap)
  snkSoft : Bool := false  -- 07 R217, R218 (Soft_Reset sent in place of Hard Reset)
  returning : Bool := false  -- 07 R215, R216 (automatic return in progress)
  hrStep : Nat := 0  -- 07 Table 7-8 (step of the Hard Reset sequence, 0 none)
  hrHold : Bool := false  -- 07 R23, R214 (H4 waits for the return criterion)
  returnMet : Bool := false  -- 07 R215 (return criterion holds)
  dbgHold : Bool := false  -- 07 R215 (DEBUG_ACC path held under R23)
  deriving DecidableEq, Repr

/-- Cabinet hold-up registers (07). -/
structure HoldupState where
  cfg : Word := 0x00053002  -- 07 R223 GLB_HOLDUP_CFG
  active : Bool := false  -- 07 R223 ACTIVE
  since : Quad := 0  -- 15 Table 15-4 HOLDUP_END (time at which ACTIVE was set)
  cfgErr : Bool := false  -- 07 R223 CFG_ERR
  deriving DecidableEq, Repr

/-- Budget allocator (06). -/
structure BudState where
  cfg : Word := 0x000F0F00  -- 06 R191 GLB_BUDGET_CFG
  err : Word := 0  -- 06 R191 GLB_BUDGET_ERR
  ran : Bool := false  -- 06 R181 (a round has run)
  lowered : Bool := false  -- 06 R182 (a decrease of LIMIT is within its 1.0 s)
  deriving DecidableEq, Repr

/-- A Pod Table entry (08 Table 8-2). -/
structure PodEntry where
  bytes : List Byte := List.replicate 64 0  -- 08 R230 Table 8-2
  deriving DecidableEq, Repr

/-- Pod Table, VDM and authentication state of a port (08). -/
structure PodPort where
  src : BitVec 2 := 0  -- 08 R253 SRC
  slot : BitVec 12 := 0  -- 08 R253 SLOT
  copy : Option PodEntry := none  -- 08 R224 (entry copy in force)
  pendCopy : Option PodEntry := none  -- 08 R238 (entry copy pending authentication)
  startNow : Word := 0x003C3C0F  -- 08 R224 (POD_START taken at ATTACH_WAIT)
  stale : Bool := false  -- 08 R253 STALE
  fleet : Bool := false  -- 08 R253 FLEET
  auth : BitVec 4 := 0  -- 08 R253 AUTH
  authPassed : Bool := false  -- 08 R238 (passed in this attach instance)
  oldJob : Bool := false  -- 01 R21, 08 R249 (a job that a hard reset discarded may still return its result)
  ackSop : Option (List Byte) := none  -- 08 R227 (VDOs of a SOP ACK that the digest unit has not taken yet)
  ackCable : Option (List Byte) := none  -- 08 R227, R232 (VDOs of a SOP' ACK of CABLE_DISC)
  cableDig : Quad := 0  -- 08 R227, R232 (SOP' digest being looked up)
  idValid : Bool := false  -- 08 R253 ID_VALID
  digest : Quad := 0  -- 08 R227, R253 PRT_POD_DIG
  cableHit : Bool := false  -- 08 R253 CABLE_HIT
  cableEntry : Option PodEntry := none  -- 08 R232 (cable entry in force)
  discTries : Nat := 0  -- 08 R228, R236 (Discover Identity requests made)
  discBusy : Nat := 0  -- 08 R228 (BUSY answers)
  discOn : Bool := false  -- 08 R236 (SOP Discover Identity in progress)
  discDone : Bool := false  -- 08 R236, R195 (discovery and lookup ended)
  lookPend : Option LookupReq := none  -- 08 R232, R233 (lookup outstanding)
  lookAt : Nat := 0  -- 08 R233 (place of the outstanding lookup in the order of requests)
  authEntry : Option PodEntry := none  -- 08 R249, R250 (entry of the last authentication job)
  fleetTried : Bool := false  -- 08 R242
  fleetCmd : Nat := 0  -- 08 R242 (fleet entry command reached)
  fleetVdo : Word := 0  -- 08 R242 (mode VDO chosen)
  fleetPos : BitVec 3 := 0  -- 08 R242 (mode object position)
  vdmAwait : Bool := false  -- 08 R241 (fleet Structured VDM awaiting a core's answer)
  vdmAsk : Word := 0  -- 08 R241 (VDM header of the command awaiting a core's answer)
  discards : Nat := 0  -- 03 R72 (VDM discard counter)
  deriving DecidableEq, Repr

/-- Pod Table block (08). -/
structure PodState where
  asked : Nat := 0  -- 08 R233 (lookups requested)
  opSince : Bool := false  -- 08 R233 (an operation other than a lookup has been served since the last lookup)
  slots : List (Nat × PodEntry) := []  -- 08 R229, R230 (non-empty slots, rising; an absent slot is empty)
  cfg : Word := 0x00000015  -- 08 R252 POD_CFG
  ver : Word := 0x00000201  -- 08 R252 POD_VER
  start : Word := 0x003C3C0F  -- 08 R252 POD_START
  fleet : Word := 0  -- 08 R252 POD_FLEET
  fmatch : Word := 0  -- 08 R252 POD_FLEET_MATCH
  fmask : Word := 0  -- 08 R252 POD_FLEET_MASK
  bad : Byte := 0  -- 08 R252 BAD_ENTRIES
  updBusy : Bool := false  -- 08 R252 UPD_BUSY
  cfgErr : Bool := false  -- 08 R252 CFG_ERR
  slotSel : Word := 0  -- 08 R252 POD_SLOT
  result : Word := 0x00010000  -- 08 R252 POD_RESULT
  data : Vector Word 16 := Vector.replicate 16 0  -- 08 R252 POD_DATA0-15
  deriving DecidableEq, Repr

/-- One phase of a port converter (09). -/
structure PhaseSt where
  active : Bool := false  -- 09 R292 ACTIVE (in the active set of the present port period)
  next : Bool := false  -- 09 R255 (in the active set from the start of the next port period)
  deg : Nat := 0  -- 09 R255 (offset of its period from the port's, in degrees)
  duty : Rat := 0  -- 09 R256 (High part of its period)
  peaked : Bool := false  -- 09 R264 (High level ended by the peak limit in this period)
  offNow : Bool := false  -- 09 R258 (Off for the rest of this period: 0 A or the valley limit)
  failed : Bool := false  -- 09 R292 FAILED
  sense : Bool := false  -- 09 R292 SENSE
  shed : Bool := false  -- 09 R257
  pwm : PwmLevel := .off  -- 09 R254 Table 9-1
  held : Bool := false  -- 09 R281 (held Off by the isolation check)
  excl : Nat := 0  -- 09 R278 (periods left in which the phase is excluded)
  ma : Int := 0  -- 09 R259 (measured phase current, mA)
  imonUv : Int := 0  -- 09 R259 (IMON input last measured, uV)
  railRun : Nat := 0  -- 09 R279 (consecutive counted periods, rail-stuck)
  devRun : Nat := 0  -- 09 R279 (deviation)
  underRun : Nat := 0  -- 09 R279 (under-share)
  offset : Bool := false  -- 09 R264, R289 (peak comparator auto-zeroed since factory trim)
  deriving DecidableEq, Repr

/-- Converter fields in force since the start of the present port period (09 R292). -/
structure CnvEff where
  cfg : Word := 0x00005DF4  -- DEM_EN, SHED_EN, SWARM_EN, IRC_EN
  ilim : Word := 0x000A183C  -- PK_LIM, SHED2, SHED1
  swarm : Word := 0x000A0F28  -- SLOPE, DEPTH, TMAX
  irc : Word := 0x00003200  -- VMAX_COMP
  deriving DecidableEq, Repr

/-- Converter of a port (09). -/
structure CnvState where
  cfg : Word := 0x00005DF4  -- 09 R292 PRT_CNV_CFG
  slew : Word := 0x00003232  -- 09 R292 PRT_CNV_SLEW
  vloop0 : Word := 0x17000800  -- 09 R292 PRT_CNV_VLOOP0
  vloop1 : Word := 0x001E0000  -- 09 R292 PRT_CNV_VLOOP1
  ilim : Word := 0x000A183C  -- 09 R292 PRT_CNV_ILIM
  swarm : Word := 0x000A0F28  -- 09 R292 PRT_CNV_SWARM
  irc : Word := 0x00003200  -- 09 R292 PRT_CNV_IRC
  imcalA : Word := 0x03E80320  -- 09 R292 PRT_CNV_IMCAL_A
  imcalB : Word := 0x03E80320  -- 09 R292 PRT_CNV_IMCAL_B
  imcalC : Word := 0x03E80320  -- 09 R292 PRT_CNV_IMCAL_C
  now : CnvLatched := {}  -- 09 R292 (FSW_KHZ, RWL fields and IMCAL taken at the last converter start)
  cnt : Word := 0  -- 09 R292 PRT_CNV_CNT (four saturating counts)
  cfgErr : Bool := false  -- 09 R292 CFG_ERR
  dlySteps : Nat := 0  -- 02 R40 (raw delay elements that make one 150 ps step)
  a : PhaseSt := {}  -- 09 R254
  b : PhaseSt := {}  -- 09 R254
  c : PhaseSt := {}  -- 09 R254
  run : Bool := false  -- 09 R292 RUN
  slewing : Bool := false  -- 09 R292 SLEWING
  setMv : Nat := 0  -- 09 R266, R292 PRT_CNV_TGT (set-point)
  refMv : Rat := 0  -- 09 PRT_CNV_TGT (reference, mV)
  rate : Nat := 0  -- 09 Table 9-3 (slew rate in force, 0.1 V/ms)
  src : SetSrc := .stopped  -- 09 Table 9-3 (source of the set-point in force)
  acc : Rat := 0  -- 09 R261 (accumulator, mA)
  ePrev : Int := 0  -- 09 R261 (previous error, mV)
  clamped : Bool := false  -- 09 R261
  share : Rat := 0  -- 09 R261 (share per active phase, mA)
  ilSeq : Nat := 0  -- 09 R262 (loop limit set by the sequencer, mA)
  voutRaw : Int := 0  -- 09 R260 (VOUT before the divider correction)
  voutMv : Int := 0  -- 09 R260, R292 PRT_CNV_MEAS
  totMa : Int := 0  -- 09 R262, R292 PRT_CNV_MEAS
  shuntTotal : Bool := false  -- 09 R292 SHUNT_TOTAL
  swarmOn : Bool := false  -- 09 R273
  swarmHold : Nat := 0  -- 09 R274 (periods left after a Swarm)
  hist : Nat := 0  -- 09 R276 (counted periods of load history, to 256)
  falls : List Nat := []  -- 09 R276 (largest fall of each counted period of the window, mV per us)
  divCorr : Int := 0  -- 09 R285, R292 (divider correction in 0.025 %)
  rPath : Option Nat := none  -- 09 R286 (R_path, 0.01 mOhm)
  samples : List Int := []  -- 09 R286 (latest compensation samples, 0.01 mOhm)
  ircRange : Bool := false  -- 09 R292 IRC_RANGE
  compMv : Nat := 0  -- 09 R287 (compensation voltage)
  trim : Option TrimCmd := none  -- 09 R270 (set-point trim in progress)
  began : Bool := false  -- 09 R267 (the reference has exceeded VOUT since the start)
  incRun : Nat := 0  -- 09 R281 (consecutive counted periods with an inconsistent sum)
  isoPending : Bool := false  -- 09 R281 (clamp in force before the isolation check)
  pathFail : Bool := false  -- 09 R281, R283 (path named)
  eff : CnvEff := {}  -- 09 R292 (fields taken at the start of a port period)
  slot : Nat := 0  -- 09 Table 9-2 (place in the active set of the phase whose period started last)
  perSwarm : Bool := false  -- 09 R276, R278 (Swarm acted in the present port period)
  perSlew : Bool := false  -- 09 R276, R278 (the reference slewed in the present port period)
  msSwarm : Bool := false  -- 09 R286 (Swarm acted since the last compensation sample)
  isoWait : Nat := 0  -- 09 R281 (port periods until the isolation check goes on)
  isoHold : Option Ph := none  -- 09 R281 (phase that the check holds Off)
  isoOk : List Ph := []  -- 09 R281 (phases whose removal made the sum consistent)
  deriving DecidableEq, Repr

/-- Path guard of a port (10). -/
structure EfState where
  cfg : Word := 0x00320528  -- 10 R324 PRT_EF_CFG
  inrush : Word := 0x00001428  -- 10 R324 PRT_EF_INRUSH
  i2t : Word := 0x00000A78  -- 10 R324 PRT_EF_I2T
  retry : Word := 0x00001E03  -- 10 R324 PRT_EF_RETRY
  bf : Word := 0x0000033C  -- 10 R324 PRT_EF_BF
  now : EfLatched := {}  -- 10 R324 (fields in force since the last entry to PROVING)
  cfgErr : Bool := false  -- 10 R324 CFG_ERR
  path : PathSt := .off  -- 10 R293 PATH
  dsch : Bool := false  -- 10 R302 DSCH_ON
  gateOn : Bool := false  -- 10 R296 (GATE at its on level)
  bfCmd : Bool := false  -- 10 R27 (back-feed commanded closed)
  bfOn : Bool := false  -- 10 R324 BFEED_ON
  provenWait : Bool := false  -- 10 R295 VSAFE0_WAIT
  unexpSeen : Bool := false  -- 10 R303 (VBUS_UNEXPECTED entered in this path state)
  softStart : Bool := false  -- 10 R299 (soft-start in progress)
  reason : PathReq := .none  -- 10 R294 (request being served)
  retryCnt : BitVec 4 := 0  -- 10 R324 RETRY_CNT
  fdValid : Bool := false  -- 10 R324 FD_VALID
  fd : Quad := 0  -- 10 R324 PRT_EF_FD
  latch : BitVec 4 := 0  -- 10 R324 LATCH
  holdMs : Nat := 0  -- 10 R317 PRT_EF_HOLD (length of the counted hold-off)
  holdFrom : Quad := 0  -- 10 R312 (step 1 of Table 10-4)
  holdOn : Bool := false  -- 10 R312 (a counted hold-off runs)
  holdOt : Bool := false  -- 10 R324 HOLD_OT
  otIn : Option Quad := none  -- 10 R316 (WM7 within its window since)
  otFrom : Quad := 0  -- 10 R316 (time of the CONN_OT trip)
  tripping : Option TripSt := none  -- 10 Table 10-4 (trip in progress, causes acted)
  theta : Rat := 0  -- 10 R307 (I2t model, A2)
  history : Nat := 0  -- 10 R308 (samples of 125 us the model has run)
  bfWhy : Nat := 0  -- 15 Table 15-4 BACKFEED_CLOSED (what asks for the back-feed switch to close: 1 F4, 2 S6, 3 re-close, 4 command; 0 nothing)
  bfReclosed : BitVec 2 := 0  -- 10 R324 BF_RECLOSED
  cnt : Word := 0  -- 10 R324 PRT_EF_CNT (four saturating counts)
  peak : BitVec 16 := 0  -- 10 R324 PRT_EF_PEAK
  shuntMa : Int := 0  -- 10 (last shunt current, mA)
  vbusMv : Nat := 0  -- 10 R295 (last VBUS_SNS, mV)
  deriving DecidableEq, Repr

/-- One window monitor (11). -/
structure Wm where
  thr : Word := 0  -- 11 R354 WMC_THR
  cfg : Word := 0  -- 11 R354 WMC_CFG
  route : Word := 0  -- 11 R354 WMC_ROUTE
  below : Bool := false  -- 11 R334 BELOW
  above : Bool := false  -- 11 R334 ABOVE
  latLo : Bool := false  -- 11 R334 LAT_LO
  latHi : Bool := false  -- 11 R334 LAT_HI
  cnt : Byte := 0  -- 11 R334 CNT
  last : BitVec 10 := 0  -- 11 R334 LAST
  leg0 : Bool := false  -- 11 R354 LEG0_FAIL
  leg1 : Bool := false  -- 11 R354 LEG1_FAIL
  chkFail : Bool := false  -- 11 R354 CHK_FAIL
  actLeg1 : Bool := false  -- 11 R332 (leg 1 is the active leg)
  passed : Nat := 0  -- 11 R350 (legs passed since reset, bit map)
  loading : Option Word := none  -- 11 R331 (large change waiting to settle)
  recorded : Bool := false  -- 11 R344 (present crossing entered a record)
  forced : Bool := false  -- 11 R348 (forced FULL action)
  thrX : Nat := 0  -- 11 R344 (threshold code in force at the present crossing)
  zeroed : Nat := 0  -- 11 R347, R352 (legs auto-zeroed since factory trim, bit map)
  deriving DecidableEq, Repr

/-- The monitors at reset in order: WMC_THR, WMC_CFG and WMC_ROUTE of WM0 to WM31 as the fields of Tables 11-16
to 11-18 spell the values of Tables 11-1 and 11-2 (11 R327, R328). -/
def wmResetList : List Wm := [
  { thr := 0x03000100, cfg := 0x00000407, route := 0x0BBB },
  { thr := 0x01F50000, cfg := 0x00000406, route := 0x0BBB },
  { thr := 0x01F50000, cfg := 0x00000406, route := 0x0BBB },
  { thr := 0x01F50000, cfg := 0x00000406, route := 0x0BBB },
  { thr := 0x00680000, cfg := 0x00000406, route := 0x0BBB },
  { thr := 0x03FF0300, cfg := 0x00001001, route := 0x0999 },
  { thr := 0x03FF0100, cfg := 0x00000401, route := 0x0999 },
  { thr := 0x03FF0074, cfg := 0x00000405, route := 0x0999 },
  { thr := 0x03FF0000, cfg := 0x00010405, route := 0x0B13 },
  { thr := 0x00600000, cfg := 0x00030402, route := 0x0090 },
  { thr := 0x03000000, cfg := 0x00030402, route := 0x0991 },
  { thr := 0x03000000, cfg := 0x00030402, route := 0x0991 },
  { thr := 0x02800000, cfg := 0x00010402, route := 0x0991 },
  { thr := 0x03D50055, cfg := 0x00000403, route := 0x0333 },
  { thr := 0x03D50055, cfg := 0x00000403, route := 0x0333 },
  { thr := 0x03D50055, cfg := 0x00000403, route := 0x0333 },
  { thr := 0x031C0000, cfg := 0x00040402, route := 0x0111 },
  { thr := 0x031C0000, cfg := 0x00040402, route := 0x0111 },
  { thr := 0x031C0000, cfg := 0x00040402, route := 0x0111 },
  { thr := 0x02E00233, cfg := 0x00000403, route := 0x0115 },
  { thr := 0x024D01B3, cfg := 0x00000403, route := 0x0111 },
  { thr := 0x03FF0000, cfg := 0x00030406, route := 0x0193 },
  { thr := 0x03D00330, cfg := 0x00000403, route := 0x0113 },
  { thr := 0x02C00260, cfg := 0x00000403, route := 0x0111 },
  { thr := 0x03FF0000, cfg := 0x00000400, route := 0x0000 },
  { thr := 0x03FF0000, cfg := 0x00000400, route := 0x0000 },
  { thr := 0x03FF0000, cfg := 0x00000400, route := 0x0000 },
  { thr := 0x03FF0000, cfg := 0x00000400, route := 0x0000 },
  { thr := 0x03FF0000, cfg := 0x00000400, route := 0x0000 },
  { thr := 0x03FF0000, cfg := 0x00000400, route := 0x0000 },
  { thr := 0x03FF0000, cfg := 0x00000400, route := 0x0000 },
  { thr := 0x03FF0000, cfg := 0x00000400, route := 0x0000 }]

def wmReset : Vector Wm 32 := ⟨wmResetList.toArray, rfl⟩

/-- Monitors and Firefly segment of a port (11). -/
structure WmState where
  m : Vector Wm 32 := wmReset  -- 11 R327, R328 Tables 11-1, 11-2
  mode : WmMode := .normal  -- 11 R355 MODE
  ffActive : Bool := false  -- 11 R355 FF_ACTIVE
  holdupSel : Bool := false  -- 11 R355 HOLDUP_SEL
  ffFirst : BitVec 5 := 0  -- 11 R355 FF_FIRST
  cfgErr : Bool := false  -- 11 R355 CFG_ERR
  trk : Word := 0x005A0A0F  -- 11 R355 PRT_WM_TRK
  cap : Word := 0x00000124  -- 11 R355 PRT_WM_CAP
  initDone : Bool := false  -- 11 R355 INIT_DONE
  frame : Option CapFrame := none  -- 11 R346 (capture frame in progress)
  skipped : Nat := 0  -- 03 R82, 11 Table 11-10 SKIPPED
  hold5 : Bool := false  -- 07 R215 (WM5 in window, criterion running)
  deriving DecidableEq, Repr

/-- The open session of a port, or its pending close (12). -/
structure Ses where
  id : Quad := 0  -- 12 R364
  ctx : Option Nat := none  -- 12 R365 (context assigned, none while pending)
  seqOpen : Quad := 0  -- 12 Table 12-5 OPEN_SEQ
  body : List Byte := []  -- 12 R365, R368 (the session's fields kept in the port slice)
  closed : Bool := false  -- 12 R365 (closed while pending)
  port : Nat := 0  -- 12 Table 12-5 PORT
  deriving DecidableEq, Repr

/-- Metering of a port (12). -/
structure MtrState where
  cfg : Word := 0x00000A02  -- 12 R382 PRT_MTR_CFG
  now : Word := 0x00000A02  -- 12 R382 PRT_MTR_CFG (in force since the last interval began)
  vcal : Word := 0  -- 12 R382 PRT_MTR_VCAL
  ical : Word := 0  -- 12 R382 PRT_MTR_ICAL
  cfgErr : Bool := false  -- 12 R382 CFG_ERR
  nowMv : Int := 0  -- 12 R382 PRT_MTR_NOW (v)
  nowMa : Int := 0  -- 12 R382 PRT_MTR_NOW (current)
  recent : List (Int × Int) := []  -- 12 R382 (samples of the last 1 ms)
  pwr : Int := 0  -- 12 R382 PRT_MTR_PWR
  life : Nat := 0  -- 12 R359 (lifetime energy in units of 1/28.8e12 uWh)
  hold : Nat := 0  -- 12 R359, R199 (hold-up energy)
  ses : Nat := 0  -- 12 R359 (session energy)
  pre : Nat := 0  -- 12 R359 (pre-contract energy)
  charge : Nat := 0  -- 12 Table 12-5 CHARGE
  preRun : Bool := false  -- 12 R382 PRE
  sess : Option Ses := none  -- 12 R364 (open session)
  waiting : List Ses := []  -- 12 R365 (closed sessions waiting for a context)
  ivEfwd : Nat := 0  -- 12 R361 (forward energy of the interval)
  ivErev : Nat := 0  -- 12 R361 (reverse energy of the interval)
  ivN : Nat := 0  -- 12 R361 (samples of the interval)
  ivVmin : Int := 0  -- 12 Table 12-2
  ivVmax : Int := 0  -- 12 Table 12-2
  ivVsum : Int := 0  -- 12 Table 12-2 V_MEAN
  ivImin : Int := 0  -- 12 Table 12-2
  ivImax : Int := 0  -- 12 Table 12-2
  ivIsum : Int := 0  -- 12 Table 12-2 I_MEAN
  merge : Option IvRec := none  -- 03 R81 (record still waiting for a cell)
  vMax : Int := 0  -- 12 Table 12-5 V_MAX
  iMax : Int := 0  -- 12 Table 12-5 I_MAX
  tMax : Option Int := none  -- 12 Table 12-5 T_MAX (none before the first reading of the session)
  lost : Nat := 0  -- 03 Table 3-5 (lost interval or frame count)
  deriving DecidableEq, Repr

/-- Session contexts and journal (12). -/
structure SesState where
  ctxs : Vector (List Byte) 128 := Vector.replicate 128 []  -- 12 R368 Table 12-5
  nextId : Word := 1  -- 12 R364 (count of the next session)
  epoch : Word := 0  -- 12 R383 GLB_SES_EPOCH, 00 R8
  recovDone : Bool := false  -- 12 R383 RECOVERY_DONE
  jrnFault : Bool := false  -- 12 R383 JRN_FAULT
  jrnFull : Bool := false  -- 12 R383 JRN_FULL
  recovered : Byte := 0  -- 12 R383 RECOVERED
  flashOnly : List (List Byte) := []  -- 12 R378 FLASH_ONLY (closes not yet loaded)
  pend : List JrnEntry := []  -- 12 R372, 03 JRN (entries waiting to be written)
  units : List JrnUnit := []  -- 12 R371 Journal (entries held in the journal area)
  jrnCount : Quad := 1  -- 12 Table 12-6 (journal count of the next entry)
  wpos : Nat := 0  -- 12 R371 Journal (next unit to write, counted from the start of the area)
  tries : Nat := 0  -- 12 R374
  unknown : Bool := true  -- 12 R370 (the calendar has reported TIME_UNKNOWN in this boot epoch)
  fixed : Option (Quad × Quad) := none  -- 12 R370 (pair C0, T0)
  deriving DecidableEq, Repr

/-- A submission queue (13). -/
structure SqState where
  st : QSt := .absent  -- 13 Table 13-17 STATE
  base : Quad := 0  -- 13 R393 HIF_QBASE
  cfg : Word := 4  -- 13 R419 HIF_QCFG
  irq : Word := 1  -- 13 R419 HIF_QIRQ
  tail : Nat := 0  -- 13 R401 (slots up to here are submitted)
  fetch : Nat := 0  -- 13 R403 (next slot to read)
  db : BitVec 12 := 0  -- 13 R420 DBL_SQn_TAIL
  deriving DecidableEq, Repr

/-- A completion queue, or the EQ (13). -/
structure CqState where
  st : QSt := .absent  -- 13 Table 13-17 STATE
  base : Quad := 0  -- 13 R393
  cfg : Word := 4  -- 13 R419 HIF_QCFG
  irq : Word := 1  -- 13 R419 HIF_QIRQ
  irqNow : Word := 1  -- 13 R419 HIF_QIRQ in force since the last entry written
  tail : Nat := 0  -- 13 R404 (next entry written)
  head : Nat := 0  -- 13 R404 (head the host last wrote)
  phase : Bool := true  -- 13 R404 PHASE of the present pass
  db : BitVec 12 := 0  -- 13 R420 DBL_CQn_HEAD, DBL_EQ_HEAD
  unsig : Nat := 0  -- 13 R411 unsignalled count (a CQ)
  firstT : Quad := 0  -- 13 R411 time of the first unsignalled entry
  unsigSev : Vector Nat 4 := Vector.replicate 4 0  -- 13 R411 (unsignalled counts of the EQ, by severity)
  firstSev : Vector Quad 4 := Vector.replicate 4 0  -- 13 R411
  deriving DecidableEq, Repr

/-- An entry of the outstanding table (13 R403, R415). -/
structure OutDesc where
  d : Desc := {}  -- 13 R396 (the descriptor with its SQ, slot and CQ)
  data : List Byte := []  -- 14 (operand bytes fetched from host memory: a transaction's bytes, a block of entries, a package block)
  ph : DPhase := .fetched  -- 13 R407, 14 R422, R425 (fetched, waiting under DEFER, in progress, completed)
  cq : Nat := 0  -- 13 R393 (CQ of its SQ at fetch)
  orphan : Bool := false  -- 13 R418 (its CQ no longer exists)
  deferred : Bool := false  -- 13 Table 13-6 DEFERRED
  status : BitVec 16 := 0  -- 13 Table 13-6 STATUS
  result : Quad := 0  -- 13 Table 13-6 RESULT
  time : Quad := 0  -- 13 R409 TIME of the effect
  aux : Quad := 0  -- 14 R430 (value taken at the start, such as the port state before)
  deriving DecidableEq, Repr

/-- A posted stream buffer (13 R413, R414). -/
structure StreamBuf where
  d : Desc := {}  -- 13 Table 13-9
  used : Nat := 0  -- 13 R414 (bytes written)
  items : Nat := 0  -- 13 R414 (records or frames)
  firstT : Option Quad := none  -- 13 R414 (time of the first item)
  deriving DecidableEq, Repr

/-- Host interface (13). -/
structure HifState where
  subsys : Word := 0x16481F3A  -- 13 R384 Table 13-1 Subsystem Vendor ID and Subsystem ID
  ringSel : Byte := 1  -- 13 R392 RING_SEL
  ready : Bool := false  -- 13 R419 READY
  bme : Bool := false  -- 13 R419 BME
  d3hot : Bool := false  -- 13 R419 D3HOT
  l1 : Bool := false  -- 13 R419 L1
  err : Word := 0  -- 13 R419 HIF_ERR
  pmCfg : Word := 0x00001432  -- 13 R419 HIF_PM_CFG
  eqCfg : Word := 1  -- 13 R419 HIF_EQ_CFG
  eqVec : Word := 0  -- 13 R419 HIF_EQ_VEC
  eqVecNow : Word := 0  -- 13 R419 HIF_EQ_VEC in force since the last entry written
  held : List (Quad × List Byte) := []  -- 13 R388 (data for host memory that waits until memory writes may start)
  qsel : Word := 0  -- 13 R419 HIF_QSEL
  qDone : Bool := true  -- 13 R419 DONE
  qResult : BitVec 4 := 0  -- 13 R419 RESULT
  setBase : Quad := 0  -- 13 R419 HIF_QBASE as last written
  setCfg : Word := 4  -- 13 R419 HIF_QCFG as last written
  setIrq : Word := 1  -- 13 R419 HIF_QIRQ as last written
  sq : Vector SqState 16 := Vector.replicate 16 {}  -- 13 R393
  cq : Vector CqState 16 := Vector.replicate 16 {}  -- 13 R393
  eq : CqState := {}  -- 13 R393
  table : List OutDesc := []  -- 13 R403 outstanding table (fetch order)
  mtrBufs : List StreamBuf := []  -- 13 R413 (posted meter buffers, oldest first)
  wavBufs : List StreamBuf := []  -- 13 R413 (posted capture buffers)
  mtrNext : Nat := 0  -- 13 R413 (round-robin position)
  wavNext : Nat := 0  -- 13 R413 (round-robin position)
  msix : Vector MsixEntry 32 := Vector.replicate 32 {}  -- 13 R419 MSI-X table
  pba : Word := 0  -- 13 R419 PBA
  msixEn : Bool := false  -- 13 Table 13-2 MSI-X Enable
  msixFmask : Bool := false  -- 13 R412 function mask
  pmeEn : Bool := false  -- 13 R388 PME_En
  pmeSta : Bool := false  -- 13 R388 PME_Status
  ltrEn : Bool := false  -- 13 R387 LTR Mechanism Enable
  aspmL1 : Bool := false  -- 13 R387 ASPM L1 enable
  aerUnc : Word := 0  -- 13 R389, Table 13-2 AER uncorrectable status
  link : Option (BitVec 2) := none  -- 13 R386 (link rate, none while down)
  lock : Bool := false  -- 22 R572 HIF_LOCK.LOCK
  viol : Bool := false  -- 22 R572 VIOLATION
  deriving DecidableEq, Repr

/-- Fault log (15). -/
structure FlogState where
  cfg : Word := 2  -- 15 R444 GLB_FLOG_CFG
  ring : List (Nat × EvRec) := []  -- 15 R439, R440 (entries held by write count, rising)
  overwritten : BitVec 16 := 0  -- 15 R444 OVERWRITTEN
  wcnt : Word := 0  -- 15 R444 GLB_FLOG_WCNT
  deriving DecidableEq, Repr

/-- A flow port of a core (16). -/
structure FlowPort where
  bind : Word := 0  -- 16 Table 16-14 FP_BIND
  busy : Bool := false  -- 16 BUSY
  wait : Option (BitVec 3) := none  -- 16 R459 (TAKE or ALLOC still waiting)
  held : Option Cell := none  -- 16 R459 HELD (cell held with its index)
  bound : Bool := false  -- 16 BOUND
  result : BitVec 4 := 0  -- 16 RESULT
  buf : Mem := []  -- 16 R447 cell buffer
  deriving DecidableEq, Repr

/-- The initial hash value of SHA-256 (PRESUMED: the published standard that Table 16-19 names). -/
def sha256Init : Vector (BitVec 32) 8 := #v[0x6A09E667, 0xBB67AE85, 0x3C6EF372, 0xA54FF53A,
  0x510E527F, 0x9B05688C, 0x1F83D9AB, 0x5BE0CD19]

/-- A core's crypto context (16). -/
structure Crypto where
  op : Word := 0  -- 16 CX_OP
  src : Word := 0  -- 16 CX_SRC
  len : Word := 0  -- 16 CX_LEN
  dst : Word := 0  -- 16 CX_DST
  aux : Word := 0  -- 16 CX_AUX
  busy : Bool := false  -- 16 CX_STAT BUSY
  done : Bool := false  -- 16 CX_STAT DONE
  res : BitVec 2 := 0  -- 16 CX_STAT [3:2]
  job : Option CxJob := none  -- 16 R465 (job started or waiting: its context as CX_GO found it)
  hash : Vector Word 8 := sha256Init  -- 16 Table 16-19 CONT (hash state of a continued job)
  hashed : Nat := 0  -- 16 CONT (bytes hashed before)
  tail : List Byte := []  -- 16 CONT (bytes of a continued job short of a block)
  deriving DecidableEq, Repr

/-- A Weevil core (16). -/
structure Core where
  g : Vector Word 16 := Vector.replicate 16 0  -- 16 Programming model (g0 reads 0)
  pc : Word := 0  -- 16 Table 16-1
  status : Word := 0  -- 16 Table 16-3 STATUS
  epc : Word := 0  -- 16 Table 16-9 EPC
  ecause : Word := 0  -- 16 ECAUSE
  eaddr : Word := 0  -- 16 EADDR
  vbase : Word := 0  -- 16 VBASE
  irqMask : Word := 0  -- 16 IRQ_MASK
  scratch : Word := 0  -- 16 SCRATCH
  rbase : Vector Word 8 := Vector.replicate 8 0  -- 16 RBASE
  rattr : Vector Word 8 := Vector.replicate 8 0  -- 16 RATTR
  st : CoreSt := .reset  -- 16 R466 WVL_STAT STATE
  haltReq : Bool := false  -- 16 WVL_CTRL HALT
  waiting : Bool := false  -- 16 R454, R466 (suspended by WAIT when it was halted)
  hold : Bool := true  -- 16 WVL_CTRL HOLD
  autoRst : Bool := true  -- 16 WVL_CTRL AUTO_RESTART
  restarts : BitVec 4 := 0  -- 16 WVL_STAT RESTARTS
  finfo : Word := 0  -- 16 WVL_FINFO
  fpc : Word := 0  -- 16 WVL_FPC
  code : Mem := []  -- 16 R447 code RAM
  fetchCode : Mem := []  -- 16 R454 (code RAM as fetch sees it)
  data : Mem := []  -- 16 R447, R449 data RAM
  tbHi : Word := 0  -- 16 Table 16-18 TB_HI latch
  tcmp : Quad := 0xFFFFFFFFFFFFFFFF  -- 16 TCMP
  sigSrc : BitVec 4 := 0  -- 16 SIG_SRC
  wdKicked : Bool := true  -- 16 R457 (no expiry since the last kick)
  ports : Vector FlowPort 16 := Vector.replicate 16 {}  -- 16 Table 16-14
  ppSlot : Word := 0  -- 16 R464 PP_SLOT
  ppRes : Word := 0x00010000  -- 16 R464 PP_RES
  ppUnread : Bool := false  -- 16 Table 16-11 line 19 (result unread)
  ppData : Vector Byte 64 := Vector.replicate 64 0  -- 16 R464
  cx : Crypto := {}  -- 16 Table 16-19
  deriving DecidableEq, Repr

/-- The cores at reset: W0 is not held and starts at the boot ROM (16 Table 16-1, Table 16-2, 20 R540). -/
def coresReset : Vector Core 4 := #v[{ pc := 0xF0000000, hold := false }, {}, {}, {}]

/-- Cores, shared RAM and crypto engine (16). -/
structure WvlState where
  cores : Vector Core 4 := coresReset  -- 16 R445
  shared : Mem := []  -- 16 R447 shared RAM
  portmap : Word := 0x79E79E79  -- 16 R468 WVL_PORTMAP (as written)
  mapNow : Word := 0x79E79E79  -- 16 R446 (assignment in force)
  wdog : Word := 0x64  -- 16 R468 WVL_WDOG
  cfgErr : Bool := false  -- 16 R468 WVL_ERR
  engine : Option (Fin 4) := none  -- 16 R465 (context whose job runs)
  rr : Nat := 0  -- 16 R465 (round-robin position)
  keys : Vector (Option (BitVec 256)) 8 := Vector.replicate 8 none  -- 16 R465 key slots, 18 R508
  deriving DecidableEq, Repr

/-- A two-wire controller (17). -/
structure Twc where
  cfg : Word := 0x00230A31  -- 17 R494 TWI_CnCFG
  ibr : Word := 0  -- 17 R494 TWI_CnIBR
  st : TwcSt := .disabled  -- 17 R494 STATE
  sdaLow : Bool := false  -- 17 R494 SDA_LOW
  sclLow : Bool := false  -- 17 R494 SCL_LOW
  cfgErr : Bool := false  -- 17 R494 CFG_ERR
  cnt : Word := 0  -- 17 R494 TWI_CnCNT (four saturating counts)
  item : Option TwItem := none  -- 17 R483 (transaction in progress)
  retryDue : Bool := false  -- 17 R486 (the item waits to start again)
  retries : Nat := 0  -- 17 R486 RETRIES used
  lossByte : Byte := 0xFF  -- 17 Table 17-4 BYTE
  lossBit : Byte := 0xFF  -- 17 Table 17-4 BIT
  lossPhase : Byte := 0xFF  -- 17 Table 17-4 PHASE
  needRecovery : Bool := true  -- 17 R488 (recovery due before the next item)
  attempts : Nat := 0  -- 17 Table 17-7 (recovery attempts of the quarantine)
  quarFrom : Quad := 0  -- 17 Table 17-7 (time of quarantine)
  deriving DecidableEq, Repr

/-- TWI_TADDR0 to TWI_TADDR3 at reset (17 R494). -/
def taddrReset : Vector (BitVec 32) 4 := #v[0x548, 0x249, 0, 0]

/-- Two-wire target and controllers (17). -/
structure TwiState where
  taddr : Vector Word 4 := taddrReset  -- 17 R494 TWI_TADDR0-3
  tver : Byte := 1  -- 17 R478 TWI_TVER.SEL
  tverNext : Option Byte := none  -- 17 R478 (change of SEL waiting for the next START)
  tbase : Word := 0x00007060  -- 17 R494 TWI_TBASE
  tcfg : Word := 1  -- 17 R494 TWI_TCFG
  tibr : Word := 0x00000A08  -- 17 R494 TWI_TIBR
  busy : Bool := false  -- 17 R494 BUSY
  alert : Bool := false  -- 17 R481, R494 ALERT
  ibrPend : Bool := false  -- 17 R482 IBR_PENDING
  ibrHeld : Nat := 0  -- 17 R482 (records held at the previous request and still undelivered)
  wrRefused : Bool := false  -- 17 R494 WR_REFUSED
  pecErr : Bool := false  -- 17 R494 PEC_ERR
  tout : Bool := false  -- 17 R494 TOUT
  cfgErr : Bool := false  -- 17 R494 CFG_ERR
  c : Vector Twc 4 := Vector.replicate 4 {}  -- 17 R483
  alertAt : Quad := 0  -- 17 R481 (records up to this number entered before the last alert response)
  deriving DecidableEq, Repr

/-- An open transfer of an update package (18 R500). -/
structure XferState where
  id : Word := 0  -- 18 Table 18-3 UPD_ID
  len : Nat := 0  -- 18 R497 PKG_LEN
  held : Mem := []  -- 18 R500 (package bytes held in the candidate slots)
  pages : List Nat := []  -- 18 R501 (pages of 4,096 package bytes held)
  tries : Nat := 0  -- 18 R500 (failed read-backs of the block)
  deriving DecidableEq, Repr

/-- A value for each of the kinds code, Pod and settings (18). -/
structure Kind3 where
  code : BitVec 2 := 0  -- 18 R496
  pod : BitVec 2 := 0  -- 18 R496
  sett : BitVec 2 := 0  -- 18 R496
  deriving DecidableEq, Repr

/-- Firmware and configuration update (18). -/
structure ImgState where
  xfer : Option XferState := none  -- 18 R500
  xferSt : BitVec 2 := 0  -- 18 R513 XFER
  trial : BitVec 2 := 0  -- 18 R513 TRIAL
  cand : Kind3 := {}  -- 18 R496 (candidate states: 0 NONE, 1 STAGED, 2 TRIAL)
  codeB : Bool := false  -- 18 R513 CODE_B
  podB : Bool := false  -- 18 R513 POD_B
  setB : Bool := false  -- 18 R513 SET_B
  prevOk : Bool := false  -- 18 R506 (the code slot that is not active holds a confirmed set)
  setFormat : Byte := 0  -- 18 R513 SET_FORMAT
  trialBoots : BitVec 2 := 0  -- 18 R513 TRIAL_BOOTS
  version : Word := 0  -- 18 R513 WVL_IMG_VER
  secFloor : BitVec 16 := 0  -- 18 R513 SEC_FLOOR
  health : Nat := 0  -- 18 R503, R513 WVL_IMG_HLTH (length of the health window in s)
  healthFrom : Quad := 0  -- 18 R503 (start of the health window)
  actKinds : BitVec 3 := 0  -- 18 R503 (kinds being activated)
  actStep : Nat := 0  -- 18 Table 18-6 (0 none, 3..1 core being reloaded, 4 W0)
  falling : Byte := 0  -- 18 R505 (reason of the fallback in progress)
  flashMib : Nat := 16  -- 18 R495 (size of the flash fitted, in MiB)
  dirGen : Word := 0  -- 18 R496 (generation of the directory in force)
  flash : Mem := []  -- 18 R495 Table 18-1 (bytes differing from the erased 0xFF)
  settings : List (Nat × List Byte) := []  -- 18 R510 (records of the settings copy in force: tag and data)
  mans : Vector (List Byte) 3 := Vector.replicate 3 []  -- 18 R497, R503 (manifest of the package each candidate came from)
  deriving DecidableEq, Repr

/-- Power states, Cricket and backup domains (19). -/
structure PwrState where
  st : PwrSt := .run  -- 19 R536 STATE
  cfg : Word := 0x00001E01  -- 19 R536 PWR_CFG
  wakeEn : Word := 0xFF  -- 19 R536 PWR_WAKE_EN
  wakePort : Word := 0xFFFF  -- 19 R536 PWR_WAKE_PORT
  entry : BitVec 2 := 0  -- 19 R536 ENTRY
  target : Byte := 0  -- 19 Table 19-3 (state being entered)
  reqBy : Byte := 0  -- 19 Table 19-8 SLEEP byte 25 (what requested entry)
  wakeLatch : Bool := false  -- 19 R520, R536 WAKE_LATCHED
  wakeSrc : Byte := 0  -- 19 Table 19-5 (wake sources latched)
  wakePortNo : Byte := 0xFF  -- 19 Table 19-5 (port of the wake)
  after : Bool := false  -- 19 Table 19-5 (after-commit flag)
  lastWake : Byte := 0  -- 19 R536 LAST_WAKE
  lastAbandon : Byte := 0  -- 19 R536 LAST_ABANDON
  slept : Word := 0  -- 19 R536 PWR_SLEPT
  sleepFrom : Quad := 0  -- 19 Table 19-5 (calendar value at E3)
  sleepTb : Quad := 0  -- 19 R526 (Timebase count at E3)
  undeliv : BitVec 16 := 0  -- 19 R523, Table 19-5 (undelivered count)
  coreEn : Bool := true  -- 19 R518 CORE_EN
  wakeOut : Bool := false  -- 19 R528 (WAKE_OUT_N driven low)
  twWake : Option (BitVec 16) := none  -- 19 R491 (TWT_WAKE waiting: address and port)
  deriving DecidableEq, Repr

/-- Backup domain (19). -/
structure BkpState where
  cal : Quad := 0  -- 19 R530 BKP_CAL
  valid : Bool := false  -- 19 R536 VALID
  lost : Bool := true  -- 19 R536 LOST
  onVbat : Bool := false  -- 19 R536 ON_VBAT
  oscFail : Bool := false  -- 19 R536 OSC_FAIL
  oscStopped : Bool := false  -- 19 R531 (calendar stopped)
  alarmFlag : Bool := false  -- 19 R536 ALARM_FLAG
  vbatLow : Bool := false  -- 19 R536 VBAT_LOW
  vbatArmed : Bool := true  -- 19 R535 (VBAT_LOW may be entered again)
  vbatMv : Nat := 0  -- 19 R535 (last VBAT measurement)
  cfgErr : Bool := false  -- 19 R536 CFG_ERR
  trim : Word := 0  -- 19 R536 BKP_TRIM
  alarmLo : Word := 0  -- 19 R536 BKP_ALARM_LO
  alarmHi : Word := 0  -- 19 R536 BKP_ALARM_HI
  frac : Nat := 0  -- 19 R530 (the part of a calendar unit counted, in 1/15,625)
  setLo : Word := 0  -- 19 R536 BKP_SET_LO
  setHi : Word := 0  -- 19 R536 BKP_SET_HI
  tampCfg : Word := 0  -- 19 R536 BKP_TAMP_CFG
  lat : BitVec 2 := 0  -- 19 R536 LAT0, LAT1
  live : BitVec 2 := 0  -- 19 R536 LIVE0, LIVE1
  tcnt0 : Byte := 0  -- 19 R536 CNT0
  tcnt1 : Byte := 0  -- 19 R536 CNT1
  ts0 : Quad := 0  -- 19 R536 BKP_TAMP_TS0
  ts1 : Quad := 0  -- 19 R536 BKP_TAMP_TS1
  gp : Vector Word 8 := Vector.replicate 8 0  -- 19 R536 BKP_GP0-7
  late : List (Nat × Quad) := []  -- 19 R534 (records waiting for the next boot: cause and data)
  deriving DecidableEq, Repr

/-- Resets and start-up (20). -/
structure RstState where
  last : BitVec 3 := 1  -- 20 R548 LAST
  rescue : Bool := false  -- 20 R548 RESCUE
  warmPend : Bool := false  -- 20 R548 WARM_PENDING
  warmBy : BitVec 2 := 0  -- 20 R544 (requester of the waiting warm reset)
  warmForce : Bool := false  -- 20 R544 FORCE
  warmCount : Byte := 0  -- 20 R548 WARM_COUNT
  autoen : Word := 0  -- 20 R548 GLB_PORT_AUTOEN
  booted : Bool := false  -- 20 Table 20-3 (B6 done)
  boot : Option BootIn := none  -- 20 R542 (boot waiting for the crystal, with what its checks find)
  byTwt : Bool := false  -- 22 R572 BY_TWT
  ntc : Word := 0x0D6B03E8  -- 11 R356 GLB_NTC_CFG
  deriving DecidableEq, Repr

/-- Latches and selectors of one interface (22 R568, R569). -/
structure Latches where
  tbHi : Word := 0  -- 02 R46 HIF_TB_NOW_HI
  seqHi : Word := 0  -- 02 R46 HIF_SEQ_LAST_HI
  calHi : Word := 0  -- 19 R536 BKP_CAL_HI
  ts0Hi : Word := 0  -- 19 R536 BKP_TAMP_TS0_HI
  ts1Hi : Word := 0  -- 19 R536 BKP_TAMP_TS1_HI
  digHi : Vector Word 16 := Vector.replicate 16 0  -- 08 R253 PRT_POD_DIG_HI
  fdHi : Vector Word 16 := Vector.replicate 16 0  -- 10 R324 PRT_EF_FD_HI
  lifeHi : Vector Word 16 := Vector.replicate 16 0  -- 12 R382 PRT_MTR_LIFE_HI
  holdHi : Vector Word 16 := Vector.replicate 16 0  -- 12 R382 PRT_MTR_HOLD_HI
  sesHi : Vector Word 16 := Vector.replicate 16 0  -- 12 R382 PRT_MTR_SES_HI
  flowSel : Word := 0  -- 03 R89, 22 R569 STO_FLOW_SEL
  sesSel : Word := 0  -- 12 R383, 22 R569 GLB_SES_SEL
  flogSel : Word := 0  -- 22 R575 GLB_FLOG_SEL
  flogEnt : Option (Nat × EvRec) := none  -- 22 R575, R576 GLB_FLOG_DATA and SHOWN
  deriving DecidableEq, Repr

end Sys2Proof.Machine
end

