-- ==== Sys2Proof/Machine/State.lean ====
section
/-! DEFINITION. The state of the block: the units of Parts.lean, what has left the block, the counter that free values
are drawn with, and the queue of waiting commands, first in first out. -/

set_option linter.unusedVariables false

namespace Sys2Proof.Machine

/-- A port P0 to P15 with its units (01 R10, chapters 04 to 12) and the timers of it that run. -/
structure Port where
  cc : CcState := {}
  pd : PdState := {}
  pol : PolState := {}
  swap : SwapState := {}
  pod : PodPort := {}
  cnv : CnvState := {}
  ef : EfState := {}
  wm : WmState := {}
  mtr : MtrState := {}
  tmr : List Tmr := []
  deriving DecidableEq, Repr

/-- Why a step stops. No command of this block stops: the spec gives each an effect, so the type has the one
constructor the interface needs. -/
inductive Fault
  /-- Raised by no command (safe: nothing is stopped that the hardware runs). -/
  | none
  deriving DecidableEq, Repr

/-- Why a command is rejected. -/
inductive Refusal
  /-- The command has no meaning yet; raised by its arm of exec alone (safe). -/
  | notModelled (mnemonic : String)
  deriving DecidableEq, Repr

/-- The state of the block. -/
structure State where
  tb : TbState := {}
  sto : StoState := {}
  ports : Vector Port 16 := Vector.replicate 16 {}
  hu : HoldupState := {}
  bud : BudState := {}
  pod : PodState := {}
  ses : SesState := {}
  hif : HifState := {}
  flog : FlogState := {}
  wvl : WvlState := {}
  twi : TwiState := {}
  img : ImgState := {}
  pwr : PwrState := {}
  bkp : BkpState := {}
  rst : RstState := {}
  latB : Latches := {}
  latT : Latches := {}
  out : List Out := []
  fresh : Nat := 0
  pending : List Instr := []
  deriving DecidableEq, Repr

/-- The block with every register at its reset value, before start-up runs (20 R538, Table 20-3): the values of
Parts.lean, each from its register table or from the log entry INVENTORY.md names. -/
def State.reset : State := {}

end Sys2Proof.Machine
end

