-- ==== Sys2Proof/Machine/Ops.lean ====
section
/-! DEFINITION. The named operations over State and over memories: reading and updating a port, starting and ending
its timers, what leaves the block, and the canonical byte memory. -/

set_option linter.unusedVariables false

namespace Sys2Proof.Machine

/-- The answer of every command of this block: its next state. -/
abbrev Res := Host.Outcome State Fault Refusal

/-! ### Ports -/

/-- Port `p`. -/
def State.port (s : State) (p : PortId) : Port := s.ports[p.val]

/-- State with port `p` replaced. -/
def State.setPort (s : State) (p : PortId) (q : Port) : State := { s with ports := s.ports.set p.val q }

/-- State with port `p` changed. -/
def State.modPort (s : State) (p : PortId) (f : Port → Port) : State := s.setPort p (f (s.port p))

def State.modCc (s : State) (p : PortId) (f : CcState → CcState) : State :=
  s.modPort p fun q => { q with cc := f q.cc }
def State.modPd (s : State) (p : PortId) (f : PdState → PdState) : State :=
  s.modPort p fun q => { q with pd := f q.pd }
def State.modPol (s : State) (p : PortId) (f : PolState → PolState) : State :=
  s.modPort p fun q => { q with pol := f q.pol }
def State.modSwap (s : State) (p : PortId) (f : SwapState → SwapState) : State :=
  s.modPort p fun q => { q with swap := f q.swap }
def State.modPod (s : State) (p : PortId) (f : PodPort → PodPort) : State :=
  s.modPort p fun q => { q with pod := f q.pod }
def State.modCnv (s : State) (p : PortId) (f : CnvState → CnvState) : State :=
  s.modPort p fun q => { q with cnv := f q.cnv }
def State.modEf (s : State) (p : PortId) (f : EfState → EfState) : State :=
  s.modPort p fun q => { q with ef := f q.ef }
def State.modWm (s : State) (p : PortId) (f : WmState → WmState) : State :=
  s.modPort p fun q => { q with wm := f q.wm }
def State.modMtr (s : State) (p : PortId) (f : MtrState → MtrState) : State :=
  s.modPort p fun q => { q with mtr := f q.mtr }

/-- Do `f` for every port in ascending order (R32). -/
def State.forPorts (s : State) (f : State → PortId → State) : State := (List.finRange 16).foldl f s

/-- The port that a descriptor or a record's port number names. -/
def portOf (n : Nat) : Option PortId := if h : n < 16 then some ⟨n, h⟩ else none

/-! ### Timers of a port -/

/-- The timer runs. -/
def State.runs (s : State) (p : PortId) (t : Tmr) : Bool := (s.port p).tmr.contains t

/-- The timer starts, or starts again. -/
def State.start (s : State) (p : PortId) (t : Tmr) : State :=
  s.modPort p fun q => { q with tmr := insertNew t q.tmr }

/-- The timer is stopped. -/
def State.stop (s : State) (p : PortId) (t : Tmr) : State :=
  s.modPort p fun q => { q with tmr := dropAll t q.tmr }

/-- All timers of a list are stopped. -/
def State.stopAll (s : State) (p : PortId) (ts : List Tmr) : State :=
  s.modPort p fun q => { q with tmr := q.tmr.filter (fun t => !ts.contains t) }

/-- On the expiry of a timer: it no longer runs, and `f` acts; with the timer not running nothing happens. -/
def State.onExpiry (s : State) (p : PortId) (t : Tmr) (f : State → State) : State :=
  if s.runs p t then f (s.stop p t) else s

/-! ### What leaves the block, time, and free values -/

/-- `o` leaves the block. -/
def State.emit (s : State) (o : Out) : State := { s with out := s.out ++ [o] }

/-- The Timebase count (02 R36). -/
def State.now (s : State) : Quad := s.tb.count

/-- Whole milliseconds from `t` to now. -/
def State.msSince (s : State) (t : Quad) : Nat := (s.now - t).toNat / 1000

/-- A free value, never drawn before, and the state that has drawn it. -/
def State.draw (s : State) : BitVec 256 × State := (Config.freeValue s.fresh, { s with fresh := s.fresh + 1 })

/-! ### Memories -/

/-- The byte at `a`, where an unlisted address reads `d`. -/
def Mem.read (d : Byte) : Mem → Nat → Byte
  | [], _ => d
  | (k, v) :: m, a => if k = a then v else if a < k then d else Mem.read d m a

/-- The memory with `v` at `a`; writing what an unlisted address reads as removes the entry. -/
def Mem.write (d : Byte) : Mem → Nat → Byte → Mem
  | [], a, v => if v = d then [] else [(a, v)]
  | (k, w) :: m, a, v =>
    if a < k then (if v = d then (k, w) :: m else (a, v) :: (k, w) :: m)
    else if k = a then (if v = d then m else (a, v) :: m)
    else (k, w) :: Mem.write d m a v

/-- The canonical form: addresses rise strictly and no entry holds what an unlisted address reads as. -/
def Mem.wf (d : Byte) : Mem → Bool
  | [] => true
  | [(_, v)] => decide (v ≠ d)
  | (k, v) :: (k', v') :: m => decide (v ≠ d) && decide (k < k') && Mem.wf d ((k', v') :: m)

/-- The `n` bytes from `a`. -/
def Mem.readN (d : Byte) (m : Mem) (a : Nat) : Nat → List Byte
  | 0 => []
  | n + 1 => m.read d a :: Mem.readN d m (a + 1) n

/-- The memory with a byte string at `a`. -/
def Mem.writeN (d : Byte) (m : Mem) (a : Nat) : List Byte → Mem
  | [] => m
  | b :: bs => Mem.writeN d (m.write d a b) (a + 1) bs

/-- The little-endian word at `a`. -/
def Mem.word (d : Byte) (m : Mem) (a : Nat) : Word := BitVec.ofNat 32 (leVal (m.readN d a 4))

end Sys2Proof.Machine
end

