-- ==== Sys2Proof/Machine/Store.lean ====
section
/-! DEFINITION. The central store: flows, where a cell is drawn from and returns to, credit, records packed in cells
(03 R64 to R78), and the numbering of records (02 R47 to R49). -/

set_option linter.unusedVariables false

namespace Sys2Proof.Machine

/-! ### Flow numbers of Table 3-2 -/

def fPdRx (p : PortId) : Nat := 0x00 + p.val
def fPdTx (p : PortId) : Nat := 0x10 + p.val
def fVdmRx (p : PortId) : Nat := 0x20 + p.val
def fVdmTx (p : PortId) : Nat := 0x30 + p.val
def fMtr (p : PortId) : Nat := 0x40 + p.val
def fWave (p : PortId) : Nat := 0x50 + p.val
def fEvh (cls : Nat) : Nat := 0x60 + cls
def fEvs (cls : Nat) : Nat := 0x63 + cls
def fCmd (cls : Nat) : Nat := 0x66 + cls
def fCpl (cls : Nat) : Nat := 0x69 + cls
def fPodUpd : Nat := 0x6C
def fImg : Nat := 0x6D
def fJrn : Nat := 0x6E
def fFls : Nat := 0x6F
def fWmsg : Nat := 0x70
def fTwq (b : Fin 4) : Nat := 0x71 + b.val

/-- Flow `f`; a number that names no flow reads as an empty flow with no cap. -/
def State.flow (s : State) (f : Nat) : Flow := s.sto.flows[f]?.getD {}

/-- State with flow `f` replaced; a number that names no flow changes nothing (R70). -/
def State.setFlow (s : State) (f : Nat) (x : Flow) : State :=
  if h : f < 117 then { s with sto := { s.sto with flows := s.sto.flows.set f x } } else s

def State.modFlow (s : State) (f : Nat) (g : Flow → Flow) : State := s.setFlow f (g (s.flow f))

/-- Cells the flow holds: queued, and taken by a producer or held by a consumer. -/
def Flow.held (x : Flow) : Nat := x.cells.length + x.loose.length

/-- The cells of the floor of a class (Table 3-1). -/
def floorOf (cls : Nat) : Nat := if cls = 0 then 1024 else if cls = 1 then 2048 else 0

def StoState.ofCls (t : StoState) (cls : Nat) : List Flow := t.flows.toList.filter (fun x => x.cls == cls)

/-- The sum of the reservations of a class (R66). -/
def StoState.resvOf (t : StoState) (cls : Nat) : Nat := (t.ofCls cls).foldl (fun a x => a + x.resv) 0

/-- Cells of a floor set aside for the flows of its class: a flow keeps the cells it drew from its reservation though the
reservation has been lowered since (R66, R78). -/
def StoState.aside (t : StoState) (cls : Nat) : Nat := (t.ofCls cls).foldl (fun a x => a + max x.resv x.dRes) 0

/-- Free cells of the pooled floor of a class (R67). -/
def StoState.poolFree (t : StoState) (cls : Nat) : Nat :=
  floorOf cls - t.aside cls - (t.ofCls cls).foldl (fun a x => a + x.dPool) 0

/-- Cells of a floor that no flow holds; a reservation raised under cells drawn from the pooled floor is served as they return. -/
def StoState.floorFree (t : StoState) (cls : Nat) : Nat :=
  floorOf cls - (t.ofCls cls).foldl (fun a x => a + x.dRes + x.dPool) 0

/-- Free cells of the shared pool: 13,312 less those drawn and those retired (Table 3-1, R88). -/
def StoState.sharedFree (t : StoState) : Nat :=
  13312 - t.retired.length - t.flows.toList.foldl (fun a x => a + x.dShared) 0

/-- Cells held by all Class 2 flows (STO_STAT.C2_HELD). -/
def StoState.c2Held (t : StoState) : Nat := (t.ofCls 2).foldl (fun a x => a + x.held) 0

/-- The effective Class 2 aggregate cap (R68, R88). -/
def StoState.c2Cap (t : StoState) : Nat := t.c2cap.fld 13 0 - t.retired.length

/-- Shared cells that a flow of the class may draw now (R67). -/
def StoState.sharedFor (t : StoState) (cls : Nat) : Nat :=
  if cls = 2 then min t.sharedFree (t.c2Cap - t.c2Held) else t.sharedFree

/-- Cells that R67 can supply to the flow. -/
def StoState.supply (t : StoState) (x : Flow) : Nat :=
  min (x.resv - x.held) (t.floorFree x.cls) + t.poolFree x.cls + t.sharedFor x.cls

/-- The credit of a flow: its cap less the cells it holds, limited by the supply (section Credits). -/
def State.credit (s : State) (f : Nat) : Nat :=
  min ((s.flow f).cap - (s.flow f).held) (s.sto.supply (s.flow f))

/-- A free cell index and the store without it: the earliest released, then the first never used. -/
def StoState.takeIdx (t : StoState) : Nat × StoState :=
  match t.freed with
  | i :: r => (i, { t with freed := r })
  | [] => (t.fresh, { t with fresh := t.fresh + 1 })

/-- The flow with its counts after one more cell is drawn in the order of R67. -/
def StoState.drawFor (t : StoState) (x : Flow) : Flow :=
  if x.held < x.resv ∧ 0 < t.floorFree x.cls then { x with dRes := x.dRes + 1 }
  else if 0 < t.poolFree x.cls then { x with dPool := x.dPool + 1 }
  else { x with dShared := x.dShared + 1 }

/-- One cell taken for flow `f` by its producer, with its index; `none` without credit. The high-water mark
follows (R89). -/
def State.takeCell (s : State) (f : Nat) : Option (Nat × State) :=
  if s.credit f = 0 then none
  else
    let x := s.sto.drawFor (s.flow f)
    let (i, t) := s.sto.takeIdx
    let x := { x with loose := x.loose ++ [i] }
    some (i, ({ s with sto := t }).setFlow f { x with hwm := max x.hwm x.held })

/-- Records that fit one cell of the flow: eight of 32 bytes; four where descriptors are of ring format 2. -/
def State.perCell (s : State) (f : Nat) : Nat :=
  if f = fCmd 0 ∨ f = fCmd 1 ∨ f = fCmd 2 then (if s.hif.ringSel = 2 then 4 else 8) else 8

/-- Free records of the tail cell. -/
def State.tailFree (s : State) (f : Nat) : Nat :=
  match (s.flow f).cells.getLast? with
  | none => 0
  | some c => s.perCell f - c.pay.length

/-- Free record slots of an event flow: those of the tail cell and one for each credit (R79). -/
def State.slots (s : State) (f : Nat) : Nat := s.tailFree f + s.credit f

/-- An event flow that is out of credit notes the moment at which it regains two free record slots (R80). The first such moment
counts (DESIGN CHOICE, notes/assumptions/108). -/
def State.noteRegain (s : State) : State :=
  [fEvh 0, fEvh 1, fEvh 2, fEvs 0, fEvs 1, fEvs 2].foldl (fun s f =>
    if (s.flow f).ooc.isSome then
      if (s.flow f).regain.isNone ∧ 2 ≤ s.slots f then s.modFlow f fun x => { x with regain := some s.now } else s
    else s) s

/-- The counts after a cell returns: to the shared pool first, then the pooled floor, then the reservation (R67). -/
def Flow.giveBack (x : Flow) : Flow :=
  if 0 < x.dShared then { x with dShared := x.dShared - 1 }
  else if 0 < x.dPool then { x with dPool := x.dPool - 1 }
  else { x with dRes := x.dRes - 1 }

/-- Cell `i` of flow `f`, taken or held, becomes free; a cell under suspicion waits for its rewrite (R88). -/
def State.freeCell (s : State) (f i : Nat) : State :=
  let s := s.modFlow f fun x => { x.giveBack with loose := x.loose.erase i }
  if s.sto.suspect.any (·.1 == i) then s else { s with sto := { s.sto with freed := s.sto.freed ++ [i] } }.noteRegain

/-- A taken cell joins the queue of its flow with what it carries. -/
def State.queueCell (s : State) (f : Nat) (c : Cell) : State :=
  s.modFlow f fun x => { x with loose := x.loose.erase c.idx, cells := x.cells ++ [c] }

/-- A whole cell's worth of payload enters flow `f`; `none` without credit. -/
def State.putCell (s : State) (f : Nat) (pay : List Payload) : Option State :=
  (s.takeCell f).map fun (i, s) => s.queueCell f { idx := i, pay }

/-- The oldest cell of a flow leaves the queue and is freed. -/
def State.popCell (s : State) (f : Nat) : Option (Cell × State) :=
  match (s.flow f).cells with
  | [] => none
  | c :: r => some (c, (s.modFlow f fun x => { x with cells := r, loose := x.loose ++ [c.idx] }).freeCell f c.idx)

/-- The flow was found without credit (STO_FLOW_CNT, R89). -/
def State.countNoCredit (s : State) (f : Nat) : State := s.modFlow f fun x => { x with cnt := satInc x.cnt }

/-- A producer waits on a flow, after those that wait already (R77). -/
def State.wait (s : State) (f : Nat) (w : Waiter) : State :=
  (s.countNoCredit f).modFlow f fun x => { x with waiters := x.waiters ++ [w] }

/-- A cell whose content is ready enters its flow, after the producers that wait already (R77); without credit it waits. -/
def State.sendCell (s : State) (f : Nat) (r : Payload) : State :=
  match (if (s.flow f).waiters.isEmpty then s.putCell f [r] else none) with
  | some s => s
  | none => s.wait f (.cell r)

/-- A cell passes through a flow whose consumer takes it at once; `none` without credit. -/
def State.passCell (s : State) (f : Nat) : Option State := (s.takeCell f).map fun x => x.2.freeCell f x.1

/-! ### Records packed in cells -/

/-- A record enters a record-bearing flow: in the tail cell, or in a new one; `none` without credit. -/
def State.putRecord (s : State) (f : Nat) (r : Payload) : Option State :=
  if 0 < s.tailFree f then
    some (s.modFlow f fun x => { x with cells := x.cells.dropLast ++ (x.cells.getLast?.map fun c =>
      { c with pay := c.pay ++ [r] }).toList })
  else s.putCell f [r]

/-- Room for one more record is reserved in a flow: in the tail cell, in a cell reserved already, or by drawing a cell that
stays reserved until a record needs it (R73); `none` without credit. The cell is drawn at once (DESIGN CHOICE,
notes/assumptions/107). -/
def State.reserve (s : State) (f : Nat) : Option State :=
  let more (s : State) : State := s.modFlow f fun x => { x with room := x.room + 1 }
  if (s.flow f).room < s.tailFree f + s.perCell f * (s.flow f).loose.length then some (more s)
  else (s.takeCell f).map fun x => more x.2

/-- A record whose room was reserved enters its flow (R73). -/
def State.putReserved (s : State) (f : Nat) (r : Payload) : Option State :=
  let put : Option State :=
    if 0 < s.tailFree f then s.putRecord f r
    else match (s.flow f).loose with
      | i :: _ => some (s.queueCell f { idx := i, pay := [r] })
      | [] => s.putCell f [r]
  put.map fun s => s.modFlow f fun x => { x with room := x.room - 1 }

/-- Whether a record flow has room for one more record. A CPL flow has it where its completion finds room beside the
descriptor that is fetched with it (R73). -/
def State.hasRoom (s : State) (f : Nat) : Bool :=
  if 0x69 ≤ f ∧ f ≤ 0x6B then ((s.putRecord (f - 3) .gone).bind fun s => s.reserve f).isSome
  else decide (0 < s.tailFree f + s.credit f)

/-- Records of a flow not read yet, in order. -/
def Flow.records (x : Flow) : List Payload := (x.cells.flatMap fun c => c.pay).filter (· ≠ .gone)

/-- The first record of a flow that the consumer has not read. -/
def Flow.head (x : Flow) : Option Payload := x.records.head?

/-- A list of cells with the first record that `q` names marked as read. -/
def markRead (q : Payload → Bool) : List Cell → List Cell
  | [] => []
  | c :: r =>
    if c.pay.any q then
      { c with pay := c.pay.takeWhile (fun x => !q x) ++ [.gone] ++ (c.pay.dropWhile (fun x => !q x)).drop 1 } :: r
    else c :: markRead q r

/-- Every record of the cell has been read. -/
def Cell.spent (c : Cell) : Bool := c.pay.all (· == .gone)

/-- The cells that R65 keeps: those with a record unread, and the tail while the flow is not empty. -/
def keptCells (cs : List Cell) : List Cell :=
  if cs.all Cell.spent then [] else cs.dropLast.filter (fun c => !c.spent) ++ cs.getLast?.toList

/-- A flow with room reserved for more records than its tail and its other cells would take does not release one (R73). -/
def State.keepsCell (s : State) (f : Nat) : Bool :=
  decide (s.tailFree f + s.perCell f * ((s.flow f).loose.length - 1) < (s.flow f).room)

/-- The consumer reads the first record that `q` names; spent cells are released as R65 says, but for one that holds reserved
room. -/
def State.readRecord (s : State) (f : Nat) (q : Payload → Bool) : State :=
  let x := s.flow f
  let cs := markRead q x.cells
  let keep := keptCells cs
  let dead := (cs.filter (fun c => c ∉ keep)).map Cell.idx
  dead.foldl (fun s i => if s.keepsCell f then s else s.freeCell f i) (s.setFlow f { x with cells := keep, loose := x.loose ++ dead })

/-- The consumer reads the first record of the flow. -/
def State.popRecord (s : State) (f : Nat) : State := s.readRecord f (· != .gone)

/-- All cells of a flow are freed. -/
def State.emptyFlow (s : State) (f : Nat) : State :=
  (s.flow f).cells.foldl (fun s _ => ((s.popCell f).map (·.2)).getD s) s

/-- The host interface may read and write host memory (13 R388, R394): READY, the link up, D0 and bus mastering. -/
def State.hostOn (s : State) : Bool := s.hif.ready && s.hif.bme && !s.hif.d3hot && s.hif.link.isSome

/-- Data goes to host memory, or waits until the device may write there (13 R388). -/
def State.hostPut (s : State) (a : Quad) (b : List Byte) : State :=
  if s.hostOn then s.emit (.hostWrite a b) else { s with hif := { s.hif with held := s.hif.held ++ [(a, b)] } }

/-- The data that waited goes to host memory, oldest first. -/
def State.hostFlush (s : State) : State :=
  if s.hostOn then s.hif.held.foldl (fun s x => s.emit (.hostWrite x.1 x.2)) { s with hif := { s.hif with held := [] } } else s

/-! ### Sequence numbers (02 R47 to R49) -/

/-- The number that ERA and COUNT spell (Table 2-6). -/
def TbState.seqNo (t : TbState) : Quad := BitVec.ofNat 64 (t.era.toNat * 2 ^ 40 + t.seqCount)

/-- The next number would pass the era's last (R48). -/
def TbState.rolls (t : TbState) : Bool := decide (2 ^ 40 ≤ t.seqCount)

/-- The era advances and COUNT starts at 0; a missing advance write stays outstanding (R48). -/
def TbState.roll (t : TbState) : TbState :=
  { t with era := t.era + 1, seqCount := 0, eraSaved := t.eraAdvanced, eraAdvanced := false }

/-- The next number is assigned; at COUNT 0xFF_0000_0000 the advance write of the next era starts (R48). -/
def State.number (s : State) : Quad × State :=
  let t := s.tb
  let n := t.seqNo
  let adv := decide (t.seqCount + 1 = 0xFF00000000)
  (n, { s with tb := { t with seqCount := t.seqCount + 1, seqLast := n,
                              eraSaved := if adv then false else t.eraSaved,
                              eraAdvanced := if adv then false else t.eraAdvanced } })

end Sys2Proof.Machine
end

