-- ==== Sys2Proof/Machine/Events.lean ====
section
/-! DEFINITION. Event records: the cause catalogue (15 Table 15-4 and the tables R438 names), the offer of an
occurrence to its flows (03 R79), coalescing and flush (03 R80), and the fault log (15 R439, R440). -/

set_option linter.unusedVariables false

namespace Sys2Proof.Machine

/-- The port number of a record that names the device (03 section Event coalescing). -/
def devPort : Nat := 0xFF

/-- Each cause with its class and severity (15 Table 15-4, 16 to 20); conditions are in `sevOf`. -/
def catalogue : List (Nat × Nat × Nat) :=
  [(0x0003, 0, 2), (0x0004, 0, 3), (0x0005, 0, 1), (0x0006, 1, 2), (0x0007, 0, 2)]
  ++ [(0x0100, 0, 1), (0x0101, 0, 1), (0x0102, 1, 2), (0x0103, 1, 2), (0x0104, 1, 1), (0x0105, 0, 2),
      (0x0106, 1, 1), (0x0107, 1, 0), (0x0108, 1, 1)]
  ++ [(0x0200, 0, 2), (0x0201, 1, 1), (0x0202, 0, 1), (0x0203, 2, 0), (0x0204, 0, 2), (0x0205, 0, 2),
      (0x0206, 1, 1), (0x0207, 1, 1), (0x0208, 1, 1), (0x0209, 1, 1), (0x020A, 1, 1), (0x020B, 2, 0),
      (0x020C, 2, 0)]
  ++ [(0x0300, 0, 2), (0x0301, 0, 1), (0x0302, 0, 2), (0x0303, 0, 1), (0x0304, 1, 2), (0x0305, 1, 1),
      (0x0306, 1, 1), (0x0307, 1, 2), (0x0308, 1, 1), (0x0309, 1, 1), (0x030A, 1, 1)]
  ++ [(0x0400, 1, 1), (0x0401, 1, 1), (0x0402, 1, 2), (0x0403, 1, 1), (0x0404, 1, 2), (0x0405, 1, 1),
      (0x0406, 1, 1), (0x0407, 2, 0), (0x0408, 2, 1), (0x0409, 2, 0)]
  ++ [(0x0500, 0, 2), (0x0501, 0, 2), (0x0502, 1, 1), (0x0503, 2, 0)]
  ++ [(0x0600, 0, 2), (0x0601, 0, 3), (0x0602, 0, 3), (0x0603, 0, 2), (0x0604, 1, 2), (0x0605, 2, 0)]
  ++ [(0x0700, 0, 2), (0x0701, 0, 3), (0x0702, 1, 0)]
  ++ [(0x0800, 0, 1), (0x0801, 0, 1), (0x0802, 1, 2), (0x0803, 1, 2), (0x0804, 1, 1), (0x0805, 2, 0)]
  ++ [(0x0900, 1, 2), (0x0901, 1, 1), (0x0902, 2, 0), (0x0903, 1, 2), (0x0904, 2, 0)]
  ++ [(0x0A00, 1, 2), (0x0A01, 1, 1), (0x0A02, 2, 0), (0x0A03, 1, 1), (0x0A04, 1, 1), (0x0A05, 1, 1),
      (0x0A06, 1, 1)]
  ++ [(0x0B00, 1, 1), (0x0B01, 1, 2), (0x0B02, 1, 1), (0x0B03, 1, 1), (0x0B04, 1, 1), (0x0B05, 0, 2),
      (0x0B06, 1, 1)]
  ++ [(0x0C00, 2, 0), (0x0C01, 1, 1), (0x0C02, 1, 1), (0x0C03, 1, 1), (0x0C04, 1, 1), (0x0C05, 0, 3),
      (0x0C06, 1, 1), (0x0C07, 1, 1), (0x0C08, 0, 2), (0x0C09, 1, 2)]
  ++ [(0x0D00, 1, 1), (0x0D01, 0, 2), (0x0D02, 1, 1), (0x0D03, 0, 3), (0x0D04, 1, 2)]

def clsOf (cause : Nat) : Nat := ((catalogue.lookup cause).map (·.1)).getD 1

/-- Byte `i` of a record, 24 to 31, in its data. -/
def datByte (d : Quad) (i : Nat) : Nat := (d.toNat >>> (8 * (i - 24))) % 256

/-- The field of `n` bytes at byte `i` of a record, 24 to 31. -/
def datFld (d : Quad) (i n : Nat) : Nat := (d.toNat >>> (8 * (i - 24))) % 2 ^ (8 * n)

/-- The severity of an occurrence: the catalogue's, with the conditions of Table 15-4 and R436. -/
def sevOf (cause : Nat) (d : Quad) : Nat :=
  if cause = 0x0404 then (if datFld d 26 2 = 2 then 1 else 2)
  else if cause = 0x0500 ∨ cause = 0x0501 then (if datByte d 26 = 1 then 3 else 2)
  else if cause = 0x0600 then (if datByte d 31 = 0xFF then 3 else 2)
  else ((catalogue.lookup cause).map (·.2)).getD 0

/-- Data bytes from fields: byte number in the record, length in bytes, value. -/
def evData (fs : List (Nat × Nat × Nat)) : Quad :=
  BitVec.ofNat 64 (fs.foldl (fun a x => a + ((x.2.2 % 2 ^ (8 * x.2.1)) <<< (8 * (x.1 - 24)))) 0)

/-- The port layout P (Table 15-2). -/
def evP (attach : BitVec 16) (sub value : Nat) : Quad :=
  evData [(24, 2, attach.toNat), (26, 2, sub), (28, 4, value)]

/-- How far a WM_CROSSING occurrence lies beyond its threshold; a return counts as 0 (Table 15-4). -/
def excursion (d : Quad) : Int :=
  if (datByte d 25).testBit 1 then 0
  else if (datByte d 25).testBit 0 then (datFld d 26 2 : Int) - datFld d 30 2
  else (datFld d 30 2 : Int) - datFld d 26 2

/-- Whether an occurrence's data takes the place of the data kept (Table 15-4, Worst value; a tie keeps the
earlier). -/
def worseThan (cause : Nat) (new old : Quad) : Bool :=
  if cause = 0x0105 then decide (datFld old 28 4 < datFld new 28 4)
  else if cause = 0x0600 then decide (datFld old 28 2 < datFld new 28 2)
  else if cause = 0x0603 ∨ cause = 0x0700 then
    decide ((sgn 32 (datFld old 28 4)).natAbs < (sgn 32 (datFld new 28 4)).natAbs)
  else if cause = 0x0702 then decide (excursion old < excursion new)
  else true

/-! ### Fault log -/

/-- An occurrence enters the fault log when its severity reaches MIN_SEV (15 R439, R440). -/
def State.logFault (s : State) (e : EvRec) : State :=
  let g := s.flog
  if e.sev < g.cfg.fld 1 0 then s
  else
    let full := decide (256 ≤ g.ring.length)
    { s with flog := { g with
        ring := (if full then g.ring.drop 1 else g.ring) ++ [(g.wcnt.toNat, { e with coal := 1 })]
        overwritten := if full then satInc g.overwritten else g.overwritten
        wcnt := g.wcnt + 1 } }

/-! ### Offering an occurrence -/

/-- The EVS flow of a class takes records while the event window is enabled for the class (03 R75). -/
def State.evsOn (s : State) (cls : Nat) : Bool := s.twi.tcfg.bit (6 + cls)

/-- The host interface is served: boot has ended, in a rescue boot too (03 R75, 20 R543). -/
def State.evhOn (s : State) : Bool := s.rst.booted || s.rst.rescue

/-- The flows an occurrence of a class is offered to (03 R75, R79 step 1). -/
def State.evFlows (s : State) (cls : Nat) : List Nat :=
  (if s.evhOn then [fEvh cls] else []) ++ (if s.evsOn cls then [fEvs cls] else [])

/-- The flow is out of credit: it went so and has not been flushed, or one free slot is left (R79). -/
def State.outOfCredit (s : State) (f : Nat) : Bool := (s.flow f).ooc.isSome || decide (s.slots f ≤ 1)

/-- A flow left with one slot is out of credit from now (R79). -/
def State.markOoc (s : State) (f : Nat) : State :=
  if s.slots f ≤ 1 then
    s.modFlow f fun x => { x with ooc := some (x.ooc.getD s.now), regain := if x.ooc.isSome then x.regain else none }
  else s

/-- A numbered record enters an event flow; the host is woken in D3hot (13 R388), and the supervisor is alerted
(17 R481) or requested (17 R482). -/
def State.enterFlow (s : State) (f : Nat) (e : EvRec) : State :=
  let empty := (List.range 3).all fun c => (s.flow (fEvs c)).records.isEmpty
  let s := ((s.putRecord f (.ev e)).getD s).markOoc f
  let s := if f = fEvh 0 ∧ s.hif.d3hot ∧ s.hif.pmeEn then
    { s with hif := { s.hif with pmeSta := true } }.emit .pme else s
  if 0x63 ≤ f ∧ f ≤ 0x65 then
    { s with twi := { s.twi with alert := s.twi.alert || s.twi.tcfg.bit 4
                                 ibrPend := s.twi.ibrPend || (empty && s.twi.tcfg.bit 9) } }
  else s

/-- One more occurrence in a coalescing counter (R79 step 3). -/
def CoalCtr.count (c : CoalCtr) (e : EvRec) : CoalCtr :=
  { c with cnt := satN 32 (c.cnt + 1), lastT := e.time, sev := max c.sev e.sev
           worst := if worseThan c.cause e.data c.worst then e.data else c.worst }

/-- The occurrence is counted in the pair's counter of a flow that is out of credit (R79 step 3). -/
def State.countIn (s : State) (e : EvRec) (f : Nat) : State :=
  let x := s.flow f
  let has := x.ctrs.any fun c => c.port == e.port && c.cause == e.cause
  let ctrs :=
    if has then x.ctrs.map fun c => if c.port = e.port ∧ c.cause = e.cause then c.count e else c
    else x.ctrs ++ [{ port := e.port, cause := e.cause, cnt := 1, firstT := e.time, lastT := e.time,
                      worst := e.data, sev := e.sev }]
  s.setFlow f { x with ctrs, cnt := satInc x.cnt, ooc := some (x.ooc.getD s.now)
                       counted := satN 32 (x.counted + 1), pairs := insertNew (e.port, e.cause) x.pairs }

/-- The record takes the next number and enters each flow that has room, is counted in each that has none, and
goes to the fault log; with no room anywhere it takes no number (R79 steps 2 to 4, R439). -/
def State.enter (s : State) (e : EvRec) (fs : List Nat) : State :=
  let yes := fs.filter fun f => !s.outOfCredit f
  let no := fs.filter fun f => s.outOfCredit f
  if yes.isEmpty then
    (no.foldl (fun s f => s.countIn e f) s).logFault { e with unnum := true, seq := s.tb.seqLast }
  else
    let (n, s) := s.number
    let e := { e with seq := n }
    (no.foldl (fun s f => s.countIn e f) (yes.foldl (fun s f => s.enterFlow f e) s)).logFault e

/-- The era advances before a number that would pass its end, and where its advance write has not succeeded the
era's first record is SEQUENCE_ERA_UNSAVED (02 R48). -/
def State.rollEra (s : State) : State :=
  if s.tb.rolls then
    let s := { s with tb := s.tb.roll }
    if s.tb.eraSaved then s
    else s.enter { cause := 0x0006, port := devPort, cls := 1, sev := 2, time := s.now
                   data := evData [(24, 3, s.tb.era.toNat)] } (s.evFlows 1)
  else s

/-- The counter with the earliest first occurrence, the earlier listed where equal (R80 step 1). -/
def firstCtr : List CoalCtr → Option CoalCtr
  | [] => none
  | c :: r => match firstCtr r with
    | none => some c
    | some d => if c.firstT ≤ d.firstT then some c else some d

/-- One flushed record: it takes a number and enters its flow alone. -/
def State.enterOne (s : State) (f : Nat) (e : EvRec) : State :=
  let s := s.rollEra
  let (n, s) := s.number
  s.enterFlow f { e with seq := n }

/-- R80 step 1, at most `n` times. -/
def State.flushCtrs (f : Nat) : Nat → State → State
  | 0, s => s
  | n + 1, s =>
    if s.slots f < 2 then s
    else match firstCtr (s.flow f).ctrs with
      | none => s
      | some c =>
        let s := s.modFlow f fun x => { x with ctrs := x.ctrs.erase c }
        State.flushCtrs f n (s.enterOne f { cause := c.cause, port := c.port, cls := f % 3, sev := c.sev
                                            coal := c.cnt, time := c.lastT, data := c.worst })

/-- An out-of-credit flow with two free slots is flushed: its counters as records, then DEVICE_LOG_OVERFLOW, whose time runs to
the moment at which the two slots were first regained (R80). -/
def State.flush (s : State) (f : Nat) : State :=
  match (s.flow f).ooc with
  | none => s
  | some t =>
    if s.slots f < 2 then s
    else
      let s := State.flushCtrs f (s.flow f).ctrs.length s
      let x := s.flow f
      if ¬ x.ctrs.isEmpty then s
      else
        let s := s.setFlow f { x with ooc := none, regain := none, counted := 0, pairs := [] }
        if x.counted = 0 then s.markOoc f
        else
          let e : EvRec := { cause := 0x0001, port := devPort, cls := f % 3, sev := 2, coal := x.counted, time := s.now
                             data := evData [(24, 2, x.pairs.length), (26, 1, f),
                                             (28, 4, satN 32 ((x.regain.getD s.now - t).toNat / 1000))] }
          let s := s.rollEra
          let (n, s) := s.number
          (s.enterFlow f { e with seq := n }).logFault { e with seq := n }

/-- An occurrence is offered (R79): flows that can be flushed are flushed before it. -/
def State.offer (s : State) (e : EvRec) : State :=
  let fs := s.evFlows e.cls
  let s := fs.foldl State.flush s
  let s := if fs.any fun f => !s.outOfCredit f then s.rollEra else s
  s.enter e fs

/-- An occurrence of a cause, detected now (R39): port number, data. -/
def State.event (s : State) (cause port : Nat) (data : Quad) : State :=
  s.offer { cause, port, cls := clsOf cause, sev := sevOf cause data, time := s.now, data }

/-- An occurrence of a cause of the port layout. -/
def State.eventP (s : State) (cause : Nat) (p : PortId) (sub value : Nat) : State :=
  s.event cause p.val (evP (s.port p).cc.inst sub value)

/-- An occurrence that names the device. -/
def State.eventD (s : State) (cause : Nat) (fs : List (Nat × Nat × Nat)) : State :=
  s.event cause devPort (evData fs)

/-- An occurrence that names a port, in a layout of its own. -/
def State.eventO (s : State) (cause : Nat) (p : PortId) (fs : List (Nat × Nat × Nat)) : State :=
  s.event cause p.val (evData fs)

/-! ### Errors that a consumer's read meets (03 R64, R87) -/

/-- The record of an uncorrectable error, the count, the last word and the cell's suspicion (R87, R88); a free cell leaves the
free list. -/
def State.ueNote (s : State) (i w : Nat) (f : Option Nat) : State :=
  let t := s.sto
  let t := { t with ue := satInc t.ue, ueLast := BitVec.ofNat 32 (i + 2 ^ 14 * w + 2 ^ 19 * f.getD 0xFF)
                    suspect := t.suspect.filter (·.1 != i) ++ [(i, w)] }
  let t := if f.isSome then t
    else if t.fresh ≤ i then { t with freed := t.freed ++ (List.range i).drop t.fresh, fresh := i + 1 }
    else { t with freed := t.freed.erase i }
  ({ s with sto := t }).eventD 0x0003 [(24, 2, i), (26, 1, w), (27, 1, f.getD 0xFF)]

/-- A consumer reads a cell: each single-bit error in it is corrected, written back and counted (R64). -/
def State.correct (s : State) (f : Nat) (c : Cell) : State :=
  if c.ce.isEmpty then s
  else
    let s := s.modFlow f fun x => { x with cells := x.cells.map fun y => if y.idx = c.idx then { y with ce := [] } else y }
    { s with sto := { s.sto with ce := BitVec.ofNat 32 (satN 32 (s.sto.ce.toNat + c.ce.length)) } }

/-- A queued cell is dropped. -/
def State.dropCell (s : State) (f i : Nat) : State :=
  (s.modFlow f fun x => { x with cells := x.cells.filter (fun c => c.idx != i), loose := x.loose ++ [i] }).freeCell f i

/-- A cell that a consumer is about to read, after the correction of its single-bit errors: the word of an uncorrectable error in
it, which is recorded now and stands no longer. What follows from it is the flow's own (Table 3-5). -/
def State.meet (s : State) (f : Nat) (c : Cell) : Option Nat × State :=
  let s := s.correct f c
  match c.ue with
  | none => (none, s)
  | some w =>
    (some w, (s.modFlow f fun x => { x with cells := x.cells.map fun y => if y.idx = c.idx then { y with ue := none } else y }).ueNote
      c.idx w (some f))

/-! ### Commands of this family -/

/-- EVENT_OCCURRENCE (03 R79, 15 R434, R437, R439): an occurrence of a cause of the catalogue, with the port it names
and its data bytes. -/
def execEventOccurrence (cause port : Nat) (data : Quad) (s : State) : Res :=
  .next (if (catalogue.lookup cause).isSome then s.event cause port data else s)

/-- EVENT_FLOW_FLUSH (03 R80). -/
def execEventFlowFlush (flow : Nat) (s : State) : Res :=
  .next (if 0x60 ≤ flow ∧ flow ≤ 0x65 then s.flush flow else s)

end Sys2Proof.Machine
end

