-- ==== Sys2Proof/Machine/Cmd.lean ====
section
/-! DEFINITION. Descriptors and completions: the outstanding table, the checks at fetch (13 R397, 14 R421), the order of
judgement (14 R422 to R426), the exclusion group (14 R428), completion in submission order (13 R409) and the ending
of descriptors by a cause (13 R415). -/

set_option linter.unusedVariables false

namespace Sys2Proof

/-! ### Descriptors -/

/-- The field of `n` bytes at byte `i` of a descriptor (13 Table 13-4). -/
def Desc.le (d : Desc) (i n : Nat) : Nat := getLE d.params (i - 8) n

/-- The parameter bytes outside the named ranges (first byte, length) are 0 (14 R430). -/
def Desc.onlyAt (d : Desc) (rs : List (Nat × Nat)) : Bool :=
  (List.range 52).all fun k => rs.any (fun r => r.1 ≤ k + 8 && k + 8 < r.1 + r.2) || d.params.getD k 0 == 0

def Desc.defer (d : Desc) : Bool := d.flags.getLsbD 0
def Desc.fence (d : Desc) : Bool := d.flags.getLsbD 1
def Desc.notify (d : Desc) : Bool := d.flags.getLsbD 2

/-- The port a port command names. -/
def Desc.pid (d : Desc) : PortId := ⟨d.port.toNat % 16, Nat.mod_lt _ (by decide)⟩

end Sys2Proof

namespace Sys2Proof.Machine

/-! ### Statuses of Tables 13-8 and 14-5 -/

def stOk : Nat := 0x0000
def stSuperseded : Nat := 0x0001
def stBadParam : Nat := 0x0010
def stBadOpcode : Nat := 0x0011
def stVersionMismatch : Nat := 0x0012
def stStateConflict : Nat := 0x0020
def stNoResource : Nat := 0x0021
def stTimeout : Nat := 0x0022
def stPartnerReject : Nat := 0x0030
def stPartnerNotSupported : Nat := 0x0031
def stPartnerWaitExhausted : Nat := 0x0032
def stPartnerNoResponse : Nat := 0x0033
def stAbortedHardReset : Nat := 0x0040
def stAbortedDetach : Nat := 0x0041
def stAbortedPortReset : Nat := 0x0042
def stAbortedDeviceReset : Nat := 0x0043
def stAbortedActivation : Nat := 0x0044
def stHwFault : Nat := 0x0050
def stStoreUe : Nat := 0x0051
def stAuthFailed : Nat := 0x0060
def stImageInvalid : Nat := 0x0061
def stImageIncompatible : Nat := 0x0062
def stAbortedDisable : Nat := 0x0070
def stAbortedHoldup : Nat := 0x0071
def stPartial : Nat := 0x0072

/-- An opcode of Table 14-1: whether PORT names a port, the classes, and whether ring format 1 has it. -/
structure OpInfo where
  onPort : Bool
  classes : List Nat
  fmt1 : Bool
  deriving DecidableEq, Repr

/-- Table 14-1. -/
def opTable : List (Nat × OpInfo) :=
  [(0x01, ⟨false, [0, 1, 2], true⟩), (0x02, ⟨true, [1, 2], true⟩), (0x03, ⟨true, [0, 1], true⟩),
   (0x04, ⟨true, [0, 1], true⟩), (0x05, ⟨true, [1], true⟩), (0x06, ⟨true, [0, 1], true⟩),
   (0x07, ⟨true, [1], true⟩), (0x08, ⟨true, [1], true⟩), (0x09, ⟨true, [1], true⟩), (0x0A, ⟨true, [1], true⟩),
   (0x0B, ⟨true, [0, 1], true⟩), (0x0C, ⟨true, [0, 1], true⟩), (0x0D, ⟨true, [1], true⟩)]
  ++ [(0x10, ⟨false, [1, 2], true⟩), (0x11, ⟨false, [1], true⟩), (0x12, ⟨false, [1], true⟩),
   (0x20, ⟨false, [1, 2], false⟩), (0x21, ⟨true, [1], false⟩), (0x22, ⟨true, [1], false⟩),
   (0x23, ⟨true, [1, 2], false⟩), (0x28, ⟨true, [1], false⟩), (0x30, ⟨false, [1], false⟩),
   (0x38, ⟨false, [1, 2], false⟩), (0x40, ⟨false, [2], false⟩), (0x41, ⟨false, [1], false⟩),
   (0x42, ⟨false, [1], false⟩), (0x48, ⟨false, [1], false⟩)]

/-- The checks at fetch on a command SQ in a ring format (Table 13-5, 14 R421); `none` where all pass. -/
def fetchCheck (fmt : Nat) (d : Desc) : Option Nat :=
  match opTable.lookup d.op.toNat with
  | none => some stBadOpcode
  | some o =>
    if fmt = 1 ∧ ¬ o.fmt1 then some stBadOpcode
    else if (if o.onPort then 16 ≤ d.port.toNat else d.port.toNat ≠ 0xFF) then some stBadParam
    else if d.cls.toNat ∉ o.classes then some stBadParam
    else if 8 ≤ d.flags.toNat then some stBadParam
    else if fmt = 1 ∧ d.defer then some stBadParam
    else if d.defer ∧ (d.deferMs.toNat < 1 ∨ 60000 < d.deferMs.toNat) then some stBadParam
    else if ¬ d.defer ∧ d.deferMs ≠ 0 then some stBadParam
    else none

/-- The commands of the exclusion group (Table 14-4). -/
def exclusionGroup : List Nat := [0x09, 0x0A, 0x0B, 0x0C, 0x21, 0x22, 0x23, 0x28]

/-! ### The outstanding table -/

/-- The entry of a descriptor. -/
def State.outDesc (s : State) (sq : Fin 16) (slot : BitVec 12) : Option OutDesc :=
  s.hif.table.find? fun o => o.d.sq == sq && o.d.slot == slot

/-- The table with the entry of a descriptor changed. -/
def State.modOut (s : State) (sq : Fin 16) (slot : BitVec 12) (f : OutDesc → OutDesc) : State :=
  { s with hif := { s.hif with table := s.hif.table.map fun o => if o.d.sq = sq ∧ o.d.slot = slot then f o else o } }

/-- A descriptor enters the outstanding table: its CMD record is in the store and room for its completion is
reserved (03 R73, 13 R403); `none` where either flow has no room, and the descriptor stays in host memory. -/
def State.enterTable (s : State) (d : Desc) (data : List Byte) : Option State :=
  let c := d.cls.toNat % 3
  ((s.putRecord (fCmd c) (.desc d)).bind fun s => s.reserve (fCpl c)).map fun s =>
    { s with hif := { s.hif with table := s.hif.table ++ [({ d, data, cq := s.hif.sq[d.sq.val].cfg.fld 7 4 } : OutDesc)] } }

/-- The checks at fetch by the kind of SQ (Table 13-5, 13 R413): a stream SQ takes buffer descriptors alone. -/
def State.fetchStatus (s : State) (d : Desc) : Option Nat :=
  if s.hif.sq[d.sq.val].cfg.fld 9 8 = 0 then fetchCheck s.hif.ringSel.toNat d
  else if d.op ≠ 0 then some stBadOpcode
  else if d.port ≠ 0xFF ∨ d.cls ≠ 2 ∨ d.flags.toNat % 4 ≠ 0 ∨ 8 ≤ d.flags.toNat ∨ d.deferMs ≠ 0 then some stBadParam
  else none

/-- The completion record of an entry. -/
def OutDesc.cpl (o : OutDesc) (n : Quad) : CplRec :=
  { tag := o.d.tag, status := o.status, port := o.d.port, deferred := o.deferred, notify := o.d.notify
    sq := o.d.sq.val, slot := o.d.slot, cq := o.cq, seq := n, time := o.time, result := o.result
    orphan := o.orphan, cls := o.d.cls.toNat % 3 }

/-- A completion of a class finds the room that was reserved for it. -/
def State.cplOpen (s : State) (c : Nat) : Bool :=
  decide (0 < s.tailFree (fCpl c)) || !(s.flow (fCpl c)).loose.isEmpty || decide (0 < s.credit (fCpl c))

/-- The completions of an SQ enter their flows in submission order, as far as they are finished (13 R409); at most
`n` of them. -/
def State.drainSq (sq : Fin 16) : Nat → State → State
  | 0, s => s
  | n + 1, s =>
    match s.hif.table.find? fun o => o.d.sq == sq with
    | none => s
    | some o =>
      let c := o.d.cls.toNat % 3
      if o.ph ≠ .done ∨ ¬ s.cplOpen c then s
      else
        let s := s.rollEra
        let (k, s) := s.number
        let s := (s.putReserved (fCpl c) (.cpl (o.cpl k))).getD s
        State.drainSq sq n { s with hif := { s.hif with table := s.hif.table.erase o } }

def State.drain (s : State) (sq : Fin 16) : State := State.drainSq sq s.hif.table.length s

/-- A descriptor's own end: its status and result are final now, and its completion enters when R409 lets it. -/
def State.finish (s : State) (d : Desc) (status : Nat) (result : Quad) : State :=
  let t := s.now
  (s.modOut d.sq d.slot fun o =>
    if o.ph = .done then o
    else { o with ph := .done, status := BitVec.ofNat 16 status, result, time := t }).drain d.sq

/-- An entry that finishes now with a status and no result, unless it has finished. -/
def OutDesc.endWith (o : OutDesc) (status : Nat) (t : Quad) : OutDesc :=
  if o.ph = .done then o else { o with ph := .done, status := BitVec.ofNat 16 status, result := 0, time := t }

/-- The CMD record of a descriptor that will not start is read and dropped. -/
def State.dropCmd (s : State) (d : Desc) : State := s.readRecord (fCmd (d.cls.toNat % 3)) (· == .desc d)

/-- Every outstanding descriptor in a scope that has not finished ends with a status (13 R415, R416). -/
def State.endWhere (s : State) (q : OutDesc → Bool) (status : Nat) : State :=
  let s := (s.hif.table.filter fun o => o.ph == .fetched && q o).foldl (fun s o => s.dropCmd o.d) s
  let table := s.hif.table.map fun o => if (q o) = true then o.endWith status s.now else o
  (List.finRange 16).foldl State.drain { s with hif := { s.hif with table } }

/-- The descriptor names the port. -/
def OutDesc.onPort (o : OutDesc) (p : PortId) : Bool :=
  o.d.port.toNat == p.val && (((opTable.lookup o.d.op.toNat).map (·.onPort)).getD false)

/-- Every outstanding descriptor that names the port ends with a status, but for those that `but` names. -/
def State.endPort (s : State) (p : PortId) (status : Nat) (but : List Nat := []) : State :=
  s.endWhere (fun o => o.onPort p && !but.contains o.d.op.toNat) status

/-- The first command of an opcode in progress on a port. -/
def State.running (s : State) (op : Nat) (p : PortId) : Option OutDesc :=
  s.hif.table.find? fun o => o.ph == .running && o.d.op.toNat == op && o.d.port.toNat == p.val

/-- The first device command of an opcode in progress. -/
def State.runningDev (s : State) (op : Nat) : Option OutDesc :=
  s.hif.table.find? fun o => o.ph == .running && o.d.op.toNat == op

/-- Every command of an opcode in progress on a port finishes. -/
def State.finishAll (s : State) (op : Nat) (p : PortId) (status : Nat) (result : Quad) : State :=
  (s.hif.table.filter fun o => o.ph == .running && o.d.op.toNat == op && o.d.port.toNat == p.val).foldl
    (fun s o => s.finish o.d status result) s

/-- The value a command kept at its start (14 R430). -/
def State.setAux (s : State) (d : Desc) (v : Nat) : State :=
  s.modOut d.sq d.slot fun o => { o with aux := BitVec.ofNat 64 v }

/-! ### Judgement -/

/-- RESULT of a STATE_CONFLICT or of a TIMEOUT that ends a deferral (14 R424). -/
def State.conflict (s : State) (d : Desc) (cond : Nat) (byte28 : Nat := 0) : Quad :=
  if d.port.toNat < 16 then
    let q := s.port d.pid
    evData [(24, 1, q.cc.st.code), (25, 1, q.pol.seq.code), (26, 1, q.ef.path.code), (27, 1, cond), (28, 1, byte28)]
  else evData [(24, 3, 0xFFFFFF), (27, 1, cond), (28, 1, byte28)]

/-- How an opcode is judged and what its start does: a failing status of step 1, a failing condition code of
step 2, byte 28 of R424, and the start itself, step 4 included. -/
structure CmdSpec where
  params : State → Desc → Option Nat := fun _ _ => none
  legal : State → Desc → Option Nat := fun _ _ => none
  byte28 : State → Desc → Nat := fun _ _ => 0
  go : State → Desc → State

/-- Step 3 of R422: another command of the exclusion group is in progress on the port. -/
def State.excluded (s : State) (d : Desc) : Bool :=
  exclusionGroup.contains d.op.toNat &&
    s.hif.table.any fun o => o.ph == .running && exclusionGroup.contains o.d.op.toNat && o.d.port == d.port

/-- The commands that a rescue boot leaves legal (20 R543). -/
def rescueOps : List Nat := [0x01, 0x38, 0x40, 0x41]

/-- The condition that a command meets in the present state, if any (steps 2 and 3). -/
def CmdSpec.cond (k : CmdSpec) (s : State) (d : Desc) : Option Nat :=
  if s.rst.rescue ∧ ¬ rescueOps.contains d.op.toNat then some 15 else
  match k.legal s d with
  | some c => some c
  | none => if s.excluded d then some 11 else none

/-- A descriptor is judged (14 R422, R423, R425). -/
def CmdSpec.judge (k : CmdSpec) (d : Desc) (s : State) : State :=
  match k.params s d with
  | some st => s.finish d st 0
  | none =>
    match k.cond s d with
    | some c =>
      if d.defer then s.modOut d.sq d.slot fun o => { o with ph := .waiting, deferred := true }
      else s.finish d stStateConflict (s.conflict d c (k.byte28 s d))
    | none => k.go (s.modOut d.sq d.slot fun o => { o with ph := .running }) d

/-- The descriptor may start: those before it in its SQ have started, and with FENCE their completions have
entered (13 R407, R408). -/
def State.mayStart (s : State) (d : Desc) : Bool :=
  let before := (s.hif.table.takeWhile fun o => !(o.d.sq == d.sq && o.d.slot == d.slot)).filter fun o => o.d.sq == d.sq
  if d.fence then before.isEmpty else before.all fun o => o.ph != .fetched

/-- A descriptor enters the outstanding table and is checked (13 R397); one that fails a check completes with no effect. -/
def State.enterDesc (s : State) (d : Desc) (data : List Byte) : State :=
  match s.enterTable d data with
  | none => s
  | some t =>
    match s.fetchStatus d with
    | some st => (t.dropCmd d).finish d st 0
    | none => t

/-- The descriptors of a cell whose content an uncorrectable error took end with no effect, from the host interface's own table
(03 Table 3-5). -/
def State.cmdLost (s : State) (c : Cell) : State :=
  (c.pay.filterMap fun r => match r with | .desc d => some d | _ => none).foldl (fun s d => (s.dropCmd d).finish d stStoreUe 0) s

/-- The CMD cell that holds a descriptor. -/
def State.cmdCell (s : State) (d : Desc) : Option Cell :=
  (s.flow (fCmd (d.cls.toNat % 3))).cells.find? fun c => c.pay.contains (.desc d)

/-- A CMD cell with an uncorrectable error: its descriptors end before the executing block has read them (03 R87). -/
def State.cmdBroken (s : State) (d : Desc) : Bool := ((s.cmdCell d).bind (·.ue)).isSome

/-- The executing block reads the CMD cell of a descriptor, with the error check of 03 R64. -/
def State.readCmd (s : State) (d : Desc) : State :=
  match s.cmdCell d with
  | none => s
  | some c => match s.meet (fCmd (d.cls.toNat % 3)) c with
    | (none, s) => s
    | (some _, s) => s.cmdLost c

/-- A command of the table starts: the descriptor, fetched already or entering now, is judged. A descriptor that has
started, or may not start yet, changes nothing. -/
def CmdSpec.start (k : CmdSpec) (op : Nat) (d : Desc) (data : List Byte) (s : State) : State :=
  let d := { d with op := BitVec.ofNat 8 op }
  let s := if (s.outDesc d.sq d.slot).isSome then s else s.enterDesc d data
  match s.outDesc d.sq d.slot with
  | none => s
  | some o =>
    if o.ph ≠ .fetched ∨ o.d.op.toNat ≠ op ∨ ¬ s.mayStart o.d then s
    else
      if s.cmdBroken o.d then s.readCmd o.d
      else
        k.judge o.d (((s.readCmd o.d).readRecord (fCmd (o.d.cls.toNat % 3)) (· == .desc o.d)).modOut o.d.sq o.d.slot fun o =>
          { o with data := if data.isEmpty then o.data else data })

end Sys2Proof.Machine
end

