-- ==== Sys2Proof/Machine/Crc.lean ====
section
/-! DEFINITION. The checks of records and packets: CRC-32 with the IEEE 802.3 polynomial (12 Table 12-5, 18 R496) and the
packet error code of the two-wire target (17 R480). The bit order of CRC-32 is PRESUMED from the standard it names. -/

set_option linter.unusedVariables false

namespace Sys2Proof

/-- `n` steps of the reflected CRC-32 shift. -/
def crc32Bits : Nat → Word → Word
  | 0, c => c
  | n + 1, c => crc32Bits n (if c.getLsbD 0 then (c >>> 1) ^^^ 0xEDB88320#32 else c >>> 1)

def crc32Step (c : Word) (b : Byte) : Word := crc32Bits 8 (c ^^^ b.setWidth 32)

/-- CRC-32 of a byte string. -/
def crc32 (bs : List Byte) : Word := ~~~ (bs.foldl crc32Step 0xFFFFFFFF#32)

/-- `n` steps of the CRC-8 shift with polynomial x⁸ + x² + x + 1. -/
def crc8Bits : Nat → Byte → Byte
  | 0, c => c
  | n + 1, c => crc8Bits n (if c.getLsbD 7 then (c <<< 1) ^^^ 0x07#8 else c <<< 1)

/-- The packet error code of a byte string. -/
def crc8 (bs : List Byte) : Byte := bs.foldl (fun c b => crc8Bits 8 (c ^^^ b)) 0

end Sys2Proof
end

