-- ==== Sys2Proof/Machine/Session.lean ====
section
/-! DEFINITION. Charging sessions (12 R364 to R380): opening, closing, contexts, calendar time, and the journal entries
they make. -/

set_option linter.unusedVariables false

namespace Sys2Proof.Machine

/-- Units of sample energy in one µWh: a sample's voltage and current are held in 10⁻¹¹ V and 10⁻¹¹ A over 125 µs
(12 R358, R359). -/
def energyUnit : Nat := 288 * 10 ^ 21

/-- Units of sample charge in one µAh. -/
def chargeUnit : Nat := 288 * 10 ^ 10

def uWh (e : Nat) : Nat := e / energyUnit

/-- The calendar value, or 0 while TIME_UNKNOWN (12 R369, 19 R531). -/
def State.cal (s : State) : Quad := if s.bkp.valid then s.bkp.cal else 0

/-! ### Contexts -/

def State.ctx (s : State) (k : Nat) : List Byte := s.ses.ctxs[k]?.getD []

def State.setCtx (s : State) (k : Nat) (b : List Byte) : State :=
  if h : k < 128 then { s with ses := { s.ses with ctxs := s.ses.ctxs.set k b } } else s

/-- STATE of a context (Table 12-5). -/
def State.ctxState (s : State) (k : Nat) : Nat := getLE (s.ctx k) 1 1

def State.ctxId (s : State) (k : Nat) : Nat := getLE (s.ctx k) 8 8

/-- The free context with the lowest index (R365). -/
def State.freeCtx (s : State) : Option Nat := (List.range 128).find? fun k => s.ctxState k == 0

/-! ### Journal work -/

/-- CLOSE_SEQ of a journal entry of a close. -/
def closeSeqOf : JrnEntry → Option Nat
  | .close b => some (getLE b 56 8)
  | _ => none

/-- The waiting work with one more entry; a CLOSE stands before the first CLOSE of a higher CLOSE_SEQ (R372). -/
def addJournal (e : JrnEntry) (l : List JrnEntry) : List JrnEntry :=
  match closeSeqOf e with
  | none => l ++ [e]
  | some n =>
    let before := l.takeWhile fun x => match closeSeqOf x with | some m => decide (m ≤ n) | none => true
    before ++ [e] ++ l.drop before.length

/-- An entry for W0 to write (R372); it takes a cell of JRN where the flow has credit, and waits for one without (03 Table 3-2,
R77). -/
def State.journal (s : State) (e : JrnEntry) : State :=
  let s := s.sendCell fJrn (.jrn e)
  { s with ses := { s.ses with pend := addJournal e s.ses.pend } }

/-- W0 has taken an entry: its JRN cell is freed, or it waits for one no longer. -/
def State.jrnTaken (s : State) (e : JrnEntry) : State :=
  match (s.flow fJrn).cells.find? fun c => c.pay.contains (.jrn e) with
  | some c => (s.modFlow fJrn fun x => { x with cells := x.cells.erase c, loose := x.loose ++ [c.idx] }).freeCell fJrn c.idx
  | none => s.modFlow fJrn fun x => { x with waiters := x.waiters.erase (.cell (.jrn e)) }

/-- W0 runs again: the waiting closes are written first, in order of CLOSE_SEQ (01 R16, 20 Table 20-4 W6). -/
def State.closesFirst (s : State) : State :=
  { s with ses := { s.ses with
      pend := s.ses.pend.filter (fun e => (closeSeqOf e).isSome) ++ s.ses.pend.filter (fun e => (closeSeqOf e).isNone) } }

/-! ### The session of a port -/

/-- The fields of the port's profile in a session's context (R368). -/
def Port.profBytes (q : Port) (b : List Byte) : List Byte :=
  let e := (q.pod.copy.map PodEntry.bytes).getD []
  let b := putLE b 104 8 (if q.pod.idValid then q.pod.digest.toNat else 0)
  let b := putLE b 112 4 (getLE e 28 4)
  let b := putLE b 116 4 (getLE e 32 4)
  let b := putLE b 120 2 q.pod.slot.toNat
  let b := putLE b 122 1 q.pod.src.toNat
  putLE b 123 1 q.pod.auth.toNat

/-- The metered fields of a session's context (R368). -/
def Port.meterBytes (q : Port) (b : List Byte) : List Byte :=
  let b := putLE b 64 8 (uWh q.mtr.ses)
  let b := putLE b 80 8 (q.mtr.charge / chargeUnit)
  let b := putLE b 125 1 (ofI 8 (q.mtr.tMax.getD 0))
  let b := putLE b 128 2 (ofI 16 q.mtr.vMax)
  putLE b 130 2 (ofI 16 q.mtr.iMax)

/-- The context of the open session changes, in the port slice and where a context is assigned (R365, R368). -/
def State.modSes (s : State) (p : PortId) (f : List Byte → List Byte) : State :=
  match (s.port p).mtr.sess with
  | none => s
  | some x =>
    let b := f x.body
    let s := s.modMtr p fun m => { m with sess := some { x with body := b } }
    match x.ctx with
    | some k => s.setCtx k b
    | none => s

/-- R368: the metered fields are copied into the context. -/
def State.sesMeter (s : State) (p : PortId) : State := s.modSes p (s.port p).meterBytes

/-- R368: the profile fields are written. -/
def State.sesProfile (s : State) (p : PortId) : State := s.modSes p (s.port p).profBytes

/-- One more Hard Reset within the session (Table 12-5). -/
def State.sesHardReset (s : State) (p : PortId) : State :=
  s.modSes p fun b => putLE b 126 2 (satN 16 (getLE b 126 2 + 1))

/-- A contract enters the log of the session (R368, Table 12-5 LOG). -/
def State.sesContract (s : State) (p : PortId) (c : Contract) : State :=
  let t := s.now
  s.modSes p fun b =>
    let k := getLE b 132 2
    let o := 136 + 8 * (k % 8)
    let b := putLE b 132 2 (satN 16 (k + 1))
    let b := putLE b 124 1 (getLE b 124 1 ||| (if c.epr then 8 else 0))
    let b := putLE b o 2 (c.mv / 20)
    let b := putLE b (o + 2) 2 (c.maxMa / 10)
    let b := putLE b (o + 4) 1 (c.kind.code + 4 * b2n c.epr)
    putLE b (o + 5) 3 (satN 24 ((t.toNat - getLE b 24 8) / 100000))

/-- Bytes 24 to 31 of SESSION_CLOSED, and of SESSION_RECOVERED, from a context (15 Table 15-4). -/
def closedData (b : List Byte) (ctx : Option Nat) : Quad :=
  evData [(24, 2, getLE b 8 2), (26, 1, ctx.getD 0xFF), (27, 1, getLE b 4 1), (28, 4, satN 32 (getLE b 64 8 / 1000))]

/-- A session opens (R364, R365, R19): it takes the next session ID and the free context of lowest index, or opens
pending; the pre-contract energy moves into it; SESSION_OPENED is entered and the OPEN entry is journaled. A session waits only
where no context is free (DESIGN CHOICE, notes/assumptions/100). -/
def State.openSession (s : State) (p : PortId) : State :=
  if (s.port p).mtr.sess.isSome then s else
  let q := s.port p
  let id := s.ses.epoch.toNat * 2 ^ 32 + s.ses.nextId.toNat
  let k := s.freeCtx
  let pre := uWh q.mtr.pre
  let s := s.event 0x0800 p.val (evData [(24, 2, id), (26, 1, k.getD 0xFF), (28, 4, pre / 1000)])
  let sq := s.tb.seqLast
  let b := List.replicate 256 (0 : Byte)
  let b := putLE b 0 1 1
  let b := putLE b 1 1 1
  let b := putLE b 2 1 p.val
  let b := putLE b 5 1 (k.getD 0)
  let b := putLE b 6 2 q.cc.inst.toNat
  let b := putLE b 8 8 id
  let b := putLE b 16 8 sq.toNat
  let b := putLE b 24 8 s.now.toNat
  let b := putLE b 32 8 s.cal.toNat
  let b := putLE b 72 8 pre
  let b := putLE b 124 1 (if s.bkp.valid then 0 else 1)
  let s := s.modMtr p fun m => { m with
    sess := some { id := BitVec.ofNat 64 id, ctx := k, seqOpen := sq, body := b, port := p.val }
    ses := m.pre, pre := 0, preRun := false, charge := 0, vMax := 0, iMax := 0, tMax := none }
  let s := { s with ses := { s.ses with nextId := s.ses.nextId + 1 } }
  let s := (s.sesMeter p).sesProfile p
  s.journal (.opn (((s.port p).mtr.sess.map (·.body)).getD b) pre)

/-- A closed context is complete: it carries its CRC (Table 12-5). -/
def sealCtx (b : List Byte) : List Byte := putLE b 252 4 (crc32 (getBytes b 0 252)).toNat

/-- A closed session goes to its context, STATE 2, and its CLOSE entry waits for W0 (R366, R372). -/
def State.storeClose (s : State) (k : Nat) (b : List Byte) : State :=
  let b := sealCtx (putLE b 1 1 2)
  (s.setCtx k b).journal (.close b)

/-- The open session of a port closes for a reason of Table 12-4 (R366): every field is written, SESSION_CLOSED is
entered, and a pending session's close waits in the port slice (R365). -/
def State.closeSession (s : State) (p : PortId) (r : EndReason) : State :=
  if (s.port p).mtr.sess.isNone then s else
  let t := s.now
  let c := s.cal
  let unk := if s.bkp.valid then 0 else 2
  let s := (s.sesMeter p).sesProfile p
  let s := s.modSes p fun b =>
    let b := putLE b 3 1 1
    let b := putLE b 4 1 r.code
    let b := putLE b 40 8 t.toNat
    let b := putLE b 48 8 c.toNat
    putLE b 124 1 (getLE b 124 1 ||| unk)
  match (s.port p).mtr.sess with
  | none => s
  | some x =>
    let s := s.event 0x0801 p.val (closedData x.body x.ctx)
    let b := putLE x.body 56 8 s.tb.seqLast.toNat
    let s := s.modMtr p fun m => { m with sess := none }
    match x.ctx with
    | some k => s.storeClose k b
    | none => s.modMtr p fun m => { m with waiting := m.waiting ++ [{ x with body := b, closed := true }] }

/-! ### A context becomes free (R380) -/

/-- Sessions without a context: open and pending, or closed while pending. -/
def State.pendingSes (s : State) : List (PortId × Ses) :=
  (List.finRange 16).flatMap fun p =>
    let m := (s.port p).mtr
    (m.waiting ++ m.sess.toList).filterMap fun x => if x.ctx.isNone then some (p, x) else none

/-- The pending session with the lowest OPEN_SEQ. -/
def firstPending : List (PortId × Ses) → Option (PortId × Ses)
  | [] => none
  | x :: r => match firstPending r with
    | none => some x
    | some y => if x.2.seqOpen ≤ y.2.seqOpen then some x else some y

/-- A freed context goes to the pending session of lowest OPEN_SEQ, else to the next flash-only session, else joins
the free contexts (R365, R380). -/
def State.recycle (s : State) (k : Nat) : State :=
  match firstPending s.pendingSes with
  | some (p, x) =>
    let b := putLE (putLE x.body 5 1 k) 124 1 (getLE x.body 124 1 ||| 0x10)
    if x.closed then
      (s.modMtr p fun m => { m with waiting := m.waiting.filter fun y => y.id != x.id }).storeClose k b
    else (s.modMtr p fun m => { m with sess := some { x with ctx := some k, body := b } }).setCtx k b
  | none =>
    match s.ses.flashOnly with
    | b :: r =>
      let b := putLE (putLE b 1 1 3) 5 1 k
      { s with ses := { s.ses with flashOnly := r } }.setCtx k b
    | [] => s.setCtx k []

/-! ### Calendar time (R370, R371) -/

/-- The calendar value that a Timebase count had, from the pair (C0, T0). -/
def fixCal (c0 t0 : Quad) (tb : Nat) : Nat :=
  ((c0.toNat : Int) + ((tb : Int) - t0.toNat) * 65536 / 1000000).toNat % 2 ^ 64

/-- A context or port slice of the boot epoch with its unknown times fixed, and whether there was one. -/
def fixBytes (epoch : Word) (c0 t0 : Quad) (b : List Byte) : List Byte × Bool :=
  let fl := getLE b 124 1
  if getLE b 12 4 ≠ epoch.toNat ∨ getLE b 1 1 = 0 ∨ fl &&& 3 = 0 then (b, false)
  else
    let b := if fl.testBit 0 then putLE b 32 8 (fixCal c0 t0 (getLE b 24 8)) else b
    let b := if fl.testBit 1 then putLE b 48 8 (fixCal c0 t0 (getLE b 40 8)) else b
    let b := putLE b 124 1 (fl ||| 4)
    (if getLE b 1 1 = 1 then b else sealCtx b, true)

def Ses.fix (epoch : Word) (c0 t0 : Quad) (x : Ses) : Ses := { x with body := (fixBytes epoch c0 t0 x.body).1 }

/-- The first set of the calendar in a boot epoch that has reported TIME_UNKNOWN fixes its sessions and journals one
TIME_FIX entry. -/
def State.timeFix (s : State) (c0 : Quad) : State :=
  if ¬ s.ses.unknown ∨ s.ses.fixed.isSome then s else
  let t0 := s.now
  let e := s.ses.epoch
  let n := ((List.range 128).filter fun k => (fixBytes e c0 t0 (s.ctx k)).2).length
    + (s.pendingSes.filter fun x => (fixBytes e c0 t0 x.2.body).2).length
  let s := s.forPorts fun s p => s.modMtr p fun m =>
    { m with sess := m.sess.map (Ses.fix e c0 t0), waiting := m.waiting.map (Ses.fix e c0 t0) }
  let s := { s with ses := { s.ses with ctxs := s.ses.ctxs.map (fun b => (fixBytes e c0 t0 b).1)
                                        fixed := some (c0, t0) } }
  (s.journal (.timeFix e t0 c0)).eventD 0x0805 [(24, 4, e.toNat), (28, 2, n)]

/-! ### Commands -/

/-- R379, Table 12-8: SESSION_READ. -/
def sessionReadSpec : CmdSpec where
  params _ d := if d.onlyAt [(8, 1), (16, 8)] ∧ d.le 8 1 < 128 ∧ d.le 16 8 % 64 = 0 then none else some stBadParam
  legal s d := if s.ses.recovDone ∧ s.ctxState (d.le 8 1) ≠ 0 then none else some 13
  byte28 s d := s.ctxState (d.le 8 1)
  go s d :=
    let b := getBytes (s.ctx (d.le 8 1)) 0 256
    (s.hostPut (BitVec.ofNat 64 (d.le 16 8)) b).finish d stOk (BitVec.ofNat 64 (getLE b 8 8))

/-- R379, Table 12-8: SESSION_ACK; the command completes when its ACK entry has been written. -/
def sessionAckSpec : CmdSpec where
  params s d :=
    if d.onlyAt [(8, 1), (16, 8)] ∧ d.le 8 1 < 128 ∧ s.ctxState (d.le 8 1) ≠ 0 ∧ s.ctxId (d.le 8 1) = d.le 16 8
    then none else some stBadParam
  legal s d := if s.ctxState (d.le 8 1) = 3 then none else some 13
  byte28 s d := s.ctxState (d.le 8 1)
  go s d := s.journal (.ack (BitVec.ofNat 64 (d.le 16 8)) d.sq d.slot (d.le 8 1))

def execSessionRead (d : Desc) (s : State) : Res := .next (sessionReadSpec.start 0x10 d [] s)
def execSessionAck (d : Desc) (s : State) : Res := .next (sessionAckSpec.start 0x11 d [] s)

/-- SESSION_CONTEXT_UPDATE (R368): 1 s has passed while STREAM_EN is 0. -/
def execSessionContextUpdate (p : PortId) (s : State) : Res :=
  .next (if (s.port p).mtr.now.bit 0 then s else s.sesMeter p)

end Sys2Proof.Machine
end

