-- ==== Sys2Proof/Machine/Journal.lean ====
section
/-! DEFINITION. The session journal in flash (12 Table 12-6, R371 to R378): its entries, writing and reading back,
making room, snapshots, and the scan at boot. -/

set_option linter.unusedVariables false

namespace Sys2Proof.Machine

/-- Units of the journal area: all flash above 0x005A_0000, in units of 64 bytes (18 R495). -/
def State.jrnArea (s : State) : Nat := (s.img.flashMib * 2 ^ 20 - 0x5A0000) / 64

/-- KIND and body of an entry; a CLOSE takes its session's context as it stands now (Table 12-6). -/
def State.entryBody (s : State) : JrnEntry → Nat × List Byte
  | .opn b pre => (1, putLE (putLE (putLE (putLE (putLE (putLE (putLE (putLE [] 0 8 (getLE b 8 8)) 8 1 (getLE b 2 1))
      9 1 (getLE b 5 1)) 10 2 (getLE b 6 2)) 12 8 (getLE b 24 8)) 20 8 (getLE b 32 8)) 28 8 pre) 36 8 (getLE b 16 8))
  | .snap id t c e q => (2, leBytes 8 id.toNat ++ leBytes 8 t.toNat ++ leBytes 8 c.toNat ++ leBytes 8 e ++ leBytes 8 q)
  | .close b =>
    let k := (List.range 128).find? fun k => s.ctxState k ≠ 0 && s.ctxId k == getLE b 8 8
    (3, getBytes ((k.map s.ctx).getD b) 0 256)
  | .ack id _ _ _ => (4, leBytes 8 id.toNat)
  | .timeFix e t c => (5, leBytes 4 e.toNat ++ leBytes 4 0 ++ leBytes 8 t.toNat ++ leBytes 8 c.toNat)
  | .counters b => (6, getBytes b 0 256)

/-- Units an entry of a KIND takes: one or five. -/
def kindUnits (k : Nat) : Nat := if k = 3 ∨ k = 6 then 5 else 1

/-- The bytes of an entry, header and CRC-32 included. -/
def State.entryBytes (s : State) (e : JrnEntry) : JrnUnit :=
  let (k, b) := s.entryBody e
  let n := kindUnits k
  let h := leBytes 1 k ++ leBytes 1 n ++ leBytes 2 0 ++ leBytes 4 s.ses.epoch.toNat ++ leBytes 8 s.ses.jrnCount.toNat
  let x := getBytes (h ++ b) 0 (64 * n - 4)
  { kind := k, bytes := x ++ leBytes 4 (crc32 x).toNat }

def unitsOf (u : JrnUnit) : Nat := kindUnits u.kind
def totalUnits (l : List JrnUnit) : Nat := l.foldl (fun a u => a + unitsOf u) 0

/-- SESSION_ID of an OPEN, SNAP, CLOSE or ACK entry. -/
def unitId (u : JrnUnit) : Nat := if u.kind = 3 then getLE u.bytes 24 8 else getLE u.bytes 16 8

def hasKind (k id : Nat) (l : List JrnUnit) : Bool := l.any fun u => u.kind == k && unitId u == id

/-- Whether erasing must copy the entry forward (R375): a CLOSE with no ACK, the last COUNTERS, and the OPEN and SNAP
entries of a session that has no CLOSE. -/
def protectedUnit (l : List JrnUnit) (u : JrnUnit) : Bool :=
  if u.kind = 3 then !hasKind 4 (unitId u) l
  else if u.kind = 6 then (l.reverse.find? fun v => v.kind == 6) == some u
  else if u.kind = 1 ∨ u.kind = 2 then !hasKind 3 (unitId u) l && !hasKind 4 (unitId u) l
  else false

/-- The oldest entries that lie within one 4 KiB sector. -/
def firstSector : Nat → List JrnUnit → List JrnUnit
  | _, [] => []
  | room, u :: r => if unitsOf u ≤ room then u :: firstSector (room - unitsOf u) r else []

/-- Sectors erased, oldest first and at most `n` of them, until `need` units fit beside the erased sector kept ahead;
`none` where nothing more may be erased (R375, R376). -/
def makeRoom (area need : Nat) : Nat → List JrnUnit → Option (List JrnUnit)
  | 0, l => if totalUnits l + need + 64 ≤ area then some l else none
  | n + 1, l =>
    if totalUnits l + need + 64 ≤ area then some l
    else
      let f := firstSector 64 l
      makeRoom area need n (l.drop f.length ++ f.filter (protectedUnit l))

/-- JRN_FULL follows the share of unacknowledged CLOSE entries; JOURNAL_FULL is entered as it rises above 75 % (R376). -/
def State.checkFull (s : State) : State :=
  let used := totalUnits (s.ses.units.filter fun u => u.kind == 3 && !hasKind 4 (unitId u) s.ses.units)
  let full := decide (s.jrnArea * 75 < used * 100)
  let was := s.ses.jrnFull
  let s := { s with ses := { s.ses with jrnFull := full } }
  if full ∧ ¬ was then s.eventD 0x0803 [(24, 1, used * 100 / s.jrnArea)] else s

/-- What follows an entry read back intact: a closed context moves to STATE 3 (R372), an acknowledged one is freed and
its command completes (Table 12-8). -/
def State.afterEntry (s : State) : JrnEntry → State
  | .close b =>
    match (List.range 128).find? fun k => s.ctxState k == 2 && s.ctxId k == getLE b 8 8 with
    | some k => s.setCtx k (putLE (s.ctx k) 1 1 3)
    | none => s
  | .ack id sq slot k =>
    if s.ctxState k = 3 ∧ s.ctxId k = id.toNat then (s.recycle k).finish { sq, slot } stOk id
    else s.finish { sq, slot } stBadParam id
  | _ => s

/-- One attempt to write and read back the first waiting entry. The write passes through FLS to the QSPI controller, and waits while
that flow has no credit (03 Table 3-2). The cell comes back at once (DESIGN CHOICE, notes/assumptions/21). -/
def State.tryEntry (s : State) (ok : Bool) : State :=
  match s.ses.pend with
  | [] => s
  | e :: r =>
    let u := s.entryBytes e
    match makeRoom s.jrnArea (unitsOf u) (s.jrnArea / 64) s.ses.units, s.passCell fFls with
    | none, _ => s
    | some _, none => s.countNoCredit fFls
    | some l, some s =>
      let addr := 0x5A0000 + 64 * (s.ses.wpos % s.jrnArea)
      let g := { s.ses with wpos := s.ses.wpos + unitsOf u }
      if ok then
        let s := { s with ses := { g with units := l ++ [u], jrnCount := g.jrnCount + 1, pend := r, tries := 0
                                          jrnFault := false } }
        let s := s.jrnTaken e
        (s.emit (.flashWrite addr (64 * unitsOf u))).afterEntry e |>.checkFull
      else if g.jrnFault then { s with ses := g }
      else
        let s := { s with ses := { g with tries := g.tries + 1, jrnFault := decide (3 ≤ g.tries) } }
        if s.ses.jrnFault then s.eventD 0x0802 [(24, 4, addr), (28, 1, s.ses.tries)] else s

/-- W0 runs, so that it takes journal work (01 R16, 12 R372). -/
def State.w0Runs (s : State) : Bool :=
  let c : Core := s.wvl.cores[(0 : Fin 4).val]
  c.st == .run || c.st == .wait

/-- JOURNAL_WRITE (R372 to R376): W0 writes the first waiting entry and reads it back, intact or not; after three
failed rewrites JOURNAL_FAULT is entered. -/
def execJournalWrite (ok : Bool) (s : State) : Res :=
  .next (if s.w0Runs ∧ ¬ s.ses.jrnFault then s.tryEntry ok else s)

/-- JOURNAL_RETRY (R374): 10 s after a fault the attempt is made again. -/
def execJournalRetry (ok : Bool) (s : State) : Res :=
  .next (if s.w0Runs ∧ s.ses.jrnFault then s.tryEntry ok else s)

/-- The COUNTERS entry's bytes: lifetime and hold-up energy of each port (Table 12-6). -/
def State.counterBytes (s : State) : List Byte :=
  (List.finRange 16).flatMap fun p => leBytes 8 (uWh (s.port p).mtr.life) ++ leBytes 8 (uWh (s.port p).mtr.hold)

/-- SNAPSHOT (R373): energy and Timebase count of every open session are copied at one instant, and a SNAP entry for
each and one COUNTERS entry wait for W0. -/
def execSnapshot (s : State) : Res :=
  .next (
    let t := s.now
    let s := s.forPorts fun s p => (s.sesMeter p).modSes p fun b =>
      putLE (putLE b 88 8 t.toNat) 96 8 (getLE b 64 8)
    let s := s.forPorts fun s p =>
      match (s.port p).mtr.sess with
      | none => s
      | some x => s.journal (.snap x.id t s.cal (getLE x.body 96 8) (getLE x.body 80 8))
    s.journal (.counters s.counterBytes))

/-! ### The scan at boot -/

/-- Entries whose CRC holds. -/
def intactUnit (u : JrnUnit) : Bool :=
  let n := u.bytes.length
  decide (4 ≤ n) && getLE u.bytes (n - 4) 4 == (crc32 (u.bytes.take (n - 4))).toNat

/-- The context of an INTERRUPTED session from its OPEN entry and its last SNAP (R377). -/
def interrupted (l : List JrnUnit) (u : JrnUnit) : List Byte :=
  let id := unitId u
  let sn := (l.reverse.find? fun v => v.kind == 2 && unitId v == id).map (·.bytes)
  let o := u.bytes
  let e := (sn.map fun b => getLE b 40 8).getD (getLE o 44 8)
  let tb := (sn.map fun b => getLE b 24 8).getD (getLE o 28 8)
  let cal := (sn.map fun b => getLE b 32 8).getD (getLE o 36 8)
  let b := List.replicate 256 (0 : Byte)
  let b := putLE b 0 1 1
  let b := putLE b 1 1 2
  let b := putLE b 2 1 (getLE o 24 1)
  let b := putLE b 3 1 2
  let b := putLE b 4 1 10
  let b := putLE b 6 2 (getLE o 26 2)
  let b := putLE b 8 8 id
  let b := putLE b 16 8 (getLE o 52 8)
  let b := putLE b 24 8 (getLE o 28 8)
  let b := putLE b 32 8 (getLE o 36 8)
  let b := putLE b 40 8 tb
  let b := putLE b 48 8 cal
  let b := putLE b 64 8 e
  let b := putLE b 72 8 (getLE o 44 8)
  let b := putLE b 80 8 ((sn.map fun b => getLE b 48 8).getD 0)
  let b := putLE b 88 8 ((sn.map fun b => getLE b 24 8).getD 0)
  let b := putLE b 96 8 e
  putLE b 124 1 ((if getLE o 36 8 = 0 then 1 else 0) + (if cal = 0 then 2 else 0))

/-- Every TIME_FIX entry applied to a context of its own boot epoch. -/
def applyFixes (l : List JrnUnit) (b : List Byte) : List Byte :=
  (l.filter fun u => u.kind == 5).foldl (fun b u =>
    (fixBytes (BitVec.ofNat 32 (getLE u.bytes 16 4)) (BitVec.ofNat 64 (getLE u.bytes 32 8))
      (BitVec.ofNat 64 (getLE u.bytes 24 8)) b).1) b

/-- The order of R378: boot epoch, then INTERRUPTED before CLOSED, then CLOSE_SEQ. -/
def recKey (b : List Byte) : Nat := (getLE b 12 4 * 2 + (if getLE b 3 1 = 2 then 0 else 1)) * 2 ^ 64 + getLE b 56 8

def insertRec (b : List Byte) : List (List Byte) → List (List Byte)
  | [] => [b]
  | c :: r => if recKey b < recKey c then b :: c :: r else c :: insertRec b r

/-- JOURNAL_SCAN (R377, R378): interrupted sessions are found and closed, unacknowledged closes are loaded into at most
112 contexts, counters are restored, and RECOVERY_DONE is set. -/
def State.scanJournal (s : State) : State :=
  let l := s.ses.units.filter intactUnit
  let inter := ((l.filter fun u => u.kind == 1 && !hasKind 3 (unitId u) l && !hasKind 4 (unitId u) l).map
    (interrupted l)).map fun b => sealCtx (applyFixes l b)
  let closes := ((l.filter fun u => u.kind == 3 && !hasKind 4 (unitId u) l).map
    fun u => putLE ((u.bytes.drop 16).take 256) 1 1 3).map (applyFixes l)
  let all := (inter ++ closes).foldl (fun a b => insertRec b a) []
  let s := { s with ses := { s.ses with units := l, recovered := BitVec.ofNat 8 (satN 8 inter.length)
                                        flashOnly := all.drop 112 } }
  let s := (all.take 112).foldl (fun s b =>
    match s.freeCtx with
    | none => s
    | some k =>
      let b := putLE b 5 1 k
      (s.setCtx k b).event 0x0804 (getLE b 2 1) (closedData b (some k))) s
  let s := inter.foldl (fun s b => s.journal (.close b)) s
  let s := match (l.reverse.find? fun u => u.kind == 6) with
    | none => s
    | some u => s.forPorts fun s p => s.modMtr p fun m =>
      { m with life := getLE u.bytes (16 + 16 * p.val) 8 * energyUnit
               hold := getLE u.bytes (24 + 16 * p.val) 8 * energyUnit }
  { s with ses := { s.ses with recovDone := true } }

end Sys2Proof.Machine
end

