-- ==== Sys2Proof/Machine/Metering.lean ====
section
/-! DEFINITION. Metering (12 R357 to R363): the energy of a sample, interval records and their merging (03 R81), and the
meter and capture streams that drain MTR and WAVE into posted buffers (13 R413, R414). -/

set_option linter.unusedVariables false

namespace Sys2Proof.Machine

/-! ### Streams (R413, R414) -/

/-- The 32 bytes of an interval record (Table 12-2). -/
def ivBytes (r : IvRec) : List Byte :=
  leBytes 1 r.port ++ leBytes 1 r.ses ++ leBytes 2 r.merged ++ leBytes 4 r.eFwd ++ leBytes 8 r.time.toNat
    ++ leBytes 2 (ofI 16 r.vMin) ++ leBytes 2 (ofI 16 r.vMax) ++ leBytes 2 (ofI 16 r.vMean)
    ++ leBytes 2 (ofI 16 r.iMin) ++ leBytes 2 (ofI 16 r.iMax) ++ leBytes 2 (ofI 16 r.iMean) ++ leBytes 4 r.eRev

/-- A stream buffer's descriptor completes with what the buffer holds (R414). -/
def State.endBuf (s : State) (b : StreamBuf) : State :=
  s.finish b.d stOk (evData [(24, 4, b.used), (28, 4, b.items)])

/-- The next port, from `n` round, whose flow has something to take. -/
def nextFull (q : PortId → Bool) (n : Nat) : Option PortId :=
  ((List.finRange 16).find? fun p => decide (n ≤ p.val) && q p).or ((List.finRange 16).find? q)

/-- One item goes to the oldest posted buffer of a stream, or the buffer completes because it does not fit. -/
def State.fillBuf (s : State) (b : StreamBuf) (bytes : List Byte) : StreamBuf × State :=
  ({ b with used := b.used + bytes.length, items := b.items + 1, firstT := some (b.firstT.getD s.now) },
   s.emit (.hostWrite (BitVec.ofNat 64 (b.d.le 8 8 + b.used)) bytes))

/-- An interval record that waited for a cell takes one when the flow has credit again (03 R81). -/
def State.putMerged (s : State) (p : PortId) : State :=
  match (s.port p).mtr.merge with
  | none => s
  | some r =>
    match s.putRecord (fMtr p) (.iv r) with
    | none => s
    | some s => s.modMtr p fun m => { m with merge := none }

/-- An interval cell with an uncorrectable error is dropped; the next record carries the number lost (03 Table 3-5). -/
def State.mtrLost (s : State) (p : PortId) (c : Cell) : State :=
  (s.dropCell (fMtr p) c.idx).modMtr p fun m => { m with lost := m.lost + (c.pay.filter (· != .gone)).length }

def State.pumpMtrN : Nat → State → State
  | 0, s => s
  | n + 1, s =>
    match s.hif.mtrBufs with
    | [] => s
    | b :: r =>
      match nextFull (fun p => !(s.flow (fMtr p)).records.isEmpty) s.hif.mtrNext with
      | none => s
      | some p =>
        if b.d.le 16 4 < b.used + 32 then State.pumpMtrN n (({ s with hif := { s.hif with mtrBufs := r } }).endBuf b)
        else match (s.flow (fMtr p)).cells with
          | [] => s
          | c :: _ => match s.meet (fMtr p) c with
            | (some _, s) => State.pumpMtrN n (s.mtrLost p c)
            | (none, s) => match (s.flow (fMtr p)).head with
              | some (.iv x) =>
                let (b, s) := s.fillBuf b (ivBytes x)
                let s := (s.popRecord (fMtr p)).putMerged p
                State.pumpMtrN n { s with hif := { s.hif with mtrBufs := b :: r, mtrNext := (p.val + 1) % 16 } }
              | _ => State.pumpMtrN n (s.popRecord (fMtr p))

/-- The meter stream moves what it can. -/
def State.pumpMtr (s : State) : State :=
  if ¬ s.hostOn then s else State.pumpMtrN ((List.finRange 16).foldl (fun a p => a + (s.flow (fMtr p)).records.length + 1) s.hif.mtrBufs.length) s

/-- A further cell of a capture frame; the first cell of a frame carries the content of all its cells. -/
def Cell.further (c : Cell) : Bool := c.pay == [.bytes []]

/-- The cells of the frame that a cell of WAVE belongs to. -/
def frameOf (cs : List Cell) (c : Cell) : List Cell :=
  let first := if c.further then (((cs.takeWhile fun y => y.idx != c.idx).filter fun y => !y.further).getLast?.getD c) else c
  first :: ((cs.dropWhile fun y => y.idx != first.idx).drop 1).takeWhile Cell.further

/-- A frame with an uncorrectable error is dropped, one in progress or still waiting for cells included; the next frame carries its
number (03 Table 3-5). -/
def State.waveLost (s : State) (p : PortId) (c : Cell) : State :=
  let x := s.flow (fWave p)
  let frame := frameOf x.cells c
  let last := decide (frame.getLast? = x.cells.getLast?)
  let s := frame.foldl (fun s y => s.dropCell (fWave p) y.idx) s
  let s := if last then s.modFlow (fWave p) fun x => { x with waiters := [] } else s
  s.modWm p fun w => { w with skipped := satN 16 (w.skipped + 1), frame := if frame.any (·.pay.isEmpty) then none else w.frame }

/-- A whole frame stands at the head of the port's WAVE flow, all its cells drawn. -/
def State.frameReady (s : State) (p : PortId) : Option (List Byte) :=
  match (s.flow (fWave p)).cells with
  | c :: r => match c.pay with
    | [.bytes b] => if b.length / 256 ≤ 1 + (r.takeWhile Cell.further).length then some b else none
    | _ => none
  | [] => none

/-- The first cell of the frame at the head of WAVE in which a read meets an uncorrectable error; single-bit errors are corrected
(03 R64). -/
def State.meetFrame (s : State) (p : PortId) : Option Cell × State :=
  match (s.flow (fWave p)).cells with
  | [] => (none, s)
  | c :: _ => (frameOf (s.flow (fWave p)).cells c).foldl (fun (a : Option Cell × State) y =>
    match a.1 with
    | some _ => a
    | none => let m := a.2.meet (fWave p) y; (m.1.map fun _ => y, m.2)) (none, s)

/-- The cells of the frame at the head of WAVE are freed. -/
def State.popFrame (s : State) (p : PortId) (cells : Nat) : State :=
  (List.range cells).foldl (fun s _ => ((s.popCell (fWave p)).map (·.2)).getD s) s

def State.pumpWaveN : Nat → State → State
  | 0, s => s
  | n + 1, s =>
    match s.hif.wavBufs with
    | [] => s
    | b :: r =>
      match nextFull (fun p => (s.frameReady p).isSome) s.hif.wavNext with
      | none => s
      | some p =>
        let f := (s.frameReady p).getD []
        if b.d.le 16 4 < b.used + f.length then State.pumpWaveN n (({ s with hif := { s.hif with wavBufs := r } }).endBuf b)
        else match s.meetFrame p with
        | (some c, s) => State.pumpWaveN n (s.waveLost p c)
        | (none, s) =>
          let (b, s) := s.fillBuf b f
          let s := s.popFrame p (f.length / 256)
          State.pumpWaveN n { s with hif := { s.hif with wavBufs := b :: r, wavNext := (p.val + 1) % 16 } }

def State.pumpWave (s : State) : State :=
  if ¬ s.hostOn then s else State.pumpWaveN ((List.finRange 16).foldl (fun a p => a + (s.flow (fWave p)).cells.length) s.hif.wavBufs.length) s

/-! ### Interval records (R361, R81) -/

/-- Two records merged: energies summed, extremes kept, means weighted by interval (R81). -/
def mergeIv (a b : IvRec) : IvRec :=
  let n : Int := a.merged + b.merged
  { b with merged := satN 16 (a.merged + b.merged), eFwd := satN 32 (a.eFwd + b.eFwd), eRev := satN 32 (a.eRev + b.eRev)
           vMin := min a.vMin b.vMin, vMax := max a.vMax b.vMax, iMin := min a.iMin b.iMin, iMax := max a.iMax b.iMax
           vMean := (a.vMean * a.merged + b.vMean * b.merged) / n, iMean := (a.iMean * a.merged + b.iMean * b.merged) / n
           lost := a.lost + b.lost }

/-- Millivolts from the sample's unit of 10⁻¹¹ V, and milliamperes from 10⁻¹¹ A. -/
def milli (x : Int) : Int := (x + 5 * 10 ^ 7) / 10 ^ 8

/-- The interval that ends now, its fractions of a µWh left to the next. -/
def MtrState.interval (m : MtrState) (p : PortId) (t : Quad) : IvRec :=
  let n : Int := max 1 m.ivN
  { port := p.val, ses := (m.sess.bind (·.ctx)).getD 0xFF, merged := 1, eFwd := satN 32 (uWh m.ivEfwd), time := t
    vMin := milli m.ivVmin, vMax := milli m.ivVmax, vMean := milli (m.ivVsum / n)
    iMin := milli m.ivImin, iMax := milli m.ivImax, iMean := milli (m.ivIsum / n)
    eRev := satN 32 (uWh m.ivErev), lost := m.lost }

/-- Interval accumulators start afresh, with the fractions carried. -/
def MtrState.ivClear (m : MtrState) : MtrState :=
  { m with ivEfwd := m.ivEfwd % energyUnit, ivErev := m.ivErev % energyUnit, ivN := 0, ivVmin := 0, ivVmax := 0
           ivVsum := 0, ivImin := 0, ivImax := 0, ivIsum := 0 }

/-- The means of the interval enter V_MAX, I_MAX and the mean power (Tables 12-5, 12-10). -/
def MtrState.ivMeans (m : MtrState) (r : IvRec) (ms : Nat) : MtrState :=
  { m with vMax := max m.vMax r.vMean, iMax := max m.iMax r.iMean
           pwr := if ms = 0 then m.pwr
                  else (((m.ivEfwd : Int) - m.ivErev) * 3600) / ((energyUnit : Int) * ms) }

/-- An interval ends (R361, R368): a record enters MTR, or merges without credit, while a consumer takes them; the
open session's context is brought up to date. -/
def State.intervalEnd (s : State) (p : PortId) : State :=
  let m := (s.port p).mtr
  let r := m.interval p s.now
  let s := s.modMtr p fun m => { (m.ivMeans r (m.ivN / 8)).ivClear with now := m.cfg }
  let s := s.sesMeter p
  if ¬ (m.now.bit 0 ∨ m.now.bit 2) then s
  else
    let s := s.modMtr p fun m => { m with lost := 0 }
    match (s.port p).mtr.merge with
    | some w => (s.countNoCredit (fMtr p)).modMtr p fun m => { m with merge := some (mergeIv w r) }
    | none =>
      match s.putRecord (fMtr p) (.iv r) with
      | some s => if m.now.bit 0 then s.pumpMtr else s
      | none => (s.countNoCredit (fMtr p)).modMtr p fun m => { m with merge := some r }

/-- METERING_INTERVAL (R361): the interval of PRT_MTR_CFG.INT has passed with the path not OFF. -/
def execMeteringInterval (p : PortId) (s : State) : Res :=
  .next (if (s.port p).ef.path = .off then s else s.intervalEnd p)

/-! ### Samples (R357 to R360) -/

/-- A converted voltage in µV, within the range of 0 to 64 V (R357), with its calibration, in 10⁻¹¹ V (Table 12-10). -/
def MtrState.volts (m : MtrState) (uv : Int) : Int :=
  max 0 (min 64000000 uv) * (100000 + sgn 16 (m.vcal.fld 15 0)) + sgn 16 (m.vcal.fld 31 16) * 10 ^ 7

/-- A converted current in µA, within the range of ±12.5 A (R357), with its calibration, in 10⁻¹¹ A. -/
def MtrState.amps (m : MtrState) (ua : Int) : Int :=
  max (-12500000) (min 12500000 ua) * (100000 + sgn 16 (m.ical.fld 15 0)) + sgn 16 (m.ical.fld 31 16) * 10 ^ 6

/-- The voltage at the metering point (R358). -/
def Port.meterV (q : Port) (v i : Int) : Int :=
  if q.mtr.now.bit 1 then v - i * q.cnv.now.rHarn / 1000 else v

/-- The sums and extremes of the interval with one more sample. -/
def MtrState.ivAdd (m : MtrState) (v i e : Int) : MtrState :=
  let f := m.ivN == 0
  { m with ivN := m.ivN + 1, ivVsum := m.ivVsum + v, ivIsum := m.ivIsum + i
           ivVmin := if f then v else min m.ivVmin v, ivVmax := if f then v else max m.ivVmax v
           ivImin := if f then i else min m.ivImin i, ivImax := if f then i else max m.ivImax i
           ivEfwd := m.ivEfwd + e.toNat, ivErev := m.ivErev + (-e).toNat }

/-- One sample's energy and charge in the accumulators of Table 12-1. -/
def MtrState.sample (m : MtrState) (v i : Int) : MtrState :=
  let e := v * i
  let m := m.ivAdd v i e
  let recent : List (Int × Int) := (m.recent ++ [(v, i)]).drop (m.recent.length + 1 - 8)
  let n : Int := recent.length
  let m := { m with recent, nowMv := milli ((recent.map Prod.fst).foldl (· + ·) 0 / n)
                    nowMa := milli ((recent.map Prod.snd).foldl (· + ·) 0 / n) }
  if e < 0 then { m with hold := m.hold + e.natAbs }
  else
    let m := { m with life := m.life + e.natAbs }
    match m.sess with
    | some _ => { m with ses := m.ses + e.natAbs, charge := m.charge + i.toNat }
    | none => if m.preRun then { m with pre := m.pre + e.natAbs } else m

end Sys2Proof.Machine
end

