-- ==== Sys2Proof/Machine/Converter.lean ====
section
/-! DEFINITION. The port converter (09): set-points and slewing, start and stop, the voltage loop, phase shedding, Swarm,
IR-drop compensation and the counting of suspect periods. -/

set_option linter.unusedVariables false

namespace Sys2Proof.Machine

/-! ### Phases -/

def CnvState.ph (c : CnvState) : Ph → PhaseSt
  | .a => c.a | .b => c.b | .c => c.c

def CnvState.modPh (c : CnvState) (x : Ph) (f : PhaseSt → PhaseSt) : CnvState :=
  match x with
  | .a => { c with a := f c.a } | .b => { c with b := f c.b } | .c => { c with c := f c.c }

def CnvState.modAll (c : CnvState) (f : PhaseSt → PhaseSt) : CnvState := { c with a := f c.a, b := f c.b, c := f c.c }

def phases : List Ph := [.a, .b, .c]

/-- Phases that switch. -/
def CnvState.activePh (c : CnvState) : List Ph := phases.filter fun x => (c.ph x).active

/-- Phases that have not failed. -/
def CnvState.workingPh (c : CnvState) : List Ph := phases.filter fun x => !(c.ph x).failed

/-- The fields that take effect at the start of a port period (R292). -/
def CnvState.takeEff (c : CnvState) : CnvState := { c with eff := { cfg := c.cfg, ilim := c.ilim, swarm := c.swarm, irc := c.irc } }

/-- The offsets of the active phases: 0°, 120° and 240°; 0° and 180°; 0° (R255). -/
def CnvState.place (c : CnvState) : CnvState :=
  match c.activePh with
  | [x, y, z] => ((c.modPh x fun a => { a with deg := 0 }).modPh y fun a => { a with deg := 120 }).modPh z fun a => { a with deg := 240 }
  | [x, y] => (c.modPh x fun a => { a with deg := 0 }).modPh y fun a => { a with deg := 180 }
  | [x] => c.modPh x fun a => { a with deg := 0 }
  | _ => c

/-- The active set of the port period that starts (R255); a phase that is added back is excluded for 32 periods (R278). -/
def CnvState.activate (c : CnvState) : CnvState :=
  (c.modAll fun x =>
    let on := x.next && !x.failed && !x.held
    { x with active := on, excl := if on && !x.active then 32 else x.excl, pwm := if on then x.pwm else .off
             offNow := x.offNow && on, peaked := x.peaked && on }).place

def CnvState.imcal (c : CnvState) : Ph → Word
  | .a => c.now.imcal[0] | .b => c.now.imcal[1] | .c => c.now.imcal[2]

/-- Phase current in mA from IMON in µV: (V − ZERO) ÷ GAIN (R259). -/
def imonMa (w : Word) (uv : Int) : Int := (uv - 1000 * (w.fld 11 0 : Int)) * 10 / (w.fld 27 16 : Int)

/-! ### Set-points (R266 to R268) -/

/-- The final target: set-point plus compensation voltage. -/
def CnvState.finalMv (c : CnvState) : Nat := c.setMv + c.compMv

/-- A trim in progress ends with a status (R268 to R271). -/
def State.endTrim (s : State) (p : PortId) (status : Nat) (result : Quad := 0) : State :=
  match (s.port p).cnv.trim with
  | none => s
  | some t =>
    let s := (s.stop p .trimLimit).modCnv p fun c =>
      { c with trim := none, cnt := if status = stSuperseded then c.cnt.cntInc 2 else c.cnt }
    s.finish { sq := t.sq, slot := t.slot } status result

/-- A new set-point: it replaces the one in force, and a reference still slewing restarts from the VOUT measured last
(R268). -/
def State.setPoint (s : State) (p : PortId) (src : SetSrc) (mv : Nat) (up down : Nat) : State :=
  (s.endTrim p stSuperseded).modCnv p fun c =>
    let ref : Rat := if c.slewing then (c.voutMv : Rat) else c.refMv
    let c := { c with setMv := mv, src, refMv := ref }
    { c with rate := if ref ≤ (c.finalMv : Rat) then up else down
             slewing := c.run && decide (ref ≠ (c.finalMv : Rat)) }

def CnvState.rise (c : CnvState) : Nat := c.slew.fld 7 0
def CnvState.fallRate (c : CnvState) : Nat := c.slew.fld 15 8

/-- A set-point at the rates of PRT_CNV_SLEW (Table 9-3). -/
def State.setPointSlew (s : State) (p : PortId) (src : SetSrc) (mv : Nat) : State :=
  s.setPoint p src mv (s.port p).cnv.rise (s.port p).cnv.fallRate

/-! ### Start and stop (R267) -/

/-- The fields that take effect only at a converter start (R292). -/
def CnvState.latch (c : CnvState) : CnvLatched :=
  { fsw := c.cfg.fld 9 0, lph := c.vloop1.fld 22 16, rHarn := c.irc.fld 7 0
    imcal := #v[c.imcalA, c.imcalB, c.imcalC] }

/-- The converter starts with its set-point at 5.00 V: the reference is the measured VOUT, the accumulator 0, and every
phase is Off until the reference exceeds VOUT (R267, Table 9-3); load history starts afresh (Table 9-8). -/
def State.cnvStart (s : State) (p : PortId) : State :=
  s.modCnv p fun c =>
    let c := (c.modAll fun x => { x with active := !x.failed, next := !x.failed, shed := false, held := false, pwm := .off, excl := 0,
                                         railRun := 0, devRun := 0, underRun := 0, peaked := false, offNow := false, duty := 0 }).place.takeEff
    { c with run := true, now := c.latch, refMv := (c.voutMv : Rat), acc := 0, ePrev := 0, clamped := false
             hist := 0, falls := [], swarmOn := false, swarmHold := 0, began := false, incRun := 0
             slot := 0, perSwarm := false, perSlew := false, pathFail := false
             src := .start, setMv := 5000, rate := c.rise, slewing := true }

/-- An orderly stop: every PWM output goes Off, and the peak-limit comparators are auto-zeroed (R264, R267). -/
def State.cnvStop (s : State) (p : PortId) : State :=
  s.modCnv p fun c =>
    let c := c.modAll fun x => { x with active := false, next := false, shed := false, held := false, pwm := .off, duty := 0
                                        peaked := false, offNow := false, offset := x.offset || c.run }
    { c with run := false, slewing := false, swarmOn := false, clamped := false, src := .stopped, acc := 0
             isoPending := false, isoWait := 0, isoHold := none, isoOk := []
             shuntTotal := phases.any fun x => (c.ph x).failed }

/-- Firefly: all PWM outputs go to the Off level (11 Table 11-8). -/
def CnvState.pwmOff (c : CnvState) : CnvState := c.modAll fun x => { x with pwm := .off }

/-! ### The voltage loop (R261, R262) -/

/-- The loop limit in force: the sequencer's, lowered to IMAX × n_w ÷ 3, down to 10 mA, when a phase has failed. -/
def Port.iSlow (q : Port) : Nat :=
  let n := q.cnv.workingPh.length
  if q.cnv.isoPending then min q.cnv.ilSeq (q.pol.limNow.fld 15 8 * 50 * 2 / 3 / 10 * 10)
  else if n = 3 then q.cnv.ilSeq else min q.cnv.ilSeq (q.pol.limNow.fld 15 8 * 50 * n / 3 / 10 * 10)

/-- One update of the voltage loop (R261). -/
def CnvState.loop (c : CnvState) (iSlow : Nat) : CnvState :=
  let n := max 1 c.activePh.length
  let e : Int := c.refMv.floor - c.voutMv
  let kp : Rat := (c.vloop0.fld 15 0 : Rat) / 256
  let ki : Rat := (c.vloop0.fld 31 16 : Rat) / 65536
  let kd : Rat := (c.vloop1.fld 15 0 : Rat) / 256
  let acc := if c.clamped then c.acc else c.acc + ki * (e : Rat)
  let dem := max (kp * (e : Rat) + acc + kd * ((e - c.ePrev : Int) : Rat)) (-1000 * (n : Rat))
  let cl := min dem (iSlow : Rat)
  { c with acc, clamped := decide (cl < dem), share := cl / (n : Rat), ePrev := e }

/-- The reference moves toward the final target for one update interval, 1 ÷ (n × FSW) (Table 9-2, Table 9-3). -/
def CnvState.move (c : CnvState) : CnvState :=
  let n := max 1 c.activePh.length
  let step : Rat := (100 * c.rate : Rat) / ((n * max 1 c.now.fsw : Nat) : Rat)
  let t : Rat := (c.finalMv : Rat)
  let r := if c.refMv < t then min t (c.refMv + step) else max t (c.refMv - step)
  { c with refMv := r, slewing := decide (r ≠ t) }

/-- VOUT with the divider correction (R285), in steps of 0.025 %. -/
def corrected (corr : Int) (mv : Int) : Int := mv * (4000 + corr) / 4000

/-- The reference falls. -/
def CnvState.falling (c : CnvState) : Bool := c.slewing && decide ((c.finalMv : Rat) < c.refMv)

/-- Continuous conduction (R258). -/
def CnvState.continuous (c : CnvState) : Bool := c.swarmOn || c.src == .holdup || !c.eff.cfg.bit 10 || c.falling

/-- The current at which a phase that is Low goes Off for the rest of its period: 0 A in diode emulation, -1.0 A in continuous
conduction (R258). While the reference rises with DEM_EN set the rule names neither (notes/assumptions/95). -/
def CnvState.offAt (c : CnvState) : Option Int :=
  if c.continuous then some (-1000) else if c.slewing then none else some 0

/-- A phase that has reached the current of `offAt` while Low is Off until its next period (R258). -/
def CnvState.turnOff (c : CnvState) (low : Option Int) (x : PhaseSt) : PhaseSt :=
  match low, c.offAt with
  | some i, some k => if i ≤ k ∧ x.active then { x with offNow := true, pwm := .off } else x
  | _, _ => x

/-- The duty of a phase: the feed-forward value VOUT ÷ BUSIN and what the phase current loop adds, High for at least 40 ns and
Low or Off for at least 100 ns of the period (R256, Table 9-2). -/
def CnvState.dutyOf (c : CnvState) (busin ma : Int) : Rat :=
  let lo : Rat := (40 * c.now.fsw : Nat) / 1000000
  let hi : Rat := 1 - (100 * c.now.fsw : Nat) / 1000000
  let ff : Rat := if 0 < busin then (c.voutMv : Rat) / (busin : Rat) else hi
  max lo (min hi (ff + Config.phaseLoop c.now.lph (c.share - (ma : Rat))))

/-- The part of its period that a phase has run at the moment a phase at offset `d` starts its own (R255). -/
def PhaseSt.elapsed (x : PhaseSt) (d : Nat) : Rat := ((d + 360 - x.deg) % 360 : Nat) / 360

/-- The PWM level of a phase at the start of the period of the phase at offset `d`: Off outside the active set and before the
first High level is due (R267); High in Swarm (R275); Off after 0 A or the valley limit (R258); Low after the peak limit
(R264); else High for its duty and then Low (R256). Levels are those at an update (DESIGN CHOICE, notes/assumptions/49). -/
def CnvState.level (c : CnvState) (d : Nat) (x : PhaseSt) : PwmLevel :=
  if ¬ x.active ∨ ¬ c.began then .off
  else if c.swarmOn then .high
  else if x.offNow then .off
  else if x.peaked then .low
  else if x.elapsed d < x.duty then .high else .low

/-- The measured total current: the phase sum, or the shunt in the total-current role (R262). -/
def CnvState.total (c : CnvState) (shunt : Int) : Int :=
  if c.shuntTotal then shunt else (c.activePh.map fun x => (c.ph x).ma).foldl (· + ·) 0

/-! ### Suspect periods (R278 to R281) -/

/-- The sum of the active phases' currents is within 10 % + 150 mA of the shunt current (R280). -/
def CnvState.consistent (c : CnvState) (shunt : Int) : Bool :=
  let sum := (c.activePh.map fun x => (c.ph x).ma).foldl (· + ·) 0
  decide ((sum - shunt).natAbs * 10 ≤ shunt.natAbs + 1500)

/-- The other active phases of a port with three. -/
def CnvState.others (c : CnvState) (x : Ph) : List Ph := c.activePh.filter (· ≠ x)

/-- Rule 2 of R279: three phases active, the other two mean at least 0.5 A and lie within 40 % of it, and this one differs
from it by more than 40 %. -/
def CnvState.deviates (c : CnvState) (x : Ph) : Bool :=
  match c.activePh.length, c.others x with
  | 3, [y, z] =>
    let s := (c.ph y).ma + (c.ph z).ma
    decide (1000 ≤ s) && decide (10 * ((c.ph y).ma - (c.ph z).ma).natAbs ≤ 4 * s.natAbs)
      && decide (4 * s.natAbs < 10 * (2 * (c.ph x).ma - s).natAbs)
  | _, _ => false

/-- Rule 3 of R279: the shunt current exceeds 30 % of IMAX and the phase carries less than 5 % of it. -/
def CnvState.underShare (c : CnvState) (x : Ph) (shunt : Int) (imax : Nat) : Bool :=
  decide ((3 * imax : Int) < 10 * shunt) && decide (20 * (c.ph x).ma < shunt)

/-- The port period that ends counts for a phase (R278). -/
def CnvState.counts (c : CnvState) (x : Ph) : Bool :=
  c.run && (c.ph x).active && !c.perSwarm && !c.perSlew && (c.ph x).excl == 0

def runNext (counted hit : Bool) (n : Nat) : Nat := if !counted then n else if hit then min 16 (n + 1) else 0

/-- The runs of R279 and R281 after one period of the port. -/
def CnvState.suspect (c : CnvState) (m : CnvMeas) (imax : Nat) : CnvState :=
  let im : Ph → Int := fun x => match x with | .a => m.imA | .b => m.imB | .c => m.imC
  let step : Ph → PhaseSt := fun x =>
    let y := c.ph x
    let k := c.counts x
    { y with railRun := runNext k (decide (im x < 200000) || decide (2300000 < im x)) y.railRun
             devRun := runNext k (c.deviates x) y.devRun
             underRun := runNext k (c.underShare x m.shunt imax) y.underRun
             excl := y.excl - 1 }
  let k := c.run && !c.perSwarm && !c.perSlew && c.activePh.all fun x => c.counts x
  { c with a := step .a, b := step .b, c := step .c
           incRun := runNext k (!c.consistent m.shunt) c.incRun }

/-- One period of load history (R276): counted while the reference is steady and no Swarm acts. -/
def CnvState.history (c : CnvState) (fall : Nat) : CnvState :=
  if c.run ∧ ¬ c.perSlew ∧ ¬ c.perSwarm then
    { c with hist := min 256 (c.hist + 1), falls := (c.falls ++ [fall]).drop (c.falls.length + 1 - 256) }
  else c

/-- The slope threshold in force (R276). -/
def CnvState.slopeNow (c : CnvState) : Nat :=
  let k := c.eff.swarm.fld 7 0
  if c.hist < 256 then k else min (4 * k) (max k (2 * c.falls.foldl max 0))

/-- A shed phase is added back from the next period once the current exceeds its threshold by 0.3 A (R257). -/
def CnvState.unshed (c : CnvState) : CnvState :=
  let shed := phases.filter fun x => (c.ph x).shed
  let back (x : Ph) (c : CnvState) : CnvState := c.modPh x fun y => { y with shed := false, next := true }
  match shed with
  | [x] => if (c.eff.ilim.fld 15 8 * 50 + 300 : Int) < c.totMa then back x c else c
  | [x, y] =>
    if (c.eff.ilim.fld 15 8 * 50 + 300 : Int) < c.totMa then back y (back x c)
    else if (c.eff.ilim.fld 23 16 * 50 + 300 : Int) < c.totMa then back x c else c
  | _ => c

/-- The measurements of an update taken in: VOUT, at most the 57.6 V of full scale (R260), phase currents, total current. -/
def CnvState.measure (c : CnvState) (m : CnvMeas) : CnvState :=
  let v := min m.vout 57600
  let c := { c with voutRaw := v, voutMv := corrected c.divCorr v }
  let c := { c with a := { c.a with ma := imonMa (c.imcal .a) m.imA, imonUv := m.imA }
                    b := { c.b with ma := imonMa (c.imcal .b) m.imB, imonUv := m.imB }
                    c := { c.c with ma := imonMa (c.imcal .c) m.imC, imonUv := m.imC } }
  { c with totMa := c.total m.shunt }

/-- A port period ends and the next one starts: the runs of the one that ends, the fields and the active set of the next
(R255, R276, R278, R292). -/
def CnvState.newPeriod (c : CnvState) (m : CnvMeas) (imax : Nat) : CnvState :=
  let c := ((c.suspect m imax).history m.fall).takeEff.activate
  { c with swarmHold := c.swarmHold - 1, isoWait := c.isoWait - 1, perSwarm := c.swarmOn, perSlew := c.slewing }

/-- The phase at a place of the active set starts its period: it takes its duty, and the levels are those of this moment. -/
def CnvState.startPhase (c : CnvState) (busin : Int) : CnvState :=
  let go (c : CnvState) (x : Ph) : CnvState :=
    c.modPh x fun y => { y with duty := c.dutyOf busin y.ma, peaked := false, offNow := false }
  match c.activePh[c.slot]? with
  | some x =>
    let c := go c x
    let d := (c.ph x).deg
    c.modAll fun y => { y with pwm := c.level d y }
  | none => c.modAll fun y => { y with pwm := .off }

/-- A whole control update of the converter, monitors apart: it stands at the start of one active phase's period (Table 9-2). -/
def Port.update (q : Port) (m : CnvMeas) : CnvState :=
  let c := q.cnv.measure m
  if ¬ c.run then c else
  let c := { c with a := c.turnOff m.lowA c.a, b := c.turnOff m.lowB c.b, c := c.turnOff m.lowC c.c }
  let c := { c with perSwarm := c.perSwarm || c.swarmOn, perSlew := c.perSlew || c.slewing }
  let c := c.unshed
  let fresh := m.first || decide (c.activePh.length ≤ c.slot + 1)
  let c := if fresh then { c.newPeriod m (q.pol.limNow.fld 15 8 * 50) with slot := 0 } else { c with slot := c.slot + 1 }
  let c := c.move
  let c := { c with began := c.began || decide ((c.voutMv : Rat) < c.refMv) }
  let c := if c.swarmOn then c else c.loop q.iSlow
  c.startPhase m.busin

/-- The harness term in mV: shunt current × R_HARN (R288). -/
def Port.harnessMv (q : Port) (shuntMa : Int) : Int := shuntMa * q.cnv.now.rHarn / 1000

/-! ### Shedding, Swarm, peak limit -/

/-- PHASE_SHED (R257): the current has stayed below the threshold for 1 ms. The phase leaves the active set at the start of
the next port period (R255), and its comparator is auto-zeroed while it is Off (R264). -/
def CnvState.shedOne (c : CnvState) : CnvState :=
  let shed := (phases.filter fun x => (c.ph x).shed).length
  let thr : Int := if shed = 0 then c.eff.ilim.fld 15 8 * 50 else c.eff.ilim.fld 23 16 * 50
  if ¬ c.run ∨ ¬ c.eff.cfg.bit 11 ∨ c.slewing ∨ c.continuous ∨ thr ≤ c.totMa ∨ 2 ≤ shed then c
  else match (phases.filter fun x => (c.ph x).next).reverse with
    | x :: _ :: _ => c.modPh x fun y => { y with shed := true, next := false, offset := true }
    | _ => c

def execPhaseShed (p : PortId) (s : State) : Res := .next (s.modCnv p CnvState.shedOne)

/-- A state in which Swarm may fire (R272, R274). -/
def Port.swarmOk (q : Port) : Bool :=
  let c := q.cnv
  c.run && c.eff.cfg.bit 12 && !c.swarmOn && c.src != .holdup && c.swarmHold == 0
    && !(c.clamped && (q.pol.contract.map (·.kind)) == some .pps) && !(q.wm.m[5].below || q.wm.m[5].above)

/-- The slope and depth conditions of R273, with VOUT before the divider correction in mV and its fall over the last 320 ns in
mV/µs. -/
def CnvState.swarmDue (c : CnvState) (vout : Int) (fall : Nat) : Bool :=
  decide (c.slopeNow < fall) && decide (((corrected c.divCorr vout + 10 * (c.eff.swarm.fld 15 8 : Int) : Int) : Rat) < c.refMv)

/-- SWARM_FIRE (R273, R275): with the slope and depth conditions met every working phase goes High, shed phases included, and an
isolation check starts again after 16 periods (R281). -/
def execSwarmFire (dip : SwarmDip) (s : State) : Res :=
  .next (if (s.port dip.port).swarmOk ∧ (s.port dip.port).cnv.swarmDue dip.vout dip.fall then
    s.modCnv dip.port fun c =>
      let c := c.modAll fun x => if x.failed then x else { x with active := true, next := true, shed := false, held := false, pwm := .high
                                                                  excl := if x.active then x.excl else 32 }
      { c with swarmOn := true, cnt := c.cnt.cntInc 0, perSwarm := true, msSwarm := true
               isoWait := if c.isoPending then 16 else 0, isoHold := none, isoOk := [] }
  else s)

/-- SWARM_END (R275): the accumulator is preset to the measured total current and Swarm is held off for four periods
(R274); the phases take their places again at the start of the next port period (`CnvState.activate`). -/
def execSwarmEnd (p : PortId) (s : State) : Res :=
  .next (if (s.port p).cnv.swarmOn then
    s.modCnv p fun c => { c with swarmOn := false, swarmHold := 4, acc := (c.totMa : Rat), clamped := false }
  else s)

/-- PEAK_LIMIT (R264): IMON, in mV, shows a current above PK_LIM; the High level ends, and in Swarm it resumes after
100 ns. This corner is the model's (DESIGN CHOICE, notes/assumptions/122). -/
def execPeakLimit (p : PortId) (ph : Ph) (mv : Nat) (s : State) : Res :=
  .next (
    let c := (s.port p).cnv
    if (c.ph ph).pwm = .high ∧ (c.eff.ilim.fld 7 0 * 50 : Int) < imonMa (c.imcal ph) (1000 * (mv : Int)) then
      s.modCnv p fun c =>
        let c := c.modPh ph fun x => { x with pwm := if c.swarmOn then .high else .low, peaked := !c.swarmOn }
        { c with cnt := if c.swarmOn then c.cnt else c.cnt.cntInc 1 }
    else s)

/-! ### IR-drop compensation (R285 to R287) -/

/-- DIVIDER_CORRECTION (R285): with less than 50 mA for 10 ms, VBUS_SNS ÷ VOUT limited to ±3 %, in 0.025 %. -/
def execDividerCorrection (p : PortId) (vout vsns : Int) (s : State) : Res :=
  .next (if 0 < vout ∧ (s.port p).ef.path = .on ∧ (s.port p).ef.shuntMa.natAbs < 50 then
    s.modCnv p fun c =>
      let k := min 120 (max (-120) ((vsns * 8000 + vout) / (2 * vout) - 4000))
      { c with divCorr := k, voutRaw := vout, voutMv := corrected k vout }
  else s)

/-- The compensation voltage moves toward its value by at most 10 mV, and is 0 while IRC_EN is 0 (R287); the reference then moves
to the final target. This corner is the model's (DESIGN CHOICE, notes/assumptions/122). -/
def CnvState.compStep (c : CnvState) (ma : Int) : CnvState :=
  let want : Nat :=
    match c.rPath with
    | none => 0
    | some r => min (c.eff.irc.fld 15 8 * 10) ((ma.toNat * (r + 100 * c.now.rHarn)) / 100000)
  let v := if ¬ c.eff.cfg.bit 14 then 0 else if c.compMv < want then min want (c.compMv + 10) else max want (c.compMv - 10)
  { c with compMv := v, slewing := c.slewing || (c.run && v != c.compMv), msSwarm := c.swarmOn }

/-- COMPENSATION_SAMPLE (R286, R287): once per millisecond; a sample is taken while the conditions of R286 hold, and the
compensation voltage moves. -/
def execCompensationSample (p : PortId) (vout vsns ma : Int) (s : State) : Res :=
  .next (
    let q := s.port p
    let c := q.cnv
    let take := c.eff.cfg.bit 14 && (q.pol.seq == .ready || q.pol.seq == .noPd) && c.run && !c.slewing
      && decide (500 ≤ ma) && !c.swarmOn && !c.msSwarm
    let first := c.rPath.isNone
    let s := if ¬ take then s else s.modCnv p fun c =>
      let v := (corrected c.divCorr vout - vsns) * 100000 / ma
      let l := (c.samples ++ [v]).drop (c.samples.length + 1 - 64)
      let c := { c with samples := l }
      if l.length < 64 then c
      else
        let r := l.foldl (· + ·) 0 / 64
        if 10000 < r then { c with ircRange := true } else { c with rPath := some r.toNat, ircRange := false }
    let s := s.modCnv p fun c => c.compStep ma
    match (s.port p).cnv.rPath with
    | some r => if first then s.eventP 0x0503 p 0 r else s
    | none => s)

/-! ### The set-point trim (R270) -/

/-- The signed trim of a descriptor in 20 mV units. -/
def trimUnits (d : Desc) : Int := sgn 16 (d.le 8 2)

/-- R270, Table 9-9: SETPOINT_TRIM. -/
def setpointTrimSpec : CmdSpec where
  params s d :=
    let mv := ((s.port d.pid).pol.contract.map (·.mv)).getD 0
    if d.onlyAt [(8, 2)] ∧ ((s.port d.pid).pol.contract.isNone ∨ (trimUnits d).natAbs ≤ mv * 3 / 100 / 20) then none
    else some stBadParam
  legal s d :=
    let q := s.port d.pid
    if q.cc.st ≠ .attachedSrc then some 1
    else if q.pol.seq ≠ .ready then some 2
    else match q.pol.contract with
      | none => some 3
      | some c => if c.kind = .pps then some 3 else none
  go s d :=
    let p := d.pid
    let mv := (((s.port p).pol.contract.map (·.mv)).getD 0 : Int) + 20 * trimUnits d
    let s := s.setPointSlew p .trim mv.toNat
    (s.start p .trimLimit).modCnv p fun c => { c with trim := some { sq := d.sq, slot := d.slot, deltaMv := 20 * trimUnits d } }

def execSetpointTrim (d : Desc) (s : State) : Res := .next (setpointTrimSpec.start 0x08 d [] s)

/-- A trim whose reference has arrived completes once VBUS_SNS less the harness term lies within 0.5 % + 20 mV (R270) and the tracked thresholds are in force (11 R331). -/
def State.trimDone (s : State) (p : PortId) (vsns shunt : Int) : State :=
  let q := s.port p
  match q.cnv.trim with
  | none => s
  | some _ =>
    let v := vsns - q.harnessMv shunt
    if ¬ q.cnv.slewing ∧ ([4, 8, 21].all fun m => ((q.wm.m.toList[m]?).bind (·.loading)).isNone) ∧ (v - q.cnv.setMv).natAbs * 200 ≤ q.cnv.setMv + 4000 then
      s.endTrim p stOk (evData [(24, 2, q.cnv.setMv), (26, 2, v.toNat)])
    else s

end Sys2Proof.Machine
end

