-- ==== Sys2Proof/Machine/Monitor.lean ====
section
/-! DEFINITION. Window monitors (11): which edge is out of window, routing by mode, arming by path state, tracked
thresholds and their loading, waveform capture, and the self-checks of general-class monitors. -/

set_option linter.unusedVariables false

namespace Sys2Proof.Machine

/-! ### One monitor -/

def Wm.lt (w : Wm) : Nat := w.thr.fld 9 0
def Wm.ut (w : Wm) : Nat := w.thr.fld 25 16
def Wm.edgeOn (w : Wm) (e : Edge) : Bool := match e with | .lower => w.cfg.bit 0 | .upper => w.cfg.bit 1
def Wm.thrOf (w : Wm) (e : Edge) : Nat := match e with | .lower => w.lt | .upper => w.ut
def Wm.hyst (w : Wm) : Nat := w.cfg.fld 12 8
def Wm.isOut (w : Wm) : Bool := w.below || w.above
/-- An input code lies beyond a threshold: the one in force, or the one being loaded, against which a crossing may act (R325, R332). -/
def Wm.beyond (w : Wm) (e : Edge) (code : Nat) : Bool :=
  let past (t : Word) : Bool := match e with | .lower => decide (code < t.fld 9 0) | .upper => decide (t.fld 25 16 < code)
  past w.thr || (match w.loading with | some t => past t | none => false)

/-- An input code is within the window again by the hysteresis of the edge that was crossed (R325). -/
def Wm.back (w : Wm) (e : Edge) (code : Nat) : Bool :=
  let in' (t : Word) : Bool := match e with
    | .lower => decide (t.fld 9 0 + w.cfg.fld 12 8 < code) | .upper => decide (code + w.cfg.fld 12 8 < t.fld 25 16)
  in' w.thr || (match w.loading with | some t => in' t | none => false)

def Wm.outOf (w : Wm) (e : Edge) : Bool := match e with | .lower => w.below | .upper => w.above
def Wm.tracked (w : Wm) : Bool := w.cfg.bit 2

/-- Every leg of the eight protection-class monitors has passed one full check (R350). -/
def WmState.legsDone (w : WmState) : Bool := (w.m.toList.take 8).all fun x => x.passed == 3

/-- The destinations of a monitor in a routing mode: bit 0 EVENT, 1 CAPTURE, 2 WAKE, 3 FIREFLY (Table 11-18). -/
def Wm.dest (w : Wm) (m : WmMode) : Nat :=
  match m with
  | .normal => w.route.fld 3 0 | .startup => w.route.fld 7 4 | .recovery => w.route.fld 11 8 | .test => w.route.fld 15 12

def State.wm (s : State) (p : PortId) (m : Fin 32) : Wm := (s.port p).wm.m[m.val]

def State.modMon (s : State) (p : PortId) (m : Fin 32) (f : Wm → Wm) : State :=
  s.modWm p fun w => { w with m := w.m.set m.val (f w.m[m.val]) }

/-- The phase that WM1 to WM3 and WM13 to WM15 watch. -/
def wmPhase (m : Fin 32) : Option Ph :=
  match m.val with
  | 1 | 13 => some .a | 2 | 14 => some .b | 3 | 15 => some .c | _ => none

/-- The monitor is disarmed with an empty routing while its phase is failed (R333). -/
def Port.disarmed (q : Port) (m : Fin 32) : Bool :=
  match wmPhase m with | some x => (q.cnv.ph x).failed | none => false

/-- The path states that arm a protection-class monitor (Table 11-7). -/
def armedIn (path : PathSt) (m : Nat) : Bool :=
  match path with
  | .off | .proving | .opening | .backfeed => m == 0
  | .closing => m ≤ 5 || m == 7
  | .on => m ≤ 7

/-- The routing of a monitor in force now. -/
def Port.destNow (q : Port) (m : Fin 32) : Nat := if q.disarmed m then 0 else (q.wm.m[m.val]).dest q.wm.mode

/-- The monitor drives Firefly now (R338); in TEST the routing set alone decides (R337). -/
def Port.armed (q : Port) (m : Fin 32) : Bool :=
  let ff := (q.destNow m).testBit 3
  if m.val < 8 then
    (if q.wm.mode = .test then ff else !q.disarmed m && armedIn q.ef.path m.val)
  else ff && (q.ef.path == .closing || q.ef.path == .on || q.wm.mode == .test)

/-- An armed monitor is out of window (R342). -/
def Port.armedOut (q : Port) : Bool := (List.finRange 32).any fun m => q.armed m && (q.wm.m[m.val]).isOut

/-- A forced FULL action holds (R348). -/
def Port.forced (q : Port) : Bool := q.wm.m.toList.any (·.forced)

/-- A forced or held Firefly action keeps the path from leaving OFF (R342, R348). -/
def Port.ffHolds (q : Port) : Bool := q.wm.ffActive || q.forced

/-- The cause that a protection-class monitor's trip carries (Table 10-3). -/
def wmCause : Nat → Option TripCause
  | 0 => some .short | 1 => some .phasePeak | 2 => some .phasePeak | 3 => some .phasePeak | 4 => some .vbusOv
  | 5 => some .busin | 6 => some .gateCollapse | 7 => some .connOt | _ => none

/-- The cause that WMC_CFG.TRIP_AS names (Table 11-17). -/
def tripAs : Nat → Option TripCause
  | 1 => some .short | 2 => some .phasePeak | 3 => some .vbusOv | 4 => some .connOt | _ => none

def Port.tripCause (q : Port) (m : Fin 32) : Option TripCause :=
  if m.val < 8 then wmCause m.val else tripAs ((q.wm.m[m.val]).cfg.fld 18 16)

/-! ### Tracked thresholds (R330, R331, Table 11-5) -/

/-- The nearest whole number to `n ÷ d`. -/
def nearest (n d : Int) : Int := (2 * n + d) / (2 * d)

def clampCode (n : Int) : Nat := (min 1023 (max 0 n)).toNat

/-- A monitor told to take new codes: a change of at most 2 steps goes straight to the DAC in use, a larger one is
loaded and settles later (R331). -/
def Wm.load (w : Wm) (lt ut : Nat) : Wm :=
  let t := (w.thr.put 9 0 lt).put 25 16 ut
  if t = w.thr then { w with loading := none }
  else if ((lt : Int) - w.lt).natAbs ≤ 2 ∧ ((ut : Int) - w.ut).natAbs ≤ 2 then { w with thr := t, loading := none }
  else { w with loading := some t }

/-- WM0 from SC_LIM: 512 ± 12.8 × amperes. -/
def trackWm0 (ef : EfState) (w : Wm) : Wm :=
  let d := nearest (64 * (ef.cfg.fld 5 0 : Int)) 10
  w.load (clampCode (512 - d)) (clampCode (512 + d))

/-- WM1 to WM3: ZERO + GAIN × (PK_LIM + PH_MARGIN), at most 2.30 V. -/
def trackPeak (q : Port) (x : Ph) (w : Wm) : Wm :=
  let c := q.cnv.imcal x
  let ma := 50 * (q.cnv.eff.ilim.fld 7 0 + q.wm.trk.fld 4 0)
  let mv4 : Int := min 23000000 ((c.fld 11 0 : Int) * 10000 + c.fld 27 16 * ma)
  w.load w.lt (clampCode (nearest (mv4 * 1024) 24000000))

/-- WM4 from the set-point and the reference; 5.0 V stands for both while the converter is stopped. -/
def trackWm4 (q : Port) (w : Wm) : Wm :=
  let v : Int := if q.cnv.run then max (q.cnv.setMv : Int) q.cnv.refMv.floor else 5000
  let mv100 := v * (100 + q.wm.trk.fld 12 8) + (q.cnv.eff.irc.fld 15 8 * 10 + 500) * 100
  w.load w.lt (clampCode (nearest (mv100 * 16) 100000))

/-- The WM8 edge is held within its window: soft-start, a PPS contract, or the converter stopped (Table 11-5). -/
def Port.wm8Held (q : Port) : Bool :=
  q.ef.softStart || !q.cnv.run || (q.pol.contract.map (·.kind)) == some .pps

def trackWm8 (q : Port) (w : Wm) : Wm :=
  if q.wm8Held then { w with below := false }
  else
    let v : Int := min (q.cnv.setMv : Int) q.cnv.refMv.floor
    w.load (clampCode (nearest ((v * 92 - 50000) * 16) 100000)) w.ut

/-- WM21: 1.10 × reference + 0.5 V through the divider and its correction. -/
def trackWm21 (q : Port) (w : Wm) : Wm :=
  let mv10 := q.cnv.refMv.floor * 11 + 5000
  w.load w.lt (clampCode (nearest (mv10 * 4000 * 100) ((4000 + q.cnv.divCorr) * 10 * 5625)))

/-- `e` to the power `y ÷ 10¹²`, times 10¹², for `y` not negative: `n` terms of its series. -/
def expTerms (y : Nat) : Nat → Nat → Nat → Nat
  | 0, _, _ => 0
  | n + 1, k, t => t + expTerms y n (k + 1) (t * y / ((k + 1) * 10 ^ 12))

/-- R_T in 10 Ω × 10¹² ÷ 10¹² at a temperature in °C (Table 11-5, WM7); the thermistor's resistance falls with it. -/
def ntcOhm (ntc : Word) (degC : Int) : Int × Int :=
  let b : Int := ntc.fld 27 16
  let t100 : Int := degC * 100 + 27315
  -- exponent B × (1/T − 1/298.15), scaled by 10¹²
  let x : Int := b * 100 * 10 ^ 12 / t100 - b * 100 * 10 ^ 12 / 29815
  let r : Int := (ntc.fld 15 0 : Int) * 10
  if 0 ≤ x then (r * expTerms x.toNat 40 0 (10 ^ 12), 10 ^ 12)
  else (r * 10 ^ 12, expTerms (-x).toNat 40 0 (10 ^ 12))

/-- WM7: 1.8 V × R_T ÷ (R_T + 10 kΩ) over 1.8 V. -/
def trackWm7 (ntc : Word) (q : Port) (w : Wm) : Wm :=
  let (n, d) := ntcOhm ntc (q.wm.trk.fld 23 16)
  w.load (clampCode (nearest (n * 1024) (n + 10000 * d))) w.ut

/-- A monitor's thresholds tracked from one of its sources. -/
def State.track (s : State) (p : PortId) (m : Fin 32) (f : Port → Wm → Wm) : State :=
  let q := s.port p
  s.modMon p m fun w => if w.tracked then f q w else w

/-- The peak-limit monitors are loaded: when PK_LIM, PH_MARGIN or IMCAL takes effect, and at each current-limit change. -/
def State.trackPeaks (s : State) (p : PortId) : State :=
  ((s.track p 1 fun q => trackPeak q .a).track p 2 fun q => trackPeak q .b).track p 3 fun q => trackPeak q .c

/-- The monitors that follow each control update. -/
def State.trackUpdate (s : State) (p : PortId) : State :=
  ((s.track p 4 trackWm4).track p 8 trackWm8).track p 21 trackWm21

def State.trackShort (s : State) (p : PortId) : State := s.track p 0 fun q => trackWm0 q.ef
def State.trackTemp (s : State) (p : PortId) : State := s.track p 7 (trackWm7 s.rst.ntc)

/-- THRESHOLD_SETTLED (R331, R332): the loaded codes take the place of the old in one step; in the protection class the
standby leg that holds them becomes the active one. -/
def execThresholdSettled (p : PortId) (m : Fin 32) (s : State) : Res :=
  .next (s.modMon p m fun w =>
    match w.loading with
    | none => w
    | some t =>
      let swap := decide (m.val < 8) && !w.leg0 && !w.leg1
      { w with thr := t, loading := none, actLeg1 := if swap then !w.actLeg1 else w.actLeg1 })

/-! ### Waveform capture (R346, 03 R82) -/

/-- A crossing routed to CAPTURE: a frame starts, or is counted in the frame in progress, or is skipped without credit. The cells
that an earlier frame still waits for take precedence over a new frame. -/
def State.capture (s : State) (p : PortId) (m : Fin 32) (e : Edge) : State :=
  let q := s.port p
  if ¬ q.wm.cap.bit 8 then s
  else match q.wm.frame with
    | some f => s.modWm p fun w => { w with frame := some { f with more := satN 16 (f.more + 1) } }
    | none =>
      let n := q.wm.cap.fld 3 0
      let f : CapFrame := { mon := m.val, upper := e == .upper, skipped := q.wm.skipped, attach := q.cc.inst, cells := n
                            pre := (28 + 32 * (n - 1)) * q.wm.cap.fld 7 4 / 8, time := s.now }
      match (if (s.flow (fWave p)).waiters.isEmpty then s.takeCell (fWave p) else none) with
      | none => (s.countNoCredit (fWave p)).modWm p fun w => { w with skipped := satN 16 (w.skipped + 1) }
      | some (i, s) =>
        (s.queueCell (fWave p) { idx := i, pay := [] }).modWm p fun w => { w with frame := some f, skipped := 0 }

/-- The header of a frame (Table 11-10). -/
def capHeader (f : CapFrame) : List Byte :=
  leBytes 1 f.mon ++ leBytes 1 (b2n f.upper) ++ leBytes 2 f.skipped ++ leBytes 2 f.attach.toNat ++ leBytes 1 f.cells
    ++ leBytes 1 f.pre ++ leBytes 8 f.time.toNat ++ leBytes 2 f.more ++ List.replicate 14 0

/-- CAPTURE_FRAME_END (R346): the frame's last sample; the frame stands in WAVE, its first cell with the content and each further cell
as it is drawn, waiting for credit where there is none (03 R82), and a later crossing may start another. -/
def execCaptureFrameEnd (p : PortId) (samples : List Byte) (s : State) : Res :=
  .next (match (s.port p).wm.frame with
  | none => s
  | some f =>
    let whole := getBytes (capHeader f ++ samples) 0 (256 * f.cells)
    let s := s.modFlow (fWave p) fun x => { x with cells := match x.cells.reverse with
      | c :: r => (({ c with pay := [.bytes whole] } : Cell) :: r).reverse
      | [] => [] }
    let s := (List.range (f.cells - 1)).foldl (fun s _ => s.sendCell (fWave p) (.bytes [])) s
    s.modWm p fun w => { w with frame := none })

/-! ### Records of crossings (R334, R344) -/

/-- A WM_CROSSING record, at Class 2 while CLASS2 is set. -/
def State.wmRecord (s : State) (p : PortId) (m : Fin 32) (e : Edge) (ret : Bool) (code thr : Nat) : State :=
  let w := s.wm p m
  let data := evData [(24, 1, m.val), (25, 1, b2n (e == .upper) + 2 * b2n ret), (26, 2, code),
    (28, 1, (s.port p).wm.mode.code), (30, 2, thr)]
  s.offer { cause := 0x0702, port := p.val, cls := if w.cfg.bit 5 then 2 else 1, sev := 0, time := s.now, data }

/-- The crossing is latched, counted and its code kept (R334). -/
def Wm.cross (w : Wm) (e : Edge) (code : BitVec 10) : Wm :=
  { w with below := w.below || e == .lower, above := w.above || e == .upper
           latLo := w.latLo || e == .lower, latHi := w.latHi || e == .upper
           cnt := satInc w.cnt, last := code, thrX := w.thrOf e }

/-- LATCH silences the edge: its latched bit is set already (R334). -/
def Wm.silenced (w : Wm) (e : Edge) : Bool :=
  w.cfg.bit 3 && (match e with | .lower => w.latLo | .upper => w.latHi)

/-- MONITOR_CHECK_FAILED data's leg: 0 or 1, or 2 for a general-class monitor. -/
def State.checkRecord (s : State) (p : PortId) (m : Fin 32) (leg : Nat) (k : LegChk) (err : Int) : State :=
  s.eventO 0x0700 p [(24, 1, m.val), (25, 1, leg), (26, 1, k.code), (28, 4, ofI 32 err)]

/-- GENERAL_MONITOR_CHECK (R349): a readback or tie check of a general-class monitor; a tie check does not run while the
monitor can drive Firefly. -/
def execGeneralMonitorCheck (p : PortId) (m : Fin 32) (fail : Option (LegChk × Int)) (s : State) : Res :=
  .next (
    if m.val < 8 then s
    else match fail with
      | none => s
      | some (k, err) =>
        if (k = .tie ∧ (s.port p).armed m) ∨ k = .swap ∨ k = .input then s
        else (s.modMon p m fun w => { w with chkFail := true }).checkRecord p m 2 k err)

/-- A routing mode takes effect for all monitors at once (R336); what it starts is the caller's. -/
def State.setMode (s : State) (p : PortId) (m : WmMode) : State := s.modWm p fun w => { w with mode := m }

end Sys2Proof.Machine
end

