-- ==== Sys2Proof/Machine/Caps.lean ====
section
/-! DEFINITION. What a port may offer: the profile in force (08 R224 to R226), the current limit, the power data objects
(06 R156 to R161), the demand (R178), the checks of a Request (R162) and the commitment (R171). -/

set_option linter.unusedVariables false

namespace Sys2Proof.Machine

/-! ### Profile in force (08 Tables 8-1, 8-2) -/

def PodEntry.le (e : PodEntry) (i n : Nat) : Nat := getLE e.bytes i n
def PodEntry.ver (e : PodEntry) : Nat := e.le 8 1
def PodEntry.kind (e : PodEntry) : Nat := e.le 9 1 % 4
def PodEntry.flag (e : PodEntry) (k : Nat) : Bool := (e.le 9 1).testBit k
def PodEntry.authReq (e : PodEntry) : Bool := e.flag 2
def PodEntry.eprOk (e : PodEntry) : Bool := e.flag 3
def PodEntry.fleet (e : PodEntry) : Bool := e.flag 6
def PodEntry.deny (e : PodEntry) : Bool := e.flag 7
def PodEntry.digest (e : PodEntry) : Nat := e.le 0 8
def PodEntry.profileId (e : PodEntry) : Nat := e.le 28 4
def PodEntry.gen (e : PodEntry) : Nat := e.le 32 4

/-- What the profile in force supplies (Table 8-1): voltages by FIX_MASK bit, current and power, APDOs and EPR. -/
structure Prof where
  mask : Nat := 1
  ma : Nat := 0
  watts : Nat := 0
  pps : Bool := false
  avs : Bool := false
  avsMin : Nat := 15000
  avsMax : Nat := 48000
  vmax : Nat := 48000
  epr : Bool := false
  deriving DecidableEq, Repr

/-- The derated current of an entry of version 2 in mA, before rounding (R226). -/
def PodEntry.derated (e : PodEntry) (t : Option Int) : Nat :=
  let imax := e.le 14 2 * 10
  match t with
  | none => imax
  | some deci =>
    let knee := sgn 8 (e.le 22 1) * 10
    let cut := sgn 8 (e.le 23 1) * 10
    let hot := e.le 24 2 * 10
    if e.ver < 2 ∨ 1270 ≤ knee ∨ deci ≤ knee then imax
    else if cut ≤ deci then hot
    else (((imax : Int) * 10 * (cut - knee) - ((imax : Int) - hot) * 10 * (deci - knee)) / (100 * (cut - knee)) * 10).toNat

/-- The profile in force (R224): the start profile, an entry copy, or the 5 V profile. -/
def Port.prof (q : Port) (t : Option Int) : Prof :=
  let w := q.pod.startNow
  let start : Prof := { mask := w.fld 3 0 ||| 1, ma := w.fld 15 8 * 50, watts := w.fld 23 16 }
  match q.pod.src.toNat, q.pod.copy with
  | 2, some e =>
    { mask := e.le 10 1 ||| 1, ma := e.derated t / 10 * 10, watts := e.le 12 2, pps := e.flag 4, avs := e.flag 5
      avsMin := if e.ver = 2 then e.le 18 2 * 100 else 15000
      avsMax := min (if e.ver = 2 then e.le 20 2 * 100 else 48000) (e.le 16 2 * 100)
      vmax := e.le 16 2 * 100, epr := e.eprOk }
  | 3, _ => { start with mask := 1 }
  | _, _ => start

/-! ### Limits (R156, R172) -/

/-- The cable's current in mA: 3.00 A with no e-marker response, lowered by a cable entry (08 R232). -/
def Port.cableMa (q : Port) : Nat :=
  let ma := if q.cc.vconnFault then 3000 else (q.pol.cable.map (·.ma)).getD 3000
  match q.pod.cableEntry with
  | some e => min ma (e.le 14 2 * 10)
  | none => ma

/-- The cable qualifies under R172. -/
def Port.cableEpr (q : Port) : Bool :=
  !q.cc.vconnFault && (match q.pol.cable with | some c => c.epr && c.v50 && decide (5000 ≤ c.ma) | none => false)
    && (match q.pod.cableEntry with | some e => e.eprOk | none => true)

/-- I_lim in mA at a connector temperature (R156). -/
def Port.iLimAt (q : Port) (t : Option Int) : Nat :=
  min (min (q.pol.limNow.fld 15 8 * 50 * q.cnv.workingPh.length / 3 / 10 * 10) q.cableMa) (min (q.prof t).ma 5000)

def Port.iLim (q : Port) : Nat := q.iLimAt q.pol.tempDeciC
def Port.profNow (q : Port) : Prof := q.prof q.pol.tempDeciC

/-- The partner holds Revision 3.x on SOP. -/
def Port.rev3 (q : Port) : Bool := q.pd.revSop == 2

/-! ### Power data objects (R157 to R161) -/

/-- The fixed voltages with their FIX_MASK bit, in mV. -/
def fixVolts : List (Nat × Nat) := [(0, 5000), (1, 9000), (2, 15000), (3, 20000), (4, 28000), (5, 36000), (6, 48000)]

def capMa (mv : Nat) : Nat := if mv ≤ 15000 then 3000 else 5000

/-- The current offered at a fixed voltage with grant `g` W (R157). -/
def Port.fixMa (q : Port) (g mv : Nat) : Nat := min (min q.iLim (capMa mv)) (g * 1000000 / mv) / 10 * 10

/-- The transition limit in ms (R167). -/
def Port.xLimit (q : Port) (epr : Bool) : Nat := if epr then q.pol.xslew.fld 25 16 else q.pol.xslew.fld 9 0

/-- R160: 35 ms and the slew to the highest voltage fit the transition limit. -/
def Port.slewFits (q : Port) (epr : Bool) (vtop : Nat) : Bool :=
  let s := 100 * q.cnv.rise
  decide (35 * s + (vtop - 5000) ≤ q.xLimit epr * s)

/-- The fixed voltages offered, ascending, 5 V first (R157, R160). -/
def Port.fixedList (q : Port) (g : Nat) (epr : Bool) : List (Nat × Nat) :=
  let on := fixVolts.filter fun x =>
    x.1 != 0 && q.pol.cfgNow.bit (x.1 - 1) && q.profNow.mask.testBit x.1 && decide (x.2 ≤ q.profNow.vmax)
  let up := (on.map fun x => (x.2, q.fixMa g x.2)).takeWhile fun x => decide (500 ≤ x.2)
  (5000, q.fixMa g 5000) :: up.filter fun x => q.slewFits epr x.1

/-- SPR APDOs (R158). -/
def Port.sprApdos (q : Port) (g : Nat) (epr : Bool) : List Pdo :=
  let f := q.profNow
  let pps (bit vmax : Nat) : List Pdo :=
    let ma := min q.iLim (g * 1000000 / vmax) / 50 * 50
    if q.pol.cfgNow.bit bit ∧ f.pps ∧ vmax ≤ f.vmax ∧ 1000 ≤ ma ∧ q.slewFits epr vmax then [.pps vmax ma] else []
  let pdp := min g 100
  pps 6 11000 ++ pps 7 21000 ++
    (if q.pol.cfgNow.bit 8 ∧ f.avs ∧ f.avsMin ≤ 15000 ∧ 20000 ≤ f.avsMax ∧ 15 ≤ pdp ∧ q.slewFits epr 20000 then
      [.sprAvs pdp (min q.iLim 5000)] else [])

/-- The SPR list: at most seven positions (R157, R158, R161). -/
def Port.sprCaps (q : Port) (g : Nat) (epr : Bool) : List Pdo :=
  ((q.fixedList g epr).filterMap fun x => if x.1 ≤ 20000 then some (Pdo.fixed x.1 x.2) else none)
    ++ (if q.rev3 then q.sprApdos g epr else [])

/-- EPR AVS (R159). -/
def Port.eprAvs (q : Port) (g : Nat) : List Pdo :=
  let f := q.profNow
  let lo := max 15000 f.avsMin
  let hi := min 48000 f.avsMax
  if q.pol.cfgNow.bit 9 ∧ f.avs ∧ lo ≤ hi ∧ q.slewFits true hi then [.eprAvs lo hi (min g 240)] else []

/-- The capabilities of a kind with a grant, by object position (R159: the EPR part starts at position 8). -/
def Port.caps (q : Port) (g : Nat) (epr : Bool) : List Pdo :=
  let spr := q.sprCaps g epr
  if ¬ epr then spr
  else
    spr ++ List.replicate (7 - spr.length) .zero
      ++ ((q.fixedList g true).filterMap fun x => if 20000 < x.1 then some (Pdo.fixed x.1 x.2) else none) ++ q.eprAvs g

/-- The highest voltage of a list. -/
def pdoTop : Pdo → Nat
  | .fixed mv _ => mv | .pps mv _ => mv | .sprAvs _ _ => 20000 | .eprAvs _ hi _ => hi | .zero => 0

/-- The EPR demand in W (R178 step 1). -/
def Port.dEpr (q : Port) : Nat :=
  min (min (q.pol.limNow.fld 7 0) q.profNow.watts) (48000 * q.iLim / 1000000)

/-- The EPR Mode Capable bit of the first fixed PDO (R161). -/
def Port.eprBit (q : Port) : Bool :=
  q.rev3 && q.pol.cfgNow.bit 10 && q.profNow.epr && q.cc.vconnOn && q.cableEpr && decide (100 < q.dEpr)

/-- The Rp current of a level in mA (R176). -/
def rpMa (l : Nat) : Nat := if l = 0 then 500 else if l = 1 then 1500 else 3000

/-- The floor of a level in W: the larger of FLOOR_W and 5 V at the Rp current, rounded up (R176). -/
def floorW (cfg : Word) (l : Nat) : Nat := max (cfg.fld 19 16) ((5 * rpMa l + 999) / 1000)

/-- The floor a port holds; a DISABLED port holds nothing (R176). -/
def State.floor (s : State) (p : PortId) : Nat :=
  let q := s.port p
  if q.cc.st = .disabled then 0 else floorW s.bud.cfg q.cc.rpLevel.toNat

/-- The port with the policy values that the host has written, which the next capabilities take (R190). The moment is that of
building them (DESIGN CHOICE, notes/assumptions/116). -/
def Port.written (q : Port) : Port := { q with pol := { q.pol with cfgNow := q.pol.cfg, limNow := q.pol.lim } }

/-- The port has left the source role (07 R199). -/
def Port.sourceLeft (q : Port) : Bool :=
  q.cc.st == .attachedSnk || ((q.swap.kind == .toSink || q.swap.kind == .fr) && decide (3 ≤ q.swap.step))

/-- The demand of a port (R178; 07 R199). Vtop leaves out what R160 omits, as the capabilities do (DESIGN CHOICE,
notes/assumptions/87). -/
def State.demandOf (s : State) (p : PortId) : Nat :=
  let q := (s.port p).written
  let f := s.floor p
  if ¬ q.pol.demanding ∨ q.pol.seq = .noPd ∨ q.cc.st = .debugAcc ∨ q.cc.st = .disabled ∨ q.sourceLeft then f
  else if q.eprBit then max f q.dEpr
  else
    let vtop := ((q.sprCaps (2 ^ 20) false).map pdoTop).foldl max 5000
    max f (min (min (q.pol.limNow.fld 7 0) q.profNow.watts) (vtop * q.iLim / 1000000))

/-- The first condition of R172 that fails, as the code of R173; the contract's conditions only for an entry. -/
def Port.eprFails (q : Port) (entry : Bool) : Option Nat :=
  if entry ∧ (q.pol.contract.isNone ∨ q.pol.eprMode) then some 0
  else if entry ∧ ¬ (q.pol.contract.map (·.eprCap)).getD false then some 3
  else if ¬ q.rev3 then some 0
  else if ¬ q.pol.cfgNow.bit 10 then some 4
  else if ¬ q.profNow.epr then some 4
  else if ¬ q.cc.vconnOn then some 2
  else if ¬ q.cableEpr then some 1
  else none

/-! ### The objects as words (PRESUMED: the USB PD layouts of notes/assumptions/7) -/

/-- The Dual-Role Power bit (07 R193). -/
def Port.drpBit (q : Port) : Bool := q.swap.cfg.bit 0 || q.swap.cfg.bit 3

def pdoWord : Pdo → Nat
  | .fixed mv ma => (mv / 50) * 2 ^ 10 + ma / 10
  | .pps mv ma => 3 * 2 ^ 30 + (mv / 100) * 2 ^ 17 + 33 * 2 ^ 8 + ma / 50
  | .sprAvs w ma => 3 * 2 ^ 30 + 2 * 2 ^ 28 + (min (min ma 3000) (w * 1000000 / 15000) / 10) * 2 ^ 10 + min ma (w * 1000000 / 20000) / 10
  | .eprAvs lo hi w => 3 * 2 ^ 30 + 1 * 2 ^ 28 + (hi / 100) * 2 ^ 17 + (lo / 100) * 2 ^ 8 + w
  | .zero => 0

/-- The data bytes of capabilities: the first fixed PDO carries the bits of R161. -/
def Port.capBytes (q : Port) (l : List Pdo) : List Byte :=
  match l with
  | [] => []
  | d :: r => leBytes 4 (pdoWord d + 2 ^ 29 * b2n q.drpBit + 2 ^ 23 * b2n q.eprBit) ++ r.flatMap fun d => leBytes 4 (pdoWord d)

/-! ### Requests (R162, R168, R171) -/

/-- A Request: the object, its kind, the contract it asks for. -/
structure Req where
  rdo : Nat
  /-- An EPR_Request, with its copy of the PDO. -/
  epr : Option Nat := none
  deriving DecidableEq, Repr

def Req.pos (r : Req) : Nat := r.rdo / 2 ^ 28 % 16

/-- Capability Mismatch. -/
def Req.mismatch (r : Req) : Bool := r.rdo.testBit 26

/-- EPR Mode Capable. -/
def Req.eprCap (r : Req) : Bool := r.rdo.testBit 22

/-- The contract that a Request for an object asks for. -/
def Req.contract (r : Req) (d : Pdo) (epr : Bool) : Contract :=
  let base : Contract := { pos := r.pos, eprCap := r.eprCap, epr }
  match d with
  | .fixed mv _ => { base with kind := .fixed, mv, opMa := r.rdo / 2 ^ 10 % 1024 * 10, maxMa := r.rdo % 1024 * 10 }
  | .pps _ _ => { base with kind := .pps, mv := r.rdo / 2 ^ 9 % 4096 * 20, opMa := r.rdo % 128 * 50, maxMa := r.rdo % 128 * 50 }
  | .sprAvs _ _ => { base with kind := .sprAvs, mv := r.rdo / 2 ^ 9 % 4096 * 25, opMa := r.rdo % 128 * 50, maxMa := r.rdo % 128 * 50 }
  | .eprAvs _ _ _ => { base with kind := .eprAvs, mv := r.rdo / 2 ^ 9 % 4096 * 25, opMa := r.rdo % 128 * 50, maxMa := r.rdo % 128 * 50 }
  | .zero => base

/-- The power of a contract in whole watts, rounded up, without the floor (R171). -/
def Contract.watts (c : Contract) : Nat :=
  ((if c.kind = .fixed then c.mv * c.maxMa else c.mv * c.opMa) + 999999) / 1000000

/-- An object of the capabilities last acknowledged, as it was offered. -/
def Port.offerWord (q : Port) (l : List Pdo) (k : Nat) : Nat := if k = 0 then q.pol.ackedFirst else pdoWord (l.getD k .zero)

/-- The first check of R162 that a Request fails, or the contract it asks for. -/
def Port.evaluate (q : Port) (r : Req) : Nat ⊕ Contract :=
  let l := q.pol.ackedCaps
  match (if r.pos = 0 then none else l[r.pos - 1]?) with
  | none => .inl 1
  | some .zero => .inl 1
  | some d =>
    let c := r.contract d q.pol.eprMode
    let bad2 := match r.epr with
      | some w => !q.pol.eprMode || w != q.offerWord l (r.pos - 1)
      | none => decide (8 ≤ r.pos)
    if bad2 then .inl 2
    else
      let bad : Option Nat := match d with
        | .fixed _ ma => if ma < c.maxMa ∨ c.maxMa < c.opMa then some 3 else none
        | .pps mx ma => if c.mv < 3300 ∨ mx < c.mv ∨ ma < c.opMa then some 4 else none
        | .sprAvs w _ =>
          if c.mv < 15000 ∨ 20000 < c.mv ∨ c.mv % 100 ≠ 0 ∨ q.iLim < c.opMa ∨ w * 1000000 < c.mv * c.opMa then some 5 else none
        | .eprAvs lo hi w =>
          if c.mv < lo ∨ hi < c.mv ∨ c.mv % 100 ≠ 0 ∨ q.iLim < c.opMa ∨ w * 1000000 < c.mv * c.opMa then some 5 else none
        | .zero => some 1
      match bad with
      | some k => .inl k
      | none => if q.pol.grant < c.watts then .inl 6 else .inr c

/-- The current loop limit of a contract in mA (R168). -/
def Port.loopLimit (q : Port) (c : Contract) : Nat :=
  if c.kind = .pps then c.opMa else min q.iLim (11 * c.maxMa / 10)

/-- The loop limit with no explicit contract (R168). -/
def Port.rpLimit (q : Port) : Nat := min q.iLim (rpMa q.cc.rpLevel.toNat)

/-- The band of a target (Table 2-7): within 5 % (PRESUMED: vSrcNew, vPpsNew and vAvsNew of the USB PD specification,
notes/assumptions/7). -/
def Contract.inBand (c : Contract) (mv : Int) : Bool := decide (20 * (mv - c.mv).natAbs ≤ c.mv)

/-- vSafe5V: 4.75 to 5.5 V (PRESUMED: USB PD). -/
def inSafe5 (mv : Int) : Bool := decide (4750 ≤ mv) && decide (mv ≤ 5500)

/-- PRT_POL_CONTRACT (Table 6-6); its current is the maximum operating current (DESIGN CHOICE, notes/assumptions/88). -/
def contractWord : Option Contract → Nat
  | none => 0
  | some c => c.mv / 20 + (c.maxMa / 10) * 65536

end Sys2Proof.Machine
end

