-- ==== Sys2Proof/Machine/Budget.lean ====
section
/-! DEFINITION. The budget allocator (06 R176 to R183): floors, targets by the weighted fill, grants, and the latch of
renegotiation (R184). -/

set_option linter.unusedVariables false

namespace Sys2Proof.Machine

/-- GLB_BUDGET_CFG.LIMIT in W. -/
def State.limit (s : State) : Nat := s.bud.cfg.fld 11 0

/-- The sum of the floors of the non-DISABLED ports with a given setting (R177). -/
def State.floorSum (s : State) : Nat := (List.finRange 16).foldl (fun a p => a + s.floor p) 0

/-! ### Renegotiation latch (R184) -/

/-- A trigger latches renegotiation, unless the sequencer is OFF or in NO_PD. -/
def State.latchReneg (s : State) (p : PortId) : State :=
  s.modPol p fun x => if x.seq = .off ∨ x.seq = .noPd then x else { x with reneg := true }

/-! ### Targets (R179) -/

/-- One port's part in the fill: weight, what it wants above its floor, and its share, in W. -/
structure FillItem where
  port : PortId
  weight : Nat
  want : Nat
  share : Rat := 0
  deriving DecidableEq, Repr

/-- One pass after another of the weighted fill, at most `n`. -/
def fill : Nat → Rat → List FillItem → List FillItem
  | 0, _, l => l
  | n + 1, left, l =>
    let act := l.filter fun x => decide (0 < x.weight) && decide (x.share < (x.want : Rat))
    let sum : Nat := act.foldl (fun a x => a + x.weight) 0
    if sum = 0 ∨ left ≤ 0 then l
    else
      let unit : Rat := left / (sum : Rat)
      let give (x : FillItem) : Rat :=
        if 0 < x.weight ∧ x.share < (x.want : Rat) then min ((x.want : Rat) - x.share) (unit * (x.weight : Rat)) else 0
      let l' := l.map fun x => { x with share := x.share + give x }
      fill n (left - (l.map give).foldl (· + ·) 0) l'

/-- The targets of the ports, from their demands and floors. Shares are exact quotients (DEDUCED, notes/assumptions/115). -/
def State.targets (s : State) (dem : PortId → Nat) : List (PortId × Nat) :=
  let items := (List.finRange 16).map fun p =>
    ({ port := p, weight := (s.port p).pol.cfg.fld 15 12, want := dem p - s.floor p } : FillItem)
  (fill 17 ((s.limit - s.floorSum : Nat) : Rat) items).map fun x => (x.port, s.floor x.port + x.share.floor.toNat)

/-! ### Grants (R180) -/

/-- What a port reserves: max(C, G). -/
def PolState.reserve (x : PolState) : Nat := max x.commit x.grant

def State.reserved (s : State) : Nat := (List.finRange 16).foldl (fun a p => a + (s.port p).pol.reserve) 0

/-- The port that next takes growth: the largest T − G, ties to the lower number, among those not yet served. -/
def nextGrow (s : State) (done : List PortId) : Option PortId :=
  (List.finRange 16).foldl (fun best p =>
    let gap (p : PortId) := (s.port p).pol.target - (s.port p).pol.grant
    if done.contains p ∨ gap p = 0 then best
    else match best with
      | none => some p
      | some b => if gap b < gap p then some p else some b) none

/-- Grants grow while free is above 0. -/
def growN : Nat → List PortId → State → State
  | 0, _, s => s
  | n + 1, done, s =>
    let free := s.limit - s.reserved
    match nextGrow s done with
    | none => s
    | some p =>
      let x := (s.port p).pol
      let g := min x.target (x.reserve + free)
      growN n (p :: done) (if free = 0 ∨ g ≤ x.grant then s else s.modPol p fun x => { x with grant := g })

/-- The latch that a change of grant sets (R183). -/
def State.grantLatch (s : State) (p : PortId) (old : Nat) : State :=
  let x := (s.port p).pol
  if x.grant < old ∨ (old < x.grant ∧ (old + 5 ≤ x.grant ∨ x.grant = x.target)) then s.latchReneg p else s

/-- An allocation round (R181): demands, targets and grants; BUDGET_CHANGED when its results differ from the last. -/
def State.round (s : State) : State :=
  let dem : PortId → Nat := s.demandOf
  let old := (List.finRange 16).map fun p => (s.port p).pol
  let tg := s.targets dem
  let s1 := s.forPorts fun s' p => s'.modPol p fun x =>
    let f := s.floor p
    let t := (tg.lookup p).getD 0
    let c := if x.contract.isSome ∨ x.pendCtr.isSome then max f x.commit else f
    { x with target := t, commit := c, grant := if t < x.grant then t else max x.grant f }
  let s2 := growN 16 [] s1
  let g (k : PortId) : Nat := (s.port k).pol.grant
  let g' (k : PortId) : Nat := (s2.port k).pol.grant
  let s3 := s2.forPorts fun s' p => s'.grantLatch p (g p)
  let s3 := { s3 with bud := { s3.bud with ran := true } }
  if (List.finRange 16).all fun p =>
      (s.port p).pol.target == (s2.port p).pol.target && g p == g' p && (s.port p).pol.commit == (s2.port p).pol.commit then s3
  else
    s3.eventD 0x020C [(24, 2, s3.reserved), (26, 2, s3.limit - s3.reserved),
      (28, 2, (mapOf fun p => decide (g' p < g p)).toNat), (30, 2, (mapOf fun p => decide (g p < g' p)).toNat)]

/-! ### Rp level at an entry to UNATTACHED (R177, 04 R92) -/

/-- The Rp level a port takes: the highest, at most RP_LEVEL, whose floor fits LIMIT; with whether it was lowered. -/
def State.rpFits (s : State) (p : PortId) (l : Nat) : Bool :=
  decide (s.floorSum - s.floor p + floorW s.bud.cfg l ≤ s.limit)

def State.takeRp (s : State) (p : PortId) : State :=
  let want := (s.port p).cc.cfg.fld 1 0
  let l := ((List.range (want + 1)).reverse.find? fun l => s.rpFits p l).getD 0
  let s := s.modCc p fun c => { c with rpLevel := BitVec.ofNat 2 l }
  if l = want then s else { s with bud := { s.bud with err := s.bud.err ||| 4 } }

/-- C returns to the floor (R171). -/
def State.commitFloor (s : State) (p : PortId) : State :=
  let f := s.floor p
  s.modPol p fun x => { x with commit := f, commitOld := f, pendCtr := none }

end Sys2Proof.Machine
end

