-- ==== Sys2Proof/Machine/Wake.lean ====
section
/-! DEFINITION. The wake latch (19 Table 19-4, R520, R521, R525) and the exit from IDLE (R516): what a wake source does at the
moment its condition arises. -/

set_option linter.unusedVariables false

namespace Sys2Proof.Machine

/-- Whether a wake source acts for a target, 2 DOZE or 3 HIBERNATE (Table 19-4). -/
def wakeHas (target src : Nat) : Bool :=
  if src = 1 then target == 3 else if src = 0 ∨ src = 2 then target == 2 else decide (src ≤ 7)

/-- The entry in progress ends; nothing has been powered down, and fetching resumes (R521, R522). -/
def State.entryOver (s : State) : State :=
  { s with pwr := { s.pwr with entry := if s.pwr.st = .doze then 2 else 0, wakeLatch := false, wakeSrc := 0, wakePortNo := 0xFF } }

/-- A wake before the commit point abandons the entry at once (R521). -/
def State.abandonWake (s : State) (src port : Nat) : State :=
  let t := s.pwr.target.toNat
  let s := s.entryOver.eventD 0x0C03 [(24, 1, 2 ^ src), (25, 1, t), (27, 1, port)]
  match s.runningDev 0x48 with
  | some o => s.finish o.d stOk (evData [(24, 1, 2), (25, 1, 2 ^ src)])
  | none => s

/-- The wake latch is set after the commit point. -/
def State.latchWake (s : State) (src port : Nat) : State :=
  let w := s.pwr
  { s with pwr := { w with
    wakeLatch := true, wakeSrc := w.wakeSrc ||| BitVec.ofNat 8 (2 ^ src), after := true, wakeOut := w.wakeOut || w.st == .hibernate
    wakePortNo := if src ≤ 1 ∧ w.wakePortNo = 0xFF then BitVec.ofNat 8 port else w.wakePortNo } }

/-- A wake source's condition arises, with the port of a path request or of a CC wake (R520, R521, R525). WAKE_OUT_N is driven
low from a wake out of HIBERNATE until READY (R528). -/
def State.wakeSet (s : State) (src : Nat) (port : Nat := 0xFF) : State :=
  let w := s.pwr
  if ¬ w.wakeEn.bit src then s
  else if w.entry = 1 then
    (if ¬ (wakeHas w.target.toNat src ∨ (w.st = .doze ∧ wakeHas 2 src)) then s
     else
      let s := s.abandonWake src port
      if w.st = .doze ∧ wakeHas 2 src then s.latchWake src port else s)
  else if (w.st = .doze ∧ wakeHas 2 src) ∨ (w.st = .hibernate ∧ wakeHas 3 src) then s.latchWake src port
  else s

/-- The device leaves IDLE for RUN with a record (R515, R516). -/
def State.idleExit (s : State) : State :=
  if s.pwr.st = .idle then { s with pwr := { s.pwr with st := .run } }.eventD 0x0C00 [] else s

end Sys2Proof.Machine
end

