-- ==== Sys2Proof/Machine/Guard.lean ====
section
/-! DEFINITION. The path guard's states (10 R293 to R303): what each entry and exit of a path state does, the conditions
under which the path leaves OFF, orderly openings and the back-feed switch. -/

set_option linter.unusedVariables false

namespace Sys2Proof

/-- The path is CLOSING or ON. -/
def PathSt.live : PathSt → Bool
  | .closing | .on => true
  | _ => false

end Sys2Proof

namespace Sys2Proof.Machine

/-- BUSIN lies within WM5's window (04 R101). -/
def Port.businOk (q : Port) : Bool := !(q.wm.m[5]).isOut

/-- The fields that take effect at an entry to PROVING (R324). -/
def EfState.latched (e : EfState) : EfLatched := { cfg := e.cfg, inrush := e.inrush, i2t := e.i2t, retry := e.retry, bf := e.bf }

/-- The outputs of a path state (Table 10-2). -/
def EfState.enter (e : EfState) (st : PathSt) : EfState :=
  { e with path := st, gateOn := st == .on, dsch := st == .proving || st == .opening, unexpSeen := false
           provenWait := st == .proving || st == .opening
           bfCmd := e.bfCmd && st == .backfeed, bfOn := e.bfOn && st == .backfeed
           softStart := st == .closing || (e.softStart && st == .on)
           now := if st = .proving then e.latched else e.now }

/-- The routing mode that the path's move leaves (11 Table 11-6). -/
def WmState.modeAt (w : WmState) (st : PathSt) (retry : Nat) : WmMode :=
  if st = .closing then (if retry = 0 then .startup else .recovery)
  else if st = .on ∨ w.mode = .test then w.mode
  else .normal

/-- The path enters a state: outputs, routing mode, the pre-contract interval (12 R359) and the good-service timer (R315)
follow; on entering OFF the interval record of 12 R361 is produced and a Firefly action ends (11 R342). -/
def State.pathTo (s : State) (p : PortId) (st : PathSt) : State :=
  let old := (s.port p).ef.path
  let s := (s.modEf p (·.enter st)).modWm p fun w => { w with mode := w.modeAt st (s.port p).ef.retryCnt.toNat }
  let s := if st = .closing then s.modMtr p fun m => { m with pre := 0, preRun := m.sess.isNone, now := m.cfg } else s
  let s := if st = .on then s.start p .goodService else s.stop p .goodService
  if st = .off then
    let s := if old = .off then s else s.intervalEnd p
    let s := s.modMtr p fun m => { m with preRun := false }
    s.modWm p fun w => { w with ffActive := w.ffActive && (s.port p).armedOut }
  else s

/-- The converter stops, GATE is pulled down and the path enters OPENING (R301); a path that is OFF stays OFF. -/
def State.openPath (s : State) (p : PortId) : State :=
  let s := s.cnvStop p
  let s := s.modEf p fun e => { e with reason := .none, bfCmd := false, bfOn := false }
  if (s.port p).ef.path = .off ∨ (s.port p).ef.path = .opening then s else s.pathTo p .opening

/-- A DEBUG_ACC port whose VBUS DBG_VBUS asks for (04 R108). -/
def Port.dbgWants (q : Port) : Bool := q.cc.st == .debugAcc && !q.cc.detaching && q.cc.cfg.bit 4

/-- What a request must meet before the path leaves OFF: recovery at boot done (01 R14), calibration done (02 R40, 20 R541), the leg checks done (11 R350), no DOZE (19 Table 19-1),
no Firefly action or forced action (11 R342, R348), no hold-off still running (11 R345), and BUSIN for an attach (04 R101). -/
def State.mayClose (s : State) (p : PortId) : Bool :=
  let q := s.port p
  s.ses.recovDone && q.wm.initDone && !q.ffHolds && !q.ef.holdOn && !q.ef.holdOt
    && (match q.ef.reason with
        | .none => false
        | .attach | .holdoff => q.businOk
        | .debug => !q.swap.dbgHold
        | _ => true)
    && s.tb.calDone && !s.tb.fallback && s.pwr.st != .doze

/-- A request that waits in OFF takes the path to PROVING once it may (R294, R295). -/
def State.tryPath (s : State) (p : PortId) : State :=
  if (s.port p).ef.path = .off ∧ s.mayClose p then s.pathTo p .proving else s

/-- A path request (R294); the first of them ends IDLE (19 R516), and in DOZE it wakes the device (19 Table 19-4). -/
def State.requestPath (s : State) (p : PortId) (r : PathReq) : State :=
  ((s.idleExit.modEf p fun e => { e with reason := r }).wakeSet 0 p.val).tryPath p

/-- With VBUS above vSafe0V or GATE on, the classification window in progress is discarded (04 R93). -/
def State.dropWindow (s : State) (p : PortId) : State :=
  if 800 < (s.port p).ef.vbusMv ∨ (s.port p).ef.gateOn then s.modCc p fun c => { c with smp1 := [], smp2 := [] } else s

/-- VBUS_SNS has been read. -/
def State.seeVbus (s : State) (p : PortId) (mv : Nat) : State := (s.modEf p fun e => { e with vbusMv := mv }).dropWindow p

/-! ### Back-feed switch (R319 to R321, 01 R27) -/

/-- The back-feed switch is commanded closed: path state BACKFEED; BFEED reaches its on level later. -/
def State.closeBf (s : State) (p : PortId) : State :=
  (s.pathTo p .backfeed).modEf p fun e => { e with bfCmd := true, reason := .none }

/-- The back-feed switch is opened; the path enters OFF. -/
def State.openBf (s : State) (p : PortId) : State :=
  if (s.port p).ef.path = .backfeed then s.pathTo p .off else s.modEf p fun e => { e with bfCmd := false, bfOn := false }

/-! ### Records of the guard -/

/-- VBUS_UNEXPECTED (R303): with DSCH on, VBUS stays above 0.8 V without falling for 650 ms; once per path state entry. -/
def execVbusUnexpected (p : PortId) (s : State) : Res :=
  .next (
    let e := (s.port p).ef
    if e.dsch ∧ ¬ e.unexpSeen then
      (s.modEf p fun e => { e with unexpSeen := true }).eventP 0x0604 p e.path.code e.vbusMv
    else s)

/-- The retry counter and the fault digest are cleared (R315); a RECOVERY mode ends (11 Table 11-6). -/
def State.clearRetry (s : State) (p : PortId) : State :=
  (s.modEf p fun e => { e with retryCnt := 0, fdValid := false }).modWm p fun w =>
    { w with mode := if w.mode = .recovery then .normal else w.mode }

/-- GOOD_SERVICE_EXPIRY (R315): GOOD_S have passed with the path ON in one closing. -/
def execGoodServiceExpiry (p : PortId) (s : State) : Res :=
  .next (s.onExpiry p .goodService fun s => if (s.port p).ef.path = .on then s.clearRetry p else s)

/-- The hold-off in ms that still runs (R317): 0xFFFF while a CONN_OT hold-off waits for WM7. -/
def State.holdLeft (s : State) (p : PortId) : Nat :=
  let e := (s.port p).ef
  let cnt := if e.holdOn then e.holdMs - s.msSince e.holdFrom else 0
  if e.holdOt then
    match e.otIn with
    | none => 0xFFFF
    | some t => max cnt (max (10000 - s.msSince t) (250 - s.msSince e.otFrom))
  else cnt

/-- The identity of the partner has settled with digest `d` (R314 rules 3 and 4). -/
def State.settleIdentity (s : State) (p : PortId) (d : Quad) : State :=
  let e := (s.port p).ef
  let s := s.sesProfile p
  if e.retryCnt = 0 then s
  else if ¬ e.fdValid then s.modEf p fun e => { e with fd := d, fdValid := true }
  else if d = e.fd then s
  else
    ((s.clearRetry p).modEf p fun e => { e with cnt := e.cnt.cntInc 3 }).event 0x0605 p.val
      (evData [(24, 4, e.fd.toNat), (28, 4, d.toNat)])

end Sys2Proof.Machine
end

