-- ==== Sys2Proof/Machine/Pd.lean ====
section
/-! DEFINITION. The PD protocol layer (05): when it runs, message headers, transmission with retries and collision
avoidance, receipt with duplicates and chunks, and the clearing by a reset. What a message means is the sequencer's; the
layer answers with notes for it. The header and extended-header layouts are PRESUMED (notes/assumptions/7). -/

set_option linter.unusedVariables false

namespace Sys2Proof

/-! ### Headers -/

def PdMsg.mtype (m : PdMsg) : Nat := m.hdr.toNat % 32
def PdMsg.rev (m : PdMsg) : Nat := m.hdr.toNat / 64 % 4
def PdMsg.mid (m : PdMsg) : BitVec 3 := BitVec.ofNat 3 (m.hdr.toNat / 512)
def PdMsg.nObj (m : PdMsg) : Nat := m.hdr.toNat / 4096 % 8
def PdMsg.ext (m : PdMsg) : Bool := m.hdr.getLsbD 15
def PdMsg.xsize (m : PdMsg) : Nat := getLE m.data 0 2 % 512
def PdMsg.chunkReq (m : PdMsg) : Bool := m.ext && (getLE m.data 0 2).testBit 10
def PdMsg.chunkNo (m : PdMsg) : Nat := getLE m.data 0 2 / 2048 % 16
def PdMsg.chunked (m : PdMsg) : Bool := (getLE m.data 0 2).testBit 15
def PdMsg.isCtrl (m : PdMsg) (k : Nat) : Bool := !m.ext && m.nObj == 0 && m.mtype == k
def PdMsg.isData (m : PdMsg) (k : Nat) : Bool := !m.ext && m.nObj != 0 && m.mtype == k
def PdMsg.isExt (m : PdMsg) (k : Nat) : Bool := m.ext && m.mtype == k
/-- Data object `k`. -/
def PdMsg.obj (m : PdMsg) (k : Nat) : Nat := getLE m.data (4 * k) 4

/-- The frame's length matches its header (05 R120): the data objects that it counts, or for an unchunked extended message,
which counts none, its Data Size. -/
def PdMsg.lenOk (m : PdMsg) : Bool :=
  if m.ext && !m.chunked && m.nObj == 0 then m.data.length == 2 + m.xsize else m.data.length == 4 * m.nObj

/-- R136: the device discards the extended message after its GoodCRC. -/
def PdMsg.tooLong (m : PdMsg) : Bool := (!m.chunked && decide (26 < m.xsize)) || decide (260 < m.xsize)

/-! ### Ordered sets (05 R119; the K-codes of each are PRESUMED, notes/assumptions/7) -/

/-- At least three of the four K-codes are correct and in place. -/
def OrdSet.near (x y : OrdSet) : Bool :=
  decide (3 ≤ (if x.a = y.a then 1 else 0) + (if x.b = y.b then 1 else 0) + (if x.c = y.c then 1 else 0)
    + (if x.d = y.d then 1 else 0))

def OrdSet.sop : OrdSet := {}
def OrdSet.sopp : OrdSet := { c := .sync3, d := .sync3 }
def OrdSet.soppp : OrdSet := { b := .sync3, d := .sync3 }
def OrdSet.soppDebug : OrdSet := { b := .rst2, c := .rst2, d := .sync3 }
def OrdSet.sopppDebug : OrdSet := { b := .rst2, c := .sync3, d := .sync2 }

/-- The SOP* that the receiver recognises: an exact set first, then the first of SOP, SOP′ and SOP″ that three K-codes
match. SOP′_Debug and SOP″_Debug are not recognised. This order is the model's (DESIGN CHOICE, notes/assumptions/112). -/
def OrdSet.sopx (x : OrdSet) : Option Sopx :=
  if x = .soppDebug ∨ x = .sopppDebug then none
  else if x = .sop then some .sop else if x = .sopp then some .sopp else if x = .soppp then some .soppp
  else if x.near .sop then some .sop else if x.near .sopp then some .sopp else if x.near .soppp then some .soppp
  else none

end Sys2Proof

namespace Sys2Proof.Machine

/-- What the layer tells the sequencer: the outcome of a message, a message received, an assembly that failed, and an
extended message discarded under R136. -/
inductive PdNote
  | outcome (m : PdMsg) (prod : PdProd) (o : TxOutcome)
  /-- A first message gave way before its preamble (R133, R135). -/
  | withdrawn (m : PdMsg) (prod : PdProd)
  | got (m : PdMsg)
  | fail
  | discarded (m : PdMsg)
  deriving DecidableEq, Repr

/-- The lane of an SOP*. -/
def PdState.lane (x : PdState) : Sopx → PdLane
  | .sop => x.sop | .sopp => x.sopp | .soppp => x.soppp

def PdState.modLane (x : PdState) (k : Sopx) (f : PdLane → PdLane) : PdState :=
  match k with
  | .sop => { x with sop := f x.sop } | .sopp => { x with sopp := f x.sopp } | .soppp => { x with soppp := f x.soppp }

/-- The device's own revision code (R129). -/
def PdState.own (x : PdState) : Nat := if x.cfgNow.bit 0 then 2 else 1

/-- The negotiated revision of an SOP*, 0 for none. -/
def PdState.revOf (x : PdState) (k : Sopx) : Nat := if k = .sop then x.revSop.toNat else x.revCable.toNat

/-- The revision the device sends at (R129, R130). -/
def PdState.sendRev (x : PdState) (k : Sopx) : Nat := if x.revOf k = 0 then x.own else x.revOf k

/-- Roles, Cable Plug bit and revision of a header the device sends (R123, R129, R130). -/
def Port.roleBits (q : Port) (k : Sopx) : Nat :=
  let sop := k == .sop
  32 * b2n sop + 64 * q.pd.sendRev k + 256 * b2n (sop && q.cc.st != .attachedSnk)

/-- The header of a message the device sends (R123); its MessageID is set when the preamble starts. -/
def Port.hdrOf (q : Port) (k : Sopx) (typ n : Nat) (ext : Bool) : BitVec 16 :=
  BitVec.ofNat 16 (typ % 32 + q.roleBits k + 4096 * n + 32768 * b2n ext)

/-- The GoodCRC of a received message (R123, R124, R130). -/
def Port.goodCrcOf (q : Port) (p : PortId) (m : PdMsg) : Out :=
  let sop := m.sopx == .sop
  .goodCrc p m.sopx m.mid (sop && q.cc.st != .attachedSnk) sop false
    (if q.pd.revOf m.sopx = 0 then max 1 (min q.pd.own m.rev) else q.pd.revOf m.sopx)

def Port.ctrl (q : Port) (typ : Nat) : PdMsg := { hdr := q.hdrOf .sop typ 0 false }

def Port.dataMsg (q : Port) (k : Sopx) (typ : Nat) (bytes : List Byte) : PdMsg :=
  { sopx := k, hdr := q.hdrOf k typ (bytes.length / 4) false, data := bytes }

/-- An extended message whole: its extended header gives the data size (R136). -/
def Port.extMsg (q : Port) (typ : Nat) (bytes : List Byte) : PdMsg :=
  { hdr := q.hdrOf .sop typ 0 true, data := leBytes 2 (bytes.length + 32768) ++ bytes }

/-- The layer runs (R117). -/
def Port.pdRuns (q : Port) : Bool :=
  !q.pd.stopped && (q.cc.st == .attachedSrc || q.cc.st == .attachedSnk || (q.cc.st == .debugAcc && q.cc.cfg.bit 3))

/-- Table 5-2: the device may send, and accepts, on an SOP*. -/
def Port.sopOk (q : Port) (k : Sopx) : Bool :=
  match k with
  | .sop => true
  | .sopp => q.cc.vconnOn && q.pd.cfgNow.bit 1
  | .soppp => q.cc.vconnOn && q.pd.cfgNow.bit 1 && q.pd.soppp2

/-- A message can be sent on its SOP* (R122, R136, R580). -/
def Port.sendable (q : Port) (m : PdMsg) : Bool := q.sopOk m.sopx && (!m.ext || q.pd.revOf m.sopx == 2)

/-! ### Transmission -/

/-- Chunk `k` of a message as it goes on the wire (R138). -/
def chunkOf (m : PdMsg) (k : Nat) : PdMsg :=
  if ¬ m.ext ∨ m.chunkReq then m
  else
    let size := m.xsize
    let body := ((m.data.drop (2 + 26 * k)).take 26)
    let data := leBytes 2 (size + 2048 * k + 32768) ++ body
    let pad := data ++ List.replicate ((4 - data.length % 4) % 4) 0
    { m with hdr := m.hdr + BitVec.ofNat 16 (4096 * (pad.length / 4)), data := pad }

/-- The number of chunks of a message. -/
def chunksOf (m : PdMsg) : Nat := if ¬ m.ext ∨ m.chunkReq then 1 else max 1 ((m.xsize + 25) / 26)

/-- Cells a message takes in the store (R146). -/
def msgCells (m : PdMsg) : Nat := if 222 < m.data.length then 2 else 1

/-- The message or item of a cell goes on in the next cell (05 R146, 08 R245). -/
def Cell.wide (c : Cell) : Bool :=
  match c.pay with
  | [.pd m _ _ _] => msgCells m == 2
  | [.bytes b] => getLE b 0 1 == 1 && (getLE b 32 2).testBit 15 && decide (224 < 4 + getLE b 34 2 % 512)
  | _ => false

/-- The cells of the message or item at the head of a flow. -/
def Flow.headCells (x : Flow) : List Cell :=
  match x.cells with
  | a :: b :: _ => if a.wide then [a, b] else [a]
  | l => l

/-- The message or item at the head of a flow is read: its single-bit errors are corrected, and an uncorrectable one is met (03 R64);
whether there was one. -/
def State.meetHead (s : State) (f : Nat) : Bool × State :=
  (s.flow f).headCells.foldl (fun x c => let m := x.2.meet f c; (x.1 || m.1.isSome, m.2)) (false, s)

/-- The message or item at the head of a flow is dropped. -/
def State.dropHead (s : State) (f : Nat) : State := (s.flow f).headCells.foldl (fun s c => s.dropCell f c.idx) s

/-- A PD message enters a flow, in one cell or two; `none` without credit. -/
def State.putMsg (s : State) (f : Nat) (r : Payload) (m : PdMsg) : Option State :=
  if s.credit f < msgCells m then none
  else if msgCells m = 1 then s.putCell f [r]
  else (s.putCell f [r]).bind fun s => s.putCell f [.bytes (m.data.drop 222)]

/-- A message for PDTX (R145, R146). -/
def State.txCell (s : State) (p : PortId) (m : PdMsg) (prod : PdProd) (first : Bool) : Payload :=
  .pd m (s.port p).cc.inst (some (prod, first)) 0

/-- The first message of a flow leaves it. -/
def State.popMsg (s : State) (f : Nat) (m : PdMsg) : State :=
  (List.range (msgCells m)).foldl (fun s _ => ((s.popCell f).map (·.2)).getD s) s

/-- What an outcome counts: the MessageIDCounter of its SOP* (R127) and the counters of R126 and R128. -/
def PdState.counts (x : PdState) (k : Sopx) (o : TxOutcome) (begun : Bool) : PdState :=
  let moves := o == .acked || o == .exhausted || (o == .abandoned && begun)
  let x := if moves then x.modLane k fun l => { l with txId := l.txId + 1 } else x
  { x with txFail := if o = .exhausted then satInc x.txFail else x.txFail
           txAbandon := if o = .abandoned then satInc x.txAbandon else x.txAbandon }

/-- The transmission in progress ends: counters of R126 to R128, the outcome to the producer (R147), its cells freed. -/
def State.endTx (s : State) (p : PortId) (t : PdTx) (o : TxOutcome) : State :=
  let s := s.modPd p fun x => { x.counts t.msg.sopx o (decide (0 < t.tries)) with tx := none }
  let s := s.stopAll p [.tReceive, .chunkTx, .amsWait]
  (s.emit (.pdOutcome p t.msg t.prod o s.now t.tries)).popMsg (fPdTx p) t.msg

/-- The oldest message of PDTX is taken up when none is in transmission (R121, R132, R134, R147). -/
def State.nextTxN (p : PortId) : Nat → State → State
  | 0, s => s
  | n + 1, s =>
    let q := s.port p
    if q.pd.tx.isSome ∨ ¬ q.pdRuns then s
    else match (s.flow (fPdTx p)).head with
      | some (.pd m a (some (prod, first)) _) =>
        if a ≠ q.cc.inst then
          State.nextTxN p n ((s.emit (.pdOutcome p m prod .detach s.now 0)).popMsg (fPdTx p) m)
        else
          let ca := q.pd.caActive && first
          let src := q.cc.st == .attachedSrc
          let ph : TxPhase := if ca && src then .amsWait else if ca && q.pd.rpNg then .sinkWait else .held
          let s := s.modPd p fun x => { x with tx := some { msg := m, prod, first, ph }
                                               ams := if first then .device else x.ams
                                               rpNg := x.rpNg || (ca && src) }
          if ca && src then s.start p .amsWait else s
      | _ => s

def State.nextTx (s : State) (p : PortId) : State := s.nextTxN p ((s.flow (fPdTx p)).cells.length + 1)

/-- The port's waiting producers get the credit that has returned to PDTX (03 R77). -/
def State.admitTx (s : State) (p : PortId) : State :=
  match (s.flow (fPdTx p)).waiters with
  | .seq p' m prod first :: r =>
    match s.putMsg (fPdTx p) (s.txCell p' m prod first) m with
    | some s => s.modFlow (fPdTx p) fun x => { x with waiters := r }
    | none => s
  | _ => s

/-- A message that can be sent is handed to the layer (R145): it takes cells of PDTX, or its producer waits. -/
def State.pdSend (s : State) (p : PortId) (m : PdMsg) (prod : PdProd := .seq) (first : Bool := false) : State :=
  let q := s.port p
  if ¬ q.pdRuns then s.emit (.pdOutcome p m prod .detach s.now 0)
  else if ¬ q.sendable m then s.emit (.pdOutcome p m prod .refused s.now 0)
  else
    match (if (s.flow (fPdTx p)).waiters.isEmpty then
        s.putMsg (fPdTx p) (s.txCell p m prod first) m else none) with
    | some s => s.nextTx p
    | none => s.wait (fPdTx p) (.seq p m prod first)

/-- The message of a transmission with the roles, the revision and the MessageID with which it goes on the wire (R123). -/
def Port.onWire (q : Port) (t : PdTx) : PdMsg :=
  let m := chunkOf t.msg t.chunk
  { m with hdr := (m.hdr &&& 0xF01F) ||| BitVec.ofNat 16 (q.roleBits m.sopx + (q.pd.lane m.sopx).txId.toNat * 512) }

/-- A Soft_Reset sent or received on an SOP* (R139): its counter, its stored MessageID, and an assembly on it. -/
def State.laneReset (s : State) (p : PortId) (k : Sopx) : State :=
  let mine := ((s.port p).pd.asm.map (·.sopx)) == some k
  let s := if mine then s.stop p .chunk else s
  s.modPd p fun x => { x.modLane k (fun _ => {}) with asm := if mine then none else x.asm }

/-- A held frame starts on an idle channel (R121). One whose SOP* has closed since it was handed over is not sent (R122): it
is refused, or ends with its retries exhausted where a transmission of it was made. A message whose turn has come may no longer be
sendable: its outcome is the model's (DESIGN CHOICE, notes/assumptions/113). -/
def State.startFrame (s : State) (p : PortId) : State × List PdNote :=
  match (s.port p).pd.tx with
  | some t =>
    if t.ph ≠ .held then (s, [])
    else if ¬ (s.port p).sendable t.msg then
      let o : TxOutcome := if t.tries = 0 then .refused else .exhausted
      (s.endTx p t o, [.outcome t.msg t.prod o])
    else
      let (bad, s) := s.meetHead (fPdTx p)
      if bad then (s.endTx p t .exhausted, [.outcome t.msg t.prod .exhausted])
      else
        let s := if t.tries = 0 ∧ t.msg.isCtrl 13 then s.laneReset p t.msg.sopx else s
        let s := s.modPd p fun x => { x with tx := some { t with ph := .wire, tries := t.tries + 1, cur := t.cur + 1 } }
        (s.emit (.frame p ((s.port p).onWire t)), [])
  | none => (s, [])

/-- nRetryCount of an SOP* (R126). -/
def PdState.retries (x : PdState) (k : Sopx) : Nat := if x.revOf k = 2 then 2 else 3

/-- A first message that has not started its preamble is abandoned for the partner's (R133, R135); a note for its
producer. -/
def State.dropFirst (s : State) (p : PortId) : State × List PdNote :=
  match (s.port p).pd.tx with
  | some t =>
    if t.first ∧ t.tries = 0 ∧ (t.ph = .held ∨ t.ph = .amsWait ∨ t.ph = .sinkWait) then
      ((s.endTx p t .abandoned).modPd p fun x => { x with ams := .partner }, [.withdrawn t.msg t.prod])
    else (s, [])
  | none => (s, [])

/-- A transmission awaiting GoodCRC or a Chunk Request on an SOP* is abandoned by another message on it (R128, R138). -/
def State.dropPending (s : State) (p : PortId) (m : PdMsg) : State × List PdNote :=
  match (s.port p).pd.tx with
  | some t =>
    if t.msg.sopx = m.sopx ∧ (t.ph = .waitCrc ∨ (t.ph = .chunkWait ∧ ¬ m.chunkReq)) then
      (s.endTx p t .abandoned, [.outcome t.msg t.prod .abandoned])
    else (s, [])
  | none => (s, [])

/-- The AMS in progress ends; Rp returns to SinkTxOK (R131). -/
def State.amsEnd (s : State) (p : PortId) : State :=
  s.modPd p fun x => { x with ams := .idle, rpNg := x.rpNg && !((s.port p).cc.st == .attachedSrc) }

/-- An AMS that the device started ends; one of the partner's goes on (R131, R133). -/
def State.amsDone (s : State) (p : PortId) : State := if (s.port p).pd.ams = .device then s.amsEnd p else s

/-! ### Receipt (R124, R136 to R138) -/

/-- A Chunk Request for a chunk (R137). -/
def Port.chunkReqMsg (q : Port) (m : PdMsg) (k : Nat) : PdMsg :=
  { sopx := m.sopx, hdr := q.hdrOf m.sopx m.mtype 1 true, data := leBytes 2 (2 ^ 10 + 2048 * k + 32768) ++ [0, 0] }

/-- A message passes through PDRX to the sequencer (R145, 03 R71). -/
def State.viaPdRx (s : State) (p : PortId) (m : PdMsg) : State :=
  match s.putMsg (fPdRx p) (.pd m (s.port p).cc.inst none s.now) m with
  | some s => s.popMsg (fPdRx p) m
  | none => s

/-- An assembled or single-chunk message, its data from the message header on: size, then data bytes. -/
def wholeMsg (m : PdMsg) (size : Nat) (bytes : List Byte) : PdMsg :=
  { m with data := leBytes 2 (size + 32768) ++ bytes.take size }

/-- A Chunk Request for the transmission in progress (R138). -/
def State.onChunkReq (s : State) (p : PortId) (m : PdMsg) : State × List PdNote :=
  match (s.port p).pd.tx with
  | some t =>
    if t.ph ≠ .chunkWait ∨ t.msg.sopx ≠ m.sopx then (s, [])
    else if m.chunkNo = t.chunk + 1 then
      ((s.stop p .chunkTx).modPd p fun x => { x with tx := some { t with ph := .held, cur := 0, chunk := t.chunk + 1 } }, [])
    else (s.endTx p t .exhausted, [.outcome t.msg t.prod .exhausted])
  | none => (s, [])

/-- The received message is a chunk of the message in assembly, whatever its number (R137). -/
def PdAsm.takes (a : PdAsm) (m : PdMsg) : Bool :=
  a.sopx == m.sopx && m.ext && !m.chunkReq && m.chunked && a.header.toNat % 32 == m.mtype && !m.tooLong

/-- An extended message or a chunk of one (R136, R137). A chunk 0 that finds the buffer in use on another SOP* draws no Chunk
Request. -/
def State.onExtended (s : State) (p : PortId) (m : PdMsg) : State × List PdNote :=
  let q := s.port p
  if q.pd.revOf m.sopx ≠ 2 then (s, [])
  else if m.chunkReq then s.onChunkReq p m
  else if m.tooLong then (s, [.discarded m])
  else
    let whole (m : PdMsg) (size : Nat) (b : List Byte) (s : State) : State × List PdNote :=
      let w := wholeMsg m size b
      (s.viaPdRx p w, [.got w])
    match q.pd.asm with
    | some a =>
      if a.takes m then
        if m.chunkNo ≠ a.want then ((s.stop p .chunk).modPd p fun x => { x with asm := none }, [.fail])
        else
          let b := a.bytes ++ (m.data.drop 2).take 26
          if a.size ≤ 26 * (a.want + 1) then whole m a.size b ((s.stop p .chunk).modPd p fun x => { x with asm := none })
          else
            let s := s.modPd p fun x => { x with asm := some { a with want := a.want + 1, bytes := b } }
            ((s.start p .chunk).pdSend p (q.chunkReqMsg m (a.want + 1)), [])
      else if m.xsize ≤ 26 then whole m m.xsize (m.data.drop 2) s
      else if m.chunkNo ≠ 0 then (s, [.fail])
      else (s, [])
    | none =>
      if m.xsize ≤ 26 then whole m m.xsize (m.data.drop 2) s
      else if m.chunkNo ≠ 0 then (s, [.fail])
      else
        let a : PdAsm := { sopx := m.sopx, want := 1, size := m.xsize, header := m.hdr, bytes := (m.data.drop 2).take 26 }
        let s := s.modPd p fun x => { x with asm := some a }
        ((s.start p .chunk).pdSend p (q.chunkReqMsg m 1), [])

/-- The revision of the cable plug's first response (R130). -/
def State.cableRev (s : State) (p : PortId) (m : PdMsg) : State :=
  s.modPd p fun x =>
    if m.sopx = .sop ∨ x.revCable ≠ 0 then x else { x with revCable := BitVec.ofNat 2 (max 1 (min x.own m.rev)) }

/-- A valid message that is accepted on its SOP* (R124): GoodCRC, the duplicate check, Soft_Reset's effect (R139), the
assembly that another message ends (R137), and what is passed on. -/
def State.pdTake (s : State) (p : PortId) (m : PdMsg) : State × List PdNote :=
  let q := s.port p
  if ¬ q.pdRuns ∨ ¬ q.sopOk m.sopx then (s, [])
  else
    let (s, n1) := if m.sopx = .sop then s.dropFirst p else (s, [])
    let (s, n2) := s.dropPending p m
    let s := s.emit ((s.port p).goodCrcOf p m)
    let soft := m.isCtrl 13
    let dup := decide ((q.pd.lane m.sopx).rxId = some m.mid) && !soft
    if dup then ((s.modPd p fun x => { x with dupRx := satInc x.dupRx }).nextTx p, n1 ++ n2)
    else
      let broken := match (s.port p).pd.asm with
        | some a => a.sopx == m.sopx && !a.takes m
        | none => false
      let s := if soft then s.laneReset p m.sopx
        else s.modPd p fun x => x.modLane m.sopx fun l => { l with rxId := some m.mid }
      let s := if m.sopx = .sop ∧ ((s.port p).pd.ams = .idle ∨ n2 ≠ []) then
          s.modPd p fun x => { x with ams := .partner, rpNg := x.rpNg || (x.caActive && q.cc.st == .attachedSrc) }
        else s
      let s := s.cableRev p m
      let s := if broken then (s.stop p .chunk).modPd p fun x => { x with asm := none } else s
      let n3 : List PdNote := if broken && !soft then [.fail] else []
      let (s, n4) := if m.ext then s.onExtended p m else (s.viaPdRx p m, [PdNote.got m])
      (s, n1 ++ n2 ++ n3 ++ n4)

/-! ### GoodCRC and tReceive (R125, R126) -/

/-- A GoodCRC on an SOP* with a MessageID. -/
def State.onGoodCrc (s : State) (p : PortId) (k : Sopx) (i : BitVec 3) : State × List PdNote :=
  match (s.port p).pd.tx with
  | some t =>
    if t.ph ≠ .waitCrc ∨ t.msg.sopx ≠ k ∨ ((s.port p).pd.lane k).txId ≠ i then (s, [])
    else if t.chunk + 1 < chunksOf t.msg then
      let s := s.modPd p fun x =>
        { (x.modLane k fun l => { l with txId := l.txId + 1 }) with tx := some { t with ph := .chunkWait } }
      ((s.stop p .tReceive).start p .chunkTx, [])
    else (s.endTx p t .acked, [.outcome t.msg t.prod .acked])
  | none => (s, [])

/-- No GoodCRC within tReceive. -/
def State.onTReceive (s : State) (p : PortId) : State × List PdNote :=
  match (s.port p).pd.tx with
  | some t =>
    if t.ph ≠ .waitCrc then (s, [])
    else if t.cur ≤ (s.port p).pd.retries t.msg.sopx then
      (s.modPd p fun x => { x with tx := some { t with ph := .held } }, [])
    else (s.endTx p t .exhausted, [.outcome t.msg t.prod .exhausted])
  | none => (s, [])

/-! ### Clearing (R117, R139, R141) -/

/-- A message of PDTX, or one that waits for its credit, is completed with an outcome; what the outcome counts follows R127. -/
def State.flushMsg (s : State) (p : PortId) (o : TxOutcome) (m : PdMsg) (prod : PdProd) (tries : Nat) : State :=
  (s.modPd p fun x => x.counts m.sopx o (decide (0 < tries))).emit (.pdOutcome p m prod o s.now tries)

/-- Every message of PDTX, held or in transmission, and every one that waits for credit is completed with an outcome. -/
def State.flushTx (s : State) (p : PortId) (o : TxOutcome) : State :=
  let t := (s.port p).pd.tx
  let s := (s.flow (fPdTx p)).records.foldl (fun s r => match r with
    | .pd m _ (some (prod, _)) _ =>
      s.flushMsg p o m prod (match t with | some t => if t.msg = m then t.tries else 0 | none => 0)
    | _ => s) s
  let s := (s.flow (fPdTx p)).waiters.foldl (fun s w => match w with
    | .seq _ m prod _ => s.flushMsg p o m prod 0
    | _ => s) s
  let s := (s.emptyFlow (fPdTx p)).modFlow (fPdTx p) fun x => { x with waiters := [] }
  (s.modPd p fun x => { x with tx := none }).stopAll p [.tReceive, .chunkTx, .amsWait]

/-- The layer clears itself for all SOP* (R141): counters, stored IDs, revisions, assembly, collision avoidance. -/
def State.pdClear (s : State) (p : PortId) (o : TxOutcome) : State :=
  ((s.flushTx p o).stop p .chunk).modPd p fun x =>
    { x with sop := {}, sopp := {}, soppp := {}, revSop := 0, revCable := 0, asm := none, caActive := false, rpNg := false
             ams := .idle, bistTest := false }

/-- A Cable Reset that the device signals (R143): R141 for SOP′ and SOP″ alone, with its record. No rule makes the device signal
one (notes/assumptions/29). -/
def State.cableReset (s : State) (p : PortId) : State :=
  let cable (m : PdMsg) : Bool := m.sopx != .sop
  let s := match (s.port p).pd.tx with
    | some t => if cable t.msg then s.endTx p t .cableReset else s
    | none => s
  let s := s.modPd p fun x =>
    { x with sopp := {}, soppp := {}, revCable := 0, asm := if (x.asm.map (·.sopx)) = some .sop then x.asm else none }
  (s.emit (.cableReset p)).eventP 0x0201 p 0 0

/-- The layer stops at a detach or at an entry to a state in which it does not run (R117). -/
def State.pdStop (s : State) (p : PortId) : State :=
  (s.pdClear p .detach).modPd p fun x => { x with stopped := true, hrPend := false, soppp2 := false }

/-! ### Commands of the layer that concern no sequencer -/

/-- FRAME_TRANSMITTED (R126): the frame's last bit; tReceive starts. -/
def execFrameTransmitted (p : PortId) (s : State) : Res :=
  .next (match (s.port p).pd.tx with
  | some t =>
    if t.ph = .wire then (s.modPd p fun x => { x with tx := some { t with ph := .waitCrc } }).start p .tReceive else s
  | none => s)

/-- A frame is discarded without GoodCRC (R120). -/
def State.badFrame (s : State) (p : PortId) : State :=
  if (s.port p).pdRuns then s.modPd p fun x => { x with crcErr := satInc x.crcErr } else s

/-- FRAME_CRC_ERROR (R120). -/
def execFrameCrcError (p : PortId) (s : State) : Res := .next (s.badFrame p)

/-- AMS_START_WAIT_EXPIRY (R132): the first message of the AMS may start on an idle channel. -/
def execAmsStartWaitExpiry (p : PortId) (s : State) : Res :=
  .next (s.onExpiry p .amsWait fun s => s.modPd p fun x =>
    { x with tx := x.tx.map fun t => if t.ph = .amsWait then { t with ph := .held } else t })

/-- SINKTXOK_READ (R134): the partner's Rp reads SinkTxOK, and a first message held for it may start; or it
reads SinkTxNG. Before the first report it is not SinkTxNG (DESIGN CHOICE, notes/assumptions/114). -/
def execSinktxokRead (r : RpRead) (s : State) : Res :=
  .next (if (s.port r.port).cc.st ≠ .attachedSnk then s
  else if r.ok then
    s.modPd r.port fun x => { x with rpNg := false
                                     tx := x.tx.map fun t => if t.ph = .sinkWait then { t with ph := .held } else t }
  else s.modPd r.port fun x =>
    { x with rpNg := true
             tx := x.tx.map fun t => if t.ph = .held ∧ t.first ∧ t.tries = 0 ∧ x.caActive then { t with ph := .sinkWait } else t })

/-- CABLE_RESET_RECEIVED (R143): a received Cable Reset is ignored. -/
def execCableResetReceived (p : PortId) (s : State) : Res := .next s

end Sys2Proof.Machine
end

