-- ==== Sys2Proof/Machine/Seq.lean ====
section
/-! DEFINITION. The policy sequencer's base (06 R149 to R156, R168, R171; 07 Table 7-8): its entries to STARTUP, SEND_CAPS,
READY, NO_PD and OFF, Hard Reset from the request to its record, Soft_Reset, and the answers to unexpected input. -/

set_option linter.unusedVariables false

namespace Sys2Proof.Machine

/-- The timers of the sequencer. -/
def polTimers : List Tmr :=
  [.sendCap, .sender, .srcTrans, .transLimit, .pps, .keepAlive, .cableDisc, .vdmBusy, .vdmResp, .waitSpacing,
   .psHardReset, .srcRecover, .psSourceOn, .psSourceOff, .psTransition, .sinkWaitCap, .vconnSource, .frsWait, .takeover,
   .returnRetry, .fleetEnter, .auth, .vdmAnswer, .cableAgain]

/-- The timers of a message sequence in progress. -/
def amsTimers : List Tmr :=
  [.sendCap, .sender, .srcTrans, .transLimit, .cableDisc, .vdmBusy, .vdmResp, .psSourceOn, .psSourceOff, .psTransition,
   .vconnSource, .fleetEnter]

def State.setSeq (s : State) (p : PortId) (x : SeqSt) : State := s.modPol p fun q => { q with seq := x }

/-- A device-side AMS starts with this message, or a message answers within one. -/
def State.say (s : State) (p : PortId) (m : PdMsg) (first : Bool := false) : State := s.pdSend p m .seq first

/-- The loop limit that the sequencer sets, and the monitors that follow it (R168, 11 Table 11-5). -/
def State.setILim (s : State) (p : PortId) (ma : Nat) : State :=
  (s.modCnv p fun c => { c with ilSeq := ma }).trackPeaks p

/-- EPR mode ends with a record (R175). -/
def State.endEpr (s : State) (p : PortId) (sub : Nat) : State :=
  if (s.port p).pol.eprMode then
    (s.stop p .keepAlive).modPol p (fun x => { x with eprMode := false }) |>.eventP 0x0209 p sub 0
  else s

/-- The contract ends: C returns to its floor, and with it EPR mode and collision avoidance (05 R131). -/
def State.endContract (s : State) (p : PortId) : State :=
  let s := (s.endEpr p 3).modPd p fun x => { x with caActive := false, rpNg := false }
  (s.modPol p fun x => { x with contract := none, pendCtr := none, ackedCaps := [], rejects := 0, eprStep := 0
                                capsDue := false }).commitFloor p

/-- FLEET_MODE_FAILED, where an entry to fleet mode is cut off before its answer (08 R242). Its code is the model's (DESIGN CHOICE,
notes/assumptions/120). -/
def State.fleetCut (s : State) (p : PortId) : State :=
  let k := (s.port p).pod.fleetCmd
  if k = 0 then s else (s.modPod p fun x => { x with fleetCmd := 0 }).eventP 0x0408 p k 3

/-- The message sequence in progress is abandoned: what the sequencer started starts again later (08 R236), but for an entry to
fleet mode, which has failed (08 R242). The timers of R187, R241 and R248 run on (DEDUCED, notes/assumptions/121). -/
def State.amsDrop (s : State) (p : PortId) : State :=
  let s := if (s.port p).pod.fleetCmd = 0 then s else (s.fleetCut p).finishAll 0x23 p stPartnerNoResponse 0
  ((s.stopAll p amsTimers).modPod p fun x => { x with discOn := false }).modPol p fun x =>
    { x with cableAsk := x.cableAsk || x.cableBusy, cableBusy := false }

/-- Discovery, lookup, authentication and fleet work started for the partner are dropped (01 R21, 08 R243, R249);
an applied outcome is kept (07 R202). -/
def State.dropPartnerWork (s : State) (p : PortId) : State :=
  ((s.fleetCut p).modPod p fun x =>
    let again := !x.discDone || x.pendCopy.isSome
    { x with fleet := false, vdmAwait := false, discOn := false, lookPend := none, pendCopy := none
             ackSop := none, ackCable := none, oldJob := x.oldJob || x.pendCopy.isSome
             discDone := x.discDone && !again
             discTries := if again then 0 else x.discTries, discBusy := if again then 0 else x.discBusy
             auth := if x.pendCopy.isSome then 0 else x.auth
             fleetTried := false }).modPol p fun x => { x with cableBusy := false }

/-- The sequencer enters OFF (Table 6-2 last row); the latch is cleared (R184). -/
def State.seqOff (s : State) (p : PortId) : State :=
  let s := ((s.endContract p).dropPartnerWork p).stopAll p polTimers
  (s.modPol p fun x => { x with seq := .off, reneg := false, renegCmd := false, firstDone := false, capsCtr := 0
                                sentCaps := [], waitMsg := none, waitLeft := 0 }).modSwap p fun x =>
    { x with kind := .idle, step := 0, byDev := false, accepted := false, withdrawn := false, snkContract := false
             late := false, snkAsk := false, snkSoft := false, returning := false, hrStep := 0, hrHold := false }

/-- The sequencer enters STARTUP (R151, R170). -/
def State.toStartup (s : State) (p : PortId) : State :=
  s.modPol p fun x => { x with seq := .startup, capsCtr := 0, firstDone := false, contract := none, pendCtr := none
                               rejects := 0, capsDue := false }

/-- The sequencer enters NO_PD (R152). -/
def State.toNoPd (s : State) (p : PortId) (sub : Nat) : State :=
  let s := s.modPol p fun x => { x with seq := .noPd, reneg := false, capsDue := false }
  (s.setILim p (s.port p).rpLimit).eventP 0x0206 p sub 0

/-- The sequencer returns to READY, its AMS over (R131). -/
def State.toReady (s : State) (p : PortId) : State := (s.setSeq p .ready).amsEnd p

/-! ### Capabilities (R156, R185) -/

/-- The RENEGOTIATE commands in progress are tied to the capabilities that clear the latch (14 Table 14-6). -/
def State.markReneg (s : State) (p : PortId) : State :=
  { s with hif := { s.hif with table := s.hif.table.map fun o =>
      if o.ph = .running ∧ o.d.op.toNat = 0x07 ∧ o.d.port.toNat = p.val then { o with aux := 1 } else o } }

/-- The device leaves EPR mode on its own where a condition of R172 other than the RDO bit has stopped holding (R175). -/
def State.eprLeave (s : State) (p : PortId) : State :=
  let q := s.port p
  if q.pol.eprMode ∧ (q.eprFails false).isSome then
    (s.say p (q.dataMsg .sop 10 (leBytes 4 (5 * 2 ^ 24))) true).endEpr p 2
  else s

/-- Capabilities are built from the inputs as they stand and handed over; the latch clears (R185), and the policy values that
were written take effect (R190). -/
def State.sendCaps (s : State) (p : PortId) (first : Bool) : State :=
  let s := (s.modPol p fun x => { x with cfgNow := x.cfg, limNow := x.lim }).eprLeave p
  let q := s.port p
  let epr := q.pol.eprMode
  let l := q.caps q.pol.grant epr
  let s := if q.pol.reneg then s.markReneg p else s
  let s := s.modPol p fun x =>
    { x with sentCaps := l, sentFirst := getLE (q.capBytes l) 0 4, sentEpr := epr, capsCtr := x.capsCtr + 1, capsDue := false, reneg := false, renegCmd := x.reneg
             iLimTemp := q.iLim, cnt := if x.reneg then x.cnt.cntInc 3 else x.cnt }
  s.say p (if epr then q.extMsg 17 (q.capBytes l) else q.dataMsg .sop 1 (q.capBytes l)) first

/-- Entry to SEND_CAPS: the first capabilities after STARTUP wait for the allocation round that the entry starts; later
ones are built at once (R156). -/
def State.toSendCaps (s : State) (p : PortId) (first : Bool) : State :=
  let x := (s.port p).pol
  let s := s.modPol p fun x => { x with seq := .sendCaps, demanding := true }
  if x.capsCtr = 0 ∧ ¬ x.firstDone then s.modPol p fun x => { x with capsDue := true } else s.sendCaps p first

/-! ### Hard Reset (05 R140 to R142, 07 R219) -/

/-- The sequencer state, SWAP_KIND and SWAP_STEP at the landing (15 Table 15-4). -/
def Port.landing (q : Port) : Nat := q.pol.seq.code + 256 * q.swap.kind.code + 65536 * q.swap.step

/-- H1 of a landing at F1 or F2 closes the session with the supply-loss reason, and the port goes on as a non-donor
(07 Table 7-10). -/
def State.hrLanding (s : State) (p : PortId) : State :=
  let w := (s.port p).swap
  let s := if w.kind = .fr ∧ w.step ≤ 2 then
      ((s.closeSession p .supply).cnvStop p).modSwap p fun w => { w with hrHold := true }
    else s
  s.modSwap p fun w =>
    { w with cnt := if w.kind = .idle then w.cnt else w.cnt.cntInc 3
             kind := .idle, step := 0, byDev := false, accepted := false, withdrawn := false, snkContract := false
             late := false, snkAsk := false, snkSoft := false, returning := false, snkValid := false, drp := false, frs := 0 }

/-- What a Hard Reset, requested or received, does at once: R141 for the layer, the contract's end, the landing; the
sequencer enters `goal`, and a port that was sink is ATTACHED_SRC from H1 (R219). -/
def State.hrStart (s : State) (p : PortId) (goal : SeqSt) : State :=
  let s := s.modPd p fun x => { x with hrLand := (s.port p).landing }
  let s := s.pdClear p .hardReset
  let s := (((s.endContract p).dropPartnerWork p).stopAll p polTimers).hrLanding p
  let s := s.modPol p fun x => { x with seq := goal, renegCmd := false, sentCaps := [], waitMsg := none, waitLeft := 0
                                        reneg := x.reneg && goal != .off }
  let s := s.modCc p fun c => { c with st := if c.st = .attachedSnk then .attachedSrc else c.st }
  if goal = .hardReset then s.modSwap p fun w => { w with hrStep := 1 } else s

/-- The sequencer asks for Hard Reset (R140); signalling starts unless one from the partner is recognised first. -/
def State.hrRequest (s : State) (p : PortId) (goal : SeqSt := .hardReset) : State :=
  (s.hrStart p goal).modPd p fun x => { x with hrPend := true }

/-- The record of a Hard Reset, its counts, and the count of the session (R141; 12 Table 12-5). -/
def State.hrNote (s : State) (p : PortId) (received : Bool) : State :=
  let s := if received then s else s.modPol p fun x => { x with hrCtr := x.hrCtr + 1, cnt := x.cnt.cntInc 1 }
  let q := s.port p
  (s.eventP 0x0200 p (b2n received) (q.pd.hrLand % 2 ^ 24 + 2 ^ 24 * satN 8 q.pol.hrCtr)).sesHardReset p

/-- The record of a Hard Reset, and the descriptors that it ends: those of HARD_RESET with their own status
(R141, R415, 14 R432). -/
def State.hrRecord (s : State) (p : PortId) (received : Bool) : State :=
  let s := s.hrNote p received
  let s := s.finishAll 0x06 p stOk (evData [(24, 1, min 3 (s.port p).pol.hrCtr), (25, 1, b2n received)])
  let s := s.modCnv p fun c => { c with trim := none }
  (s.stop p .trimLimit).endPort p stAbortedHardReset

/-- After the signalling: H2 starts (07 Table 7-8). -/
def State.hrWait (s : State) (p : PortId) : State :=
  let s := s.modPd p fun x => { x with hrPend := false }
  if (s.port p).swap.hrStep = 1 then (s.modSwap p fun w => { w with hrStep := 2 }).start p .psHardReset else s

/-! ### VCONN (04 R106, R107) -/

/-- VCONN is removed; the pin is being discharged. -/
def State.vconnOff (s : State) (p : PortId) : State :=
  if (s.port p).cc.vconnOn then
    (s.modCc p fun c => { c with vconnOn := false, vconnBusy := true }).modSwap p fun w => { w with vconnSrc := false }
  else s

/-- The conditions of R106 but for the GATE's: the other pin classed Ra, VCONN_EN, VCONNIN within 4.75 to 5.5 V, no
fault (R107). -/
def Port.vconnOk (q : Port) : Bool :=
  let other := match q.cc.active with | some .cc1 => q.cc.cls2 | some .cc2 => q.cc.cls1 | none => .opn
  other == .ra && q.cc.vcfg.bit 0 && !q.cc.vconnFault && q.cc.vin

/-- VCONN is applied with the limit of PRT_VCONN_CFG (R106, R107). -/
def State.vconnApply (s : State) (p : PortId) : State :=
  (s.modCc p fun c => { c with vconnOn := true, vconnBusy := true, vconnIlim := BitVec.ofNat 8 (c.vcfg.fld 15 8)
                               vconnPin := c.active.map Pin.other }).modSwap p fun w => { w with vconnSrc := true }

/-! ### Entry to UNATTACHED (04 R100, R92, Table 4-6 step 8) -/

/-- The port enters UNATTACHED: Rp on both pins at the level of R92 and R177, nothing of the last attach left. -/
def State.toUnattached (s : State) (p : PortId) : State :=
  let s := s.modCc p fun c =>
    { c with st := .unattached, rpOn := true, rdOn := false, win := none, smp1 := [], smp2 := [], verdict := none, vHeld := false
             active := none, svcPin := none, clean := 0, detaching := false, atEntry := false, broken := false
             counted := false, vconnFault := false }
  let s := (s.modPd p fun x => { x with cfgNow := x.cfg, stopped := true }).modPol p fun x => { x with demanding := false }
  (s.takeRp p).start p .reprobe

/-- A detach is complete once VCONN is discharged and the path is OFF (Table 4-6 step 8). -/
def State.detachDone (s : State) (p : PortId) : State :=
  let q := s.port p
  if q.cc.detaching ∧ ¬ q.cc.vconnBusy ∧ q.ef.path = .off then s.toUnattached p else s

/-! ### H3 to H5 (07 Table 7-8) -/

/-- H3: outputs off, VCONN removed, Rd changed to Rp. -/
def State.hrH3 (s : State) (p : PortId) : State :=
  let s := ((s.openPath p).vconnOff p).modCc p fun c => { c with rdOn := false, rpOn := true }
  s.modSwap p fun w => { w with hrStep := 3 }

/-- H4 from VBUS at vSafe0V. -/
def State.hrH4 (s : State) (p : PortId) : State :=
  (s.modSwap p fun w => { w with hrStep := 4 }).start p .srcRecover

/-- H5 when tSrcRecover has passed and, while ACTIVE is 1 or where the port waits for it under R23 or R214, the return criterion
holds. -/
def State.hrH5 (s : State) (p : PortId) : State :=
  let w := (s.port p).swap
  if w.hrStep = 4 ∧ ¬ s.runs p .srcRecover ∧ (¬ (w.hrHold ∨ s.hu.active) ∨ w.returnMet) then
    (s.modSwap p fun w => { w with hrStep := 5, hrHold := false }).requestPath p .hardReset
  else s

/-- TPSHARDRESET_EXPIRY (R219): H2 ends. -/
def execPsHardResetExpiry (p : PortId) (s : State) : Res :=
  .next (s.onExpiry p .psHardReset fun s => if (s.port p).swap.hrStep = 2 then s.hrH3 p else s)

/-- TSRCRECOVER_EXPIRY (R219). -/
def execSrcRecoverExpiry (p : PortId) (s : State) : Res := .next (s.onExpiry p .srcRecover fun s => s.hrH5 p)

/-! ### Soft_Reset and unexpected input (R154, R155, 07 R218) -/

/-- A Soft_Reset is sent, as an AMS of the device's own. -/
def State.sendSoft (s : State) (p : PortId) : State := s.say p ((s.port p).ctrl 13) true

/-- The sequencer sends Soft_Reset and enters SOFT_RESET. -/
def State.softReset (s : State) (p : PortId) : State :=
  ((s.amsDrop p).modPol p fun x => { x with seq := .softReset, pendCtr := none, eprStep := 0 }).sendSoft p

/-- RESULT of a swap command (07 R221). -/
def Port.swapResult (q : Port) (b26 : Nat := 0) : Quad :=
  evData [(24, 1, b2n (q.cc.st == .attachedSnk)), (25, 1, b2n q.swap.vconnSrc), (26, 1, b26)]

/-- A port in ATTACHED_SNK sends Soft_Reset (07 R217, R218); a swap in progress is over, and its command with it. This end is the
model's (DESIGN CHOICE, notes/assumptions/119). -/
def State.sinkSoft (s : State) (p : PortId) : State :=
  let s := (s.amsDrop p).modSwap p fun w =>
    { w with kind := .idle, step := 0, byDev := false, accepted := false, snkAsk := false, snkSoft := true }
  let s := s.setSeq p .sink
  let s := (s.finishAll 0x09 p stPartnerNoResponse (s.port p).swapResult).finishAll 0x0A p stPartnerNoResponse (s.port p).swapResult
  s.sendSoft p

/-- Where Table 7-7 or Table 6-4 calls for Hard Reset, a port in ATTACHED_SNK sends Soft_Reset while ACTIVE is 1 (07 R218). -/
def State.sinkReset (s : State) (p : PortId) : State :=
  if (s.port p).cc.st = .attachedSnk ∧ s.hu.active then s.sinkSoft p else s.hrRequest p

/-- The Soft_Reset of a port in SINK has failed: Hard Reset, which R218 rules out while ACTIVE is 1. -/
def State.sinkLost (s : State) (p : PortId) : State :=
  if s.hu.active then
    ((s.stop p .sender).modSwap p fun w => { w with snkSoft := false, snkContract := false }).amsEnd p |>.eventP 0x0307 p 0 0
  else (s.modSwap p fun w => { w with snkSoft := false }).hrRequest p

/-- Not_Supported, or Reject under Revision 2.0 (Table 6-4). -/
def State.notSupported (s : State) (p : PortId) : State :=
  let q := s.port p
  s.say p (q.ctrl (if q.rev3 then 16 else 4))

/-- Kinds of unexpected input, the rows of Table 6-4. -/
inductive Odd | unsupported | outOfPlace | failed | extDiscard | retries
  deriving DecidableEq, Repr

/-- READY's answer (Table 6-4). -/
def State.oddReady (s : State) (p : PortId) (k : Odd) : State :=
  match k with
  | .unsupported | .extDiscard => s.notSupported p
  | _ => s.softReset p

/-- The answer to unexpected input in the present state (R154, R155, 07 Table 7-7). -/
def State.odd (s : State) (p : PortId) (k : Odd) : State :=
  match (s.port p).pol.seq with
  | .transition => if k = .retries then s else s.hrRequest p
  | .waitRequest | .negotiate | .eprEntry | .sendCaps => s.softReset p
  | .ready => s.oddReady p k
  | .softReset => s.hrRequest p
  | .swap =>
    match k with
    | .unsupported | .extDiscard => s.notSupported p
    | _ => s.sinkReset p
  | .sink =>
    match k with
    | .unsupported | .extDiscard => s.notSupported p
    | _ => if (s.port p).swap.snkSoft then s.sinkLost p else s.sinkSoft p
  | .off | .startup | .cableDisc | .noPd | .hardReset => s

/-- A message that the device knows, which a state that does not expect it takes as out of place; all others are
unsupported (Table 6-4). -/
def knownMsg (m : PdMsg) : Bool :=
  [3, 4, 6, 7, 8, 10, 11, 12, 13, 16, 24].any (fun k => m.isCtrl k) || [1, 2, 4, 9, 10, 15].any (fun k => m.isData k)
    || m.isExt 9 || m.isExt 16

/-- Any other message in a state of Table 6-4. -/
def State.gotElse (s : State) (p : PortId) (m : PdMsg) : State := s.odd p (if knownMsg m then .outOfPlace else .unsupported)

/-! ### HARD_RESET command (14 R432) -/

def hardResetSpec : CmdSpec where
  params _ d := if d.onlyAt [] then none else some stBadParam
  legal s d :=
    let q := s.port d.pid
    match q.cc.st with
    | .attachedSrc =>
      match q.pol.seq with
      | .off | .startup | .noPd | .hardReset => some 2
      | _ => none
    | .attachedSnk => if q.pol.seq ≠ .sink then some 2 else if s.hu.active then some 9 else none
    | _ => some 1
  go s d := s.hrRequest d.pid

def execHardReset (d : Desc) (s : State) : Res := .next (hardResetSpec.start 0x06 d [] s)

end Sys2Proof.Machine
end

