-- ==== Sys2Proof/Machine/Sha.lean ====
section
/-! DEFINITION. SHA-256 over byte strings, for the digest unit (08 R227) and the crypto engine (16 Table 16-19). The
constants are those of the published standard that the spec names (PRESUMED, notes/assumptions/7). -/

set_option linter.unusedVariables false

namespace Sys2Proof

def shaKa : List (BitVec 32) :=
  [0x428A2F98, 0x71374491, 0xB5C0FBCF, 0xE9B5DBA5, 0x3956C25B, 0x59F111F1, 0x923F82A4, 0xAB1C5ED5,
   0xD807AA98, 0x12835B01, 0x243185BE, 0x550C7DC3, 0x72BE5D74, 0x80DEB1FE, 0x9BDC06A7, 0xC19BF174,
   0xE49B69C1, 0xEFBE4786, 0x0FC19DC6, 0x240CA1CC, 0x2DE92C6F, 0x4A7484AA, 0x5CB0A9DC, 0x76F988DA,
   0x983E5152, 0xA831C66D, 0xB00327C8, 0xBF597FC7, 0xC6E00BF3, 0xD5A79147, 0x06CA6351, 0x14292967]

def shaKb : List (BitVec 32) :=
  [0x27B70A85, 0x2E1B2138, 0x4D2C6DFC, 0x53380D13, 0x650A7354, 0x766A0ABB, 0x81C2C92E, 0x92722C85,
   0xA2BFE8A1, 0xA81A664B, 0xC24B8B70, 0xC76C51A3, 0xD192E819, 0xD6990624, 0xF40E3585, 0x106AA070,
   0x19A4C116, 0x1E376C08, 0x2748774C, 0x34B0BCB5, 0x391C0CB3, 0x4ED8AA4A, 0x5B9CCA4F, 0x682E6FF3,
   0x748F82EE, 0x78A5636F, 0x84C87814, 0x8CC70208, 0x90BEFFFA, 0xA4506CEB, 0xBEF9A3F7, 0xC67178F2]

def ror32 (x : Word) (n : Nat) : Word := x.rotateRight n

/-- The message schedule, newest word first, extended by `n` words. -/
def shaExtend : Nat → List Word → List Word
  | 0, w => w
  | n + 1, w =>
    let x (i : Nat) : Word := w.getD (i - 1) 0
    let s0 := ror32 (x 15) 7 ^^^ ror32 (x 15) 18 ^^^ (x 15 >>> 3)
    let s1 := ror32 (x 2) 17 ^^^ ror32 (x 2) 19 ^^^ (x 2 >>> 10)
    shaExtend n ((x 16 + s0 + x 7 + s1) :: w)

/-- The eight working words. -/
structure ShaSt where
  a : Word
  b : Word
  c : Word
  d : Word
  e : Word
  f : Word
  g : Word
  h : Word
  deriving DecidableEq, Repr

def shaRound (s : ShaSt) (kw : Word × Word) : ShaSt :=
  let s1 := ror32 s.e 6 ^^^ ror32 s.e 11 ^^^ ror32 s.e 25
  let ch := (s.e &&& s.f) ^^^ (~~~ s.e &&& s.g)
  let t1 := s.h + s1 + ch + kw.1 + kw.2
  let s0 := ror32 s.a 2 ^^^ ror32 s.a 13 ^^^ ror32 s.a 22
  let maj := (s.a &&& s.b) ^^^ (s.a &&& s.c) ^^^ (s.b &&& s.c)
  { a := t1 + (s0 + maj), b := s.a, c := s.b, d := s.c, e := s.d + t1, f := s.e, g := s.f, h := s.g }

/-- The big-endian words of a block. -/
def beWords : List Byte → List Word
  | b0 :: b1 :: b2 :: b3 :: r => BitVec.ofNat 32 (beVal [b0, b1, b2, b3]) :: beWords r
  | _ => []

/-- One block of 64 bytes. -/
def shaBlock (s : ShaSt) (b : List Byte) : ShaSt :=
  let w := (shaExtend 48 (beWords b).reverse).reverse
  let t := ((shaKa ++ shaKb).zip w).foldl shaRound s
  { a := s.a + t.a, b := s.b + t.b, c := s.c + t.c, d := s.d + t.d, e := s.e + t.e, f := s.f + t.f, g := s.g + t.g
    h := s.h + t.h }

/-- At most `n` whole blocks. -/
def shaBlocks : Nat → ShaSt → List Byte → ShaSt
  | 0, s, _ => s
  | n + 1, s, bs => shaBlocks n (shaBlock s (bs.take 64)) (bs.drop 64)

def shaInit : ShaSt :=
  { a := 0x6A09E667, b := 0xBB67AE85, c := 0x3C6EF372, d := 0xA54FF53A, e := 0x510E527F, f := 0x9B05688C
    g := 0x1F83D9AB, h := 0x5BE0CD19 }

/-- The padded tail of a message of `total` bytes whose last bytes are `bs`. -/
def shaPad (total : Nat) (bs : List Byte) : List Byte :=
  bs ++ [0x80] ++ List.replicate ((119 - total % 64) % 64) 0 ++ beBytes 8 (8 * total)

def ShaSt.bytes (s : ShaSt) : List Byte :=
  [s.a, s.b, s.c, s.d, s.e, s.f, s.g, s.h].flatMap fun w => beBytes 4 w.toNat

/-- The hash of a byte string, 32 bytes. -/
def sha256 (bs : List Byte) : List Byte :=
  let p := shaPad bs.length bs
  (shaBlocks (p.length / 64) shaInit p).bytes

end Sys2Proof
end

