-- ==== Sys2Proof/Machine/Pod.lean ====
section
/-! DEFINITION. The Pod Table, vendor-defined messages and pack authentication (08): slot writes and their checks, lookups
and their outcomes, Discover Identity on SOP, fleet vendor mode, and the items that go to and come from the service
cores. The Structured VDM layouts are PRESUMED (notes/assumptions/7). -/

set_option linter.unusedVariables false

namespace Sys2Proof

/-! ### VDM header -/

def PdMsg.vSvid (m : PdMsg) : Nat := m.obj 0 / 65536
def PdMsg.vStruct (m : PdMsg) : Bool := (m.obj 0).testBit 15
def PdMsg.vType (m : PdMsg) : Nat := m.obj 0 / 64 % 4
def PdMsg.vCmd (m : PdMsg) : Nat := m.obj 0 % 32
def PdMsg.vPos (m : PdMsg) : Nat := m.obj 0 / 256 % 8
def PdMsg.isVdm (m : PdMsg) : Bool := m.isData 15
/-- The VDOs after the VDM header. -/
def PdMsg.vdos (m : PdMsg) : List Nat := (List.range (m.nObj - 1)).map fun k => m.obj (k + 1)

end Sys2Proof

namespace Sys2Proof.Machine

/-- A Structured VDM with its version by the revision in use (R240). -/
def Port.vdm (q : Port) (k : Sopx) (svid cmd pos typ : Nat) : PdMsg :=
  q.dataMsg k 15 (leBytes 4 (svid * 65536 + 32768 + (if q.pd.sendRev k = 2 then 8192 else 0) + pos * 256 + typ * 64 + cmd))

/-- The answer of a type to a Structured VDM command. -/
def Port.vdmAnswer (q : Port) (m : PdMsg) (typ : Nat) : PdMsg := q.vdm m.sopx m.vSvid m.vCmd m.vPos typ

def State.fleetSvid (s : State) : Nat := s.pod.fleet.fld 15 0

/-! ### Items for the service cores (R245 to R247) -/

/-- The head of a VDMRX item (Table 8-6). -/
def Port.itemHead (q : Port) (item sopx len slot : Nat) (e : Option PodEntry) (t : Quad) : List Byte :=
  let auth := item == 2
  leBytes 1 item ++ leBytes 1 sopx ++ leBytes 2 len ++ leBytes 2 q.cc.inst.toNat ++ leBytes 2 0 ++ leBytes 8 t.toNat
    ++ leBytes 8 q.pod.digest.toNat ++ leBytes 2 slot
    ++ leBytes 1 (if auth then (e.map fun e => e.le 11 1).getD 0 else 0)
    ++ leBytes 1 (if auth then (e.map fun e => e.le 26 1).getD 0 else 0) ++ leBytes 4 ((e.map PodEntry.profileId).getD 0)

/-- A payload for the cores is discarded: counted, and entered as VDM_DISCARD (03 R72, R246). -/
def State.vdmDiscard (s : State) (p : PortId) (sub : Nat) : State :=
  let s := (s.countNoCredit (fVdmRx p)).modPod p fun x => { x with discards := satN 32 (x.discards + 1) }
  s.eventP 0x0406 p sub (s.port p).pod.discards

/-- A received message goes to the service cores; `none` without credit. -/
def State.toCores (s : State) (p : PortId) (m : PdMsg) : Option State :=
  let q := s.port p
  let b := leBytes 2 m.hdr.toNat ++ m.data
  let head := q.itemHead 1 m.sopx.code (min 224 b.length) q.pod.slot.toNat (q.pod.copy.or q.pod.pendCopy) s.now
  if b.length ≤ 224 then s.putCell (fVdmRx p) [.bytes (head ++ b)]
  else if s.credit (fVdmRx p) < 2 then none
  else (s.putCell (fVdmRx p) [.bytes (head ++ b.take 224)]).bind fun s => s.putCell (fVdmRx p) [.bytes (b.drop 224)]

/-- An authentication job, or its cancelling, enters VDMRX. -/
def State.jobItem (s : State) (p : PortId) (item : Nat) (e : PodEntry) : State :=
  let q := s.port p
  (s.putCell (fVdmRx p) [.bytes (q.itemHead item 0 0 q.pod.slot.toNat (some e) s.now)]).getD (s.vdmDiscard p 3)

/-! ### Profile changes (R234, R235, R247, R249) -/

/-- Which profile is in force: the start profile, a copy, or the 5 V profile. -/
def PodPort.inForce (x : PodPort) : Option PodEntry × Bool := (if x.src = 2 then x.copy else none, x.src == 3)

/-- R235, 12 R368: a change latches renegotiation, and the session's profile fields are written. The demand follows the profile in
force at once (06 R178). -/
def State.profChanged (s : State) (p : PortId) (old : Option PodEntry × Bool) : State :=
  let s := s.sesProfile p
  if (s.port p).pod.inForce = old then s else s.latchReneg p

/-- RESULT of POD_RELOOKUP (14 Table 14-6). -/
def Port.podResult (q : Port) : Quad :=
  evData [(24, 1, q.pod.src.toNat), (25, 1, q.pod.auth.toNat), (26, 2, q.pod.slot.toNat)]

/-- Authentication for an entry starts: the job item enters VDMRX and the time limit runs (R247, R248). -/
def State.authStart (s : State) (p : PortId) (e : PodEntry) : State :=
  let s := s.modPod p fun x => { x with pendCopy := some e, authEntry := some e, auth := 1, discDone := false }
  (s.jobItem p 2 e).start p .auth

/-- The status that AUTHENTICATE completes with for a code of Table 8-7 (R249). -/
def authStatus (code : Nat) : Nat :=
  if code = 2 then stOk else if code = 5 then stPartnerNotSupported else if code = 6 then stTimeout else stAuthFailed

/-- The outcome of an authentication (R249). -/
def State.authEnd (s : State) (p : PortId) (code : Nat) : State :=
  match (s.port p).pod.pendCopy with
  | none => s
  | some e =>
    let old := (s.port p).pod.inForce
    let s := (s.stop p .auth).modPod p fun x =>
      let x := { x with pendCopy := none, auth := BitVec.ofNat 4 code, discDone := true }
      if code = 2 then { x with src := 2, copy := some e, authPassed := true }
      else { x with src := if s.pod.cfg.bit 2 then 3 else 1, copy := none, slot := 0 }
    ((s.eventP 0x0404 p code e.profileId).profChanged p old).finishAll 0x22 p (authStatus code) (evData [(24, 1, code)])

/-- A SOP lookup's hit in a slot (Table 8-4). AUTH keeps the code of an earlier authentication where the outcome needs none (DESIGN
CHOICE, notes/assumptions/89). -/
def State.podHit (s : State) (p : PortId) (slot : Nat) (e : PodEntry) : State :=
  let old := (s.port p).pod.inForce
  let s := s.modPod p fun x => { x with stale := false, lookPend := none, slot := BitVec.ofNat 12 slot }
  let s :=
    if e.deny then
      (s.modPod p fun x => { x with src := 3, copy := none, slot := 0, discDone := true }).eventP 0x0402 p slot e.profileId
    else if e.authReq ∧ ¬ (s.port p).pod.authPassed then
      ((s.modPod p fun x => { x with src := 0, copy := none }).eventP 0x0400 p slot e.profileId).authStart p e
    else (s.modPod p fun x => { x with src := 2, copy := some e, discDone := true }).eventP 0x0400 p slot e.profileId
  let s := s.profChanged p old
  s.finishAll 0x21 p stOk (s.port p).podResult

/-- A miss, no lookup, or no identity (Table 8-4): the record is POD_MISS or NO_IDENTITY. -/
def State.podMiss (s : State) (p : PortId) (cause sub : Nat) : State :=
  let old := (s.port p).pod.inForce
  let src : BitVec 2 := if s.pod.cfg.bit 1 then 3 else 1
  let s := s.modPod p fun x =>
    { x with stale := false, lookPend := none, slot := 0, src, copy := none, discDone := true, discOn := false }
  let s := (s.eventP cause p sub 0).profChanged p old
  s.finishAll 0x21 p stOk (s.port p).podResult

/-- The partner has no identity (R228): its digest is 0, ID_VALID is 0, and the identity has settled (10 R314). -/
def State.noIdentity (s : State) (p : PortId) (sub : Nat) : State :=
  let s := (s.stopAll p [.vdmResp, .vdmBusy]).modPod p fun x => { x with digest := 0, idValid := false }
  (s.podMiss p 0x0403 sub).settleIdentity p 0

/-! ### Identity digest and lookup (R227, R229, R232, R233) -/

/-- The identity digest of an ACK's VDOs. -/
def idDigest (k : Sopx) (vdos : List Byte) : Quad :=
  let d := leVal ((sha256 ([1, BitVec.ofNat 8 k.code, BitVec.ofNat 8 (vdos.length / 4), 0] ++ vdos)).take 8)
  if d = 0 then 1 else BitVec.ofNat 64 d

/-- A port requests a lookup, after those that others have requested before (R233). -/
def State.askLookup (s : State) (p : PortId) (r : LookupReq) : State :=
  let n := s.pod.asked
  ({ s with pod := { s.pod with asked := n + 1 } }).modPod p fun x => { x with lookPend := some r, lookAt := n }

/-- The port's lookup is the oldest that waits (R233). -/
def State.lookNext (s : State) (p : PortId) : Bool :=
  (List.finRange 16).all fun k =>
    (s.port k).pod.lookPend.isNone || decide ((s.port p).pod.lookAt ≤ (s.port k).pod.lookAt)

/-- A lookup waits for the table. -/
def State.lookWaits (s : State) : Bool := (List.finRange 16).any fun k => (s.port k).pod.lookPend.isSome

/-- IDENTITY_DIGEST (R227, R232): the digest of a SOP or SOP′ ACK is ready, and a lookup is requested. -/
def execIdentityDigest (p : PortId) (cable : Bool) (s : State) : Res :=
  .next (
    let x := (s.port p).pod
    if cable then
      match x.ackCable with
      | none => s
      | some v =>
        if x.lookPend.isSome then s
        else
          let s := s.modPod p fun x => { x with ackCable := none, cableDig := idDigest .sopp v }
          if s.pod.cfg.bit 4 then s.askLookup p .cable else s
    else
      match x.ackSop with
      | none => s
      | some v =>
        if x.lookPend.isSome then s
        else
          let d := idDigest .sop v
          let s := (s.modPod p fun x => { x with ackSop := none, digest := d, idValid := true }).settleIdentity p d
          if s.pod.cfg.bit 0 then s.askLookup p .sop else s.podMiss p 0x0401 0xFFFF)

/-- The non-empty slot, in one of the digest's two buckets, that holds a digest (R229). -/
def PodState.find (t : PodState) (d : Nat) : Option (Nat × PodEntry) :=
  t.slots.find? fun x => (x.1 / 4 == d % 1024 || x.1 / 4 == d / 1024 % 1024) && x.2.digest == d

/-- The outcome of a SOP lookup (R234). -/
def State.sopLookup (s : State) (p : PortId) : State :=
  match (if s.pod.cfg.bit 0 then s.pod.find (s.port p).pod.digest.toNat else none) with
  | some (k, e) => if e.kind = 2 then s.podMiss p 0x0401 0xFFFF else s.podHit p k e
  | none => s.podMiss p 0x0401 0xFFFF

/-- The outcome of a SOP′ lookup (R232). A later lookup of the same attach that misses leaves an earlier cable entry in force (DESIGN
CHOICE, notes/assumptions/90). -/
def State.cableLookup (s : State) (p : PortId) : State :=
  let s := s.modPod p fun x => { x with lookPend := none }
  match s.pod.find (s.port p).pod.cableDig.toNat with
  | some (_, e) => if e.kind = 2 then s.modPod p fun x => { x with cableHit := true, cableEntry := some e } else s
  | none => s

/-- The port's outstanding lookup is served. -/
def State.lookup (s : State) (p : PortId) : State :=
  let t : State := { s with pod := { s.pod with opSince := false } }
  match (s.port p).pod.lookPend with
  | none => s
  | some .cable => t.cableLookup p
  | some _ => t.sopLookup p

/-- POD_LOOKUP (R232 to R234): the port's outstanding lookup is served, once those requested before it have been (R233). -/
def execPodLookup (p : PortId) (s : State) : Res := .next (if s.lookNext p then s.lookup p else s)

/-- Another operation's turn: at most one is served between two lookups while one waits, so the oldest waiting lookup goes
first where one operation has been served since the last (R233). -/
def State.slotTurn (s : State) : State :=
  let s := match (if s.pod.opSince then (List.finRange 16).find? fun p => (s.port p).pod.lookPend.isSome && s.lookNext p else none) with
    | some p => s.lookup p
    | none => s
  { s with pod := { s.pod with opSince := s.lookWaits } }

/-! ### Slot operations (R231, R237 to R239, R252) -/

/-- The range of each field of an entry (Table 8-2). -/
def podRanges (e : PodEntry) : Bool :=
  let inR (i n lo hi : Nat) : Bool := decide (lo ≤ e.le i n) && decide (e.le i n ≤ hi)
  let knee := sgn 8 (e.le 22 1)
  e.kind != 0 && e.digest != 0 && (e.le 10 1).testBit 0 && decide (e.le 10 1 < 128) && decide (e.le 11 1 < 8)
    && inR 12 2 15 240 && inR 14 2 50 500 && inR 16 2 50 480 && inR 26 1 5 50 && e.le 27 1 == 0
    && (List.range 24).all (fun k => e.le (36 + k) 1 == 0)
    && (e.ver == 1 || (inR 18 2 150 480 && inR 20 2 (e.le 18 2) 480 && decide (-40 ≤ knee)
        && (knee == 127 || decide (knee < sgn 8 (e.le 23 1))) && inR 24 2 50 (e.le 14 2)))

/-- The first check of Table 8-3 that an entry for a slot fails, as a reason. -/
def PodState.check (t : PodState) (slot : Nat) (e : PodEntry) : Nat :=
  let d := e.digest
  if e.le 60 4 ≠ (crc32 (getBytes e.bytes 0 60)).toNat then 1
  else if e.ver < t.ver.fld 7 0 ∨ t.ver.fld 15 8 < e.ver then 2
  else if ¬ podRanges e then 3
  else if slot / 4 ≠ d % 1024 ∧ slot / 4 ≠ d / 1024 % 1024 then 4
  else if t.slots.any fun x => x.1 != slot && x.2.digest == d then 5
  else 0

/-- The status of a reason. -/
def podStatus (reason : Nat) : Nat := if reason = 0 then stOk else if reason = 2 then stVersionMismatch else stBadParam

def podGet (l : List (Nat × PodEntry)) (slot : Nat) : Option PodEntry := (l.find? fun x => x.1 == slot).map (·.2)

/-- The slots, rising, with one replaced or removed. -/
def podPut (l : List (Nat × PodEntry)) (slot : Nat) (e : Option PodEntry) : List (Nat × PodEntry) :=
  l.filter (fun x => decide (x.1 < slot)) ++ (e.map fun e => (slot, e)).toList ++ l.filter fun x => decide (slot < x.1)

/-- The port's copy in force comes from a slot and has the digest of its new entry. -/
def PodPort.sameCopy (x : PodPort) (slot d : Nat) : Bool :=
  x.slot.toNat == slot && x.src == 2 && (x.copy.map PodEntry.digest) == some d

/-- The copy that awaits authentication comes from a slot and has the digest of its new entry. -/
def PodPort.samePend (x : PodPort) (slot d : Nat) : Bool :=
  x.slot.toNat == slot && (x.pendCopy.map PodEntry.digest) == some d

/-- The new entry of a slot reaches a port that holds or awaits a copy of the old one (R238). -/
def State.podReapply (s : State) (p : PortId) (slot : Nat) (e : PodEntry) : State :=
  let x := (s.port p).pod
  let old := x.inForce
  if x.samePend slot e.digest then
    (s.modPod p fun y =>
      { y with pendCopy := some e, copy := if x.sameCopy slot e.digest then some e else y.copy }).profChanged p old
  else if ¬ x.sameCopy slot e.digest then s
  else
    let s :=
      if e.deny then s.modPod p fun x => { x with src := 3, copy := none, slot := 0 }
      else if e.authReq ∧ ¬ x.authPassed then (s.modPod p fun x => { x with src := 0, copy := none }).authStart p e
      else s.modPod p fun x => { x with copy := some e }
    s.profChanged p old

/-- A port holds a copy of the slot's entry of a digest, or awaits one. -/
def Port.holdsCopy (q : Port) (slot d : Nat) : Bool := q.pod.sameCopy slot d || q.pod.samePend slot d

/-- A slot is written or deleted (R237 to R239). -/
def State.podStore (s : State) (slot : Nat) (e : Option PodEntry) : State :=
  let old := podGet s.pod.slots slot
  let s := { s with pod := { s.pod with slots := podPut s.pod.slots slot e } }
  let same := match old, e with | some o, some n => o.digest == n.digest | _, _ => false
  let given := ((List.finRange 16).filter fun p => (s.port p).holdsCopy slot ((e.map PodEntry.digest).getD 0)).length
  let s := s.forPorts fun s p =>
    match same, e with
    | true, some n => s.podReapply p slot n
    | _, _ =>
      let x := (s.port p).pod
      match x.copy with
      | some c =>
        if x.src = 2 ∧ x.slot.toNat = slot then
          (s.modPod p fun x => { x with stale := true }).eventP 0x0405 p slot c.profileId
        else s
      | none => s
  s.eventD 0x0409 [(24, 2, slot), (26, 1, if e.isSome then 1 else 2), (27, 1, if same then given else 0),
    (28, 2, (old.map PodEntry.gen).getD 0), (30, 2, (e.map PodEntry.gen).getD 0)]

/-- A checked write of an entry: the state and the reason it was refused for, 0 for none. -/
def State.podWrite (s : State) (slot : Nat) (e : PodEntry) : State × Nat :=
  let k := s.pod.check slot e
  (if k = 0 then s.podStore slot (some e) else s, k)

def PodState.slotNo (t : PodState) : Nat := t.slotSel.fld 11 0

/-- POD_RESULT. -/
def podResultWord (status reason : Nat) : Word := BitVec.ofNat 32 (status + 2 ^ 16 + reason * 2 ^ 24)

/-- The sixteen words of an entry. -/
def podWords (b : List Byte) : Vector Word 16 := Vector.ofFn fun k => BitVec.ofNat 32 (getLE b (4 * k.val) 4)

/-- POD_READ_SLOT (R252): the slot's bytes go to POD_DATA. -/
def execPodReadSlot (s : State) : Res :=
  let s := s.slotTurn
  .next { s with pod := { s.pod with
    data := podWords (((podGet s.pod.slots s.pod.slotNo).map PodEntry.bytes).getD [])
    result := podResultWord 0 0 } }

/-- POD_WRITE_SLOT (R231, R237, R252): POD_DATA is written to the slot. -/
def execPodWriteSlot (s : State) : Res :=
  .next (
    let s := s.slotTurn
    let (s, k) := s.podWrite s.pod.slotNo { bytes := s.pod.data.toList.flatMap fun w => leBytes 4 w.toNat }
    { s with pod := { s.pod with result := podResultWord (podStatus k) k } })

/-- POD_DELETE_SLOT (R231: no checks). -/
def execPodDeleteSlot (s : State) : Res :=
  .next (
    let s := s.slotTurn.podStore s.pod.slotNo none
    { s with pod := { s.pod with result := podResultWord 0 0 } })

/-! ### POD_WRITE (14 R433) -/

/-- The slots of a block, one after another: state, applied, reasons by slot. -/
def State.podBlock (s : State) (first : Nat) (bs : List (List Byte)) (l : List Nat) : State × List Nat :=
  match bs with
  | [] => (s, l)
  | b :: r =>
    let s := s.slotTurn
    if b.all (· == 0) then (s.podStore first none).podBlock (first + 1) r (l ++ [0])
    else
      let (s, k) := s.podWrite first { bytes := b }
      s.podBlock (first + 1) r (l ++ [k])

/-- The Pod Table takes a block of entries (14 R433). -/
def State.takePods (s : State) (d : Desc) : State :=
  let n := d.le 18 2
  let bytes := ((s.outDesc d.sq d.slot).map (·.data)).getD []
  let (s, l) := s.podBlock (d.le 16 2) ((List.range n).map fun k => getBytes bytes (64 * k) 64) []
  let s := if d.le 20 8 = 0 then s
    else s.hostPut (BitVec.ofNat 64 (d.le 20 8)) (l.flatMap fun k => leBytes 4 (podStatus k + k * 2 ^ 16))
  let bad := (l.filter (· != 0)).length
  let k := (l.findIdx? (· != 0))
  let why := (k.bind fun k => l[k]?).getD 0
  s.finish d (if bad = 0 then stOk else if bad < n then stPartial else podStatus why)
    (evData [(24, 2, n - bad), (26, 2, bad), (28, 2, (k.map (· + d.le 16 2)).getD 0xFFFF), (30, 1, why)])

/-- Blocks that wait for PODUPD go on, the oldest first, as far as credit reaches (03 R77). -/
def State.podBlocksGo (s : State) : State :=
  let l := s.hif.table.filter fun o => o.ph == .running && o.d.op == 0x20
  let s := l.foldl (fun s o => match s.passCell fPodUpd with
    | some s => s.takePods o.d
    | none => s) s
  { s with pod := { s.pod with updBusy := s.hif.table.any fun o => o.ph == .running && o.d.op == 0x20 } }

/-- The entries pass through PODUPD within the command (DESIGN CHOICE, notes/assumptions/46). -/
def podWriteSpec : CmdSpec where
  params _ d :=
    let n := d.le 18 2
    if d.onlyAt [(8, 8), (16, 2), (18, 2), (20, 8)] ∧ d.le 8 8 % 64 = 0 ∧ d.le 20 8 % 4 = 0 ∧ 1 ≤ n ∧ n ≤ 256
        ∧ d.le 16 2 + n ≤ 4096 then none else some stBadParam
  legal s _ := if s.rst.booted then none else some 13
  go s d :=
    match (if s.pod.updBusy then none else s.passCell fPodUpd) with
    | some s => s.takePods d
    | none => { s.countNoCredit fPodUpd with pod := { s.pod with updBusy := true } }

/-- POD_WRITE (14 R433): the entries pass through PODUPD to the table; without credit on the flow the block waits (03 R76). -/
def execPodWrite (d : Desc) (block : List Byte) (s : State) : Res := .next (podWriteSpec.start 0x20 d block s)

/-! ### POD_RELOOKUP and AUTHENTICATE (Table 8-8) -/

/-- ATTACHED_SRC, READY and ID_VALID, with no authentication pending. -/
def Port.podLegal (q : Port) : Option Nat :=
  if q.cc.st ≠ .attachedSrc then some 1 else if q.pol.seq ≠ .ready then some 2
  else if ¬ q.pod.idValid ∨ q.pod.auth = 1 then some 8 else none

def podRelookupSpec : CmdSpec where
  params _ d := if d.onlyAt [] then none else some stBadParam
  legal s d := (s.port d.pid).podLegal
  go s d := s.askLookup d.pid .again

def execPodRelookup (d : Desc) (s : State) : Res := .next (podRelookupSpec.start 0x21 d [] s)

def authenticateSpec : CmdSpec where
  params _ d := if d.onlyAt [] then none else some stBadParam
  legal s d :=
    let q := s.port d.pid
    match q.podLegal with
    | some c => some c
    | none =>
      if ¬ q.rev3 then some 5
      else if q.pod.stale ∨ (q.pod.src = 2 ∧ (q.pod.copy.map PodEntry.authReq).getD false) then none else some 8
  go s d :=
    match (s.port d.pid).pod.copy.or (s.port d.pid).pod.authEntry with
    | some e => s.authStart d.pid e
    | none => s.finish d stAuthFailed 0

def execAuthenticate (d : Desc) (s : State) : Res := .next (authenticateSpec.start 0x22 d [] s)

/-- AUTH_TIMEOUT (R248): outcome 6 and a job-cancelled item. -/
def execAuthTimeout (p : PortId) (s : State) : Res :=
  .next (s.onExpiry p .auth fun s =>
    match (s.port p).pod.pendCopy with
    | none => s
    | some e => (s.jobItem p 3 e).authEnd p 6)

/-! ### Discover Identity on SOP (R228, R236) -/

/-- READY with no message sequence in progress. -/
def Port.readyIdle (q : Port) : Bool := q.pol.seq == .ready && q.pd.ams == .idle && q.pd.tx.isNone

/-- A Discover Identity request on SOP, as an AMS of the sequencer's own. -/
def State.discSend (s : State) (p : PortId) : State :=
  (s.modPod p fun x => { x with discOn := true }).say p ((s.port p).vdm .sop 0xFF00 1 0 0) true

/-- Discovery is due: it has not ended, nothing of it is outstanding, and a contract has been established. -/
def State.discDue (s : State) (p : PortId) : Bool :=
  let q := s.port p
  q.readyIdle && q.pol.firstDone && !q.pod.discDone && !q.pod.discOn && q.pod.ackSop.isNone && q.pod.lookPend.isNone
    && q.pod.auth != 1 && !s.runs p .vdmBusy

/-- No response to a request within tVDMSenderResponse: a second request, then no identity (R228). -/
def State.discSilent (s : State) (p : PortId) : State :=
  let s := ((s.stop p .vdmResp).modPod p fun x => { x with discOn := false, discTries := x.discTries + 1 }).amsEnd p
  if 2 ≤ (s.port p).pod.discTries then s.noIdentity p 3 else s.discSend p

/-- The answer to Discover Identity. -/
def State.discAnswer (s : State) (p : PortId) (m : PdMsg) : State :=
  let s := ((s.stop p .vdmResp).modPod p fun x => { x with discOn := false }).amsEnd p
  if m.vType = 1 then s.modPod p fun x => { x with ackSop := some (getBytes m.data 4 (4 * (m.nObj - 1))) }
  else if m.vType = 3 then
    let s := s.modPod p fun x => { x with discBusy := x.discBusy + 1 }
    if 3 ≤ (s.port p).pod.discBusy then s.noIdentity p 2 else s.start p .vdmBusy
  else s.noIdentity p 1

/-! ### Fleet vendor mode (R242, R243) -/

/-- The conditions of R242, as the condition code of the first that fails. -/
def State.fleetLegal (s : State) (p : PortId) : Option Nat :=
  let q := s.port p
  if q.cc.st ≠ .attachedSrc then some 1
  else if q.pol.seq ≠ .ready ∨ q.pol.reneg then some 2
  else if ¬ s.pod.cfg.bit 3 ∨ s.fleetSvid = 0 then some 4
  else if ¬ q.rev3 then some 5
  else if q.pod.src ≠ 2 ∨ ¬ (q.pod.copy.map PodEntry.fleet).getD false then some 8
  else if q.pod.fleet ∨ q.pod.fleetTried then some 14
  else none

/-- The next command of the entry is sent: Discover SVIDs, Discover Modes, Enter Mode. -/
def State.fleetSend (s : State) (p : PortId) (k pos : Nat) : State :=
  let s := (s.modPod p fun x => { x with fleetCmd := k, fleetTried := true }).amsEnd p
  s.say p ((s.port p).vdm .sop (if k = 1 then 0xFF00 else s.fleetSvid) (k + 1) pos 0) true

/-- The entry ends without success (FLEET_MODE_FAILED). -/
def State.fleetFail (s : State) (p : PortId) (why : Nat) : State :=
  let k := (s.port p).pod.fleetCmd
  let s := ((s.stopAll p [.vdmResp, .fleetEnter]).modPod p fun x => { x with fleetCmd := 0 }).amsEnd p
  (s.eventP 0x0408 p k why).finishAll 0x23 p (if why = 3 then stPartnerNoResponse else stPartnerReject) 0

/-- The SVIDs that a Discover SVIDs ACK lists, two to a VDO. -/
def svidsOf (m : PdMsg) : List Nat := m.vdos.flatMap fun v => [v / 65536, v % 65536]

/-- The partner's answer to the command reached. -/
def State.fleetAnswer (s : State) (p : PortId) (m : PdMsg) : State :=
  let k := (s.port p).pod.fleetCmd
  if m.vType = 2 then s.fleetFail p 1
  else if m.vType = 3 then s.fleetFail p 2
  else
    let s := s.stopAll p [.vdmResp, .fleetEnter]
    if k = 1 then (if (svidsOf m).contains s.fleetSvid then s.fleetSend p 2 0 else s.fleetFail p 4)
    else if k = 2 then
      match m.vdos.findIdx? (fun v => BitVec.ofNat 32 v &&& s.pod.fmask == s.pod.fmatch) with
      | none => s.fleetFail p 5
      | some i =>
        (s.modPod p fun x => { x with fleetPos := BitVec.ofNat 3 (i + 1), fleetVdo := BitVec.ofNat 32 (m.obj (i + 1)) }).fleetSend
          p 3 (i + 1)
    else
      let s := (s.modPod p fun x => { x with fleetCmd := 0, fleet := true }).amsEnd p
      let x := (s.port p).pod
      let s := s.modSes p fun b => putLE b 124 1 (getLE b 124 1 ||| 0x20)
      (s.eventP 0x0407 p x.fleetPos.toNat x.fleetVdo.toNat).finishAll 0x23 p stOk (evData [(24, 1, 1)])

/-- The message is an answer to the fleet command reached. -/
def State.fleetExpects (s : State) (p : PortId) (m : PdMsg) : Bool :=
  let k := (s.port p).pod.fleetCmd
  k != 0 && m.vCmd == k + 1 && m.vSvid == (if k = 1 then 0xFF00 else s.fleetSvid)

/-- FLEET_MODE_ENTRY (R242). -/
def execFleetModeEntry (p : PortId) (s : State) : Res :=
  .next (if (s.fleetLegal p).isNone ∧ (s.port p).readyIdle ∧ (s.port p).pod.fleetCmd = 0 then s.fleetSend p 1 0 else s)

/-- FLEET_ENTER_MODE_TIMEOUT (R242). -/
def execFleetEnterModeTimeout (p : PortId) (s : State) : Res :=
  .next (s.onExpiry p .fleetEnter fun s => if (s.port p).pod.fleetCmd = 3 then s.fleetFail p 3 else s)

/-- Exit Mode for the mode object in force. -/
def State.fleetExit (s : State) (p : PortId) : State :=
  s.say p ((s.port p).vdm .sop s.fleetSvid 5 (s.port p).pod.fleetPos.toNat 0) true

def fleetModeSpec : CmdSpec where
  params _ d := if d.onlyAt [(8, 1)] ∧ d.le 8 1 ≤ 1 then none else some stBadParam
  legal s d :=
    let q := s.port d.pid
    if d.le 8 1 = 1 then s.fleetLegal d.pid
    else if q.cc.st ≠ .attachedSrc ∧ q.cc.st ≠ .attachedSnk then some 1
    else if ¬ q.pod.fleet then some 14 else none
  go s d := if d.le 8 1 = 1 then s.fleetSend d.pid 1 0 else s.fleetExit d.pid

def execFleetMode (d : Desc) (s : State) : Res := .next (fleetModeSpec.start 0x23 d [] s)

/-- The outcome of an Exit Mode (R243, 14 Table 14-6). -/
def State.fleetExited (s : State) (p : PortId) (ok : Bool) : State :=
  let s := s.amsEnd p
  if ok then (s.modPod p fun x => { x with fleet := false }).finishAll 0x23 p stOk 0
  else s.finishAll 0x23 p stPartnerNoResponse (evData [(24, 1, b2n (s.port p).pod.fleet)])

/-! ### VDMs from the partner (R241, R244, R246) -/

/-- A Structured VDM command of the partner's. -/
def State.vdmRequest (s : State) (p : PortId) (m : PdMsg) : State :=
  let q := s.port p
  if q.pod.fleet ∧ m.vSvid = s.fleetSvid ∧ 16 ≤ m.vCmd then
    match s.toCores p m with
    | some s => (s.modPod p fun x => { x with vdmAwait := true, vdmAsk := BitVec.ofNat 32 (m.obj 0) }).start p .vdmAnswer
    | none => (s.vdmDiscard p 1).say p (q.vdmAnswer m 3)
  else s.say p (q.vdmAnswer m 2)

/-- An Unstructured VDM. -/
def State.vdmUnstructured (s : State) (p : PortId) (m : PdMsg) : State :=
  if s.fleetSvid ≠ 0 ∧ m.vSvid = s.fleetSvid then ((s.toCores p m).getD (s.vdmDiscard p 2)).amsEnd p
  else if (s.port p).rev3 then s.say p ((s.port p).ctrl 16) else s.amsEnd p

/-- A Vendor Defined message on SOP. An answer that nothing awaits is never unexpected in READY (06 R154) and ends there; in a swap it
is out of place. -/
def State.vdmGot (s : State) (p : PortId) (m : PdMsg) : State :=
  let x := (s.port p).pod
  if ¬ m.vStruct then s.vdmUnstructured p m
  else if m.vType = 0 then s.vdmRequest p m
  else if x.discOn ∧ m.vSvid = 0xFF00 ∧ m.vCmd = 1 then s.discAnswer p m
  else if s.fleetExpects p m then s.fleetAnswer p m
  else if x.fleet ∧ m.vSvid = s.fleetSvid ∧ 16 ≤ m.vCmd then (s.amsEnd p).toCores p m |>.getD ((s.amsEnd p).vdmDiscard p 1)
  else if (s.port p).pol.seq = .swap then s.odd p .outOfPlace
  else s.amsEnd p

/-- A Security_Response while an authentication is pending (R247). -/
def State.securityResponse (s : State) (p : PortId) (m : PdMsg) : State :=
  let s := s.amsEnd p
  (s.toCores p m).getD (s.vdmDiscard p 3)

/-- VDM_ANSWER_TIMEOUT (R241): BUSY; a later answer is discarded. -/
def execVdmAnswerTimeout (p : PortId) (s : State) : Res :=
  .next (s.onExpiry p .vdmAnswer fun s =>
    if (s.port p).pod.vdmAwait then
      let h := (s.port p).pod.vdmAsk
      let s := s.modPod p fun x => { x with vdmAwait := false }
      s.say p ((s.port p).vdm .sop (h.fld 31 16) (h.fld 4 0) (h.fld 10 8) 3)
    else s)

/-! ### Items from the service cores (R241, R244, R245) -/

/-- The bytes of the item at the head of VDMTX. -/
def State.vdmHead (s : State) (p : PortId) : Option (List Byte) :=
  match (s.flow (fVdmTx p)).cells with
  | c :: _ => some (match c.pay with | .bytes b :: _ => b | _ => [])
  | [] => none

/-- An authentication of a port whose exchange lost a cell counts as not passed (03 Table 3-5, Table 8-7). -/
def State.authLost (s : State) (p : PortId) : State := if (s.port p).pod.auth = 1 then s.authEnd p 9 else s

/-- The item at the head of VDMTX is read; one with an uncorrectable word is dropped (03 R64, Table 3-5). -/
def State.vdmMeet (s : State) (p : PortId) : Bool × State :=
  let (bad, s) := s.meetHead (fVdmTx p)
  (bad, if bad then (s.dropHead (fVdmTx p)).authLost p else s)

def State.vdmPop (s : State) (p : PortId) : State := ((s.popCell (fVdmTx p)).map (·.2)).getD s

/-- The message that an item carries. -/
def itemMsg (b : List Byte) : PdMsg :=
  let n := min 224 (getLE b 2 2)
  let k := getLE b 1 1
  { sopx := if k = 1 then .sopp else if k = 2 then .soppp else .sop, hdr := BitVec.ofNat 16 (getLE b 32 2)
    data := getBytes b 34 (n - 2) }

/-- A message that a core may hand over (R240, R244, R247): a fleet SVID-specific command or Exit Mode, an Unstructured VDM
with the fleet SVID, or a Security_Request. A Structured VDM is a command of an initiator on SOP or SOP′. -/
def State.coreMay (s : State) (m : PdMsg) : Bool :=
  if m.isVdm then
    m.vSvid == s.fleetSvid && s.fleetSvid != 0
      && (!m.vStruct || ((16 ≤ m.vCmd || m.vCmd == 5) && m.vType == 0 && m.sopx != .soppp))
  else m.isExt 8

/-- A core's message as the device sends it: a Structured VDM takes the version of the negotiated revision (R240). -/
def Port.versioned (q : Port) (m : PdMsg) : PdMsg :=
  if m.isVdm ∧ m.vStruct then
    let v := m.obj 0
    { m with data := leBytes 4 (v - v / 8192 % 4 * 8192 + (if q.pd.sendRev m.sopx = 2 then 8192 else 0)) ++ m.data.drop 4 }
  else m

/-- The item answers the Structured VDM that awaits an answer: ACK, NAK or BUSY to the same command (R241). -/
def PodPort.answers (x : PodPort) (m : PdMsg) : Bool :=
  m.isVdm && m.vStruct && m.vType != 0 && m.sopx == .sop && m.vSvid == x.vdmAsk.fld 31 16 && m.vCmd == x.vdmAsk.fld 4 0

/-- VDMTX_ITEM (R21, R241, R244, R245): the sequencer takes a message to send, or the answer to a Structured VDM. -/
def execVdmtxItem (p : PortId) (s : State) : Res :=
  .next (
    let q := s.port p
    let (bad, s) := s.vdmMeet p
    match (if bad then none else s.vdmHead p) with
    | none => s
    | some b =>
      let m := itemMsg b
      if getLE b 4 2 ≠ q.cc.inst.toNat then s.vdmPop p
      else if getLE b 0 1 = 1 then
        if ¬ s.coreMay m then (s.vdmPop p).emit (.pdOutcome p m .core .refused s.now 0)
        else if q.readyIdle ∨ (q.pol.seq = .sink ∧ q.pd.ams = .idle) ∨ q.cc.st = .debugAcc then
          (s.vdmPop p).pdSend p (q.versioned m) .core true
        else s
      else if getLE b 0 1 = 3 then
        let s := s.vdmPop p
        if ¬ q.pod.vdmAwait then s
        else if ¬ q.pod.answers m then s.emit (.pdOutcome p m .core .refused s.now 0)
        else ((s.stop p .vdmAnswer).modPod p fun x => { x with vdmAwait := false }).pdSend p (q.versioned m) .core
      else if getLE b 0 1 = 2 then s
      else s.vdmPop p)

/-- The service core has not taken the job item of the pending authentication yet. Any other is taken for the present one (DESIGN
CHOICE, notes/assumptions/109). -/
def State.jobUnread (s : State) (p : PortId) : Bool :=
  (s.flow (fVdmRx p)).cells.any fun c => match c.pay with | .bytes b :: _ => getLE b 0 1 == 2 | _ => false

/-- AUTH_RESULT (R21, R245, R249): a result item arrives; one that comes with no job pending is discarded, and so is one of a job
that a hard reset has discarded, which comes before the core has taken the next. -/
def execAuthResult (p : PortId) (s : State) : Res :=
  .next (
    let (bad, s) := s.vdmMeet p
    match (if bad then none else s.vdmHead p) with
    | none => s
    | some b =>
      if getLE b 0 1 ≠ 2 then s
      else
        let s := s.vdmPop p
        let code := getLE b 6 1
        if (s.port p).pod.oldJob ∧ s.jobUnread p = true then s.modPod p fun x => { x with oldJob := false }
        else if getLE b 4 2 = (s.port p).cc.inst.toNat ∧ 2 ≤ code ∧ code ≤ 9 then s.authEnd p code else s)

end Sys2Proof.Machine
end

