-- ==== Sys2Proof/Machine/Swap.lean ====
section
/-! DEFINITION. Role swaps (07 R193 to R218): PR_Swap both ways, VCONN_Swap, the fast role swap of cabinet hold-up and its
return, donor selection, operation as sink, and the swap, VCONN and back-feed commands. -/

set_option linter.unusedVariables false

namespace Sys2Proof.Machine

/-! ### Beginning and ending a swap -/

/-- The sequencer state a port has outside swaps: READY as source, SINK as sink. -/
def Port.baseSeq (q : Port) : SeqSt := if q.cc.st = .attachedSnk then .sink else .ready

/-- READY or SINK with no message sequence and no swap in progress. -/
def Port.baseIdle (q : Port) : Bool :=
  q.readyIdle || (q.pol.seq == .sink && q.swap.kind == .idle && q.pd.ams == .idle && q.pd.tx.isNone)

/-- The swap is over: the sequencer returns to READY or SINK. A retry that waits goes on waiting (06 R189), and so does the take-over
limit of a donor (R214). -/
def State.swapOver (s : State) (p : PortId) : State :=
  let s := (s.stopAll p [.sender, .srcTrans, .psSourceOn, .psSourceOff, .vconnSource, .frsWait]).modSwap p fun w =>
    { w with kind := .idle, step := 0, byDev := false, accepted := false }
  (s.setSeq p (s.port p).baseSeq).amsEnd p

/-- The message that a retry of a swap of a kind sends. -/
def waitOf (k : SwapKind) : WaitKind := if k = .vconn then .vconnSwap else .prSwap

/-- A retry that waits for a swap of a kind is over. -/
def State.waitOver (s : State) (p : PortId) (w : WaitKind) : State :=
  if (s.port p).pol.waitMsg = some w then
    (s.stop p .waitSpacing).modPol p fun x => { x with waitMsg := none, waitLeft := 0 }
  else s

/-- The opcode of the command that a swap of a kind serves. -/
def swapOp (k : SwapKind) : Nat := if k = .vconn then 0x0A else 0x09

/-- The swap of a kind completes. With `own` it is the device's, and the command ends OK; with the partner's, a retry that waits is
withdrawn, and R207 deals with the command. -/
def State.swapDone (s : State) (p : PortId) (k : SwapKind) (own : Bool) : State :=
  if own then (s.waitOver p (waitOf k)).finishAll (swapOp k) p stOk (s.port p).swapResult
  else if (s.port p).pol.waitMsg = some (waitOf k) then (s.waitOver p (waitOf k)).modSwap p fun w => { w with withdrawn := true }
  else s

/-- The device's own request ends without the swap: refused with a record, or unanswered (R216, R221). -/
def State.swapFail (s : State) (p : PortId) (status : Nat) : State :=
  let w := (s.port p).swap
  let auto := w.returning && w.kind == .toSource && (s.running 0x09 p).isNone
  let s := (s.swapOver p).waitOver p (waitOf w.kind)
  let s := if status = stPartnerNoResponse then s
    else (s.modSwap p fun w => { w with cnt := w.cnt.cntInc 2 }).eventP 0x030A p w.kind.code status
  let s := s.finishAll (swapOp w.kind) p status (s.port p).swapResult
  if auto then (s.eventP 0x0309 p status 0).start p .returnRetry else s

/-- The request of a swap. -/
def Port.swapMsg (q : Port) (k : SwapKind) : PdMsg := q.ctrl (if k = .vconn then 11 else 10)

/-- The sequencer enters SWAP; in ATTACHED_SNK it stays in SINK for a VCONN_Swap (R204). -/
def State.swapSeq (s : State) (p : PortId) (k : SwapKind) : State :=
  if k = .vconn ∧ (s.port p).cc.st = .attachedSnk then s else s.setSeq p .swap

/-- The device starts a swap: its request is the first message of an AMS of its own. -/
def State.swapAsk (s : State) (p : PortId) (k : SwapKind) : State :=
  let s := s.modSwap p fun w => { w with kind := k, step := if k = .vconn then 0 else 1, byDev := true, accepted := false
                                         withdrawn := false, vcGive := k == .vconn && w.vconnSrc, cfgNow := w.cfg }
  (s.swapSeq p k).say p ((s.port p).swapMsg k) true

/-- A swap command starts its swap, or once a swap in progress has ended (R207). -/
def State.swapStart (s : State) (p : PortId) (k : SwapKind) : State :=
  if (s.port p).swap.kind = .idle then s.swapAsk p k else s.modSwap p fun w => { w with withdrawn := true }

/-- The device serves a swap that the partner requested: Accept is sent. -/
def State.swapServe (s : State) (p : PortId) (k : SwapKind) : State :=
  let s := s.modSwap p fun w => { w with kind := k, step := if k = .vconn then 0 else 1, byDev := false, accepted := false
                                         vcGive := k == .vconn && w.vconnSrc, cfgNow := w.cfg }
  (s.swapSeq p k).say p ((s.port p).ctrl 3)

/-- The device refuses a partner's swap with Reject. -/
def State.swapReject (s : State) (p : PortId) (k : SwapKind) : State :=
  (s.say p ((s.port p).ctrl 4)).eventP 0x030A p (k.code + 256) stPartnerReject

/-- An automatic return is due and the port is free. -/
def State.autoReturn (s : State) (p : PortId) : State :=
  let q := s.port p
  if q.swap.returning ∧ q.pol.seq = .sink ∧ q.baseIdle ∧ q.swap.cfg.bit 5 ∧ ¬ s.runs p .returnRetry ∧ q.pol.waitMsg.isNone ∧
      ¬ s.tb.fallback then
    s.swapAsk p .toSource
  else s

/-! ### The sink (R213, Table 7-7) -/

/-- Entry to SINK. -/
def State.toSink (s : State) (p : PortId) : State :=
  let s := s.modCc p fun c => { c with st := .attachedSnk }
  let s := (s.swapOver p).modSwap p fun w => { w with snkContract := false, snkSoft := false, snkAsk := false }
  (s.modPd p fun x => { x with caActive := (s.port p).rev3 }).start p .sinkWaitCap

/-- The back-feed switch is to close when the conditions of R27 hold (S6, F4, re-close, command). -/
def State.askBf (s : State) (p : PortId) (why : Nat) : State :=
  if (s.port p).swap.cfgNow.bit 4 then s.modEf p fun e => { e with bfWhy := why } else s

/-! ### PR_Swap steps (Tables 7-2, 7-3) -/

/-- The Accept of a PR_Swap has been exchanged: S2 or T2. -/
def State.prAccepted (s : State) (p : PortId) : State :=
  let s := s.stop p .sender
  match (s.port p).swap.kind with
  | .toSink => (s.modSwap p fun w => { w with step := 2, accepted := true }).start p .srcTrans
  | .toSource =>
    let s := (s.openBf p).modEf p fun e => { e with bfWhy := 0 }
    (s.modSwap p fun w => { w with step := 3, accepted := true, snkContract := false }).start p .psSourceOff
  | _ => s

/-- S3 and F3: the source role ends (R199). -/
def State.leaveSource (s : State) (p : PortId) : State := ((s.openPath p).closeSession p .swap).endContract p

/-- S4, and F5 once the eFuse is open: Rd is presented, and PS_RDY sent. -/
def State.presentRd (s : State) (p : PortId) : State := s.modCc p fun c => { c with rpOn := false, rdOn := true }

/-- S4 when VBUS has reached vSafe0V. -/
def State.swapS4 (s : State) (p : PortId) : State :=
  let s := (s.presentRd p).modSwap p fun w => { w with step := 4 }
  s.say p ((s.port p).ctrl 6)

/-- S6 and F6: the partner's PS_RDY has come. -/
def State.swapToSink (s : State) (p : PortId) : State :=
  let k := (s.port p).swap.kind
  let own := (s.port p).swap.byDev
  let s := ((s.toSink p).modSwap p fun w => { w with cnt := w.cnt.cntInc (if k = .fr then 1 else 0) }).eventP 0x0303 p k.code 0
  let s := if k = .toSink then s.askBf p 2 else s.autoReturn p
  s.swapDone p k own

/-- T4: the partner has stopped sourcing. -/
def State.swapT4 (s : State) (p : PortId) : State :=
  let s := (s.stop p .psSourceOff).modCc p fun c => { c with rdOn := false, rpOn := true }
  (s.modSwap p fun w => { w with step := 4 }).requestPath p .swapBack

/-- T5 on the GoodCRC of PS_RDY: source again, in STARTUP. -/
def State.swapToSource (s : State) (p : PortId) : State :=
  let own := (s.port p).swap.byDev
  let s := (s.modCc p fun c => { c with st := .attachedSrc }).modPd p fun x => { x with caActive := false, rpNg := false }
  let s := (s.swapOver p).modSwap p fun w => { w with returning := false, snkContract := false, snkAsk := false, cnt := w.cnt.cntInc 0 }
  let s := (s.stopAll p [.sinkWaitCap, .psTransition, .returnRetry, .bfReclose]).toStartup p
  (s.eventP 0x0303 p SwapKind.toSource.code 0).swapDone p .toSource own

/-! ### VCONN_Swap (Table 7-4) -/

/-- The conditions of R106 as R203 takes them. -/
def Port.vconnMay (q : Port) : Bool := q.vconnOk && (q.cc.st == .attachedSnk || q.ef.gateOn)

/-- The Accept of a VCONN_Swap has been exchanged. Where a condition of R106 no longer holds, VCONN is not applied, and the swap fails
as by a fault before PS_RDY. This end is the model's (DESIGN CHOICE, notes/assumptions/119). -/
def State.vcAccepted (s : State) (p : PortId) : State :=
  let s := (s.stop p .sender).modSwap p fun w => { w with accepted := true }
  if (s.port p).swap.vcGive then s.start p .vconnSource
  else if (s.port p).vconnMay then s.vconnApply p
  else s.sinkReset p

/-- A VCONN_Swap has completed (R204). -/
def State.vcDone (s : State) (p : PortId) : State :=
  let src := (s.port p).swap.vconnSrc
  let own := (s.port p).swap.byDev
  let s := (s.swapOver p).eventP 0x0305 p (b2n src) 0
  let s := if src then s.modPol p fun x => { x with cableAsk := true } else s
  (s.latchReneg p).swapDone p .vconn own

/-- The partner's PS_RDY has come where the device gives VCONN: the pin is discharged, and the swap completes once it is below 0.8 V
(Table 7-4). -/
def State.vcGiven (s : State) (p : PortId) : State :=
  let s := (s.stop p .vconnSource).vconnOff p
  if (s.port p).cc.vconnBusy then s else s.vcDone p

/-! ### Swap requests from the partner (R194, R197, R200, R203, R206); none starts during Timebase loss (02 Table 2-3) -/

def State.gotPrSwap (s : State) (p : PortId) : State :=
  let q := s.port p
  if q.cc.st = .attachedSnk then
    if q.businOk ∧ ¬ s.hu.active ∧ ¬ s.tb.fallback then s.swapServe p .toSource else s.swapReject p .toSource
  else if ¬ q.drpBit then s.notSupported p
  else if q.swap.cfg.bit 1 ∧ q.pol.contract.isSome ∧ ¬ s.tb.fallback then s.swapServe p .toSink
  else s.swapReject p .toSink

def State.gotVconnSwap (s : State) (p : PortId) : State :=
  let q := s.port p
  if ¬ s.tb.fallback ∧ (if q.swap.vconnSrc then q.swap.cfg.bit 2 && !q.pol.eprMode else q.vconnMay) = true then s.swapServe p .vconn
  else s.swapReject p .vconn

/-- Get_Sink_Cap (R194; the layout of the sink PDO is PRESUMED, notes/assumptions/7). -/
def State.gotGetSinkCap (s : State) (p : PortId) : State :=
  let q := s.port p
  if q.drpBit then s.say p (q.dataMsg .sop 4 (leBytes 4 (2 ^ 29 + 100 * 2 ^ 10 + q.swap.cfg.fld 29 24 * 5)))
  else s.notSupported p

/-- The device's own request gives way to the partner's (R206): it is withdrawn, and the partner's is answered. -/
def State.withdraw (s : State) (p : PortId) : State :=
  let held := ((s.port p).pd.tx.map (·.first)).getD false
  let s := match (s.port p).pd.tx with
    | some t => if t.first then s.endTx p t .abandoned else s
    | none => s
  let s := (s.stop p .sender).modSwap p fun w =>
    { w with kind := .idle, step := 0, byDev := false, withdrawn := true, late := !held }
  s.setSeq p (s.port p).baseSeq

/-- The partner's request crosses the device's own of the same kind under Revision 2.0 (R206). -/
def Port.crosses (q : Port) (m : PdMsg) : Bool :=
  q.swap.kind != .idle && q.swap.kind != .fr && q.swap.byDev && !q.swap.accepted && !q.rev3
    && (if q.swap.kind = .vconn then m.isCtrl 11 else m.isCtrl 10)

/-! ### Legality of the swap commands (Table 7-11) -/

def State.roleSwapLegal (s : State) (p : PortId) (toSource : Bool) : Option Nat :=
  let q := s.port p
  if toSource then
    if q.cc.st ≠ .attachedSnk then some 1 else if q.pol.seq ≠ .sink then some 2
    else if ¬ q.swap.cfg.bit 0 then some 4 else if ¬ q.businOk ∨ s.hu.active then some 9 else if s.tb.fallback then some 12 else none
  else
    if q.cc.st ≠ .attachedSrc then some 1 else if q.pol.seq ≠ .ready then some 2
    else if q.pol.contract.isNone then some 3 else if ¬ q.swap.cfg.bit 0 then some 4
    else if q.swap.snkValid ∧ ¬ q.swap.drp then some 5 else if s.tb.fallback then some 12 else none

def State.vconnSwapLegal (s : State) (p : PortId) (on : Bool) : Option Nat :=
  let q := s.port p
  if q.cc.st ≠ .attachedSrc ∧ q.cc.st ≠ .attachedSnk then some 1
  else if q.pol.seq ≠ q.baseSeq then some 2
  else if on = q.swap.vconnSrc then some 6
  else if on then (if ¬ q.cc.vcfg.bit 0 then some 4 else if ¬ q.vconnMay then some 10 else if s.tb.fallback then some 12 else none)
  else if q.pol.eprMode then some 7 else if s.tb.fallback then some 12 else none

def roleSwapSpec : CmdSpec where
  params _ d := if d.onlyAt [(8, 1)] ∧ d.le 8 1 ≤ 1 then none else some stBadParam
  legal s d := s.roleSwapLegal d.pid (d.le 8 1 == 0)
  go s d := s.swapStart d.pid (if d.le 8 1 = 0 then .toSource else .toSink)

def vconnSwapSpec : CmdSpec where
  params _ d := if d.onlyAt [(8, 1)] ∧ d.le 8 1 ≤ 1 then none else some stBadParam
  legal s d := s.vconnSwapLegal d.pid (d.le 8 1 == 1)
  go s d := s.swapStart d.pid .vconn

def execRoleSwap (d : Desc) (s : State) : Res := .next (roleSwapSpec.start 0x09 d [] s)
def execVconnSwap (d : Desc) (s : State) : Res := .next (vconnSwapSpec.start 0x0A d [] s)

/-- A withdrawn or abandoned swap command is dealt with once the partner's AMS has ended (R207). -/
def State.reevaluate (s : State) (p : PortId) : State :=
  let q := s.port p
  if ¬ q.swap.withdrawn ∨ ¬ q.baseIdle then s
  else
    let s := s.modSwap p fun w => { w with withdrawn := false }
    match s.running 0x09 p, s.running 0x0A p with
    | some o, _ =>
      let src := o.d.le 8 1 == 0
      if src = decide (q.cc.st = .attachedSrc) then s.finish o.d stOk (q.swapResult 1)
      else match s.roleSwapLegal p src with
        | none => s.swapAsk p (if src then .toSource else .toSink)
        | some c => s.finish o.d stStateConflict (s.conflict o.d c)
    | none, some o =>
      let on := o.d.le 8 1 == 1
      if on = q.swap.vconnSrc then s.finish o.d stOk (q.swapResult 1)
      else match s.vconnSwapLegal p on with
        | none => s.swapAsk p .vconn
        | some c => s.finish o.d stStateConflict (s.conflict o.d c)
    | none, none => s

/-! ### Wait (06 R188, R189) -/

/-- A Wait answers a message of the device's: it is repeated after the spacing, or the attempts are used up. `giveUp`
says what the last one means. -/
def State.gotWait (s : State) (p : PortId) (k : WaitKind) (giveUp : State → State) : State :=
  let x := (s.port p).pol
  let left := if x.waitMsg = some k then x.waitLeft else x.cfg.fld 27 24
  if left = 0 then giveUp (s.waitOver p k)
  else
    let w := (s.port p).swap
    let s := if k = .request then s.amsEnd p else s.swapOver p
    (s.modPol p fun x => { x with waitMsg := some k, waitLeft := left - 1 }).start p .waitSpacing

/-- The message that a Wait held back is sent again when it is due and the port is free. -/
def State.retryWait (s : State) (p : PortId) : State :=
  let q := s.port p
  if s.runs p .waitSpacing ∨ ¬ q.baseIdle then s
  else
    let left := q.pol.waitLeft
    match q.pol.waitMsg with
    | none => s
    | some .request =>
      (s.modSwap p fun w => { w with snkAsk := true }).say p (q.dataMsg .sop 2 (leBytes 4 q.swap.snkRdo.toNat)) true
    | some .prSwap => if s.tb.fallback then s else s.swapAsk p (if q.cc.st = .attachedSnk then .toSource else .toSink)
    | some .vconnSwap => if s.tb.fallback then s else s.swapAsk p .vconn

/-! ### Cabinet hold-up (R208 to R216) -/

/-- Donor-eligible (R208). -/
def State.eligible (s : State) (p : PortId) : Bool :=
  let q := s.port p
  q.swap.cfg.bit 3 && q.swap.cfg.bit 4 && q.cc.st == .attachedSrc && (q.pol.seq == .ready || q.pol.seq == .transition)
    && q.rev3 && q.swap.snkValid && q.swap.drp && q.swap.frs != 0
    && (match q.pol.contract with | some c => decide (c.mv ≤ s.hu.cfg.fld 13 8 * 1000) | none => false)

/-- Ports before `p` in the order of rank and number, among the eligible. -/
def State.before (s : State) (p : PortId) : Nat :=
  let rank (x : PortId) := (s.port x).swap.cfg.fld 11 8
  ((List.finRange 16).filter fun x => s.eligible x && (rank x < rank p || (rank x == rank p && x.val < p.val))).length

/-- ARMED_SET_RECOMPUTE (R208, R209; 11 R340): frozen while ACTIVE is 1; the segments take the selection. -/
def execArmedSetRecompute (s : State) : Res :=
  .next (s.forPorts fun s' p =>
    let a := if s.hu.active then (s.port p).swap.armed else s.eligible p && decide (s.before p < s.hu.cfg.fld 4 0)
    (s'.modSwap p fun w => { w with elig := s.eligible p, armed := a }).modWm p fun w => { w with holdupSel := a })

/-- F1 and F2: the hold-up action of an armed port (01 R24, R25, R212). -/
def State.holdupStart (s : State) (p : PortId) : State :=
  let s := ((s.flushTx p .exhausted).amsDrop p).stopAll p [.chunk, .vdmAnswer, .waitSpacing, .pps]
  let s := s.modPd p fun x => { x with asm := none, ams := .idle }
  let s := s.modPod p fun x => { x with vdmAwait := false }
  let s := s.modPol p fun x => { x with seq := .swap, waitMsg := none, waitLeft := 0 }
  let rate := (s.port p).swap.cfg.fld 20 16 * 10
  let s := s.setPoint p .holdup 5000 rate rate
  let s := (s.modCnv p fun c => { c with swarmOn := false }).modSwap p fun w =>
    { w with kind := .fr, step := 2, frStep := 2, byDev := false, accepted := false, withdrawn := false, cfgNow := w.cfg }
  s.emit (.frSignal p)

/-- F5: once Accept is acknowledged and the eFuse is open, Rd is presented and PS_RDY sent. -/
def State.frProceed (s : State) (p : PortId) : State :=
  let q := s.port p
  if q.swap.kind = .fr ∧ q.swap.accepted ∧ 3 ≤ q.swap.step ∧ ¬ q.cc.rdOn then
    let s := (s.presentRd p).modSwap p fun w => { w with step := 5, frStep := 5 }
    s.say p ((s.port p).ctrl 6)
  else s

/-- F3. -/
def State.frF3 (s : State) (p : PortId) : State :=
  let s := ((s.leaveSource p).modSwap p fun w => { w with step := 3, frStep := 3 }).start p .takeover
  (s.askBf p 1).frProceed p

/-- HOLDUP_VBUS_LOW (01 R26, F3). -/
def execHoldupVbusLow (p : PortId) (s : State) : Res :=
  .next (
    let w := (s.port p).swap
    if w.kind = .fr ∧ w.step ≤ 2 then s.frF3 p else s)

/-- A donor fails (R214). -/
def State.donorFail (s : State) (p : PortId) (why : Nat) : State :=
  let s := s.eventP 0x0302 p (s.port p).swap.frStep why
  let s := (s.openBf p).modEf p fun e => { e with bfWhy := 0 }
  (s.hrRequest p).modSwap p fun w => { w with hrHold := true }

/-- TAKEOVER_LIMIT_EXPIRY (R214, Table 7-1): the limit runs from F3 until the back-feed switch is commanded closed. -/
def execTakeoverLimitExpiry (p : PortId) (s : State) : Res :=
  .next (s.onExpiry p .takeover fun s => s.donorFail p 1)

/-- FR_SWAP_SIGNAL_END (01 R25, Table 7-1): the FR_Swap message wait starts. -/
def execFrSwapSignalEnd (p : PortId) (s : State) : Res :=
  .next (
    let w := (s.port p).swap
    if w.kind = .fr ∧ ¬ w.accepted ∧ ¬ w.byDev then s.start p .frsWait else s)

/-- R213: no FR_Swap, or no PS_RDY from the partner. -/
def State.frNoMessage (s : State) (p : PortId) (sub : Nat) : State :=
  let s := if (s.port p).swap.step ≤ 2 then s.frF3 p else s
  (((s.presentRd p).toSink p).eventP 0x0304 p sub 0).autoReturn p

/-- FR_SWAP_WAIT_EXPIRY (R213). -/
def execFrSwapWaitExpiry (p : PortId) (s : State) : Res :=
  .next (s.onExpiry p .frsWait fun s => if (s.port p).swap.kind = .fr then s.frNoMessage p 1 else s)

/-- FR_Swap arrives in F2 to F5. -/
def State.gotFrSwap (s : State) (p : PortId) : State :=
  let s := (s.stop p .frsWait).modSwap p fun w => { w with byDev := true }
  s.say p ((s.port p).ctrl 3)

/-- BACKFEED_CLOSE (01 R27, F4, R321): with the eFuse off and VBUS in 4.75 to 5.5 V for 50 µs, the switch is commanded
closed where something asks for it. -/
def execBackfeedClose (p : PortId) (s : State) : Res :=
  .next (
    let q := s.port p
    if q.ef.bfWhy = 0 ∨ ¬ (q.ef.path = .off ∨ q.ef.path = .opening) ∨ q.ef.bfCmd
        ∨ ¬ (if q.ef.bfWhy = 4 then q.swap.cfg else q.swap.cfgNow).bit 4
        ∨ ¬ (q.cc.st = .attachedSnk ∨ (q.swap.kind = .fr ∧ 3 ≤ q.swap.step)) then s
    else
      let s := (s.closeBf p).stop p .takeover
      if q.swap.kind = .fr then s.modSwap p fun w => { w with step := max 4 w.step, frStep := max 4 w.frStep } else s)

/-- BFEED_ON_LEVEL_REACHED (10 R319): BFEED is at its on level; the record, and a back-feed CLOSE, follow. -/
def execBfeedOnLevelReached (p : PortId) (s : State) : Res :=
  .next (
    let e := (s.port p).ef
    if e.bfCmd ∧ ¬ e.bfOn then
      let s := s.modEf p fun e => { e with bfOn := true, bfWhy := 0 }
      (s.eventP 0x0301 p e.bfWhy e.vbusMv).finishAll 0x0C p stOk 0
    else s)

/-- The back-feed switch opens on a cause of Table 10-7 (10 R320, R321, R214). -/
def State.bfOpened (s : State) (p : PortId) (c : BfCause) : State :=
  let q := s.port p
  if q.ef.path ≠ .backfeed then s
  else
    let s := (s.openBf p).modEf p fun e => { e with bfWhy := 0, cnt := e.cnt.cntInc 2 }
    let s := s.eventP 0x0603 p c.code (ofI 32 q.ef.shuntMa)
    if q.swap.kind = .fr then s.donorFail p 3
    else if c ≠ .host ∧ q.cc.st = .attachedSnk ∧ q.ef.bfReclosed.toNat < q.ef.now.bf.fld 9 8 then s.start p .bfReclose
    else s

/-- BACKFEED_OPENED (10 R320): a condition of Table 10-7, codes 1 to 5. -/
def execBackfeedOpened (p : PortId) (cause : BfCause) (s : State) : Res :=
  .next (if cause = .host then s else s.bfOpened p cause)

/-- BACKFEED_RECLOSE (10 R321): 1 s after the opening. -/
def execBackfeedReclose (p : PortId) (s : State) : Res :=
  .next (s.onExpiry p .bfReclose fun s =>
    if (s.port p).cc.st = .attachedSnk then (s.modEf p fun e => { e with bfReclosed := e.bfReclosed + 1 }).askBf p 3 else s)

/-! ### Return of the cabinet bus (R215, R216) -/

/-- Every port that is not DISABLED has its return criterion. -/
def State.allReturned (s : State) : Bool :=
  (List.finRange 16).all fun p => (s.port p).cc.st == .disabled || (s.port p).swap.returnMet

/-- ACTIVE clears once every port has its criterion. -/
def State.holdupEnd (s : State) : State :=
  if s.hu.active ∧ s.allReturned then
    let ms := s.msSince s.hu.since
    let s := { s with hu := { s.hu with active := false } }
    s.eventD 0x0308 [(24, 4, satN 32 ms), (28, 2, (mapOf fun p => (s.port p).pol.seq == .sink).toNat)]
  else s

/-- RETURN_CRITERION (R215): WM5 has reported BUSIN in its window for RETURN_T. -/
def execReturnCriterion (p : PortId) (s : State) : Res :=
  .next (
    if ¬ (s.port p).businOk then s
    else
      let s := (s.modSwap p fun w => { w with returnMet := true }).holdupEnd
      let q := s.port p
      let s := if q.swap.dbgHold then
          let s := s.modSwap p fun w => { w with dbgHold := false }
          if q.dbgWants then s.requestPath p .debug else s
        else s
      let s := s.hrH5 p
      let s := s.modSwap p fun w =>
        { w with returning := w.returning || (w.cfg.bit 5 && (q.pol.seq == .sink || w.kind == .fr)) }
      s.autoReturn p)

/-- HOLDUP_RETURN_RETRY (R216). -/
def execHoldupReturnRetry (p : PortId) (s : State) : Res := .next (s.onExpiry p .returnRetry fun s => s.autoReturn p)

/-! ### Get_Sink_Cap (R195) -/

/-- GET_SINK_CAP_START (R195, 08 R236). -/
def execGetSinkCapStart (p : PortId) (s : State) : Res :=
  .next (
    let q := s.port p
    if q.drpBit ∧ q.readyIdle ∧ q.pol.firstDone ∧ q.pod.discDone ∧ q.pod.lookPend.isNone ∧ q.pod.auth ≠ 1 ∧ ¬ q.swap.snkAsked then
      (s.modSwap p fun w => { w with snkAsked := true }).say p (q.ctrl 8) true
    else s)

/-- The partner's Sink_Capabilities (PRESUMED bit places, notes/assumptions/7). -/
def State.gotSinkCap (s : State) (p : PortId) (m : PdMsg) : State :=
  let s := s.modSwap p fun w =>
    { w with snkValid := true, drp := (m.obj 0).testBit 29, frs := BitVec.ofNat 2 (m.obj 0 / 2 ^ 23) }
  (s.stop p .sender).amsEnd p

/-! ### VCONN_SET and BACKFEED_SET -/

/-- 14 R431. -/
def vconnSetSpec : CmdSpec where
  params _ d := if d.onlyAt [(8, 1)] ∧ d.le 8 1 ≤ 1 then none else some stBadParam
  legal s d :=
    let q := s.port d.pid
    if d.le 8 1 = 1 then
      if q.cc.st ≠ .attachedSrc then some 1
      else if q.pol.seq ≠ .ready ∧ q.pol.seq ≠ .noPd then some 2
      else if ¬ q.cc.vcfg.bit 0 then some 4
      else if q.cc.vconnOn ∨ ¬ q.vconnMay then some 10 else none
    else
      if q.cc.st ≠ .attachedSrc ∧ q.cc.st ≠ .attachedSnk then some 1
      else if q.pol.seq = .swap ∨ q.swap.kind ≠ .idle then some 2
      else if ¬ q.swap.vconnSrc then some 6
      else if q.pol.eprMode then some 7 else none
  go s d := if d.le 8 1 = 1 then s.vconnApply d.pid else s.vconnOff d.pid

def execVconnSet (d : Desc) (s : State) : Res := .next (vconnSetSpec.start 0x0B d [] s)

/-- VCONN_PIN_SETTLED (04 R107, Table 7-4, 14 R431). -/
def execVconnPinSettled (p : PortId) (s : State) : Res :=
  .next (
    let q := s.port p
    if ¬ q.cc.vconnBusy then s
    else
      let s := s.modCc p fun c => { c with vconnBusy := false }
      let res := evData [(24, 1, b2n q.cc.vconnOn)]
      if q.cc.vconnOn ∧ q.swap.kind = .vconn ∧ q.swap.accepted ∧ ¬ q.swap.vcGive then s.say p (q.ctrl 6)
      else if ¬ q.cc.vconnOn ∧ q.swap.kind = .vconn ∧ q.swap.accepted ∧ q.swap.vcGive ∧ ¬ s.runs p .vconnSource then s.vcDone p
      else if q.cc.vconnOn ∧ q.pol.seq = .ready ∧ (s.running 0x0B p).isSome then
        ((s.modPol p fun x => { x with cableAsk := true }).latchReneg p).finishAll 0x0B p stOk res
      else (s.finishAll 0x0B p stOk res).detachDone p)

/-- 10 Table 10-8. -/
def backfeedSetSpec : CmdSpec where
  params _ d := if d.onlyAt [(8, 1)] ∧ d.le 8 1 ≤ 1 then none else some stBadParam
  legal s d :=
    let q := s.port d.pid
    if q.cc.st ≠ .attachedSnk then some 1
    else if d.le 8 1 = 0 then (if q.ef.bfCmd then none else some 10)
    else if ¬ q.swap.cfg.bit 4 then some 4
    else if q.ef.bfCmd ∨ q.ef.vbusMv < 4750 ∨ 5500 < q.ef.vbusMv then some 10 else none
  go s d :=
    let p := d.pid
    if d.le 8 1 = 0 then (s.bfOpened p .host).finish d stOk 0
    else (s.stop p .bfReclose).modEf p fun e => { e with bfWhy := 4, bfReclosed := 0 }

def execBackfeedSet (d : Desc) (s : State) : Res := .next (backfeedSetSpec.start 0x0C d [] s)

/-! ### Timers of the swaps -/

/-- TPSSOURCEON_EXPIRY (Tables 7-2, 7-5). -/
def execPsSourceOnExpiry (p : PortId) (s : State) : Res :=
  .next (s.onExpiry p .psSourceOn fun s =>
    match (s.port p).swap.kind with
    | .toSink => s.hrRequest p
    | .fr => s.frNoMessage p 2
    | _ => s)

/-- TPSSOURCEOFF_EXPIRY (Table 7-3). -/
def execPsSourceOffExpiry (p : PortId) (s : State) : Res :=
  .next (s.onExpiry p .psSourceOff fun s => if (s.port p).swap.kind = .toSource then s.hrRequest p else s)

/-- TVCONNSOURCETIMEOUT_EXPIRY (Table 7-4): VCONN is kept. -/
def execVconnSourceTimeoutExpiry (p : PortId) (s : State) : Res :=
  .next (s.onExpiry p .vconnSource fun s => if (s.port p).swap.kind = .vconn then s.sinkReset p else s)

/-- TPSTRANSITION_EXPIRY (Table 7-7). -/
def execPsTransitionExpiry (p : PortId) (s : State) : Res :=
  .next (s.onExpiry p .psTransition fun s => if (s.port p).pol.seq = .sink then s.sinkReset p else s)

/-- TSINKWAITCAP_EXPIRY (Table 7-7, R218). -/
def execSinkWaitCapExpiry (p : PortId) (s : State) : Res :=
  .next (s.onExpiry p .sinkWaitCap fun s =>
    if (s.port p).pol.seq ≠ .sink then s
    else if s.hu.active then (s.say p ((s.port p).ctrl 7) true).start p .sinkWaitCap
    else s.hrRequest p)

/-- WAIT_SPACING_EXPIRY (06 R188). -/
def execWaitSpacingExpiry (p : PortId) (s : State) : Res := .next (s.onExpiry p .waitSpacing fun s => s.retryWait p)

/-! ### The sink's messages (Table 7-7) -/

/-- Source_Capabilities as sink: the Request for object position 1. -/
def State.sinkCaps (s : State) (p : PortId) (m : PdMsg) : State :=
  let q := s.port p
  let pdo := m.obj 0 % 1024 * 10
  let snk := q.swap.cfgNow.fld 29 24 * 50
  let i := min snk pdo
  let rdo := 2 ^ 28 + (if pdo < snk then 2 ^ 26 else 0) + (i / 10) * 2 ^ 10 + i / 10
  let s := (s.stop p .sinkWaitCap).waitOver p .request
  let s := s.modSwap p fun w => { w with snkRdo := BitVec.ofNat 32 rdo, snkAsk := true }
  s.say p (q.dataMsg .sop 2 (leBytes 4 rdo))

/-- PS_RDY as sink: the sink contract is in force. -/
def State.sinkReady (s : State) (p : PortId) : State :=
  let i := (s.port p).swap.snkRdo.fld 9 0
  let s := ((s.stop p .psTransition).modSwap p fun w => { w with snkContract := true }).amsEnd p
  (s.waitOver p .request).eventP 0x0306 p 0 (250 + i * 65536)

/-- The Request of the sink has its answer. -/
def State.snkAnswered (s : State) (p : PortId) : State := s.modSwap p fun w => { w with snkAsk := false }

/-- A message in SINK, VDMs and the like apart. -/
def State.gotInSink (s : State) (p : PortId) (m : PdMsg) : State :=
  let q := s.port p
  if q.swap.snkSoft then
    if m.isCtrl 3 then ((s.stop p .sender).modSwap p fun w => { w with snkSoft := false }).amsEnd p |>.start p .sinkWaitCap
    else s.sinkLost p
  else if m.isData 1 then s.sinkCaps p m
  else if m.isCtrl 3 ∧ q.swap.snkAsk then (s.snkAnswered p).start p .psTransition
  else if m.isCtrl 6 then (if s.runs p .psTransition then s.sinkReady p else s.odd p .outOfPlace)
  else if m.isCtrl 4 ∧ q.swap.snkAsk then ((s.snkAnswered p).waitOver p .request).amsEnd p
  else if m.isCtrl 12 ∧ q.swap.snkAsk then (s.snkAnswered p).gotWait p .request fun s => s.amsEnd p
  else if m.isCtrl 8 then s.gotGetSinkCap p
  else if m.isCtrl 10 then s.gotPrSwap p
  else if m.isCtrl 11 then s.gotVconnSwap p
  else if m.isCtrl 13 then (s.say p (q.ctrl 3)).start p .sinkWaitCap
  else if m.isCtrl 16 then s.amsEnd p
  else s.gotElse p m

/-- A message in SWAP. -/
def State.gotInSwap (s : State) (p : PortId) (m : PdMsg) : State :=
  let q := s.port p
  let w := q.swap
  let asked := w.byDev && !w.accepted && w.kind != .fr
  if q.crosses m then
    let s := s.withdraw p
    if m.isCtrl 11 then s.gotVconnSwap p else s.gotPrSwap p
  else if asked ∧ m.isCtrl 3 then (if w.kind = .vconn then s.vcAccepted p else s.prAccepted p)
  else if asked ∧ m.isCtrl 4 then s.swapFail p stPartnerReject
  else if asked ∧ m.isCtrl 16 then s.swapFail p stPartnerNotSupported
  else if asked ∧ m.isCtrl 12 then
    (s.stop p .sender).gotWait p (if w.kind = .vconn then .vconnSwap else .prSwap) fun s => s.swapFail p stPartnerWaitExhausted
  else if m.isCtrl 19 ∧ w.kind = .fr ∧ ¬ w.byDev then s.gotFrSwap p
  else if m.isCtrl 6 then
    if w.kind = .toSink ∧ w.step = 5 then (s.stop p .psSourceOn).swapToSink p
    else if w.kind = .toSource ∧ w.step = 3 then s.swapT4 p
    else if w.kind = .vconn ∧ w.accepted ∧ w.vcGive ∧ s.runs p .vconnSource then s.vcGiven p
    else if w.kind = .fr ∧ w.step = 5 then (s.stop p .psSourceOn).swapToSink p
    else s.odd p .outOfPlace
  else if m.isCtrl 8 ∧ q.drpBit then s.gotGetSinkCap p
  else if m.isCtrl 3 ∨ m.isCtrl 4 ∨ m.isCtrl 12 ∨ m.isCtrl 10 ∨ m.isCtrl 11 ∨ m.isCtrl 13 ∨ m.isData 2 then s.odd p .outOfPlace
  else s.odd p .unsupported

/-- A message that belongs to the VCONN_Swap which a port in SINK has in progress (R204). -/
def Port.inVcSwap (q : Port) (m : PdMsg) : Bool :=
  q.pol.seq == .sink && q.swap.kind == .vconn &&
    (q.crosses m || (q.swap.byDev && !q.swap.accepted && (m.isCtrl 3 || m.isCtrl 4 || m.isCtrl 12 || m.isCtrl 16))
      || (q.swap.accepted && q.swap.vcGive && m.isCtrl 6))

/-- The outcome of a sequencer message in SWAP, or of one of a VCONN_Swap in SINK. An Accept of FR_Swap that ends with its retries
exhausted changes nothing, and a PS_RDY that does starts tPSSourceOn (DESIGN CHOICE, notes/assumptions/91). -/
def State.swapOutcome (s : State) (p : PortId) (m : PdMsg) (o : TxOutcome) : State :=
  let w := (s.port p).swap
  if o = .abandoned then
    if w.byDev ∧ ¬ w.accepted ∧ (m.isCtrl 10 ∨ m.isCtrl 11) then
      (s.modSwap p fun w => { w with kind := .idle, step := 0, byDev := false, withdrawn := true }).setSeq p (s.port p).baseSeq
    else s
  else if o = .exhausted ∨ o = .refused then
    if (m.isCtrl 10 ∨ m.isCtrl 11) ∧ w.byDev then s.swapFail p stPartnerNoResponse
    else if w.kind = .fr then (if m.isCtrl 6 then s.start p .psSourceOn else s)
    else s.odd p .retries
  else if o ≠ .acked then s
  else if m.isCtrl 10 ∨ m.isCtrl 11 then (s.modSwap p fun w => { w with late := false }).start p .sender
  else if m.isCtrl 3 then
    match w.kind with
    | .vconn => s.vcAccepted p
    | .fr => (s.modSwap p fun w => { w with accepted := true }).frProceed p
    | .idle => s
    | _ => s.prAccepted p
  else if m.isCtrl 6 then
    match w.kind with
    | .toSink => (s.modSwap p fun w => { w with step := 5 }).start p .psSourceOn
    | .fr => s.start p .psSourceOn
    | .toSource => s.swapToSource p
    | .vconn => s.vcDone p
    | .idle => s
  else s

end Sys2Proof.Machine
end

