-- ==== Sys2Proof/Machine/Policy.lean ====
section
/-! DEFINITION. The policy sequencer (06 Tables 6-2 to 6-4): cable discovery, capabilities and Requests, transitions,
READY's messages, EPR mode, renegotiation, and the commands by which the protocol layer's events reach it. Message codes
and data-object layouts are PRESUMED (notes/assumptions/7). -/

set_option linter.unusedVariables false

namespace Sys2Proof.Machine

/-! ### The cable (Table 6-2, R172, R187; 08 R240) -/

/-- The cable record of a Discover Identity ACK: product type, current, voltage and EPR fields of the cable VDO; none where the ACK is
taken as no e-marker response (05 R122). -/
def cableOf (v : List Nat) : Option CableRec :=
  let typ := (v.headD 0) / 2 ^ 27 % 8
  let c := v.getD 3 0
  if v.length < 4 ∨ (typ ≠ 3 ∧ typ ≠ 4) then none
  else some
    { ma := if c / 32 % 4 = 2 then 5000 else 3000, epr := c.testBit 17, v50 := c / 512 % 4 == 3
      active := typ == 4 && c.testBit 3 }

/-- CABLE_DISC ends, and the capabilities follow. -/
def State.cableDone (s : State) (p : PortId) : State :=
  ((s.stopAll p [.cableDisc, .vdmBusy, .vdmResp]).amsEnd p).toSendCaps p true

/-- EPR mode entry ends without success (R173). -/
def State.eprRefuse (s : State) (p : PortId) (code : Nat) : State :=
  let s := (s.stop p .vdmResp).modPol p fun x => { x with seq := .ready, eprStep := 0 }
  (s.say p ((s.port p).dataMsg .sop 10 (leBytes 4 (4 * 2 ^ 24 + code * 2 ^ 16)))).eventP 0x020A p code 0

/-- The cable check of an EPR entry has no good answer: the first condition of R172 that fails now, or the cable (R173). -/
def State.eprCableFail (s : State) (p : PortId) : State := s.eprRefuse p (((s.port p).eprFails true).getD 1)

/-- A Discover Identity request on SOP′, as an AMS of its own. One that Table 5-2 forbids is refused, and counts as unanswered (05
R580): in CABLE_DISC the second would be refused as well. -/
def State.cableSend (s : State) (p : PortId) : State :=
  let q := s.port p
  let s := s.say p (q.vdm .sopp 0xFF00 1 0 0) true
  if q.sopOk .sopp then s
  else if q.pol.seq = .cableDisc then (s.modPol p fun x => { x with cableReq := 2 }).cableDone p
  else if q.pol.seq = .eprEntry then s.eprCableFail p
  else (s.modPol p fun x => { x with cableBusy := false }).amsEnd p

/-- The second request of CABLE_DISC, or its end after two (Table 6-2). -/
def State.cableAgain (s : State) (p : PortId) : State :=
  if 2 ≤ (s.port p).pol.cableReq then s.cableDone p
  else ((s.modPol p fun x => { x with cableReq := x.cableReq + 1 }).amsEnd p).cableSend p

/-- A response of the e-marker is kept for the attach instance; outside CABLE_DISC a change latches renegotiation (R184). -/
def State.cableTake (s : State) (p : PortId) (m : PdMsg) : State :=
  match cableOf m.vdos with
  | none => s
  | some c =>
    let old := (s.port p).pol.cable
    let s := (s.modPol p fun x => { x with cable := some c, cableSeen := true }).modPd p fun x => { x with soppp2 := c.active }
    if old = some c then s else s.latchReneg p

/-- Enter Succeeded follows the cable check where every condition of R172 still holds. -/
def State.eprChecked (s : State) (p : PortId) : State :=
  match (s.port p).eprFails true with
  | none =>
    let s := s.modPol p fun x => { x with eprStep := 3 }
    s.say p ((s.port p).dataMsg .sop 10 (leBytes 4 (3 * 2 ^ 24)))
  | some k => s.eprRefuse p k

/-- A message on SOP′ or SOP″: the answer to a Discover Identity of the device's. -/
def State.gotCable (s : State) (p : PortId) (m : PdMsg) : State :=
  let q := s.port p
  let isId := m.isVdm && m.vStruct && m.vSvid == 0xFF00 && m.vCmd == 1
  if q.pol.seq = .cableDisc then
    let s := s.stop p .vdmResp
    if isId ∧ m.vType = 1 then
      ((s.cableTake p m).modPod p fun x => { x with ackCable := some (getBytes m.data 4 (4 * (m.nObj - 1))) }).cableDone p
    else if isId ∧ m.vType = 3 then
      if 2 ≤ q.pol.cableReq then s.cableDone p else s.start p .vdmBusy
    else if (isId ∧ m.vType = 2) ∨ m.isCtrl 16 then s.cableDone p
    else s
  else if q.pol.seq = .eprEntry ∧ q.pol.eprStep = 2 then
    let s := s.stop p .vdmResp
    if isId ∧ m.vType = 1 ∧ (cableOf m.vdos).isSome then (s.cableTake p m).eprChecked p else s.eprCableFail p
  else if q.pol.cableBusy then
    let s := ((s.stop p .vdmResp).modPol p fun x => { x with cableBusy := false }).amsEnd p
    if isId ∧ m.vType = 1 then s.cableTake p m else s
  else s

/-- No response on SOP′. -/
def State.cableSilent (s : State) (p : PortId) : State :=
  let q := s.port p
  if q.pol.seq = .cableDisc then s.cableAgain p
  else if q.pol.seq = .eprEntry ∧ q.pol.eprStep = 2 then s.eprCableFail p
  else (s.modPol p fun x => { x with cableBusy := false }).amsEnd p

/-- The outcome of a message on SOP′ or SOP″. -/
def State.cableOutcome (s : State) (p : PortId) (o : TxOutcome) : State :=
  match o with
  | .acked => s.start p .vdmResp
  | .abandoned =>
    if (s.port p).pol.cableBusy then s.modPol p fun x => { x with cableBusy := false, cableAsk := true }
    else s.cableSilent p
  | .exhausted | .refused => s.cableSilent p
  | _ => s

/-- The one Discover Identity on SOP′ that a taken VCONN calls for (07 R204, 14 R431). -/
def State.cableDue (s : State) (p : PortId) : State :=
  let q := s.port p
  if q.pol.cableAsk ∧ q.readyIdle ∧ q.sopOk .sopp then
    (s.modPol p fun x => { x with cableAsk := false, cableBusy := true }).cableSend p
  else s

/-- CABLE_DISC_TIMEOUT (R150). -/
def execCableDiscTimeout (p : PortId) (s : State) : Res :=
  .next (s.onExpiry p .cableDisc fun s => if (s.port p).pol.seq = .cableDisc then s.cableDone p else s)

/-- CABLE_REDISCOVERY (R187): at 1 s intervals from CONTRACT_ESTABLISHED, at most four requests, each in READY. -/
def execCableRediscovery (p : PortId) (s : State) : Res :=
  .next (s.onExpiry p .cableAgain fun s =>
    let q := s.port p
    if q.pol.cable.isSome ∨ 4 ≤ q.pol.cableLate ∨ ¬ q.sopOk .sopp then s
    else
      let s := s.start p .cableAgain
      if q.readyIdle then (s.modPol p fun x => { x with cableLate := x.cableLate + 1, cableBusy := true }).cableSend p else s)

/-! ### Requests and transitions (R162 to R171) -/

/-- A Request is evaluated (R162 to R164). What PRT_POL_CNT counts is the model's (DESIGN CHOICE, notes/assumptions/104). -/
def State.evalReq (s : State) (p : PortId) (m : PdMsg) : State :=
  let r : Req := { rdo := m.obj 0, epr := if m.isData 9 then some (m.obj 1) else none }
  let s := (s.stop p .sender).setSeq p .negotiate
  match (s.port p).evaluate r with
  | .inr c =>
    let s := if r.mismatch then s.eventP 0x020B p 0 r.rdo else s
    let s := s.modPol p fun x => { x with pendCtr := some c, rejects := 0 }
    let s := if s.runs p .pps then s.start p .pps else s
    s.say p ((s.port p).ctrl 3)
  | .inl k =>
    let s := s.modPol p fun x => { x with pendCtr := none, cnt := x.cnt.cntInc 0
                                          rejects := if x.contract.isSome then x.rejects else x.rejects + 1 }
    (s.say p ((s.port p).ctrl 4)).eventP 0x0207 p k r.rdo

/-- Accept is acknowledged: TRANSITION (R166, R167, R168, R171; 09 R271). -/
def State.accepted (s : State) (p : PortId) (c : Contract) : State :=
  let f := s.floor p
  let held := (s.port p).cnv.trim.isSome
  let s := s.endTrim p stSuperseded
  let s := if held then s.modCnv p fun v => { v with setMv := (v.refMv - (v.compMv : Rat)).floor.toNat, slewing := false } else s
  let s := s.modPol p fun x => { x with seq := .transition, commitOld := x.commit, commit := max x.commit (max f c.watts) }
  let lim := (s.port p).loopLimit c
  let s := if (s.port p).cnv.ilSeq < lim then s.setILim p lim else s
  (s.start p .srcTrans).start p .transLimit

/-- Reject is acknowledged (Table 6-2). -/
def State.rejected (s : State) (p : PortId) : State :=
  let x := (s.port p).pol
  if x.contract.isSome then s.toReady p
  else if 3 ≤ x.rejects then s.hrRequest p
  else (s.setSeq p .sendCaps).start p .sendCap

/-- PS_RDY is acknowledged: the contract is in force (R166 to R171, R151, R131; 12 R364, R368). -/
def State.established (s : State) (p : PortId) (c : Contract) : State :=
  let x := (s.port p).pol
  let f := s.floor p
  let fresh := !x.firstDone || (match x.contract with | some o => o.pos != c.pos || o.epr != c.epr | none => true)
  let w := max f c.watts
  let s := s.modPol p fun x => { x with contract := some c, pendCtr := none, commit := w, commitOld := w, rejects := 0
                                        firstDone := true }
  let s := (s.setILim p ((s.port p).loopLimit c)).modPd p fun d => { d with caActive := (s.port p).rev3 }
  let sub := c.pos + 16 * c.kind.code + 64 * b2n c.epr
  let v := contractWord (some c)
  let s :=
    if fresh then
      let s := s.modPol p fun x => { x with hrCtr := 0, capsCtr := 0 }
      let s := (s.openSession p).eventP 0x0202 p sub v
      if ¬ x.firstDone ∧ (s.port p).pol.cable.isNone ∧ (s.port p).cc.vconnOn then
        (s.modPol p fun x => { x with cableLate := 0 }).start p .cableAgain else s
    else s.eventP 0x0203 p sub v
  let s := s.sesContract p c
  let s := if c.kind = .pps ∧ ¬ c.epr then s.start p .pps else s.stop p .pps
  s.toReady p

/-- TSRCTRANSITION_EXPIRY (R166; Table 7-2 S3): the output starts to move, or the source role ends. -/
def execSrcTransitionExpiry (p : PortId) (s : State) : Res :=
  .next (s.onExpiry p .srcTrans fun s =>
    let q := s.port p
    match q.pol.seq, q.pol.pendCtr with
    | .transition, some c => s.setPointSlew p .sequencer c.mv
    | .swap, _ =>
      if q.swap.kind = .toSink ∧ q.swap.step = 2 then
        (s.leaveSource p).modSwap p fun w => { w with step := 3 }
      else s
    | _, _ => s)

/-- TRANSITION_TIMEOUT's VALUE. -/
def Port.timeoutValue (q : Port) : Nat := q.cnv.setMv + 65536 * q.cnv.voutMv.toNat

/-- TRANSITION_LIMIT_EXPIRY (R167). What PRT_POL_CNT counts is the model's (DESIGN CHOICE, notes/assumptions/104). -/
def execTransitionLimitExpiry (p : PortId) (s : State) : Res :=
  .next (s.onExpiry p .transLimit fun s =>
    if (s.port p).pol.seq = .transition then
      let s := (s.modPol p fun x => { x with cnt := x.cnt.cntInc 2 }).eventP 0x0204 p 1 (s.port p).timeoutValue
      s.hrRequest p
    else s)

/-! ### EPR mode (R172 to R175) -/

/-- EPR_Mode (Enter) in READY. -/
def State.eprEnter (s : State) (p : PortId) : State :=
  match (s.port p).eprFails true with
  | some k => s.eprRefuse p k
  | none =>
    let s := s.modPol p fun x => { x with seq := .eprEntry, eprStep := 1 }
    s.say p ((s.port p).dataMsg .sop 10 (leBytes 4 (2 * 2 ^ 24)))

/-- Enter Succeeded is acknowledged: EPR mode, and EPR_Source_Capabilities follow. -/
def State.eprEntered (s : State) (p : PortId) : State :=
  let s := s.modPol p fun x => { x with eprMode := true, eprStep := 0 }
  (((s.eventP 0x0208 p 0 (contractWord (s.port p).pol.contract)).start p .keepAlive).stop p .pps).toSendCaps p false

/-- The device leaves EPR mode on its own once a condition has stopped holding (R175). -/
def State.eprCheck (s : State) (p : PortId) : State :=
  let q := s.port p
  if q.pol.eprMode ∧ q.readyIdle ∧ (q.eprFails false).isSome then s.toSendCaps p false else s

/-! ### Messages by state (Table 6-2, R154, R155) -/

/-- Accept is sent for a received Soft_Reset; SEND_CAPS follows on its GoodCRC. -/
def State.gotSoftReset (s : State) (p : PortId) : State :=
  let s := (s.amsDrop p).modPol p fun x => { x with pendCtr := none, eprStep := 0 }
  s.say p ((s.port p).ctrl 3)

/-- Not_Supported in READY: it answers what is awaited there. -/
def State.gotNotSupported (s : State) (p : PortId) (m : PdMsg) : State :=
  let q := s.port p
  if q.pod.discOn then (s.modPod p fun x => { x with discOn := false }).amsEnd p |>.noIdentity p 1
  else if q.pod.fleetCmd ≠ 0 then s.fleetFail p 1
  else if s.runs p .sender then (s.stop p .sender).amsEnd p
  else if q.pod.auth = 1 then s.securityResponse p m
  else s.amsEnd p

/-- The port holds a contract at vSafe5V (05 R144): an explicit one at 5 V as source, or any as sink, where all are at 5 V. -/
def Port.at5V (q : Port) : Bool := q.cc.st == .attachedSnk || (q.pol.contract.map (·.mv)) == some 5000

/-- BIST (05 R144): answered at a contract at vSafe5V with BIST_EN; Carrier Mode sends the carrier, and Test Data enters the test mode,
which the next Hard Reset or detach ends (PRESUMED, notes/assumptions/92). -/
def State.gotBist (s : State) (p : PortId) (m : PdMsg) : State :=
  let q := s.port p
  let s := s.amsEnd p
  if ¬ (q.pd.cfgNow.bit 2 ∧ q.at5V) then s
  else if m.obj 0 / 2 ^ 28 = 5 then s.emit (.bistCarrier p)
  else if m.obj 0 / 2 ^ 28 = 8 then s.modPd p fun x => { x with bistTest := true }
  else s

/-- A message in READY (Table 6-2). -/
def State.gotInReady (s : State) (p : PortId) (m : PdMsg) : State :=
  let q := s.port p
  let act := m.obj 0 / 2 ^ 24
  if m.isData 2 ∨ m.isData 9 then s.evalReq p m
  else if m.isCtrl 7 ∨ (m.isExt 16 ∧ getLE m.data 2 1 = 1 ∧ q.pol.eprMode) then s.toSendCaps p false
  else if m.isData 10 then
    if act = 1 then s.eprEnter p
    else if act = 5 ∧ q.pol.eprMode then (s.endEpr p 1).toSendCaps p false
    else s.odd p .outOfPlace
  else if m.isExt 16 then
    if getLE m.data 2 1 = 3 ∧ q.pol.eprMode then s.say p (q.extMsg 16 [4, 0])
    else s.odd p .outOfPlace
  else if m.isCtrl 24 ∧ q.rev3 then s.say p (q.dataMsg .sop 12 (leBytes 4 Config.revisionObject.toNat))
  else if m.isCtrl 8 then s.gotGetSinkCap p
  else if m.isCtrl 10 then s.gotPrSwap p
  else if m.isCtrl 11 then s.gotVconnSwap p
  else if m.isData 4 ∧ s.runs p .sender then s.gotSinkCap p m
  else if m.isCtrl 16 then s.gotNotSupported p m
  else if m.isCtrl 4 ∧ s.runs p .sender then (s.stop p .sender).amsEnd p
  else if m.isCtrl 3 ∨ m.isCtrl 4 ∨ m.isCtrl 6 ∨ m.isCtrl 12 ∨ m.isData 4 ∨ m.isData 1 then s.odd p .outOfPlace
  else s.odd p .unsupported

/-- VDM, Security and BIST messages on SOP while the layer runs (R154; 08 R241, R244, R247); `none` for the others. The rule on the
state goes before R244 (DEDUCED, notes/assumptions/117). -/
def State.gotSide (s : State) (p : PortId) (m : PdMsg) : Option State :=
  let q := s.port p
  let base := q.pol.seq == .ready || q.pol.seq == .sink || q.pol.seq == .swap
  if m.isData 3 then some (s.gotBist p m)
  else if m.isVdm ∧ base then some (s.vdmGot p m)
  else if m.isExt 9 ∧ base ∧ q.pod.auth = 1 then some (s.securityResponse p m)
  else if m.isVdm ∧ ¬ m.vStruct ∧ s.fleetSvid ≠ 0 ∧ m.vSvid = s.fleetSvid then
    some ((s.toCores p m).getD (s.vdmDiscard p 2))
  else none

/-- The device answers a PR_Swap with Reject where the sequencer is not in READY (07 R197) (DESIGN CHOICE, notes/assumptions/34). -/
def State.prSwapBusy (s : State) (p : PortId) (m : PdMsg) : Bool := m.isCtrl 10 && (s.port p).drpBit

/-- A message on SOP reaches the sequencer. In the states of R152 and R155 that discard, nothing follows its GoodCRC, and in the test
mode of BIST nothing does either; a late answer to a withdrawn swap request is discarded (07 R206). How long a late answer is
awaited is the model's (DESIGN CHOICE, notes/assumptions/118). -/
def State.gotSop (s : State) (p : PortId) (m : PdMsg) : State :=
  let s := s.modPol p fun x => { x with anyMsg := true }
  let q := s.port p
  let s := if q.pol.eprMode then s.start p .keepAlive else s
  if q.pd.bistTest then s.amsEnd p
  else if q.swap.late ∧ (m.isCtrl 3 ∨ m.isCtrl 4 ∨ m.isCtrl 12) then s.modSwap p fun w => { w with late := false }
  else match q.pol.seq with
  | .startup | .cableDisc | .noPd | .hardReset => s
  | _ =>
    match s.gotSide p m with
    | some s => s
    | none =>
      let soft := m.isCtrl 13
      if s.prSwapBusy p m ∧ q.pol.seq ∈ [SeqSt.sendCaps, .waitRequest, .negotiate, .transition, .eprEntry, .softReset] then
        s.swapReject p .toSink
      else
      match q.pol.seq with
      | .sendCaps =>
        if soft then s.gotSoftReset p else if m.isData 2 ∨ m.isData 9 then (s.stop p .sendCap).evalReq p m else s.gotElse p m
      | .waitRequest =>
        if soft then s.gotSoftReset p else if m.isData 2 ∨ m.isData 9 then s.evalReq p m else s.gotElse p m
      | .negotiate | .eprEntry => if soft then s.gotSoftReset p else s.gotElse p m
      | .transition => s.gotElse p m
      | .ready => if soft then s.gotSoftReset p else s.gotInReady p m
      | .softReset =>
        if soft then s.gotSoftReset p
        else if m.isCtrl 3 then ((s.stop p .sender).amsEnd p).toSendCaps p true
        else s.odd p .outOfPlace
      | .swap => s.gotInSwap p m
      | .sink => if q.inVcSwap m then s.gotInSwap p m else s.gotInSink p m
      | _ => s

/-- The technician service channel (04 R109): Unstructured VDMs with the fleet SVID pass; all else is discarded. -/
def State.gotService (s : State) (p : PortId) (m : PdMsg) : State :=
  let s := s.amsEnd p
  if m.isVdm ∧ ¬ m.vStruct ∧ s.fleetSvid ≠ 0 ∧ m.vSvid = s.fleetSvid then (s.toCores p m).getD (s.vdmDiscard p 2) else s

/-! ### Outcomes -/

/-- A sequencer message gave way to the partner's: with `early` before its preamble (05 R133, R135), else while it awaited its GoodCRC
(05 R128). What it was for is taken up again later. Table 6-2 has no row for capabilities that gave way before their preamble: with a
contract in force the sequencer returns to READY, where the latch sends them again (DESIGN CHOICE, notes/assumptions/93), and without
one they are sent again after tTypeCSendSourceCap. -/
def State.dropped (s : State) (p : PortId) (m : PdMsg) (early : Bool) : State :=
  let q := s.port p
  match q.pol.seq with
  | .sendCaps =>
    let s := s.modPol p fun x => { x with reneg := x.reneg || x.renegCmd || (early && x.contract.isSome) }
    if q.pol.contract.isNone then s.start p .sendCap
    else if early then s.setSeq p .ready else s
  | .swap => s.swapOutcome p m .abandoned
  | _ =>
    if q.swap.kind = .vconn ∧ m.isCtrl 11 then s.swapOutcome p m .abandoned
    else if m.isVdm then
      if m.vCmd = 5 then s.fleetExited p false
      else if q.pod.fleetCmd ≠ 0 then s.modPod p fun x => { x with fleetCmd := 0, fleetTried := false }
      else s.modPod p fun x => { x with discOn := false }
    else if m.isCtrl 8 then s.modSwap p fun w => { w with snkAsked := false }
    else s

/-- The outcome of capabilities in SEND_CAPS (Table 6-2). -/
def State.capsOutcome (s : State) (p : PortId) (o : TxOutcome) : State :=
  let x := (s.port p).pol
  match o with
  | .acked =>
    let s := (s.modPol p fun x => { x with ackedCaps := x.sentCaps, ackedFirst := x.sentFirst, seq := .waitRequest, renegCmd := false }).start p .sender
    let done := s.hif.table.filter fun o => o.ph == .running && o.d.op.toNat == 0x07 && o.d.port.toNat == p.val && o.aux == 1
    done.foldl (fun s o => s.finish o.d stOk (evData [(24, 1, (x.sentCaps.filter (· != .zero)).length),
      (25, 1, b2n x.sentEpr), (26, 2, x.grant)])) s
  | .exhausted | .refused =>
    if x.anyMsg then s.hrRequest p
    else if x.capsCtr < 50 then s.start p .sendCap
    else s.toNoPd p 1
  | _ => s

/-- The acknowledgement of a sequencer message in READY, or the end of its AMS where nothing is awaited (05 R131). -/
def State.readyAcked (s : State) (p : PortId) (m : PdMsg) : State :=
  let q := s.port p
  if m.isVdm ∧ m.vType = 0 ∧ m.vStruct then
    if m.vCmd = 5 then s.fleetExited p true
    else if q.pod.fleetCmd = 3 then s.start p .fleetEnter
    else s.start p .vdmResp
  else if m.isCtrl 8 then s.start p .sender
  else if m.isCtrl 3 then (s.amsEnd p).toSendCaps p true
  else s.amsEnd p

/-- The outcome of a message of the sequencer's on SOP (05 R147, Table 6-2, R154). -/
def State.outcome (s : State) (p : PortId) (m : PdMsg) (o : TxOutcome) : State :=
  let q := s.port p
  if m.sopx ≠ .sop then s.cableOutcome p o
  else if m.chunkReq then s
  else if o = .abandoned then s.dropped p m false
  else if m.isData 10 ∧ m.obj 0 / 2 ^ 24 = 5 then (if o = .exhausted then s.softReset p else s)
  else match q.pol.seq with
  | .sendCaps =>
    if m.isData 1 ∨ m.isExt 17 then s.capsOutcome p o
    else if m.isCtrl 3 ∧ o = .acked then (s.amsEnd p).toSendCaps p true
    else if o = .exhausted then s.odd p .retries else s
  | .waitRequest => if m.isCtrl 3 ∧ o = .acked then (s.amsEnd p).toSendCaps p true
    else if o = .exhausted then s.odd p .retries else s
  | .negotiate =>
    if o = .acked then
      if m.isCtrl 3 then (match q.pol.pendCtr with | some c => s.accepted p c | none => (s.amsEnd p).toSendCaps p true)
      else if m.isCtrl 4 ∧ q.pol.pendCtr.isNone then s.rejected p else s
    else if o = .exhausted then s.odd p .retries else s
  | .transition =>
    if m.isCtrl 6 then
      if o = .acked then (match q.pol.pendCtr with | some c => s.established p c | none => s)
      else if o = .exhausted then s.hrRequest p else s
    else s
  | .ready => if o = .acked then s.readyAcked p m else if o = .exhausted then s.odd p .retries else s
  | .eprEntry =>
    if o = .acked then
      if m.isCtrl 3 then (s.amsEnd p).toSendCaps p true
      else if ¬ m.isData 10 then s
      else if q.pol.eprStep = 1 then (s.modPol p fun x => { x with eprStep := 2 }).cableSend p
      else if q.pol.eprStep = 3 then s.eprEntered p else s
    else if o = .exhausted then s.odd p .retries else s
  | .softReset =>
    if o = .acked then
      if m.isCtrl 13 then s.start p .sender else if m.isCtrl 3 then (s.amsEnd p).toSendCaps p true else s
    else if o = .exhausted then s.hrRequest p else s
  | .swap => s.swapOutcome p m o
  | .sink =>
    if q.swap.kind = .vconn ∧ (m.isCtrl 11 ∨ m.isCtrl 3 ∨ m.isCtrl 6) then s.swapOutcome p m o
    else if o = .acked then
      if m.isVdm ∧ m.vCmd = 5 ∧ m.vStruct ∧ m.vType = 0 then s.fleetExited p true
      else if m.isCtrl 13 then s.start p .sender
      else if m.isData 2 ∨ m.isCtrl 7 then s else s.amsEnd p
    else if o = .exhausted then (if q.swap.snkSoft then s.sinkLost p else s.odd p .retries) else s
  | _ => s

/-! ### Notes of the protocol layer, and what is due in an idle state -/

def State.note (s : State) (p : PortId) (n : PdNote) : State :=
  match n with
  | .outcome m .core o =>
    if m.isVdm ∧ m.vStruct ∧ m.vType = 0 ∧ m.vCmd = 5 then s.fleetExited p (o == .acked) else s.amsDone p
  | .outcome m .seq o => s.outcome p m o
  | .withdrawn m .core => if m.isVdm ∧ m.vStruct ∧ m.vType = 0 ∧ m.vCmd = 5 then s.fleetExited p false else s
  | .withdrawn m .seq => if m.sopx ≠ .sop then s.cableOutcome p .abandoned else s.dropped p m true
  | .got m =>
    if (s.port p).cc.st = .debugAcc then s.gotService p m
    else if m.sopx = .sop then s.gotSop p m else s.gotCable p m
  | .fail => s.odd p .failed
  | .discarded _ => s.odd p .extDiscard

/-- What a port in READY or SINK has waiting is started, one after another, while it stays idle. -/
def State.idleWork (s : State) (p : PortId) : State :=
  ((((s.reevaluate p).retryWait p).autoReturn p).eprCheck p).cableDue p

/-- The notes are acted on, and the layer goes on with the next message. -/
def State.settle (s : State) (p : PortId) (l : List PdNote) : State :=
  (((l.foldl (fun s n => s.note p n) s).admitTx p).nextTx p).idleWork p

/-! ### Commands of the protocol layer -/

/-- The service channel's pin (04 R109): the first on which a valid SOP message arrives. -/
def State.takePin (s : State) (p : PortId) (pin : Pin) (k : Sopx) : State :=
  let c := (s.port p).cc
  if c.st = .debugAcc ∧ c.svcPin.isNone ∧ k = .sop then
    s.modCc p fun c => { c with svcPin := some pin, active := some pin, orient := pin == .cc2 }
  else s

/-- The receiver listens on a pin: the active one, or both on a service channel that has not locked one (04 R109). -/
def Port.hears (q : Port) (pin : Pin) : Bool :=
  q.pdRuns && (q.cc.active == some pin || (q.cc.st == .debugAcc && q.cc.svcPin.isNone))

/-- PD_MESSAGE_RECEIVED (05 R119 to R139, Tables 6-2, 6-4, 7-7): a frame with a valid CRC arrives on a pin behind an ordered set. A
frame whose length does not match its header is discarded (R120). -/
def execPdMessageReceived (p : PortId) (pin : Pin) (f : PdFrame) (s : State) : Res :=
  .next (
    match f.set.sopx with
    | none => s
    | some k =>
      let m := { f.msg with sopx := k }
      if ¬ (s.port p).hears pin then s
      else if ¬ m.lenOk then s.badFrame p
      else
        let s := s.takePin p pin k
        if (s.port p).cc.active ≠ some pin then s
        else
          -- the revision of the first explicit Request (05 R129)
          let (s, l) := s.pdTake p m
          let s := if m.sopx = .sop ∧ m.isData 2 then
              s.modPd p fun x => if x.revSop ≠ 0 then x else { x with revSop := BitVec.ofNat 2 (max 1 (min x.own m.rev)) }
            else s
          s.settle p l)

/-- CHANNEL_IDLE (05 R121). -/
def execChannelIdle (p : PortId) (s : State) : Res :=
  .next (
    let (s, l) := s.startFrame p
    if l = [] then s else s.settle p l)

/-- GOODCRC_RECEIVED (05 R125). -/
def execGoodcrcReceived (p : PortId) (sopx : Sopx) (id : BitVec 3) (s : State) : Res :=
  .next (
    let (s, l) := s.onGoodCrc p sopx id
    s.settle p l)

/-- TRECEIVE_EXPIRY (05 R126). -/
def execTreceiveExpiry (p : PortId) (s : State) : Res :=
  .next (s.onExpiry p .tReceive fun s =>
    let (s, l) := s.onTReceive p
    s.settle p l)

/-- CHUNK_TIMER_EXPIRY (05 R137, R138): the timer of the assembly, or that of a chunked transmission. -/
def execChunkTimerExpiry (p : PortId) (s : State) : Res :=
  .next (
    if s.runs p .chunk then
      let s := s.stop p .chunk
      if (s.port p).pd.asm.isSome then (s.modPd p fun x => { x with asm := none }).settle p [.fail] else s
    else s.onExpiry p .chunkTx fun s =>
      match (s.port p).pd.tx with
      | some t => if t.ph = .chunkWait then (s.endTx p t .exhausted).settle p [.outcome t.msg t.prod .exhausted] else s
      | none => s)

/-- PDTX_MESSAGE (05 R145): a message is handed to the layer. Where no AMS is in progress it starts one (R132, R134, R135). -/
def execPdtxMessage (p : PortId) (m : PdMsg) (prod : PdProd) (s : State) : Res :=
  .next (s.pdSend p m prod ((s.port p).pd.ams == .idle))

/-- SOP_ORDERED_SET_RECOGNISED (05 R119, R133, R135). Where the frame behind it brings no valid message, the partner's AMS has no end that
the section gives: the AMS stays the partner's, and Rp at SinkTxNG (DESIGN CHOICE, notes/assumptions/94). -/
def execSopOrderedSetRecognised (x : SopSeen) (s : State) : Res :=
  .next (if (s.port x.port).pdRuns ∧ x.set.sopx = some .sop then
    let (s, l) := s.dropFirst x.port
    l.foldl (fun s n => s.note x.port n) s
  else s)

/-! ### Timers of the sequencer (Table 6-3) -/

/-- TTYPECSENDSOURCECAP_EXPIRY: the capabilities are sent again. -/
def execSendSourceCapExpiry (p : PortId) (s : State) : Res :=
  .next (s.onExpiry p .sendCap fun s => if (s.port p).pol.seq = .sendCaps then s.sendCaps p true else s)

/-- TSENDERRESPONSE_EXPIRY: no answer. -/
def execSenderResponseExpiry (p : PortId) (s : State) : Res :=
  .next (s.onExpiry p .sender fun s =>
    let q := s.port p
    match q.pol.seq with
    | .waitRequest | .softReset => s.hrRequest p
    | .swap => if q.swap.byDev ∧ ¬ q.swap.accepted then (s.swapFail p stPartnerNoResponse).idleWork p else s
    | .ready => (s.amsEnd p).idleWork p
    | .sink =>
      if q.swap.snkSoft then s.sinkLost p
      else if q.swap.kind = .vconn ∧ q.swap.byDev ∧ ¬ q.swap.accepted then (s.swapFail p stPartnerNoResponse).idleWork p
      else s.amsEnd p
    | _ => s)

/-- TPPSTIMEOUT_EXPIRY (R169). -/
def execPpsTimeoutExpiry (p : PortId) (s : State) : Res :=
  .next (s.onExpiry p .pps fun s =>
    if (s.port p).pol.seq = .ready then (s.eventP 0x0205 p 1 0).hrRequest p else s)

/-- TSOURCEEPRKEEPALIVE_EXPIRY (R174). -/
def execEprKeepAliveExpiry (p : PortId) (s : State) : Res :=
  .next (s.onExpiry p .keepAlive fun s =>
    if (s.port p).pol.seq = .ready then (s.eventP 0x0205 p 2 0).hrRequest p else s)

/-- VDM_RESPONSE_TIMEOUT (08 R228, R236, R242; Table 6-2, R172): no VDM response. -/
def execVdmResponseTimeout (p : PortId) (s : State) : Res :=
  .next (s.onExpiry p .vdmResp fun s =>
    let q := s.port p
    if q.pol.seq = .cableDisc ∨ q.pol.seq = .eprEntry ∨ q.pol.cableBusy then s.cableSilent p
    else if q.pod.discOn then s.discSilent p
    else if q.pod.fleetCmd ≠ 0 then s.fleetFail p 3
    else s)

/-- TVDMBUSY_EXPIRY (08 R236, Table 6-2). -/
def execVdmBusyExpiry (p : PortId) (s : State) : Res :=
  .next (s.onExpiry p .vdmBusy fun s =>
    if (s.port p).pol.seq = .cableDisc then s.cableAgain p
    else if s.discDue p then s.discSend p else s)

/-- DISCOVER_IDENTITY_START (08 R236). -/
def execDiscoverIdentityStart (p : PortId) (s : State) : Res := .next (if s.discDue p then s.discSend p else s)

/-! ### Allocation and renegotiation (R156, R181 to R187) -/

/-- ALLOCATION_ROUND (R181): the round, and the first capabilities that waited for it (R156). -/
def execAllocationRound (s : State) : Res :=
  .next (s.round.forPorts fun s p =>
    if (s.port p).pol.capsDue ∧ (s.port p).pol.seq = .sendCaps then s.sendCaps p true else s)

/-- RENEGOTIATION_CAPS (R184, R185). -/
def execRenegotiationCaps (p : PortId) (s : State) : Res :=
  .next (if (s.port p).pol.reneg ∧ (s.port p).readyIdle then s.toSendCaps p true else s)

/-- The port whose commitment exceeds its target by most, ties to the lower number (R182). -/
def State.worstExcess (s : State) : Option PortId :=
  (List.finRange 16).foldl (fun best p =>
    let excess (p : PortId) := (s.port p).pol.commit - (s.port p).pol.target
    if excess p = 0 then best
    else match best with
      | none => some p
      | some b => if excess b < excess p then some p else some b) none

def State.committed (s : State) : Nat := (List.finRange 16).foldl (fun a p => a + (s.port p).pol.commit) 0

/-- Hard Resets one port at a time until the commitments fit LIMIT. -/
def State.shedBudget : Nat → State → State
  | 0, s => s
  | n + 1, s =>
    if s.committed ≤ s.limit then s
    else match s.worstExcess with
      | none => s
      | some p => State.shedBudget n (s.hrRequest p)

/-- BUDGET_HARD_RESET_EXPIRY (R182): 0.9 s after LIMIT was lowered. -/
def execBudgetHardResetExpiry (s : State) : Res :=
  .next (if s.bud.lowered then State.shedBudget 16 { s with bud := { s.bud with lowered := false } } else s)

/-- CONNECTOR_TEMP_READ (R186; 12 Table 12-5 T_MAX). -/
def execConnectorTempRead (p : PortId) (deciC : Int) (s : State) : Res :=
  .next (
    let base := (s.port p).pol.iLimTemp
    let s := s.modPol p fun x => { x with tempDeciC := some deciC }
    let s := s.modMtr p fun m => { m with tMax := some (max (m.tMax.getD (deciC / 10)) (deciC / 10)) }
    let now := (s.port p).iLim
    let again : Bool := match (s.port p).pol.tempReneg with | none => true | some t => decide (30000 ≤ s.msSince t)
    if base ≠ 0 ∧ (now + 250 ≤ base ∨ (base + 500 ≤ now ∧ again = true)) then
      (s.modPol p fun x => { x with tempReneg := some s.now, iLimTemp := now }).latchReneg p
    else s)

/-- 14 Table 14-3: RENEGOTIATE. -/
def renegotiateSpec : CmdSpec where
  params _ d := if d.onlyAt [] then none else some stBadParam
  legal s d :=
    let q := s.port d.pid
    if q.cc.st ≠ .attachedSrc then some 1
    else if q.pol.seq ∈ [SeqSt.sendCaps, .waitRequest, .negotiate, .transition, .ready, .eprEntry, .softReset] then none
    else some 2
  go s d := s.latchReneg d.pid

def execRenegotiate (d : Desc) (s : State) : Res := .next (renegotiateSpec.start 0x07 d [] s)

end Sys2Proof.Machine
end

