-- ==== Sys2Proof/Machine/Trip.lean ====
section
/-! DEFINITION. Trips (10 R309 to R316), the latching of a port, and what the path's progress brings about: the gate's rise,
VBUS in band, vSafe0V, shorted pass FETs, and Hard Reset signalling, which a trip may wait for. -/

set_option linter.unusedVariables false

namespace Sys2Proof

/-- The port is in HOLDOFF or FAULT_LATCHED. -/
def PortSt.isHold (x : PortSt) : Bool := x == .holdoff || x == .faultLatched

end Sys2Proof

namespace Sys2Proof.Machine

/-! ### Entry to HOLDOFF and FAULT_LATCHED (Table 10-4 step 9, 04 R112) -/

/-- A pin shows SRC.Rd or SRC.Ra. -/
def CcState.present (c : CcState) : Bool := c.rep1 != .opn || c.rep2 != .opn

/-- Rp stands on the pin: it is withheld while VCONN is on it and until its discharge is over (R107). -/
def CcState.rpAt (c : CcState) (x : Pin) : Bool := c.rpOn && !((c.vconnOn || c.vconnBusy) && c.vconnPin == some x)

/-- The report of the active pin. -/
def CcState.activeRep (c : CcState) : CcRep :=
  match c.active with | some .cc1 => c.rep1 | some .cc2 => c.rep2 | none => .opn

/-- DETACH with the energy since the path last closed that no session carries (15 Table 15-4, 01 R20). What remains in an
ATTACH_WAIT entered from HOLDOFF is reported as well (DESIGN CHOICE, notes/assumptions/102). -/
def State.detachRecord (s : State) (p : PortId) (st : PortSt) : State :=
  (s.eventP 0x0101 p st.code (satN 32 (uWh (s.port p).mtr.pre))).modMtr p fun m => { m with pre := 0, preRun := false }

/-- The window of 04 R97 item 6 starts where the partner present at entry still holds a pin. -/
def State.presentWin (s : State) (p : PortId) : State :=
  s.modCc p fun c =>
    if c.st.isHold ∧ c.atEntry ∧ c.present ∧ c.verdict.isNone ∧ c.win.isNone then
      { c with win := some .present, smp1 := [], smp2 := [], met1 := false, met2 := false, broken := false }
    else c

/-- The port enters HOLDOFF or FAULT_LATCHED; a detach that came with the trip is recorded in that state (04 R111). -/
def State.enterHold (s : State) (p : PortId) (st : PortSt) : State :=
  let gone := (s.port p).cc.detaching
  let s := (s.pdStop p).modEf p fun e => { e with tripping := e.tripping.map fun t => { t with toState := none } }
  let s := s.modCc p fun c =>
    { c with st, reattach := 0, atEntry := c.present && !gone, counted := false, verdict := none, vHeld := false, win := none
             smp1 := [], smp2 := [], rpOn := true, rdOn := false, detaching := false, broken := false
             active := if gone then none else c.active }
  let s := (s.modSwap p fun w => { w with dbgHold := false }).start p .reprobe
  let s := if gone then s.detachRecord p st else s
  if (s.port p).ef.path = .off then s.presentWin p else s

/-! ### The trip (R309 to R314) -/

/-- The sequencer has a PD partner to signal Hard Reset to (Table 10-4 step 4). -/
def Port.hasPartner (q : Port) : Bool :=
  (q.cc.st == .attachedSrc || q.cc.st == .attachedSnk)
    && !(q.pol.seq == .off || q.pol.seq == .startup || q.pol.seq == .noPd)

/-- The identity of the partner is settled, and its digest (R314). -/
def Port.settled (q : Port) : Option Quad :=
  if q.pod.idValid then some q.pod.digest else if q.pod.discDone then some 0 else none

/-- The latch cause and state that a trip of causes acting together leads to, byte 31, and the port's state (Table 10-3, R311 to
R313, R316): one opening counts at most once; a latching cause prevails, and a CONN_OT hold-off may extend a counted one. -/
def EfState.afterTrip (e : EfState) (l : List TripCause) : EfState × Nat × Option PortSt :=
  if l.contains .gateCollapse then ({ e with latch := 3 }, 0xFF, some .faultLatched)
  else
    let ot := l.contains .connOt
    let e := if ot then { e with holdOt := true, otIn := none } else e
    if l.any TripCause.counted then
      let n := e.retryCnt.toNat + 1
      let e := { e with retryCnt := BitVec.ofNat 4 n }
      if e.now.retry.fld 2 0 < n then ({ e with latch := 1 }, 0xFF, some .faultLatched)
      else ({ e with holdOn := true, holdMs := 250 * 2 ^ (n - 1) }, n, some .holdoff)
    else if ot then (e, 8, if l.head? = some .busin then none else some .holdoff)
    else (e, 0, none)

/-- PASS_FET_FAULT (R298, R304). -/
def State.gateRecord (s : State) (p : PortId) (sub mv : Nat) : State := s.eventP 0x0601 p sub mv

/-- GATE − SRC in mV as WM6 last reported it: 16 V over 1,024 codes (11 Table 11-1). -/
def Port.gateMv (q : Port) : Nat := q.wm.m[6].last.toNat * 125 / 8

/-- The path has been forced off and the port keeps its state: the session closes, and the port runs Table 7-8, waits in
DEBUG_ACC or waits in ATTACH_WAIT (01 R23; 11 R348). With `hold`, H4 waits for the return criterion. -/
def State.pathLost (s : State) (p : PortId) (r : EndReason) (hold : Bool) : State :=
  let q := s.port p
  match q.cc.st with
  | .attachedSrc | .attachedSnk =>
    let s := s.closeSession p r
    let s := if q.hasPartner then
        (if q.pol.seq ≠ .hardReset then s.hrRequest p else if 4 ≤ q.swap.hrStep then s.hrH3 p else s)
      else
        let s := ((s.endContract p).dropPartnerWork p).stopAll p polTimers
        (s.modPol p fun x => { x with seq := .hardReset, waitMsg := none, waitLeft := 0 }).hrH3 p
    s.modSwap p fun w => { w with hrHold := w.hrHold || hold }
  | .debugAcc => if hold then s.modSwap p fun w => { w with dbgHold := true } else s.modEf p fun e => { e with reason := .debug }
  | .attachWait => s.modEf p fun e => { e with reason := .attach }
  | _ => s

/-- Steps 4 to 9 of Table 10-4 for a trip after which the port is in HOLDOFF or FAULT_LATCHED. -/
def State.tripAway (s : State) (p : PortId) (st : PortSt) (r : EndReason := .trip) : State :=
  let q := s.port p
  let s := s.closeSession p r
  if q.hasPartner then ((s.hrStart p .off).vconnOff p).modPd p fun x => { x with hrPend := true }
  else (((s.seqOff p).vconnOff p).endPort p stAbortedHardReset).enterHold p st

/-- A cause acts while a trip is in progress (R311): only a latching one changes anything; it prevails and enters its own record. -/
def State.laterCause (s : State) (p : PortId) (t : TripSt) (c : TripCause) : State :=
  if c = .gateCollapse ∧ ¬ t.acted.contains c then
    let s := (s.modEf p fun e =>
      { e with latch := 3, tripping := some { t with acted := t.acted ++ [c], toState := some .faultLatched } }).gateRecord p 2 (s.port p).gateMv
    if t.toState.isSome then s else s.tripAway p .faultLatched
  else s

/-- The causes that act together as a map of their codes (15 Table 15-3). -/
def causeMap (l : List TripCause) : Nat := ([.short, .phasePeak, .vbusOv, .i2t, .inrush, .softstart, .busin, .gateCollapse, .connOt].filter
  fun c => l.contains c).foldl (fun a c => a + 2 ^ (c.code - 1)) 0

/-- A trip on a path that is CLOSING or ON, detected by a monitor or the eFuse controller: the cause granted first, and those that
act together with it (Table 10-4, R311). Which causes act together comes with the row (DESIGN CHOICE, notes/assumptions/97). -/
def State.trip (s : State) (p : PortId) (c : TripCause) (mon : Option Nat) (also : List TripCause := []) : State :=
  let q := s.port p
  match q.ef.tripping with
  | some t => s.laterCause p t c
  | none =>
    if ¬ q.ef.path.live then s
    else
      let l := c :: also
      let gate := l.contains .gateCollapse
      let counted := l.any TripCause.counted
      let donor := q.swap.kind == .fr && decide (q.swap.step ≤ 2) && !gate
      let (e, hold, dest) := q.ef.afterTrip l
      let dest := if donor then none else dest
      let e := { e with cnt := e.cnt.cntInc (if counted then 0 else 1), holdFrom := s.now
                        otFrom := if l.contains .connOt then s.now else e.otFrom
                        fd := if counted then q.settled.getD e.fd else e.fd
                        fdValid := e.fdValid || (counted && q.settled.isSome)
                        tripping := some { first := c, acted := l, toState := dest } }
      let s := ((s.modEf p fun _ => e).openPath p)
      let s := if e.holdOn then s.start p .holdoff else s
      let s := s.event 0x0600 p.val (evData [(24, 1, c.code), (25, 1, mon.getD 0xFF), (26, 2, causeMap l),
        (28, 2, q.ef.peak.toNat), (30, 1, e.retryCnt.toNat), (31, 1, hold)])
      let s := if gate then s.gateRecord p 2 q.gateMv else s
      if donor then s.frF3 p
      else match dest with
        | some st => s.tripAway p st (if c = .busin then .supply else .trip)
        | none => (s.pathLost p .supply true).vconnOff p |>.endPort p stAbortedHardReset

/-- The FULL action of a monitor (11 R339, R342, R343), with the causes of the other monitors that act with it: a trip with the path
CLOSING or ON, the short-circuit opening of the back-feed switch in BACKFEED, and an action that only keeps the path from leaving OFF
in the other states. -/
def State.fullAction (s : State) (p : PortId) (m : Fin 32) (also : List TripCause := []) : State :=
  let q := s.port p
  let s := s.modWm p fun w =>
    { w with ffActive := true, ffFirst := if w.ffActive then w.ffFirst else BitVec.ofNat 5 m.val }
  match q.ef.path with
  | .closing | .on | .opening =>
    match q.tripCause m with
    | some c => s.trip p c (some m.val) also
    | none => s
  | .backfeed => s.bfOpened p .short
  | .proving => s.pathTo p .opening
  | .off => s

/-- Monitors that are out of window when the path's move or a routing arms them act together at that instant (11 R336, R338); the
lowest-numbered is granted first. -/
def State.armedActs (s : State) (p : PortId) : State :=
  let q := s.port p
  if ¬ q.ef.path.live ∨ q.wm.ffActive then s
  else match (List.finRange 32).filter fun m => q.armed m && (q.wm.m[m.val]).isOut with
    | m :: r => s.fullAction p m (r.filterMap q.tripCause)
    | [] => s

/-- A latching fault of the guard outside a trip (R298, R305): the path opens and the port is latched. -/
def State.latchPort (s : State) (p : PortId) (code : Nat) : State :=
  let s := (s.openPath p).modEf p fun e => { e with latch := BitVec.ofNat 4 code }
  if (s.port p).cc.st = .holdoff then s.enterHold p .faultLatched
  else if (s.port p).cc.st = .faultLatched then s
  else s.tripAway p .faultLatched

/-- The trip's signalling is over, where it waited for it (step 9). -/
def State.tripSignalled (s : State) (p : PortId) : State :=
  match (s.port p).ef.tripping.bind (·.toState) with
  | some st => if (s.port p).pol.seq = .off then ((s.seqOff p).endPort p stAbortedHardReset).enterHold p st else s
  | none =>
    if (s.port p).pol.seq = .off ∧ (s.port p).ef.latch ≠ 0 ∧ (s.port p).cc.st ≠ .faultLatched then
      ((s.seqOff p).endPort p stAbortedHardReset).enterHold p .faultLatched
    else s

/-! ### Hard Reset signalling (05 R140 to R142) -/

/-- HARD_RESET_SIGNALLING_END (05 R140, H1): the device's Hard Reset has been signalled. -/
def execHardResetSignallingEnd (p : PortId) (s : State) : Res :=
  .next (if (s.port p).pd.hrPend then
    (((s.emit (.hardReset p)).hrRecord p false).hrWait p).tripSignalled p
  else s)

/-- HARD_RESET_RECEIVED (05 R141, R142): one of the device's own that has not started is not sent. -/
def execHardResetReceived (p : PortId) (s : State) : Res :=
  .next (
    let q := s.port p
    if ¬ q.pdRuns then s
    else if q.pd.hrPend then ((s.hrRecord p true).hrWait p).tripSignalled p
    else if q.cc.st = .debugAcc then (s.pdClear p .hardReset).eventP 0x0200 p 1 0
    else ((s.hrStart p .hardReset).hrRecord p true).hrWait p)

/-! ### Closing the path (R295 to R299) -/

/-- The converter starts under the soft-start limit. -/
def State.startUp (s : State) (p : PortId) : State := (s.cnvStart p).setILim p ((s.port p).ef.now.inrush.fld 7 0 * 50)

/-- VCONN is applied before the ramp where R106 holds (04 R106). -/
def State.vconnStart (s : State) (p : PortId) : State :=
  if (s.port p).vconnOk ∧ ¬ (s.port p).cc.vconnOn then s.vconnApply p else s

/-- GATE_RISE_COMPLETE (R298; 04 R101 item 4; 07 Tables 7-3, 7-8): GATE − SRC has reached 4 V unlimited; the path is ON and
the converter starts. -/
def execGateRiseComplete (p : PortId) (s : State) : Res :=
  .next (
    if (s.port p).ef.path ≠ .closing then s
    else
      let r := (s.port p).ef.reason
      let s := (s.pathTo p .on).modEf p fun e => { e with reason := .none }
      match r with
      | .attach | .holdoff =>
        let s := (s.vconnStart p).startUp p
        let s := s.modCc p fun c => { c with st := .attachedSrc }
        let s := s.modPd p fun x => { x with stopped := false }
        let s := (s.modPol p fun x => { x with hrCtr := 0 }).toStartup p
        s.eventP 0x0100 p (b2n (s.port p).cc.orient) (s.port p).cc.rpLevel.toNat
      | .hardReset =>
        let s := (s.vconnStart p).startUp p
        let s := s.modSwap p fun w => { w with hrStep := 6 }
        if (s.port p).pol.hrCtr ≤ 2 then (s.toStartup p).modSwap p fun w => { w with hrStep := 0 } else s
      | _ => s.startUp p)

/-- GATE_RISE_TIMEOUT (R298), with GATE − SRC in mV. -/
def execGateRiseTimeout (p : PortId) (mv : Nat) (s : State) : Res :=
  .next (if (s.port p).ef.path = .closing then ((s.openPath p).gateRecord p 1 mv).latchPort p 2 else s)

/-- INRUSH_TIMEOUT (R297). -/
def execInrushTimeout (p : PortId) (s : State) : Res :=
  .next (if (s.port p).ef.path = .closing then s.trip p .inrush none else s)

/-- SOFTSTART_TIMEOUT (R299). -/
def execSoftstartTimeout (p : PortId) (s : State) : Res :=
  .next (if (s.port p).ef.softStart then s.trip p .softstart none else s)

/-- Soft-start ends: the limit of R168 with no contract, and STARTUP routing ends (11 Table 11-6). -/
def State.softEnd (s : State) (p : PortId) : State :=
  let s := (s.modEf p fun e => { e with softStart := false }).setILim p (s.port p).rpLimit
  s.modWm p fun w => { w with mode := if w.mode = .startup then .normal else w.mode }

/-- VBUS_IN_BAND (R299; 06 Table 6-2, R166; 07 Table 7-3; 09 R288): VBUS_SNS, with the reference at its final target. The bands are
judged less the harness term. -/
def execVbusInBand (p : PortId) (mv : Nat) (s : State) : Res :=
  .next (
    let s := s.seeVbus p mv
    let mv : Int := mv - (s.port p).harnessMv (s.port p).ef.shuntMa
    let safe := inSafe5 mv
    let s := if (s.port p).ef.softStart ∧ safe ∧ (s.port p).ef.path = .on then s.softEnd p else s
    let q := s.port p
    match q.pol.seq with
    | .startup =>
      if ¬ safe ∨ q.ef.path ≠ .on then s
      else if q.cc.vconnOn ∧ q.pd.cfgNow.bit 1 then
        let s := (s.modPol p fun x => { x with seq := .cableDisc, cableReq := 1 }).start p .cableDisc
        s.cableSend p
      else s.toSendCaps p true
    | .hardReset =>
      if safe ∧ q.swap.hrStep = 6 then (s.modSwap p fun w => { w with hrStep := 0 }).toNoPd p 2 else s
    | .transition =>
      match q.pol.pendCtr with
      | some c =>
        if s.runs p .transLimit ∧ ¬ s.runs p .srcTrans ∧ ¬ q.cnv.slewing ∧ c.inBand mv then
          (s.stop p .transLimit).say p (q.ctrl 6)
        else s
      | none => s
    | .swap =>
      if safe ∧ q.swap.kind = .toSource ∧ q.swap.step = 4 ∧ q.ef.path = .on then
        (s.modSwap p fun w => { w with step := 5 }).say p (q.ctrl 6)
      else s
    | _ => s)

/-! ### vSafe0V (R295, R302) -/

/-- PORT_RESET ends, with its record: the port state before and after (20 R546). -/
def State.portResetDone (s : State) (p : PortId) (status : Nat) : State :=
  (s.hif.table.filter fun o => o.ph == .running && o.d.op.toNat == 0x04 && o.d.port.toNat == p.val).foldl
    (fun s o =>
      let now := (s.port p).cc.st.code
      (s.eventP 0x0D02 p o.aux.toNat now).finish o.d status (evData [(24, 1, o.aux.toNat), (25, 1, now)])) s

/-- What follows an entry to OFF: S4, H4 (or, after R283 of 09, FAULT_LATCHED), the end of a detach or a disable, the window of 04 R97 item 6, and a request
that waits. -/
def State.atSafe0 (s : State) (p : PortId) : State :=
  let q := s.port p
  let s := if q.swap.hrStep = 3 then
      (if q.ef.latch = 5 then (((s.vconnOff p).seqOff p).endPort p stAbortedHardReset).enterHold p .faultLatched else s.hrH4 p)
    else s
  let s := if q.pol.seq = .swap ∧ q.swap.kind = .toSink ∧ q.swap.step = 3 then s.swapS4 p else s
  let s := s.presentWin p
  let s := ((s.finishAll 0x03 p stOk (evData [(24, 1, q.cc.detachFrom.code)])).detachDone p).portResetDone p stOk
  s.tryPath p

/-- VSAFE0V_PROVEN (R295, R302): VBUS_SNS at or below 0.8 V for 1 ms. After DOZE, PROVING waits for the leg checks (19 R517). -/
def execVsafe0vProven (p : PortId) (s : State) : Res :=
  .next (
    let s := s.modEf p fun e => { e with vbusMv := min e.vbusMv 800, provenWait := false }
    match (s.port p).ef.path with
    | .proving => if (s.port p).wm.legsDone then (s.pathTo p .closing).armedActs p else s
    | .opening => ((s.pathTo p .off).modEf p fun e => { e with tripping := none }).atSafe0 p
    | .off => if (s.port p).swap.hrStep = 3 then s.atSafe0 p
      else (s.finishAll 0x03 p stOk (evData [(24, 1, (s.port p).cc.detachFrom.code)])).portResetDone p stOk
    | _ => s)

/-- PASS_FET_SHORTED (R305). -/
def execPassFetShorted (p : PortId) (s : State) : Res :=
  .next (
    let e := (s.port p).ef
    if ¬ e.dsch ∨ e.gateOn then s
    else
      let s := s.eventP 0x0602 p (b2n e.tripping.isSome) e.vbusMv
      match e.tripping with
      | some t =>
        if t.toState.isSome then
          s.modEf p fun e => { e with latch := 4, tripping := some { t with toState := some .faultLatched } }
        else s.latchPort p 4
      | none => s.latchPort p 4)

end Sys2Proof.Machine
end

