-- ==== Sys2Proof/Machine/Cc.lean ====
section
/-! DEFINITION. The CC front end (04): classification windows and verdicts, attach, accessories, wet and foreign connectors,
detach, and what the front end does in HOLDOFF and FAULT_LATCHED. -/

set_option linter.unusedVariables false

namespace Sys2Proof.Machine

/-! ### Classification (R95, R96, R99) -/

/-- The readings of a window that lie at or below 250 kΩ, in ohms. -/
def reads (l : List (Option Nat)) : List Nat := l.filterMap id

/-- The class of a pin from the eight samples of a window (Table 4-1). -/
def classify (l : List (Option Nat)) : CcClass :=
  let r := reads l
  let sum := r.foldl (· + ·) 0
  let hi := r.foldl max 0
  let lo := r.foldl min hi
  let within (a b : Nat) : Bool := r.all fun x => decide (a ≤ x) && decide (x ≤ b)
  let tight : Bool := decide (20 * r.length * (hi - lo) ≤ sum)
  if r.isEmpty then .opn
  else if r.length < l.length then .wet
  else if within 0 599 ∧ (tight = true ∨ hi - lo ≤ 30) then .foreign
  else if within 800 1200 ∧ tight = true then .ra
  else if within 4590 5610 ∧ tight = true then .rd
  else .wet

/-- Readings in ascending order, those above 250 kΩ last. -/
def insertRead (x : Option Nat) : List (Option Nat) → List (Option Nat)
  | [] => [x]
  | y :: r =>
    match x, y with
    | some a, some b => if a ≤ b then x :: y :: r else y :: insertRead x r
    | some _, none => x :: y :: r
    | none, _ => y :: insertRead x r

/-- The median of a window in units of 10 Ω (R99). -/
def median10 (l : List (Option Nat)) : BitVec 16 :=
  match (l.foldl (fun a x => insertRead x a) []).drop 3 with
  | some a :: some b :: _ => BitVec.ofNat 16 ((a + b) / 20)
  | _ => 0xFFFF

/-- The verdict of two classes (Table 4-2). -/
def verdictOf (a b : CcClass) : Verdict :=
  if a = .foreign ∨ b = .foreign then .foreign
  else if a = .wet ∨ b = .wet then .wet
  else if a = .rd ∧ b = .rd then .debug
  else if a = .rd ∨ b = .rd then .sink
  else if a = .ra ∧ b = .ra then .audio
  else if a = .ra ∨ b = .ra then .cable
  else .nothing

/-! ### What the pins show -/

/-- Either pin shows SRC.Rd, or both SRC.Ra (Table 4-3). -/
def CcState.attachSeen (c : CcState) : Bool :=
  (c.rep1 == .rd && c.rpAt .cc1) || (c.rep2 == .rd && c.rpAt .cc2)
    || (c.rep1 == .ra && c.rep2 == .ra && c.rpAt .cc1 && c.rpAt .cc2)

def CcState.bothOpen (c : CcState) : Bool := c.rep1 == .opn && c.rep2 == .opn
def CcState.eitherOpen (c : CcState) : Bool := c.rep1 == .opn || c.rep2 == .opn

/-- The verdict's pin conditions have held for tCCDebounce (R101 items 3 and 4); for the partner present at entry to HOLDOFF or
FAULT_LATCHED without a break from the start of its window (R112). -/
def CcState.heldNow (c : CcState) : Bool :=
  !(c.st.isHold && c.atEntry && c.broken) &&
  match c.verdict with
  | some .sink =>
    match c.active with
    | some .cc1 => c.rep1 == .rd && c.met1
    | some .cc2 => c.rep2 == .rd && c.met2
    | none => false
  | some .debug => c.rep1 == .rd && c.rep2 == .rd && c.met1 && c.met2
  | some .audio => c.rep1 == .ra && c.rep2 == .ra && c.met1 && c.met2
  | _ => false

/-! ### A new attach (R102) -/

/-- A new attach instance: what the units keep for the last one is gone, and POD_START is taken (08 R224). -/
def State.newAttach (s : State) (p : PortId) : State :=
  let start := s.pod.start
  let s := s.modCc p fun c =>
    { c with inst := c.inst + 1, win := some .attach, smp1 := [], smp2 := [], met1 := false, met2 := false, verdict := none
             vHeld := false, counted := false, active := none, svcPin := none, vconnFault := false }
  let s := (s.modPod p fun _ => { startNow := start }).modPol p fun x =>
    { x with anyMsg := false, cable := none, cableSeen := false, cableReq := 0, cableBusy := false, cableAsk := false
             cableLate := 0, demanding := false, tempReneg := none, ackedCaps := [] }
  let s := s.modSwap p fun w => { w with snkValid := false, snkAsked := false, drp := false, frs := 0 }
  (s.modEf p fun e => { e with bfReclosed := 0, bfWhy := 0 }).modMtr p fun m => { m with pre := 0, preRun := false }

/-- ATTACH_WAIT is entered (R97 item 1, R102). -/
def State.toAttachWait (s : State) (p : PortId) : State := (s.newAttach p).modCc p fun c => { c with st := .attachWait }

/-- CC_ATTACH_DETECTED (Table 4-3, R102, R112). -/
def execCcAttachDetected (p : PortId) (s : State) : Res :=
  .next (
    let c := (s.port p).cc
    if ¬ c.attachSeen then s
    else if c.st = .unattached then s.toAttachWait p
    else if c.st.isHold = true ∧ ¬ c.atEntry ∧ c.verdict.isNone ∧ c.win ≠ some .attach then s.newAttach p
    else s)

/-! ### Entry to WET and FOREIGN (R103) -/

/-- The record of Table 15-4 for WET_DETECTED, FOREIGN_DETECTED and CC_CLEARED. -/
def State.classRecord (s : State) (p : PortId) (cause : Nat) : State :=
  let c := (s.port p).cc
  s.eventP cause p (c.cls1.code + 8 * c.cls2.code) (c.med1.toNat + 65536 * c.med2.toNat)

/-- The port enters WET or FOREIGN, or stays in the one it is in; its record is entered on a change of state. -/
def State.toWet (s : State) (p : PortId) (st : PortSt) : State :=
  let was := (s.port p).cc.st
  let s := s.modCc p fun c =>
    { c with st, rpOn := false, win := none, verdict := none, vHeld := false, active := none, clean := 0, atEntry := false }
  let s := (s.modEf p fun e => { e with reason := .none }).start p .reprobe
  if was = st then s else s.classRecord p (if st = .wet then 0x0102 else 0x0103)

/-! ### Progress of a verdict (R101, R108, R112) -/

/-- DEBUG_ACC is entered (R108, R109). -/
def State.toDebugAcc (s : State) (p : PortId) : State :=
  let cfg := (s.port p).cc.cfg
  let s := (s.modCc p fun c => { c with st := .debugAcc }).eventP 0x0106 p (b2n (cfg.bit 3)) (b2n (cfg.bit 4))
  let s := s.modPd p fun x => { x with stopped := !cfg.bit 3 }
  if (s.port p).dbgWants then s.requestPath p .debug else s

/-- AUDIO_ACC is entered. -/
def State.toAudioAcc (s : State) (p : PortId) : State := (s.modCc p fun c => { c with st := .audioAcc }).eventP 0x0107 p 0 0

/-- What a verdict that has held for tCCDebounce brings about in the port's state. -/
def State.verdictHeld (s : State) (p : PortId) : State :=
  let c := (s.port p).cc
  if ¬ c.heldNow then s
  else if c.st = .attachWait then
    match c.verdict with
    | some .sink => if (s.port p).ef.reason = .none ∧ ¬ c.detaching then s.requestPath p .attach else s
    | some .debug => s.toDebugAcc p
    | some .audio => s.toAudioAcc p
    | _ => s
  else if c.st.isHold = true ∧ ¬ c.vHeld then
    let s := s.modCc p fun c => { c with vHeld := true }
    if c.atEntry ∨ c.counted then s
    else
      let s := s.modCc p fun c => { c with counted := true, reattach := satInc c.reattach }
      s.eventP 0x0108 p ((c.verdict.map Verdict.row).getD 0) (s.holdLeft p)
  else s

/-! ### The end of a window -/

/-- One pin shows SRC.Ra and the other SRC.Open. -/
def CcState.raPin (c : CcState) : Option Pin :=
  if c.rep1 = .ra ∧ c.rep2 = .opn then some .cc1 else if c.rep1 = .opn ∧ c.rep2 = .ra then some .cc2 else none

/-- A window of occasion 2 starts once it is due and no window runs (R97 items 2 and 5, R98). -/
def State.cableWin (s : State) (p : PortId) : State :=
  s.modCc p fun c =>
    if (c.st = .unattached ∨ (c.st.isHold ∧ c.verdict.isNone ∧ ¬ c.atEntry)) ∧ c.raPin.isSome ∧ c.met1 ∧ c.met2
        ∧ c.occ2Done.isNone ∧ c.win.isNone then
      { c with win := some .cable, smp1 := [], smp2 := [] }
    else c

/-- The eighth sample ends the window: classes, medians and the verdict are set, and the verdict is acted on (R96, R98,
R99, R101, R103, R112). -/
def State.windowEnd (s : State) (p : PortId) : State :=
  let c := (s.port p).cc
  let k1 := classify c.smp1
  let k2 := classify c.smp2
  let v := verdictOf k1 k2
  let s := s.modCc p fun c =>
    { c with cls1 := k1, cls2 := k2, med1 := median10 c.smp1, med2 := median10 c.smp2, win := none, smp1 := [], smp2 := [] }
  let named (c : CcState) : CcState :=
    let c := { c with verdict := some v }
    if v = .sink then { c with active := some (if k1 = .rd then .cc1 else .cc2), orient := k1 != .rd } else c
  match c.st with
  | .attachWait =>
    match v with
    | .wet => s.toWet p .wet
    | .foreign => s.toWet p .foreign
    | _ => (s.modCc p named).verdictHeld p
  | .unattached =>
    match v with
    | .wet => s.toWet p .wet
    | .foreign => s.toWet p .foreign
    | .cable => if c.win = some .cable then s.modCc p fun c => { c with occ2Done := c.raPin } else s.cableWin p
    | _ => s.cableWin p
  | .wet | .foreign =>
    match v with
    | .wet => s.toWet p .wet
    | .foreign => s.toWet p .foreign
    | _ =>
      if c.clean = 0 then s.modCc p fun c => { c with clean := 1 }
      else (s.classRecord p 0x0104).toUnattached p
  | .holdoff | .faultLatched =>
    if c.win = some .attach ∨ c.win = some .present then (s.modCc p named).verdictHeld p
    else if v = .cable ∧ c.win = some .cable then s.modCc p fun c => { c with occ2Done := c.raPin }
    else s.cableWin p
  | _ => s

/-- PROBE_SAMPLE (R93 to R99): CC1, then CC2, in ohms, none above 250 kΩ. With VBUS above vSafe0V or GATE on no sample is
taken and the window in progress is discarded. -/
def execProbeSample (p : PortId) (r1 r2 : Option Nat) (s : State) : Res :=
  .next (
    let q := s.port p
    if q.cc.win.isNone then s
    else if 800 < q.ef.vbusMv ∨ q.ef.gateOn then s.modCc p fun c => { c with smp1 := [], smp2 := [] }
    else
      let clip (r : Option Nat) : Option Nat := r.bind fun x => if x ≤ 250000 then some x else none
      let s := s.modCc p fun c => { c with smp1 := c.smp1 ++ [clip r1], smp2 := c.smp2 ++ [clip r2] }
      if 8 ≤ (s.port p).cc.smp1.length then s.windowEnd p else s)

/-- REPROBE_EXPIRY (R97 items 3 to 5, R103): the interval starts again, and a window starts where none runs. In HOLDOFF and
FAULT_LATCHED these windows run only with no partner from entry and no verdict (DESIGN CHOICE, notes/assumptions/103). -/
def execReprobeExpiry (p : PortId) (s : State) : Res :=
  .next (s.onExpiry p .reprobe fun s =>
    let c := (s.port p).cc
    let begin (w : WinOccasion) : State :=
      (if c.win.isNone then s.modCc p fun c => { c with win := some w, smp1 := [], smp2 := [] } else s).start p .reprobe
    match c.st with
    | .wet | .foreign => begin .reprobe
    | .unattached => if c.cfg.bit 2 then begin .idle else s.start p .reprobe
    | .holdoff | .faultLatched =>
      if c.cfg.bit 2 ∧ ¬ c.atEntry ∧ c.verdict.isNone then begin .idle else s.start p .reprobe
    | _ => s)

/-- A pin's comparators report `rep`. A report that a change of level brought about leaves the pin's timers, and the report
they stand on, as they were (R92); any other change starts its debounce afresh. A powered cable's SRC.Ra pin that shows
SRC.Open ends the rest of occasion 2 (R98). -/
def CcState.report (c : CcState) (pin : Pin) (rep : CcRep) (byLevel : Bool) : CcState :=
  let c := { c with occ2Done := if c.occ2Done = some pin ∧ rep = CcRep.opn ∧ ¬ byLevel then none else c.occ2Done }
  let same : Bool := match pin with | .cc1 => c.raw1 == rep | .cc2 => c.raw2 == rep
  let c := match pin with | .cc1 => { c with raw1 := rep } | .cc2 => { c with raw2 := rep }
  if byLevel ∨ same then c
  else
    let c := { c with broken := c.broken || c.atEntry }
    match pin with
    | .cc1 => { c with rep1 := rep, met1 := false }
    | .cc2 => { c with rep2 := rep, met2 := false }

/-- CC_REPORT_CHANGE (R91, R92, R98): a pin's report changes. -/
def execCcReportChange (p : PortId) (pin : Pin) (r : CcReport) (s : State) : Res :=
  .next (s.modCc p fun c => c.report pin r.rep r.byLevel)

/-! ### Detach (R110, R111, Table 4-6) -/

/-- A detach of a port that is not in HOLDOFF or FAULT_LATCHED. -/
def State.detach (s : State) (p : PortId) : State :=
  let q := s.port p
  let st := q.cc.st
  let s := if q.swap.kind = .fr then s.eventP 0x0302 p q.swap.frStep 2 else s
  let s := if st = .attachWait ∧ q.ef.path = .proving then (s.modEf p fun e => { e with reason := .none }).pathTo p .off
    else (s.openPath p)
  let s := if st = .attachedSnk ∧ (s.port p).ef.path = .off then s.pathTo p .opening else s
  let s := ((s.vconnOff p).detachRecord p st).closeSession p .detach
  let s := (((s.endPort p stAbortedDetach).seqOff p).pdStop p).stopAll p [.bfReclose, .trimLimit]
  let s := (s.modCnv p fun c => { c with trim := none }).modEf p fun e => { e with reason := .none, bfWhy := 0 }
  let s := s.modSwap p fun w => { w with dbgHold := false }
  let s := s.modPol p fun x => { x with demanding := false }
  (s.modCc p fun c => { c with detaching := true, detachFrom := st, rdOn := false, win := none }).detachDone p

/-- A detach in HOLDOFF or FAULT_LATCHED (R112): recorded in that state. -/
def State.holdDetach (s : State) (p : PortId) (note : Bool) : State :=
  let s := if note then s.detachRecord p (s.port p).cc.st else s
  let s := s.modPol p fun x => { x with demanding := false }
  s.modCc p fun c =>
    { c with verdict := none, vHeld := false, counted := false, active := none, svcPin := none, atEntry := false
             win := if c.win = some .cable ∨ c.win = some .idle then c.win else none, smp1 := [], smp2 := [] }

/-- TPDDEBOUNCE_EXPIRY (R101 item 2, R110, R111): an open pin, or with `onVbus` VBUS below vSinkDisconnect, has held for
tPDDebounce. -/
def execTpdDebounceExpiry (p : PortId) (onVbus : Bool) (s : State) : Res :=
  .next (
    let q := s.port p
    let c := q.cc
    if c.detaching then s
    else if onVbus then
      (if c.st = .attachedSnk ∧ q.pol.seq ≠ .swap then s.detach p else s)
    else if (q.ef.tripping.bind (·.toState)).isSome ∨ (q.ef.latch = 5 ∧ ¬ c.st.isHold) then
      (if c.activeRep = .opn ∨ (c.active.isNone ∧ c.eitherOpen) then s.modCc p fun c => { c with detaching := true } else s)
    else match c.st with
    | .attachWait =>
      if c.active.isSome then (if c.activeRep = .opn then s.detach p else s)
      else if c.bothOpen then s.toUnattached p else s
    | .attachedSrc => if c.activeRep = .opn ∧ ¬ c.rdOn then s.detach p else s
    | .debugAcc => if c.eitherOpen then s.detach p else s
    | .holdoff | .faultLatched =>
      if c.active.isSome ∧ c.svcPin.isNone then (if c.activeRep = .opn then s.holdDetach p true else s)
      else if (c.verdict = some .debug ∧ c.vHeld) ∨ c.svcPin.isSome ∨ (c.atEntry ∧ c.verdict ≠ some .audio) then
        (if c.eitherOpen then s.holdDetach p true else s)
      else if c.bothOpen ∧ ¬ (c.verdict = some .audio ∧ c.vHeld) then s.holdDetach p false else s
    | _ => s)

/-- TCCDEBOUNCE_EXPIRY (R97 item 2, R101, R110, R112): the pins have kept their reports for tCCDebounce. -/
def execTccDebounceExpiry (p : PortId) (s : State) : Res :=
  .next (
    let s := s.modCc p fun c => { c with met1 := true, met2 := true }
    let c := (s.port p).cc
    match c.st with
    | .unattached => s.cableWin p
    | .attachWait => s.verdictHeld p
    | .audioAcc => if c.eitherOpen ∧ ¬ c.detaching then s.detach p else s
    | .holdoff | .faultLatched =>
      if c.verdict = some .audio ∧ c.vHeld ∧ c.eitherOpen then s.holdDetach p true
      else if c.verdict.isNone ∧ ¬ c.atEntry then s.cableWin p
      else s.verdictHeld p
    | _ => s)

/-! ### End of a hold-off (R113, 10 R312, R316) -/

/-- R113: what the port enters when no hold-off is left. The profile, STALE and the value of POD_START stay those of the instance
(DESIGN CHOICE, notes/assumptions/105). -/
def State.holdOver (s : State) (p : PortId) : State :=
  let c := (s.port p).cc
  match verdictOf c.cls1 c.cls2, c.vHeld, c.verdict with
  | .wet, _, _ => s.toWet p .wet
  | .foreign, _, _ => s.toWet p .foreign
  | _, true, some .sink => (s.modCc p fun c => { c with st := .attachWait, atEntry := false }).requestPath p .holdoff
  | _, true, some .debug => (s.modCc p fun c => { c with atEntry := false }).toDebugAcc p
  | _, true, some .audio => (s.modCc p fun c => { c with atEntry := false }).toAudioAcc p
  | _, _, _ =>
    let s := s.toUnattached p
    if (s.port p).cc.attachSeen then s.toAttachWait p else s

/-- HOLDOFF_EXPIRY (R113; 10 R312, R316, R345): the counted hold-off has passed, or the conditions of R316 have held. -/
def execHoldoffExpiry (p : PortId) (s : State) : Res :=
  .next (
    let e := (s.port p).ef
    let next (s : State) : State :=
      let e := (s.port p).ef
      if e.holdOn ∨ e.holdOt then s
      else if (s.port p).cc.st = .holdoff then s.holdOver p
      else s.tryPath p
    if s.runs p .holdoff ∧ e.holdOn then next ((s.stop p .holdoff).modEf p fun e => { e with holdOn := false })
    else if e.holdOt ∧ e.otIn.isSome then next (s.modEf p fun e => { e with holdOt := false, otIn := none })
    else s)

/-! ### VCONN faults (R107) -/

/-- VCONN_FAULT (R107, 06 R175, R184): the switch opens for the rest of the attach instance, with the rule that acted and
the peak current. -/
def execVconnFault (p : PortId) (why ma : Nat) (s : State) : Res :=
  .next (
    let q := s.port p
    if ¬ q.cc.vconnOn then s
    else
      let s := ((s.vconnOff p).modCc p fun c => { c with vconnFault := true }).eventP 0x0105 p why ma
      let s := (s.latchReneg p).finishAll 0x0B p stHwFault 0
      if q.swap.kind = .vconn ∧ q.swap.accepted ∧ ¬ q.swap.vcGive then s.sinkReset p else s.idleWork p)

end Sys2Proof.Machine
end

