-- ==== Sys2Proof/Machine/Crossing.lean ====
section
/-! DEFINITION. What the monitors and the converter find: crossings and returns (11 R334 to R345), leg checks and the monitor
test (11 R347 to R351), metering samples with the I²t model (10 R307, 12 R357), control updates, and failed phases and senses
(09 R278 to R284). -/

set_option linter.unusedVariables false

namespace Sys2Proof.Machine

/-! ### Crossings and returns -/

/-- The monitor's comparators are powered: in DOZE only WM0 and the general-class monitors with WAKE are (19 Table 19-1). -/
def State.wmPowered (s : State) (p : PortId) (m : Fin 32) : Bool :=
  match s.pwr.st with
  | .doze => m.val == 0 || (decide (8 ≤ m.val) && (s.wm p m).route.bit 2)
  | .hibernate => false
  | _ => true

/-- The first WM5 crossing on any port sets ACTIVE and enters HOLDUP_START with the armed set (07 R211). -/
def State.holdupActive (s : State) : State :=
  if s.hu.active then s
  else
    let t := s.now
    let s := { s with hu := { s.hu with active := true, since := t } }
    s.eventD 0x0300 [(24, 2, (mapOf fun p => (s.port p).swap.armed).toNat)]

/-- A WM5 crossing ends the port's return criterion, and is the first of a hold-up or not (07 R211, R215). -/
def State.wm5Crossed (s : State) (p : PortId) : State :=
  ((s.modSwap p fun w => { w with returnMet := false }).modWm p fun w => { w with hold5 := false }).holdupActive

/-- What an armed monitor's crossing does (11 R339, R340): WM5 takes HOLDUP with the donor selection, all else FULL. F1 ends
the commands of the port (14 Table 14-4). -/
def State.firefly (s : State) (p : PortId) (m : Fin 32) : State :=
  let q := s.port p
  if m.val = 5 ∧ q.wm.holdupSel then
    (if q.swap.kind = .fr then s else (s.holdupStart p).endPort p stAbortedHoldup)
  else s.fullAction p m

/-- WM23 shows whether VCONNIN is within 4.75 to 5.5 V, codes 608 to 704 of its 7.8125 mV (04 R106; 11 Table 11-5). VCONNIN is
judged on these codes (DESIGN CHOICE, notes/assumptions/26). -/
def State.vconnIn (s : State) (p : PortId) (m : Fin 32) (code : Nat) : State :=
  if m.val = 23 then s.modCc p fun c => { c with vin := decide (608 ≤ code ∧ code ≤ 704) } else s

/-- MONITOR_CROSSING (11 R334, R339 to R346; 07 R210 to R212; 19 R525): the input leaves its window by an enabled edge, with
its code. -/
def execMonitorCrossing (p : PortId) (m : Fin 32) (e : Edge) (code : BitVec 10) (s : State) : Res :=
  .next (
    let q := s.port p
    let w := s.wm p m
    if ¬ s.wmPowered p m ∨ ¬ w.edgeOn e ∨ w.isOut ∨ ¬ w.beyond e code.toNat ∨ (m.val = 8 ∧ q.wm8Held ∧ e = .lower) then s
    else
      let s := s.vconnIn p m code.toNat
      let d := q.destNow m
      let drives := q.armed m
      let quiet := w.silenced e
      let note := d.testBit 0 && !quiet && !drives
      let s := s.modMon p m fun w => { w.cross e code with recorded := note }
      let s := if m.val = 5 then s.wm5Crossed p else s
      let s := if m.val = 7 then s.modEf p fun e => { e with otIn := none } else s
      let s := if drives then s.firefly p m else if note then s.wmRecord p m e false code.toNat (w.thrOf e) else s
      let s := if d.testBit 1 ∧ ¬ quiet then s.capture p m e else s
      if 8 ≤ m.val ∧ w.route.bit 2 ∧ ¬ q.disarmed m then s.wakeSet 2 else s)

/-- MONITOR_RETURN (R325, R342, R344; 04 R101; 10 R316; 07 R215): the input, with its code, is within its window again; a held action
ends with the path OFF, and a request that waited may go on. -/
def execMonitorReturn (p : PortId) (m : Fin 32) (r : MonReturn) (s : State) : Res :=
  .next (
    let e := r.edge
    let code := r.code
    let w := s.wm p m
    if ¬ s.wmPowered p m ∨ ¬ w.outOf e ∨ ¬ w.back e code.toNat then s
    else
      let s := s.modMon p m fun w =>
        { w with below := w.below && e != .lower, above := w.above && e != .upper, recorded := false }
      let s := s.vconnIn p m code.toNat
      let s := if w.cfg.bit 4 ∧ w.recorded then s.wmRecord p m e true code.toNat w.thrX else s
      let s := if m.val = 5 then s.modWm p fun x => { x with hold5 := true } else s
      let t := s.now
      let s := if m.val = 7 then s.modEf p fun e => { e with otIn := if e.holdOt then some t else e.otIn } else s
      let q := s.port p
      let s := if q.ef.path = .off ∧ ¬ q.armedOut then s.modWm p fun x => { x with ffActive := false } else s
      s.tryPath p)

/-! ### Leg checks (R347 to R350) -/

/-- The leg that is checked: the standby one, or the only one left. -/
def Wm.checkedLeg (w : Wm) : Option Nat :=
  if w.leg0 ∧ w.leg1 then none else if w.leg0 then some 1 else if w.leg1 then some 0 else some (if w.actLeg1 then 0 else 1)

/-- Both legs of a monitor have failed (R348): MONITOR_FAILED, and its FULL action is forced without a trip record. -/
def State.monitorFailed (s : State) (p : PortId) (m : Fin 32) (check : Nat) : State :=
  let s := s.eventO 0x0701 p [(24, 1, m.val), (26, 1, check)]
  let s := s.modMon p m fun w => { w with forced := true }
  match (s.port p).ef.path with
  | .closing | .on => (((s.openPath p).pathLost p .monitor false).vconnOff p).endPort p stAbortedHardReset
  | .backfeed => (s.openBf p).closeSession p .monitor
  | .proving => (s.pathTo p .opening).closeSession p .monitor
  | _ => s.closeSession p .monitor

/-- A leg fails (R348). -/
def State.legFailed (s : State) (p : PortId) (m : Fin 32) (leg check : Nat) : State :=
  let s := s.modMon p m fun w =>
    { w with leg0 := w.leg0 || leg == 0, leg1 := w.leg1 || leg == 1
             actLeg1 := if w.leg0 ∨ w.leg1 then w.actLeg1 else leg == 0 }
  let w := s.wm p m
  if w.leg0 ∧ w.leg1 ∧ ¬ w.forced then s.monitorFailed p m check else s

/-- LEG_CHECK (R332, R347, R348, R350): the standby leg of a protection-class monitor passes its checks, and the legs exchange
roles, or one check fails with its error in steps. A threshold change that needs the leg interrupts the check. -/
def execLegCheck (p : PortId) (m : Fin 8) (fail : Option (LegChk × Int)) (s : State) : Res :=
  .next (
    let m : Fin 32 := ⟨m.val, Nat.lt_of_lt_of_le m.isLt (by decide)⟩
    let w := s.wm p m
    match w.checkedLeg with
    | none => s
    | some leg =>
      if w.loading.isSome ∨ ¬ s.wmPowered p m then s
      else match fail with
        | some (k, err) => (s.checkRecord p m leg k err).legFailed p m leg k.code
        | none =>
          let s := s.modMon p m fun w =>
            { w with passed := w.passed ||| 2 ^ leg, zeroed := w.zeroed ||| 2 ^ leg, actLeg1 := if w.leg0 ∨ w.leg1 then w.actLeg1 else leg == 1 }
          if (s.port p).wm.legsDone ∧ ¬ (s.port p).wm.initDone then
            (s.modWm p fun x => { x with initDone := true }).tryPath p
          else s)

/-! ### The monitor test (R351) -/

/-- Legs that a MONITOR_TEST names: a general-class monitor has one pair, tested as leg 0. -/
def testLegs (m leg : Nat) : List Nat := if 8 ≤ m then [0] else if leg = 2 then [0, 1] else [leg]

/-- A leg that fails the test is marked failed under R348; which check its record names is left open (a free value). -/
def State.testFailed (s : State) (p : PortId) (m : Fin 32) (leg : Nat) : State :=
  let (v, s) := s.draw
  let check := v.toNat % 256
  let s := s.eventO 0x0700 p [(24, 1, m.val), (25, 1, if m.val < 8 then leg else 2), (26, 1, check), (28, 4, v.toNat / 256)]
  if m.val < 8 then s.legFailed p m leg check else s.modMon p m fun w => { w with chkFail := true }

/-- R351, with the time in ps that each leg took, none where it did not act. The test is one command and counts no crossing (DESIGN
CHOICE, notes/assumptions/98). -/
def monitorTestSpec (leg0 leg1 : Option Nat) : CmdSpec where
  params _ d :=
    if d.onlyAt [(8, 3)] ∧ d.le 8 1 ≤ 31 ∧ d.le 9 1 ≤ 1 ∧ d.le 10 1 ≤ 2 ∧ (d.le 8 1 < 8 ∨ d.le 10 1 = 2) then none
    else some stBadParam
  legal s d :=
    if (s.port d.pid).cc.st ≠ .disabled then some 1
    else if s.tb.fallback then some 12
    else if 8 ≤ d.le 8 1 ∧ ¬ ((s.wm d.pid (Fin.ofNat 32 (d.le 8 1))).route.bit 15) then some 4
    else none
  go s d :=
    let p := d.pid
    let m := Fin.ofNat 32 (d.le 8 1)
    let time (l : Nat) : Option Nat := if l = 0 then leg0 else leg1
    let legs := testLegs m.val (d.le 10 1)
    let good (l : Nat) : Bool := match time l with | some t => decide (t ≤ 35000) | none => false
    let s := (legs.filter fun l => !good l).foldl (fun s l => s.testFailed p m l) s
    let longest := legs.foldl (fun a l => max a ((time l).getD 0)) 0
    s.finish d (if legs.all good then stOk else stHwFault)
      (evData [(24, 2, satN 16 longest), (26, 1, m.val), (27, 1, legs.foldl (fun a l => a + if good l then 2 ^ l else 0) 0)])

def execMonitorTest (d : Desc) (leg0 leg1 : Option Nat) (s : State) : Res :=
  .next ((monitorTestSpec leg0 leg1).start 0x28 d [] s)

/-! ### Metering samples and I²t (12 R357 to R360; 10 R307, R308) -/

/-- The I²t model after one more sample of a current in 10⁻¹¹ A: theta in A² and the samples it has run. -/
def EfState.i2tStep (e : EfState) (i : Int) : EfState :=
  let amps : Rat := (i : Rat) / 100000000000
  let tau : Rat := (max 1 (e.now.i2t.fld 13 8) : Nat)
  let trip : Rat := (e.now.i2t.fld 7 0 : Nat) / 20
  let t : Rat := e.theta + (amps * amps - e.theta) / (8000 * tau)
  let floor : Rat := (9 / 10 * trip) * (9 / 10 * trip)
  { e with theta := if e.history < 480000 then max t floor else t, history := e.history + 1 }

/-- The model stands at or above I_TRIP². -/
def EfState.i2tOver (e : EfState) : Bool :=
  let trip : Rat := (e.now.i2t.fld 7 0 : Nat) / 20
  decide (trip * trip ≤ e.theta)

/-- METERING_SAMPLE (12 R357 to R360; 10 R307): the means of 125 µs in µV and µA. The metering ADCs are off in IDLE and DOZE
(19 Table 19-1). -/
def execMeteringSample (p : PortId) (uv ua : Int) (s : State) : Res :=
  .next (
    if s.pwr.st = .idle ∨ s.pwr.st = .doze ∨ s.pwr.st = .hibernate then s
    else
      let q := s.port p
      let i := q.mtr.amps ua
      let v := q.meterV (q.mtr.volts uv) i
      let s := s.modMtr p fun m => m.sample v i
      let s := s.modEf p fun e =>
        { e.i2tStep i with shuntMa := ua / 1000, peak := BitVec.ofNat 16 (max e.peak.toNat (satN 16 (ua.natAbs / 10000))) }
      let s := s.seeVbus p (uv / 1000).toNat
      let e := (s.port p).ef
      if ¬ e.i2tOver then s
      else match e.path with
        | .closing | .on => s.trip p .i2t none
        | .backfeed => s.bfOpened p .i2t
        | _ => s)

/-! ### Failed phases and senses (09 R278 to R284) -/

/-- A byte of a record in units of 50 mA. -/
def in50 (ma : Int) : Nat := satN 8 (ma.natAbs / 50)

/-- The record of a declaration (15 Table 15-4): the phase, or the path with 3. -/
def State.senseRecord (s : State) (p : PortId) (sense : Bool) (ph : Option Ph) (r : FailRule) (latch : Bool) : State :=
  let c := (s.port p).cnv
  let others := match ph with | some x => c.activePh.filter (· ≠ x) | none => c.activePh
  let mean : Int := (others.map fun x => (c.ph x).ma).foldl (· + ·) 0 / (max 1 others.length : Nat)
  let left := match ph with | some x => (c.workingPh.filter (· ≠ x)).length | none => c.workingPh.length
  let mv := match ph with | some x => ((c.ph x).imonUv / 1000).toNat | none => 0
  s.eventO (if sense then 0x0501 else 0x0500) p [(24, 1, (ph.map Ph.ix).getD 3), (25, 1, r.code), (26, 1, b2n latch), (27, 1, left),
    (28, 2, mv), (30, 1, in50 mean), (31, 1, in50 (s.port p).ef.shuntMa)]

/-- The orderly power-down of R283: latch cause 5, Hard Reset with a PD partner and Table 7-8 to the end of H3, the session
closed, and FAULT_LATCHED. -/
def State.convFault (s : State) (p : PortId) : State :=
  let q := s.port p
  let s := (s.modEf p fun e => { e with latch := 5 }).closeSession p .converter
  if q.hasPartner ∧ q.swap.hrStep < 4 then (if q.pol.seq = .hardReset then s else s.hrRequest p)
  else (((((s.openPath p).seqOff p).vconnOff p).endPort p stAbortedHardReset)).enterHold p .faultLatched

/-- A phase is declared failed, or its sense (R282, R283). -/
def State.declare (s : State) (p : PortId) (x : Ph) (sense : Bool) (r : FailRule) : State :=
  let c := (s.port p).cnv
  let latch := phases.any fun y => (c.ph y).failed
  let s := s.senseRecord p sense (some x) r latch
  let s := s.modCnv p fun c =>
    let c := (c.modAll fun y => { y with held := false }).modPh x fun y =>
      { y with failed := true, sense, active := false, next := false, shed := false, pwm := .off, railRun := 0, devRun := 0, underRun := 0 }
    { c with shuntTotal := true, hist := 0, falls := [], isoPending := false, isoWait := 0, isoHold := none, isoOk := [], incRun := 0
             cnt := c.cnt.cntInc 3 }
  let s := (s.trackPeaks p).latchReneg p
  if latch then s.convFault p else s

/-- R281 names the path: the port is stopped. -/
def State.pathNamed (s : State) (p : PortId) : State :=
  ((s.senseRecord p true none .inconsistent true).modCnv p fun c => 
    { c.modAll (fun y => { y with held := false }) with pathFail := true, isoPending := false, isoWait := 0, isoHold := none, isoOk := []
                                                        incRun := 0, cnt := c.cnt.cntInc 3 }).convFault p

/-- PHASE_FAILURE_DECLARED (R279, R280, R282): a phase flagged for 16 counted periods under one of the rules. -/
def execPhaseFailureDeclared (p : PortId) (ph : Ph) (rule : FailRule) (s : State) : Res :=
  .next (
    let q := s.port p
    let y := q.cnv.ph ph
    if y.failed ∨ ¬ y.active then s
    else match rule with
      | .rail => if 16 ≤ y.railRun then s.declare p ph true .rail else s
      | .deviation => if 16 ≤ y.devRun then s.declare p ph (!q.cnv.consistent q.ef.shuntMa) .deviation else s
      | .underShare => if 16 ≤ y.underRun then s.declare p ph (!q.cnv.consistent q.ef.shuntMa) .underShare else s
      | .inconsistent => s)

/-- The isolation check takes hold of the next phase: it leaves the active set at the start of the next port period, for six
(R255, R281). -/
def State.isoTake (s : State) (p : PortId) (x : Ph) : State :=
  s.modCnv p fun c => { c.modPh x (fun y => { y with held := true }) with isoHold := some x, isoWait := 7 }

/-- ISOLATION_CHECK (R281): 16 periods after the clamp the check holds A, then B, then C Off, six periods each, and judges the sum of
the two phases left against the shunt over the last two; when removing exactly one makes it consistent that one is declared, else
the path is named. The grain is one command for each phase held (DESIGN CHOICE, notes/assumptions/47). -/
def execIsolationCheck (p : PortId) (m : IsoMeas) (s : State) : Res :=
  .next (
    let c := (s.port p).cnv
    if ¬ c.isoPending ∨ c.swarmOn ∨ 0 < c.isoWait then s
    else match c.isoHold with
      | none => if c.activePh.length = 3 then (s.modCnv p fun c => { c with isoOk := [] }).isoTake p .a else s
      | some x =>
        let ok := decide ((m.sum - m.shunt).natAbs * 10 ≤ m.shunt.natAbs + 1500)
        let found := if ok then c.isoOk ++ [x] else c.isoOk
        let s := s.modCnv p fun c => { c.modPh x (fun y => { y with held := false }) with isoOk := found }
        match x with
        | .a => s.isoTake p .b
        | .b => s.isoTake p .c
        | .c => (match found with
          | [y] => s.declare p y true .inconsistent
          | _ => s.pathNamed p))

/-- Sixteen counted periods with an inconsistent sum and no phase flagged (R281): with three active phases the clamp and the
shunt role apply and the isolation check is due; with two the port stops. -/
def State.inconsistent (s : State) (p : PortId) : State :=
  let c := (s.port p).cnv
  let flagged := phases.any fun x => decide (16 ≤ (c.ph x).railRun) || decide (16 ≤ (c.ph x).devRun) || decide (16 ≤ (c.ph x).underRun)
  if c.incRun < 16 ∨ flagged ∨ c.isoPending ∨ c.pathFail then s
  else if c.activePh.length = 3 then
    (((s.modCnv p fun c => { c with isoPending := true, shuntTotal := true, hist := 0, falls := [], isoWait := 16, isoHold := none, isoOk := [] }).trackPeaks p).latchReneg p)
  else if c.activePh.length = 2 then s.pathNamed p
  else s

/-- CONTROL_UPDATE (R255 to R262, R265, R268, R270, R276, R279; 11 R330): one update of the port's converter, the thresholds that
follow it, and a trim that has arrived. The converter ADCs are off in IDLE and DOZE. -/
def execControlUpdate (p : PortId) (m : CnvMeas) (s : State) : Res :=
  .next (
    if s.pwr.st = .idle ∨ s.pwr.st = .doze ∨ s.pwr.st = .hibernate then s
    else
      let c := (s.port p).update m
      let s := (s.seeVbus p m.vsns.toNat).modEf p fun e =>
        { e with shuntMa := m.shunt, peak := BitVec.ofNat 16 (max e.peak.toNat (satN 16 (m.shunt.natAbs / 10))) }
      let old := (s.port p).cnv.eff.ilim
      let s := s.modCnv p fun _ => c
      let s := ((if c.eff.ilim = old then s else s.trackPeaks p).trackUpdate p).inconsistent p
      s.trimDone p m.vsns m.shunt)

/-- TXSLEW_LIMIT_EXPIRY (R269): the trim's transition limit expires. What PRT_POL_CNT counts is the model's (DESIGN CHOICE,
notes/assumptions/104). -/
def execTxslewLimitExpiry (p : PortId) (s : State) : Res :=
  .next (s.onExpiry p .trimLimit fun s =>
    if (s.port p).cnv.trim.isNone then s
    else ((s.eventP 0x0204 p 2 (s.port p).timeoutValue).endTrim p stTimeout).hrRequest p)

/-- R284, Table 9-9: PHASE_CLEAR. -/
def phaseClearSpec : CmdSpec where
  params _ d := if d.onlyAt [(8, 1)] ∧ 1 ≤ d.le 8 1 ∧ d.le 8 1 ≤ 7 then none else some stBadParam
  legal s d :=
    match (s.port d.pid).pol.seq with
    | .startup | .transition | .eprEntry | .hardReset | .swap => some 2
    | _ => none
  go s d :=
    let p := d.pid
    let c := (s.port p).cnv
    let named := phases.filter fun x => (d.le 8 1).testBit x.ix && (c.ph x).failed
    let mask := named.foldl (fun a x => a + 2 ^ x.ix) 0
    let s := s.modCnv p fun c =>
      let c := named.foldl (fun c x => c.modPh x fun y => { y with failed := false, sense := false, next := c.run }) c
      let c := if named.isEmpty then c else { c with hist := 0, falls := [] }
      { c with shuntTotal := c.isoPending || phases.any fun x => (c.ph x).failed }
    let s := if named.isEmpty then s else ((s.trackPeaks p).eventP 0x0502 p mask 0).latchReneg p
    s.finish d stOk (evData [(24, 1, mask)])

def execPhaseClear (d : Desc) (s : State) : Res := .next (phaseClearSpec.start 0x0D d [] s)

end Sys2Proof.Machine
end

