-- ==== Sys2Proof/Machine/Timebase.lean ====
section
/-! DEFINITION. The Timebase unit (02 R36, R40, R43 to R48): its tick, its loss and return, calibration and the era's flash
write; and the commands that take a port into DISABLED, out of it, and out of a fault (14 Table 14-6, 10 Table 10-8). -/

set_option linter.unusedVariables false

namespace Sys2Proof.Machine

/-! ### A port stops (02 Table 2-3, 14 Table 14-6) -/

/-- The port enters DISABLED: converter stopped, GATE down, VCONN and Rp removed, its session closed. -/
def State.disable (s : State) (p : PortId) (r : EndReason) : State :=
  let st := (s.port p).cc.st
  let s := ((s.openPath p).vconnOff p).closeSession p r
  let s := ((s.seqOff p).pdStop p).stopAll p [.bfReclose, .trimLimit, .reprobe]
  let s := (s.modCnv p fun c => { c with trim := none }).modEf p fun e => { e with reason := .none, bfWhy := 0 }
  let s := s.modSwap p fun w => { w with dbgHold := false }
  (s.modCc p fun c =>
    { c with st := .disabled, rpOn := false, rdOn := false, win := none, smp1 := [], smp2 := [], verdict := none, vHeld := false
             active := none, atEntry := false, detaching := false, detachFrom := st, occ2Done := none, broken := false }).holdupEnd

/-- A port that is on its way to HOLDOFF or FAULT_LATCHED: a trip leads there, or the converter's fault does (10 Table 10-4,
09 R283). -/
def Port.latching (q : Port) : Bool := (q.ef.tripping.bind (·.toState)).isSome || (q.ef.latch == 5 && !q.cc.st.isHold)

/-- 14 Table 14-6: PORT_DISABLE completes once the path is OFF with VBUS at or below vSafe0V (02 Table 2-7). -/
def portDisableSpec : CmdSpec where
  params _ d := if d.onlyAt [] then none else some stBadParam
  legal s d :=
    let q := s.port d.pid
    if q.cc.st = .disabled ∨ q.cc.st.isHold = true ∨ q.latching = true then some 1 else none
  go s d :=
    let p := d.pid
    let before := (s.port p).cc.st.code
    let s := (s.disable p .stopped).endPort p stAbortedDisable [0x03]
    if (s.port p).ef.path = .off ∧ (s.port p).ef.vbusMv ≤ 800 then s.finishAll 0x03 p stOk (evData [(24, 1, before)]) else s

def execPortDisable (d : Desc) (s : State) : Res := .next (portDisableSpec.start 0x03 d [] s)

/-- 14 Table 14-6, 06 R177: PORT_ENABLE. -/
def portEnableSpec : CmdSpec where
  params _ d := if d.onlyAt [] then none else some stBadParam
  legal s d := if (s.port d.pid).cc.st ≠ .disabled then some 1 else if s.tb.fallback then some 12 else none
  go s d :=
    let p := d.pid
    if ¬ s.rpFits p 0 then s.finish d stNoResource 0
    else
      let s := s.toUnattached p
      s.finish d stOk (evData [(24, 1, (s.port p).cc.rpLevel.toNat)])

def execPortEnable (d : Desc) (s : State) : Res := .next (portEnableSpec.start 0x02 d [] s)

/-- 10 Table 10-8, R315: CLEAR_FAULT. -/
def clearFaultSpec : CmdSpec where
  params _ d := if d.onlyAt [] then none else some stBadParam
  legal s d := if (s.port d.pid).cc.st.isHold then none else some 1
  go s d :=
    let p := d.pid
    let e := (s.port p).ef
    let s := ((s.clearRetry p).modEf p fun e => { e with latch := 0, holdOn := false, holdOt := false, otIn := none }).stop p .holdoff
    let s := s.toUnattached p
    let s := if (s.port p).cc.attachSeen then s.toAttachWait p else s
    s.finish d stOk (evData [(24, 1, e.latch.toNat), (25, 1, e.retryCnt.toNat)])

def execClearFault (d : Desc) (s : State) : Res := .next (clearFaultSpec.start 0x05 d [] s)

/-- 14 Table 14-6: NOP completes at its start. -/
def nopSpec : CmdSpec where
  params _ d := if d.onlyAt [] then none else some stBadParam
  go s d := s.finish d stOk 0

def execNop (d : Desc) (s : State) : Res := .next (nopSpec.start 0x01 d [] s)

/-! ### Timebase -/

/-- One microsecond passes: the Timebase count advances, on the ring oscillator during loss (R36, R43), and the calendar by
1,024 of the 15,625 parts of its unit (19 R530). -/
def State.tick (s : State) : State :=
  let b := s.bkp
  let f := b.frac + 1024
  let b := if b.oscStopped then b else if 15625 ≤ f then { b with frac := f - 15625, cal := b.cal + 1 } else { b with frac := f }
  { s with bkp := b, tb := { s.tb with count := if s.tb.running ∨ s.tb.fallback then s.tb.count + 1 else s.tb.count } }

/-- A port that Timebase loss stops: all but DISABLED, ATTACHED_SNK, and the ports that only R114 and R115 release. -/
def Port.lossStops (q : Port) : Bool :=
  !(q.cc.st == .disabled || q.cc.st == .attachedSnk || q.cc.st.isHold || q.latching)

/-- Steps 3, 4 and 6 of Table 2-3 for one port; its commands, which need a Timebase, complete STATE_CONFLICT. -/
def State.lossStop (s : State) (p : PortId) : State :=
  if ¬ (s.port p).lossStops then s
  else
    let s := { s with tb := { s.tb with tbDisabled := s.tb.tbDisabled ||| BitVec.ofNat 16 (2 ^ p.val) } }.disable p .timebase
    (s.hif.table.filter fun o => o.onPort p && o.ph != .done && o.ph != .fetched && o.d.op.toNat != 0x03).foldl
      (fun s o => s.finish o.d stStateConflict (s.conflict o.d 12)) s

/-- TIMEBASE_LOST (R43): no good edge, or a frequency outside 10 % of the ring oscillator's. -/
def execTimebaseLost (noEdge : Bool) (s : State) : Res :=
  .next (
    if ¬ s.tb.running then s
    else
      let s := { s with tb := { s.tb with running := false, fallback := true, lostSeen := true, lossCount := s.tb.count, tbDisabled := 0 } }
      (s.eventD 0x0004 [(24, 1, if noEdge then 1 else 2)]).forPorts State.lossStop)

/-- The crystal runs and a calibration cycle has ended, with its measured duration and the steps it found (R40, R45, R46; 20 B4).
They are free values, the duration within Table 2-5 (notes/assumptions/111). -/
def State.calibrate (s : State) : State :=
  let (v, s) := s.draw
  let s := { s with tb := { s.tb with running := true, calDone := true, calCycleUs := BitVec.ofNat 8 (171 + v.toNat % 10) } }
  s.forPorts fun s p =>
    let (v, s) := s.draw
    s.modCnv p fun c => { c with dlySteps := v.toNat % 65536 }

/-- TIMEBASE_RESTORED (R45): one calibration cycle, the record, and the ports that Table 2-3 stopped. -/
def execTimebaseRestored (s : State) : Res :=
  .next (
    if ¬ s.tb.fallback then s
    else
      let map := s.tb.tbDisabled
      let s := { s with tb := { s.tb with fallback := false, tbDisabled := 0 } }.calibrate
      let s := s.eventD 0x0005 [(24, 8, s.tb.lossCount.toNat)]
      s.forPorts fun s p =>
        let s := if map.getLsbD p.val ∧ (s.port p).cc.st = .disabled then s.toUnattached p else s
        (s.tryPath p).idleWork p)

/-- CALIBRATION_CYCLE (R40, R46): a cycle of all ports ends, with its duration and each port's step in delay elements. -/
def execCalibrationCycle (us : Nat) (steps : List Nat) (s : State) : Res :=
  .next (
    if ¬ s.tb.running then s
    else
      let s := { s with tb := { s.tb with calDone := true, calCycleUs := BitVec.ofNat 8 (satN 8 us) } }
      s.forPorts fun s p => s.modCnv p fun c => { c with dlySteps := steps.getD p.val c.dlySteps })

/-- ERA_WRITE_RETRY (R47, R48): W0 writes the era to flash, the advance write of the next era included. -/
def execEraWriteRetry (ok : Bool) (s : State) : Res :=
  .next (
    if s.tb.eraSaved ∨ ¬ ok then s
    else
      let adv : Bool := decide (0xFF00000000 ≤ s.tb.seqCount)
      { s with tb := { s.tb with eraSaved := true, eraAdvanced := adv, eraStored := if adv then s.tb.era + 1 else s.tb.era } })

end Sys2Proof.Machine
end

