-- ==== Sys2Proof/Machine/StoreUe.lean ====
section
/-! DEFINITION. Errors of the central store (03 R64, R86 to R88, Table 3-5), the scrubber, retirement, and the credit that a waiting
producer takes (03 R77). -/

set_option linter.unusedVariables false

namespace Sys2Proof.Machine

/-- A cell's owner and the cell, where a flow queues it. -/
def State.cellOwner (s : State) (i : Nat) : Option (Nat × Cell) :=
  (List.range 117).findSome? fun f => ((s.flow f).cells.find? fun c => c.idx == i).map fun c => (f, c)

/-- The flow that has a cell taken or held outside its queue. -/
def State.looseOwner (s : State) (i : Nat) : Option Nat := (List.range 117).find? fun f => (s.flow f).loose.contains i

/-- A cell is queued with a new content; its error is dealt with. -/
def State.setCell (s : State) (f i : Nat) (g : Cell → Cell) : State :=
  s.modFlow f fun x => { x with cells := x.cells.map fun c => if c.idx = i then { g c with ue := none } else c }

/-- The EVENTS_LOST record that takes the place of a cell's unread records. -/
def lostRecord (f : Nat) (l : List EvRec) : List Payload :=
  match l.head?, l.getLast? with
  | some a, some b => [.ev { a with cause := 0x0002, port := devPort, cls := f % 3, sev := 2, coal := l.length
                                    data := evData [(24, 4, a.seq.toNat), (28, 4, b.seq.toNat)] }]
  | _, _ => [.gone]

/-- A WMSG cell (16 Table 16-17). -/
def wmsgBytes (dest src : Nat) (tag : Word) (t : Quad) (data : List Byte) : List Byte :=
  getBytes (leBytes 1 dest ++ leBytes 1 src ++ leBytes 2 data.length ++ leBytes 4 tag.toNat ++ leBytes 8 t.toNat
    ++ List.replicate 16 0 ++ data) 0 256

/-- The result of a two-wire item of a core's (17 Table 17-4): status, result bytes and read bytes. -/
def State.coreResult (s : State) (bus : Nat) (t : TwItem) (k : Fin 4) (status : Nat) (res : Quad) (rd : List Byte) : State :=
  s.sendCell fWmsg (.bytes (wmsgBytes k.val (0x10 + bus) t.tag s.now
    (leBytes 2 status ++ leBytes 8 res.toNat ++ List.replicate 6 0 ++ rd)))

/-- The cells of the message or item that cell `i` belongs to, with its first cell. -/
def groupOf (i : Nat) : List Cell → Option (Cell × List Nat)
  | [] => none
  | [a] => if a.idx = i then some (a, [a.idx]) else none
  | a :: b :: r =>
    if a.wide then (if a.idx = i ∨ b.idx = i then some (a, [a.idx, b.idx]) else groupOf i r)
    else if a.idx = i then some (a, [a.idx]) else groupOf i (b :: r)

/-- The cells of a message or item leave their flow. -/
def State.dropGroup (s : State) (f : Nat) (g : List Nat) : State := g.foldl (fun s i => s.dropCell f i) s

/-- Table 3-5 for a cell queued in a flow; a message or item of two cells goes as one. -/
def State.ueAct (s : State) (f : Nat) (c : Cell) : State :=
  let p : PortId := ⟨f % 16, Nat.mod_lt _ (by decide)⟩
  let evs := c.pay.filterMap fun r => match r with | .ev e => some e | _ => none
  let (c1, g) := (groupOf c.idx (s.flow f).cells).getD (c, [c.idx])
  if f < 0x10 then (s.dropGroup f g).odd p .failed
  else if f < 0x20 then
    match c1.pay with
    | [.pd m _ (some (prod, _)) _] =>
      match (s.port p).pd.tx with
      | some t =>
        if t.msg = m then (s.endTx p t .exhausted).settle p [.outcome m prod .exhausted]
        else ((s.dropGroup f g).flushMsg p .exhausted m prod 0).settle p [.outcome m prod .exhausted]
      | none => ((s.dropGroup f g).flushMsg p .exhausted m prod 0).settle p [.outcome m prod .exhausted]
    | _ => s.dropGroup f g
  else if f < 0x40 then (s.dropGroup f g).authLost p
  else if f < 0x50 then s.mtrLost p c
  else if f < 0x60 then s.waveLost p c
  else if f < 0x66 then s.setCell f c.idx fun c => { c with pay := lostRecord f evs }
  else if f < 0x69 then
    (s.setCell f c.idx id).cmdLost c
  else if f < 0x6C then
    s.setCell f c.idx fun c => { c with pay := c.pay.map fun r => match r with
      | .cpl r => .cpl { r with status := BitVec.ofNat 16 stStoreUe, result := 0 }
      | r => r }
  else if f = 0x6C then s.dropCell f c.idx
  else if f = 0x6D then
    (c.pay.filterMap fun r => match r with | .desc d => some d | _ => none).foldl (fun s d =>
      (((s.flow f).cells.filter (·.pay.contains (.desc d))).foldl (fun s c => s.dropCell f c.idx)
        (s.modFlow f fun x => { x with waiters := x.waiters.filter (· != .cell (.desc d)) })).finish d stStoreUe 0) s
  else if f = 0x6E then s.setCell f c.idx id
  else if f < 0x71 then s.dropCell f c.idx
  else
    let s := s.dropCell f c.idx
    match c.pay with
    | [.tw t] =>
      match t.core with
      | none => match s.outDesc t.sq t.slot with | some o => s.finish o.d stStoreUe 0 | none => s
      | some k => s.coreResult (f - 0x71) t k stStoreUe 0 []
    | _ => s

/-- Table 3-5 for a cell that its flow owns outside the queue, taken by a producer or held by a consumer: the exchange, the block's
command or the read that the cell stands for fails (DESIGN CHOICE, notes/assumptions/86). A cell reserved for completions, and one
that a producer has not filled, holds nothing to lose. -/
def State.ueLoose (s : State) (f : Nat) : State :=
  let p : PortId := ⟨f % 16, Nat.mod_lt _ (by decide)⟩
  if 0x20 ≤ f ∧ f < 0x40 then s.authLost p
  else if 0x40 ≤ f ∧ f < 0x50 then s.modMtr p fun m => { m with lost := m.lost + 1 }
  else if f = fPodUpd then s.endWhere (fun o => o.ph == .running && o.d.op == 0x20) stStoreUe
  else if f = fImg then s.endWhere (fun o => o.ph == .running && o.d.op == 0x40) stStoreUe
  else s

/-- A read meets a double-bit error in a word of a cell (R87). The action on an event flow comes before the record, which
may enter the same flow. -/
def State.storeUe (s : State) (i w : Nat) : State :=
  match s.cellOwner i with
  | some (f, c) =>
    if 0x60 ≤ f ∧ f < 0x66 then (s.ueAct f c).ueNote i w (some f)
    else (s.ueNote i w (some f)).ueAct f c
  | none => match s.looseOwner i with
    | some f => (s.ueNote i w (some f)).ueLoose f
    | none => s.ueNote i w none

/-- A consumer is about to read the cell at the head of a flow: its single-bit errors are corrected, and an uncorrectable one is
met now (R64, R87). -/
def State.headUe (s : State) (f : Nat) : State :=
  match (s.flow f).cells with
  | c :: _ =>
    let s := s.correct f c
    match c.ue with | some w => s.storeUe c.idx w | none => s
  | [] => s

/-- One word of the scrub pass has been read; the last word of a pass tells whether the pass overran its period (R86,
SCRUB_LATE; the moment is a DESIGN CHOICE, notes/assumptions/106). -/
def StoState.scrubbed (t : StoState) (now : Quad) : StoState :=
  let from_ := if t.scrubN = 0 then now else t.scrubFrom
  if 524288 ≤ t.scrubN + 1 then
    { t with scrubN := 0, scrubFrom := now, scrubLate := decide (250000 * 2 ^ t.cfg.fld 11 8 < (now - from_).toNat) }
  else { t with scrubN := t.scrubN + 1, scrubFrom := from_ }

/-- SCRUB_READ (R64, R86, R87): one word is read and checked. With the scrubber off nothing reads the word, and an error in it stays
until a consumer reads the cell. -/
def execScrubRead (cell : Nat) (word : Fin 32) (r : EccRes) (s : State) : Res :=
  .next (
    if 16384 ≤ cell ∨ s.sto.retired.contains cell then s
    else if s.sto.cfg.bit 0 then
      let s := { s with sto := s.sto.scrubbed s.now }
      match r with
      | .clean => s
      | .single => { s with sto := { s.sto with ce := satInc s.sto.ce } }
      | .double => s.storeUe cell word.val
    else match s.cellOwner cell with
      | none => s
      | some (f, _) => s.modFlow f fun x => { x with cells := x.cells.map fun c =>
        if c.idx = cell then
          match r with
          | .clean => c
          | .single => { c with ce := insertNew word.val c.ce }
          | .double => { c with ue := some word.val }
        else c })

/-- CELL_REWRITE_CHECK (R88): a cell under suspicion, free now, is rewritten with zeros and read back; a failing one is
retired while RETIRE_EN is 1 and the effective Class 2 aggregate cap stays at 4,096 or more. -/
def execCellRewriteCheck (cell : Nat) (bad : Bool) (s : State) : Res :=
  .next (
    match s.sto.suspect.find? fun x => x.1 == cell with
    | none => s
    | some (i, w) =>
      if (s.cellOwner i).isSome ∨ (s.looseOwner i).isSome then s
      else
        let t := { s.sto with suspect := s.sto.suspect.filter (·.1 != i) }
        let note (s : State) (a b : Nat) : State :=
          s.eventD 0x0003 [(24, 2, i), (26, 1, w), (27, 1, 0xFF), (28, 1, a), (29, 1, b)]
        if ¬ bad ∨ ¬ t.cfg.bit 1 then { s with sto := { t with freed := t.freed ++ [i] } }
        else if t.c2Cap ≤ 4096 then note { s with sto := { t with freed := t.freed ++ [i] } } 0 1
        else note { s with sto := { t with retired := t.retired ++ [i] } } 1 0)

/-- The first waiting producer of a flow puts its cell, with the credit that has returned (R77). -/
def State.admitCell (s : State) (f : Nat) : State :=
  match (s.flow f).waiters with
  | .cell r :: l => match s.putCell f [r] with
    | some s => s.modFlow f fun x => { x with waiters := l }
    | none => s
  | _ => s

end Sys2Proof.Machine
end

