-- ==== Sys2Proof/Machine/Hif.lean ====
section
/-! DEFINITION. The host interface (13): doorbells, descriptor fetch, entries written to the rings, MSI-X and moderation,
streams, queue set-up, resets of the function, power management of the link, and configuration space. -/

set_option linter.unusedVariables false

namespace Sys2Proof

/-- The sequence number of a record. -/
def Payload.seqNo : Payload → Nat
  | .ev r => r.seq.toNat
  | .cpl r => r.seq.toNat
  | _ => 0

end Sys2Proof

namespace Sys2Proof.Machine

/-! ### Queues -/

/-- The depth of a ring (Table 13-16). -/
def qDepth (cfg : Word) : Nat := 2 ^ cfg.fld 3 0

def State.modSq (s : State) (k : Fin 16) (f : SqState → SqState) : State :=
  { s with hif := { s.hif with sq := s.hif.sq.set k.val (f s.hif.sq[k.val]) } }
def State.modCq (s : State) (k : Fin 16) (f : CqState → CqState) : State :=
  { s with hif := { s.hif with cq := s.hif.cq.set k.val (f s.hif.cq[k.val]) } }
def State.modEq (s : State) (f : CqState → CqState) : State := { s with hif := { s.hif with eq := f s.hif.eq } }

/-- A bit of HIF_ERR is set (Table 13-15). -/
def State.hifErr (s : State) (bit : Nat) : State := { s with hif := { s.hif with err := s.hif.err ||| BitVec.ofNat 32 (2 ^ bit) } }

/-- A CQ or the EQ is full (R405). -/
def CqState.full (c : CqState) : Bool := (c.tail + 1) % qDepth c.cfg == c.head

/-- Work in flight of an SQ: descriptors outstanding, and completions not yet written. -/
def State.sqBusy (s : State) (k : Fin 16) : Bool :=
  (s.hif.table.any fun o => o.d.sq == k)
    || (List.range 3).any fun c => (s.flow (fCpl c)).records.any fun r => match r with | .cpl x => x.sq == k.val && !x.orphan | _ => false

/-- A deleting SQ whose last completion has been written becomes absent (R395). -/
def State.sqGone (s : State) (k : Fin 16) : State :=
  if s.hif.sq[k.val].st = .deleting ∧ ¬ s.sqBusy k then s.modSq k fun _ => {} else s

/-- Orphan completions of a CQ index, and of all (R418). -/
def State.orphans (s : State) (q : CplRec → Bool) : Nat :=
  (List.range 3).foldl (fun a c => a + ((s.flow (fCpl c)).records.filter fun r =>
    match r with | .cpl x => x.orphan && q x | _ => false).length) 0

/-! ### Doorbells (R401, R404, R406) -/

/-- SQ_TAIL_DOORBELL: the slots up to the index are submitted. -/
def execSqTailDoorbell (sq : Fin 16) (v : Word) (s : State) : Res :=
  .next (
    let s := s.wakeSet 4
    let q := s.hif.sq[sq.val]
    let i := v.fld 11 0
    if q.st = .absent then s.hifErr 2
    else if qDepth q.cfg ≤ i then s.hifErr 3
    else s.modSq sq fun q => { q with tail := i, db := BitVec.ofNat 12 i })

/-- A head doorbell of a CQ or the EQ: the bit of HIF_ERR it sets, or the new head. -/
def CqState.newHead (c : CqState) (i : Nat) : Nat ⊕ CqState :=
  let n := qDepth c.cfg
  if c.st = .absent then .inl 2
  else if n ≤ i then .inl 3
  else if (c.tail + n - c.head) % n < (i + n - c.head) % n then .inl 4
  else .inr { c with head := i, db := BitVec.ofNat 12 i }

/-- CQ_HEAD_DOORBELL: completion entries are released. -/
def execCqHeadDoorbell (cq : Fin 16) (v : Word) (s : State) : Res :=
  .next (
    let s := s.wakeSet 4
    match s.hif.cq[cq.val].newHead (v.fld 11 0) with
    | .inl b => s.hifErr b
    | .inr c => s.modCq cq fun _ => c)

/-- EQ_HEAD_DOORBELL: event entries are released. -/
def execEqHeadDoorbell (v : Word) (s : State) : Res :=
  .next (
    let s := s.wakeSet 4
    match s.hif.eq.newHead (v.fld 11 0) with
    | .inl b => s.hifErr b
    | .inr c => s.modEq fun _ => c)

/-! ### Fetch (R73, R388, R389, R397, R403) -/

/-- A descriptor read from host memory, in a ring format (Table 13-4). -/
def descOf (fmt : Nat) (sq : Fin 16) (slot : Nat) (b : List Byte) : Desc :=
  { sq, slot := BitVec.ofNat 12 slot, op := BitVec.ofNat 8 (getLE b 0 1), flags := BitVec.ofNat 8 (getLE b 1 1)
    port := BitVec.ofNat 8 (getLE b 2 1), cls := BitVec.ofNat 8 (getLE b 3 1), tag := BitVec.ofNat 32 (getLE b 4 4)
    params := getBytes (getBytes b 8 (if fmt = 2 then 52 else 24)) 0 52
    deferMs := if fmt = 2 then BitVec.ofNat 32 (getLE b 60 4) else 0 }

/-- The device fetches: host memory is reachable, no sleep is being entered or held (19 Table 19-3), and no warm reset runs. -/
def State.fetchOpen (s : State) (sq : Fin 16) : Bool :=
  let q := s.hif.sq[sq.val]
  s.hostOn && s.pwr.entry == 0 && s.pwr.st != .doze && q.st == .live && q.fetch != q.tail && decide (s.hif.table.length < 2048)

/-- DESCRIPTOR_FETCH (R403, R397; 03 R73): the next descriptor of an SQ is read, checked and admitted; its CMD and CPL flows
must have room. -/
def execDescriptorFetch (sq : Fin 16) (bytes : List Byte) (s : State) : Res :=
  .next (
    let q := s.hif.sq[sq.val]
    let d := descOf s.hif.ringSel.toNat sq q.fetch bytes
    let c := d.cls.toNat % 3
    if ¬ s.fetchOpen sq then s
    else if ¬ s.hasRoom (fCmd c) then s.countNoCredit (fCmd c)
    else if ¬ s.hasRoom (fCpl c) then s
    else
      let s := s.modSq sq fun q => { q with fetch := (q.fetch + 1) % qDepth q.cfg }
      { s with hif := { s.hif with l1 := false } }.enterDesc d [])

/-- HOST_FETCH_ERROR (R389): 1 Unsupported Request, 2 Completer Abort, 3 completion timeout. -/
def execHostFetchError (sq : Fin 16) (why : Nat) (s : State) : Res :=
  .next (
    let q := s.hif.sq[sq.val]
    if ¬ s.fetchOpen sq ∨ why = 0 ∨ 3 < why then s
    else
      let bit := if why = 1 then 20 else if why = 2 then 15 else 14
      let s := ((s.modSq sq fun q => { q with st := .faulted }).hifErr 5)
      let s := { s with hif := { s.hif with aerUnc := s.hif.aerUnc ||| BitVec.ofNat 32 (2 ^ bit) } }
      s.eventD 0x0007 [(24, 1, sq.val), (25, 1, why), (26, 2, q.fetch)])

/-! ### MSI-X (R391, R411, R412) -/

/-- A vector is masked: by its own bit, by the function mask, with MSI-X not enabled, or while no memory write may start (R388). -/
def HifState.masked (h : HifState) (v : Fin 32) : Bool :=
  !h.msixEn || h.msixFmask || h.msix[v.val].ctrl.bit 0 || !h.bme || h.d3hot || h.link.isNone

/-- The message of a vector is sent, or its PBA bit is set while it is masked. -/
def State.msixSend (s : State) (v : Fin 32) : State :=
  let h := s.hif
  let e := h.msix[v.val]
  if h.masked v then { s with hif := { h with pba := h.pba ||| BitVec.ofNat 32 (2 ^ v.val) } }
  else s.emit (.msix v.val (BitVec.ofNat 64 (e.addrLo.toNat + 2 ^ 32 * e.addrHi.toNat)) e.data)

/-- A pending vector that is not masked any more sends its one message. -/
def State.msixPend (s : State) (v : Fin 32) : State :=
  if s.hif.pba.bit v.val ∧ ¬ s.hif.masked v then
    { s with hif := { s.hif with pba := s.hif.pba &&& ~~~ (BitVec.ofNat 32 (2 ^ v.val)) } }.msixSend v
  else s

/-- MSIX_UNMASK: a vector's mask bit is cleared. -/
def execMsixUnmask (vec : Fin 32) (s : State) : Res :=
  .next (
    let e := s.hif.msix[vec.val]
    let e := { e with ctrl := e.ctrl &&& ~~~ (1#32) }
    ({ s with hif := { s.hif with msix := s.hif.msix.set vec.val e } }).msixPend vec)

/-- A CQ is due: its vector's message goes, and its count clears. -/
def State.cqDue (s : State) (k : Fin 16) : State :=
  (s.modCq k fun c => { c with unsig := 0 }).msixSend (Fin.ofNat 32 (s.hif.cq[k.val].cfg.fld 20 16))

/-- A severity of the EQ is due. -/
def State.eqDue (s : State) (sev : Fin 4) : State :=
  (s.modEq fun c => { c with unsigSev := c.unsigSev.set sev.val 0 }).msixSend
    (Fin.ofNat 32 (s.hif.eqVecNow.fld (8 * sev.val + 4) (8 * sev.val)))

/-- MODERATION_TIMER_EXPIRY (R411): TIME_US has passed since the first unsignalled entry of a CQ, or of a severity of the EQ. -/
def execModerationTimerExpiry (q : Option (Fin 16)) (sev : Fin 4) (s : State) : Res :=
  .next (match q with
  | some k =>
    let c := s.hif.cq[k.val]
    if 0 < c.unsig ∧ 0 < c.irqNow.fld 15 8 then s.cqDue k else s
  | none =>
    let c := s.hif.eq
    if 0 < c.unsigSev[sev.val] ∧ 0 < c.irqNow.fld 15 8 then s.eqDue sev else s)

/-! ### Entries (R56, R74, R398, R399, R404) -/

/-- The 32 bytes of a completion in the ring format in force (Table 13-6). -/
def cplBytes (r : CplRec) (fmt : Nat) (phase : Bool) : List Byte :=
  leBytes 4 r.tag.toNat ++ leBytes 2 r.status.toNat ++ leBytes 1 r.port.toNat
    ++ leBytes 1 (b2n phase + 2 * b2n r.deferred + 4 * b2n r.orphan) ++ leBytes 8 r.seq.toNat
    ++ leBytes 8 (if fmt = 2 then r.time.toNat else 0) ++ leBytes 8 r.result.toNat

/-- The 32 bytes of an event record (Table 13-7). -/
def evBytes (r : EvRec) (phase : Bool) : List Byte :=
  leBytes 2 r.cause ++ leBytes 1 r.port ++ leBytes 1 (r.cls + 4 * r.sev + 128 * b2n phase) ++ leBytes 4 r.coal
    ++ leBytes 8 r.seq.toNat ++ leBytes 8 r.time.toNat ++ leBytes 8 r.data.toNat

/-- The tail moves on, and PHASE flips at the wrap. -/
def CqState.advance (c : CqState) : CqState :=
  let t := (c.tail + 1) % qDepth c.cfg
  { c with tail := t, phase := if t = 0 then !c.phase else c.phase }

/-- One entry is written to a ring. -/
def State.writeEntry (s : State) (c : CqState) (bytes : List Byte) : State :=
  { s with hif := { s.hif with l1 := false } }.emit (.hostWrite (c.base + BitVec.ofNat 64 (32 * c.tail)) bytes)

/-- A completion goes to its CQ, which may become due (R411). -/
def State.writeCpl (s : State) (r : CplRec) : State :=
  let k : Fin 16 := Fin.ofNat 16 r.cq
  let c := s.hif.cq[k.val]
  let t := s.now
  let s := (s.writeEntry c (cplBytes r s.hif.ringSel.toNat c.phase)).modCq k fun c =>
    { c.advance with unsig := c.unsig + 1, irqNow := c.irq, firstT := if c.unsig = 0 then t else c.firstT }
  let n := c.irq.fld 7 0
  let s := if r.notify ∨ (0 < n ∧ n ≤ c.unsig + 1) then s.cqDue k else s
  s.sqGone (Fin.ofNat 16 r.sq)

/-- An event record goes to the EQ, whose severity may become due. -/
def State.writeEv (s : State) (r : EvRec) : State :=
  let sev : Fin 4 := Fin.ofNat 4 r.sev
  let c := s.hif.eq
  let t := s.now
  let u := c.unsigSev[sev.val]
  let s := (s.writeEntry c (evBytes r c.phase)).modEq fun c =>
    { c.advance with unsigSev := c.unsigSev.set sev.val (u + 1), irqNow := c.irq,
                     firstSev := if u = 0 then c.firstSev.set sev.val t else c.firstSev }
  let s : State := { s with hif := { s.hif with eqVecNow := s.hif.eqVec } }
  let n := c.irq.fld 7 0
  if (r.cls = 0 ∧ s.hif.eqCfg.bit 0) ∨ (0 < n ∧ n ≤ u + 1) then s.eqDue sev else s

/-- The ring a record goes to exists and has a free entry. -/
def State.ringOpen (s : State) (r : Payload) : Bool :=
  let ok (c : CqState) : Bool := c.st == .live && !c.full
  match r with
  | .ev _ => ok s.hif.eq
  | .cpl x => ok s.hif.cq[(Fin.ofNat 16 x.cq).val]
  | _ => false

/-- The record with the lowest number. -/
def lowestSeq : List (Nat × Payload) → Option (Nat × Payload)
  | [] => none
  | x :: r => match lowestSeq r with
    | none => some x
    | some y => if x.2.seqNo ≤ y.2.seqNo then some x else some y

/-- The flows that the host interface empties to the rings. -/
def ringFlows : List Nat := [fEvh 0, fEvh 1, fEvh 2, fCpl 0, fCpl 1, fCpl 2]

/-- HOST_RECORD_WRITE (02 R56, R63; 03 R74, R87; 13 R404, R405, R411, R418): the lowest-numbered record whose ring can take it. -/
def execHostRecordWrite (s : State) : Res :=
  .next (
    if ¬ s.hostOn then s
    else
      let s := ringFlows.foldl State.headUe s
      let all := ringFlows.flatMap fun f => ((s.flow f).records.filter s.ringOpen).map fun r => (f, r)
      match lowestSeq all with
      | none => s
      | some (f, r) =>
        let s := s.readRecord f (· == r)
        match r with
        | .ev x => s.writeEv x
        | .cpl x => s.writeCpl x
        | _ => s)

/-! ### Streams (R413, R414) -/

/-- The parameters of a buffer descriptor (Table 13-9). -/
def bufferOk (ty : Nat) (d : Desc) : Bool :=
  d.onlyAt [(8, 16)] && d.le 8 8 % 256 == 0 && d.le 16 4 % 256 == 0 && decide ((if ty = 1 then 256 else 2048) ≤ d.le 16 4)
    && decide (d.le 16 4 ≤ 2 ^ 20) && decide (d.le 20 4 ≤ 60000)

/-- A posted buffer; one whose SQ is being deleted completes with nothing in it. -/
def bufferSpec : CmdSpec where
  params s d := if bufferOk (s.hif.sq[d.sq.val].cfg.fld 9 8) d then none else some stBadParam
  go s d :=
    let b : StreamBuf := { d }
    if s.hif.sq[d.sq.val].st = .deleting then s.endBuf b
    else if s.hif.sq[d.sq.val].cfg.fld 9 8 = 1 then { s with hif := { s.hif with mtrBufs := s.hif.mtrBufs ++ [b] } }.pumpMtr
    else { s with hif := { s.hif with wavBufs := s.hif.wavBufs ++ [b] } }.pumpWave

/-- BUFFER_DESCRIPTOR (R413). -/
def execBufferDescriptor (d : Desc) (s : State) : Res := .next (bufferSpec.start 0x00 d [] s)

/-- STREAM_FLUSH_EXPIRY (R414): FLUSH_MS has passed since the first item of the oldest buffer. -/
def execStreamFlushExpiry (meter : Bool) (s : State) : Res :=
  .next (
    match (if meter then s.hif.mtrBufs else s.hif.wavBufs) with
    | [] => s
    | b :: r =>
      if b.firstT.isNone ∨ b.d.le 20 4 = 0 then s
      else if meter then ({ s with hif := { s.hif with mtrBufs := r } }.endBuf b).pumpMtr
      else ({ s with hif := { s.hif with wavBufs := r } }.endBuf b).pumpWave)

/-! ### Queue set-up (R392 to R395, R418) -/

def State.qResult (s : State) (r : Nat) : State := { s with hif := { s.hif with qDone := true, qResult := BitVec.ofNat 4 r } }

/-- A queue of any kind exists. -/
def HifState.anyQueue (h : HifState) : Bool :=
  h.sq.toList.any (·.st != .absent) || h.cq.toList.any (·.st != .absent) || h.eq.st != .absent

/-- The queue named in HIF_QSEL: its index and kind. -/
def HifState.selIx (h : HifState) : Fin 16 := Fin.ofNat 16 (h.qsel.fld 3 0)
def HifState.selKind (h : HifState) : Nat := h.qsel.fld 5 4

/-- Its state. -/
def HifState.selSt (h : HifState) : QSt :=
  if h.selKind = 0 then h.sq[h.selIx.val].st else if h.selKind = 1 then h.cq[h.selIx.val].st else h.eq.st

/-- The result code of a create (R394, Table 13-17), 0 where it may go on. -/
def HifState.createCheck (h : HifState) : Nat :=
  let ty := h.setCfg.fld 9 8
  if ¬ h.ready ∨ ¬ h.bme then 5
  else if h.selSt ≠ .absent then 2
  else if h.setCfg.fld 3 0 < 4 ∨ 12 < h.setCfg.fld 3 0 ∨ h.setBase.toNat % 4096 ≠ 0 ∨ (h.selKind = 0 ∧ ty = 3) then 1
  else if h.selKind = 0 ∧ h.cq[(Fin.ofNat 16 (h.setCfg.fld 7 4)).val].st ≠ .live then 3
  else if h.selKind = 0 ∧ ty ≠ 0 ∧ (h.ringSel ≠ 2 ∨ h.sq.toList.any (fun q => q.st != .absent && q.cfg.fld 9 8 == ty)) then 4
  else 0

/-- QUEUE_CREATE (R394; 02 R59). -/
def execQueueCreate (s : State) : Res :=
  .next (
    let h := s.hif
    let r := h.createCheck
    if r ≠ 0 then s.qResult r
    else
      let sqn : SqState := { st := .live, base := h.setBase, cfg := h.setCfg, irq := h.setIrq }
      let cqn : CqState := { st := .live, base := h.setBase, cfg := h.setCfg, irq := h.setIrq }
      let s := if h.selKind = 0 then s.modSq h.selIx fun _ => sqn
        else if h.selKind = 1 then s.modCq h.selIx fun _ => cqn
        else s.modEq fun _ => cqn
      s.qResult 0)

/-- Completions whose CQ no longer exists are orphans, those still to come included (R418). -/
def State.orphan (s : State) (q : Nat → Bool) : State :=
  let mark (r : Payload) : Payload := match r with
    | .cpl x => .cpl { x with orphan := x.orphan || q x.cq }
    | r => r
  let s := (List.range 3).foldl (fun s c => s.modFlow (fCpl c) fun x =>
    { x with cells := x.cells.map fun y => { y with pay := y.pay.map mark } }) s
  { s with hif := { s.hif with table := s.hif.table.map fun o => { o with orphan := o.orphan || q o.cq } } }

/-- DISCARD_ORPHANS (R418): for the CQ index selected. -/
def execDiscardOrphans (s : State) : Res :=
  .next (
    let h := s.hif
    if h.selKind ≠ 1 then s.qResult 6
    else
      let mine (r : Payload) : Bool := match r with | .cpl x => x.orphan && x.cq == h.selIx.val | _ => false
      let s := (List.range 3).foldl (fun s c =>
        ((s.flow (fCpl c)).records.filter mine).foldl (fun s r => s.readRecord (fCpl c) (· == r)) s) s
      s.qResult 0)

/-- RING_SEL_WRITE (R392). -/
def execRingSelWrite (v : Word) (s : State) : Res :=
  .next (
    let s := s.wakeSet 4
    let n := v.fld 23 16
    if s.hif.anyQueue ∨ n < 1 ∨ 2 < n then s.hifErr 0
    else { s with hif := { s.hif with ringSel := BitVec.ofNat 8 n } })

/-! ### Resets of the function, link and configuration space (R385 to R388, R417) -/

/-- What a function-level reset, a conventional reset or a link down leaves of the host interface: the queues, HIF_QSEL,
HIF_EQ_VEC, the doorbells and RING_SEL as R417 gives, and configuration space as PCI Express gives (PRESUMED,
notes/assumptions/4). Data waiting for the host goes with its queues (DEDUCED, notes/assumptions/123). -/
def HifState.cleared (h : HifState) (k : FlrKind) : HifState :=
  let h := { h with sq := Vector.replicate 16 {}, cq := Vector.replicate 16 {}, eq := {}, qsel := 0, eqVec := 0, eqVecNow := 0, ringSel := 1, held := [],
                    mtrBufs := [], wavBufs := [], bme := false, d3hot := false, msix := Vector.replicate 32 {}, pba := 0
                    msixEn := false, msixFmask := false, ltrEn := false, l1 := false }
  if k = .flr then h else { h with aspmL1 := false, pmeEn := false, pmeSta := false, link := none }

/-- FUNCTION_LEVEL_RESET (R415, R417, R418). -/
def execFunctionLevelReset (k : FlrKind) (s : State) : Res :=
  .next (
    let s := s.endWhere (fun o => o.ph == .fetched || o.ph == .waiting || o.d.op == 0) stAbortedDeviceReset
    let s := s.orphan fun _ => true
    { s with hif := s.hif.cleared k })

/-- Memory writes may start again: the data that waited goes, pending vectors send their messages, and the streams move on (R388,
R412). -/
def State.hostBack (s : State) : State :=
  if s.hostOn then (((List.finRange 32).foldl State.msixPend s.hostFlush).pumpMtr).pumpWave else s

/-- PCI_PM_STATE_CHANGE (R388): the D-state and Bus Master Enable as the host sets them. -/
def execPciPmStateChange (d3 bme : Bool) (s : State) : Res :=
  .next { s with hif := { s.hif with d3hot := d3, bme } }.hostBack

/-- L1_ENTRY_REQUEST (R387): no TLP has been pending for L1_IDLE_US. -/
def execL1EntryRequest (s : State) : Res :=
  .next (
    if s.hif.aspmL1 ∧ s.hif.link.isSome ∧ ¬ s.hif.l1 then { s with hif := { s.hif with l1 := true } }.emit .l1Request else s)

/-- LINK_TRAINED (R386): the link comes up at 0 for 2.5, 1 for 5 and 2 for 8 GT/s. -/
def execLinkTrained (rate : BitVec 2) (s : State) : Res :=
  .next (if rate = 3 then s else { s with hif := { s.hif with link := some rate, l1 := false } }.hostBack)

/-- The LTR message with HIF_PM_CFG.LTR_US (R385). -/
def State.sendLtr (s : State) : State := s.emit (.ltr (s.hif.pmCfg.fld 7 0))

/-- CONFIG_SPACE_WRITE (R387, R388, R412). -/
def execConfigSpaceWrite (w : CfgSpace) (s : State) : Res :=
  .next (
    let h := s.hif
    let pend (s : State) : State := (List.finRange 32).foldl State.msixPend s
    match w with
    | .ltrEn b => let s := { s with hif := { h with ltrEn := b } }; if b then s.sendLtr else s
    | .aspmL1 b => { s with hif := { h with aspmL1 := b } }
    | .msixEn b => pend { s with hif := { h with msixEn := b } }
    | .msixMask b => pend { s with hif := { h with msixFmask := b } }
    | .pmeEn b => { s with hif := { h with pmeEn := b } }
    | .pmeClear => { s with hif := { h with pmeSta := false } }
    | .aerClear m => { s with hif := { h with aerUnc := h.aerUnc &&& ~~~ m } })

end Sys2Proof.Machine
end

