-- ==== Sys2Proof/Machine/Flog.lean ====
section
/-! DEFINITION. Reading the fault log: FAULT_LOG_READ (15 R441) and the fault-log window (22 R575, R576). -/

set_option linter.unusedVariables false

namespace Sys2Proof.Machine

/-- The 32 bytes of a fault-log entry (15 R439). -/
def logBytes (e : EvRec) : List Byte := evBytes { e with coal := 1 } e.unnum

/-- Entries held from a write count on, at most `n` (R441). -/
def FlogState.take (g : FlogState) (start n : Nat) : List (Nat × EvRec) :=
  (if start = 0xFFFFFFFF then g.ring else g.ring.filter fun x => decide (start ≤ x.1)).take n

/-- Entries from START that are no longer held (byte 30). -/
def FlogState.gone (g : FlogState) (start : Nat) (first : Option Nat) : Nat :=
  if start = 0xFFFFFFFF ∨ g.wcnt.toNat ≤ start then 0 else satN 8 (first.getD g.wcnt.toNat - start)

/-- R441, Table 14-1. -/
def faultLogReadSpec : CmdSpec where
  params _ d :=
    if d.onlyAt [(8, 15)] ∧ d.le 8 8 % 32 = 0 ∧ 1 ≤ d.le 20 2 ∧ d.le 20 2 ≤ 256 ∧ d.le 22 1 ≤ 1 then none else some stBadParam
  legal s _ := if s.rst.booted ∨ s.rst.rescue then none else some 15
  go s d :=
    let g := s.flog
    let l := g.take (d.le 16 4) (d.le 20 2)
    let s := if l.isEmpty then s else s.hostPut (BitVec.ofNat 64 (d.le 8 8)) (l.flatMap fun x => logBytes x.2)
    let s := if d.le 22 1 = 1 then { s with flog := { g with ring := g.ring.filter fun x => !l.contains x } } else s
    let first := l.head?.map (·.1)
    s.finish d stOk (evData [(24, 4, first.getD g.wcnt.toNat), (28, 2, l.length), (30, 1, g.gone (d.le 16 4) first)])

/-- FAULT_LOG_READ. -/
def execFaultLogRead (d : Desc) (s : State) : Res := .next (faultLogReadSpec.start 0x38 d [] s)

/-! ### The window -/

/-- The latches and selectors of an interface (22 R568, R569). -/
def State.lat (s : State) : Iface → Latches | .bar0 => s.latB | .twt => s.latT
def State.modLat (s : State) (i : Iface) (f : Latches → Latches) : State :=
  match i with | .bar0 => { s with latB := f s.latB } | .twt => { s with latT := f s.latT }

/-- A read of GLB_FLOG_DATA0 latches an entry (R576). -/
def State.flogLatch (s : State) (i : Iface) : State :=
  match s.flog.ring.find? fun x => decide ((s.lat i).flogSel.toNat ≤ x.1) with
  | some x => s.modLat i fun l => { l with flogEnt := some x, flogSel := BitVec.ofNat 32 x.1 }
  | none => s.modLat i fun l => { l with flogEnt := none }

/-- GLB_FLOG_DATAk of an interface. -/
def State.flogData (s : State) (i : Iface) (k : Nat) : Word :=
  match (s.lat i).flogEnt with | some x => BitVec.ofNat 32 (getLE (logBytes x.2) (4 * k) 4) | none => 0

/-- FLOG_DATA0_READ (R576). -/
def execFlogData0Read (i : Iface) (s : State) : Res :=
  .next (let s := s.flogLatch i; s.emit (.readData i 0x2200 (s.flogData i 0)))

/-- The most significant byte of GLB_FLOG_DATA7 has been read (R576). -/
def State.flogNext (s : State) (i : Iface) : State :=
  match (s.lat i).flogEnt with
  | some x => s.modLat i fun l => { l with flogSel := BitVec.ofNat 32 (x.1 + 1) }
  | none => s

/-- FLOG_DATA7_LAST_READ (R576). -/
def execFlogData7LastRead (i : Iface) (s : State) : Res :=
  .next ((s.emit (.readData i 0x221C (s.flogData i 7))).flogNext i)

end Sys2Proof.Machine
end

