-- ==== Sys2Proof/Machine/Operands.lean ====
section
/-! DEFINITION. The operands of the Weevil cores (16): registers, the restrictions of the formats, the addressing modes of
Table 16-7, the memory map of Table 16-2, protection (R450), and the interrupt lines (Table 16-11). -/

set_option linter.unusedVariables false

namespace Sys2Proof

/-! ### Restrictions of the formats (R451, Tables 16-5 to 16-8) -/

/-- Three registers: SHAMT and [5:0] are 0. -/
def InsR.ok3 (i : InsR) : Bool := i.sh == 0 && i.z == 0
/-- Two registers: RB is 0 as well. -/
def InsR.ok2 (i : InsR) : Bool := i.ok3 && i.rb == 0
/-- A shift by SHAMT. -/
def InsR.okSh (i : InsR) : Bool := i.rb == 0 && i.z == 0
/-- A compare: RD is 0. -/
def InsR.okCmp (i : InsR) : Bool := i.ok3 && i.rd == 0
def InsI.ok (i : InsI) : Bool := !i.z
def InsI.okCmp (i : InsI) : Bool := !i.z && i.rd == 0
/-- LUI and ADDPC: RA and S are 0. -/
def InsI.okUp (i : InsI) : Bool := !i.z && i.ra == 0 && !i.s

def InsI.sext (i : InsI) : Word := i.imm.signExtend 32
def InsI.zext (i : InsI) : Word := i.imm.setWidth 32

/-- The bits [16:0] and registers that each MODE demands (Table 16-7, R453). -/
def InsM.ok (i : InsM) (isLoad : Bool) : Bool :=
  if i.mode = 0 then i.x.toNat < 2 ^ 12
  else if i.mode = 3 then i.x.toNat % 2 ^ 11 == 0
  else i.x == 0 && i.rb != 0 && (!isLoad || i.rt != i.rb)

/-- Fields of a SYS instruction that are unused are 0. -/
def InsS.bare (i : InsS) : Bool := i.z == 0 && i.reg == 0 && i.imm == 0
def InsS.okTrap (i : InsS) : Bool := i.z == 0 && i.reg == 0 && i.imm.toNat < 256
def InsS.okCr (i : InsS) : Bool := i.z == 0

end Sys2Proof

namespace Sys2Proof.Machine

def State.core (s : State) (c : Fin 4) : Core := s.wvl.cores[c.val]
def State.modCore (s : State) (c : Fin 4) (f : Core → Core) : State :=
  { s with wvl := { s.wvl with cores := s.wvl.cores.set c.val (f s.wvl.cores[c.val]) } }

/-! ### Registers -/

/-- General register `r`; g0 reads 0 (16 section Programming model). -/
def Core.reg (k : Core) (r : Reg) : Word := if r = 0 then 0 else k.g[r.toNat]

/-- A write of a general register; g0 ignores it. -/
def Core.setReg (k : Core) (r : Reg) (v : Word) : Core := if r = 0 then k else { k with g := k.g.set r.toNat v }

def Core.ie (k : Core) : Bool := k.status.bit 0
def Core.task (k : Core) : Bool := k.status.bit 1
def Core.exl (k : Core) : Bool := k.status.bit 2

/-- The next instruction. -/
def Core.next (k : Core) : Core := { k with pc := k.pc + 4 }

/-! ### Addressing (Table 16-7) -/

/-- The address used, and the base register's value afterwards where the mode updates it (Table 16-7). -/
def Core.addr (k : Core) (i : InsM) (size : Nat) : Word × Option Word :=
  let b := k.reg i.rb
  let n := BitVec.ofNat 32 size
  if i.mode = 0 then (b + (BitVec.ofNat 12 i.x.toNat).signExtend 32, none)
  else if i.mode = 1 then (b, some (b + n))
  else if i.mode = 2 then (b - n, some (b - n))
  else (b + (k.reg (BitVec.ofNat 4 (i.x.toNat / 2 ^ 13)) <<< (i.x.toNat / 2 ^ 11 % 4)), none)

/-! ### Memory map (Table 16-2) -/

inductive Range | code | data | shared | fpReg | fpBuf | pod | crypto | localR | wvl | other (n : Fin 4) | rom | none
  deriving DecidableEq, Repr

/-- The range that an address lies in, for a core; Wn's code RAM is W0's to reach while Wn is in RESET. -/
def State.range (s : State) (c : Fin 4) (a : Nat) : Range :=
  let top := a / 2 ^ 24
  if a < 0x20000 then .code
  else if 0x10000000 ≤ a ∧ a < 0x10010000 then .data
  else if 0x20000000 ≤ a ∧ a < 0x20080000 then .shared
  else if 0x40000000 ≤ a ∧ a < 0x40000200 then .fpReg
  else if 0x41000000 ≤ a ∧ a < 0x41001000 then .fpBuf
  else if 0x42000000 ≤ a ∧ a < 0x42000080 then .pod
  else if 0x43000000 ≤ a ∧ a < 0x43000020 then .crypto
  else if 0x44000000 ≤ a ∧ a < 0x44000020 then .localR
  else if c = 0 ∧ 0x45000000 ≤ a ∧ a < 0x45000040 then .wvl
  else if c = 0 ∧ 0x61 ≤ top ∧ top ≤ 0x63 ∧ a % 2 ^ 24 < 0x20000 ∧ (s.core (Fin.ofNat 4 (top - 0x60))).st = .reset then
    .other (Fin.ofNat 4 (top - 0x60))
  else if c = 0 ∧ 0xF0000000 ≤ a ∧ a < 0xF0004000 then .rom
  else .none

/-- A range that only word accesses reach. -/
def Range.wordOnly : Range → Bool
  | .fpReg | .crypto | .localR | .wvl => true
  | _ => false

/-- An access of a size is permitted there: no store to boot ROM. -/
def Range.permits (r : Range) (store : Bool) (size : Nat) : Bool :=
  r != .none && !(r == .rom && store) && (!r.wordOnly || size == 4)

/-- A range that instructions are fetched from. -/
def Range.fetches (r : Range) : Bool := r == .code || r == .rom

/-! ### Protection (R450) -/

/-- Region `k` is enabled and contains an address. -/
def Core.inRegion (k : Core) (i : Fin 8) (a : Nat) : Bool :=
  let n := k.rbase[i.val].fld 4 0
  8 ≤ n && (k.rbase[i.val].toNat / 2 ^ 8 * 2 ^ 8) / 2 ^ n == a / 2 ^ n

/-- In TASK mode the lowest-numbered region that contains an address decides: bit 0 R, 1 W, 2 X of RATTR. -/
def Core.mayDo (k : Core) (a : Nat) (bit : Nat) : Bool :=
  !k.task || (match (List.finRange 8).find? fun i => k.inRegion i a with
    | some i => k.rattr[i.val].bit bit
    | none => false)

/-! ### Flow ports as the lines see them -/

/-- The first byte of a WMSG cell: DEST (Table 16-17). -/
def Cell.dest (c : Cell) : Nat := match c.pay with | [.bytes b] => getLE b 0 1 | _ => 0xFF

/-- The first cell of a PD message (05 Table 5-5): OUTCOME is pending until the cell is released. -/
def pdBytes (m : PdMsg) (attach : BitVec 16) (tx : Bool) (t : Quad) : List Byte :=
  let b := leBytes 2 m.hdr.toNat ++ m.data
  leBytes 1 m.sopx.code ++ leBytes 1 (b2n m.ext + 2 * b2n tx + 4 * b2n (decide (224 < b.length))) ++ leBytes 2 b.length
    ++ leBytes 2 attach.toNat ++ leBytes 1 (max 1 m.rev) ++ leBytes 1 0 ++ leBytes 8 t.toNat ++ leBytes 1 m.mid.toNat
    ++ leBytes 1 0 ++ List.replicate 14 0 ++ b.take 224

/-- The bytes of a cell as a core takes it. -/
def Cell.bytes (c : Cell) : List Byte :=
  c.pay.flatMap fun r => match r with
    | .bytes b => b
    | .iv r => ivBytes r
    | .pd m a tx t => pdBytes m a tx.isSome t
    | _ => []

/-- Cells of a flow that wait for a core. -/
def State.waitingFor (s : State) (c : Fin 4) (f : Nat) : List Cell :=
  if f = fWmsg then (s.flow f).cells.filter fun x => x.dest == c.val else (s.flow f).cells

def FlowPort.flowNo (x : FlowPort) : Nat := x.bind.fld 7 0
def FlowPort.producer (x : FlowPort) : Bool := x.bind.bit 8

/-- READY of a flow port (Table 16-14). -/
def State.fpReady (s : State) (c : Fin 4) (p : Fin 16) : Bool :=
  let x := (s.core c).ports[p.val]
  x.bound && (if x.producer then decide (0 < s.credit x.flowNo) else !(s.waitingFor c x.flowNo).isEmpty)

/-- IRQ_PEND (Table 16-11). -/
def State.irqPend (s : State) (c : Fin 4) : Word :=
  let k := s.core c
  let line (i : Nat) : Bool :=
    if h : i < 16 then s.fpReady c ⟨i, h⟩ && !k.ports[i].busy
    else if i = 16 then k.sigSrc != 0
    else if i = 17 then decide (k.tcmp ≤ s.now)
    else if i = 18 then k.cx.done
    else if i = 19 then k.ppUnread
    else false
  BitVec.ofNat 32 ((List.range 20).foldl (fun a i => a + (if line i then 2 ^ i else 0)) 0)

/-- The lowest pending line that is set in IRQ_MASK. -/
def State.irqLine (s : State) (c : Fin 4) : Option Nat :=
  (List.range 20).find? fun i => (s.irqPend c).bit i && (s.core c).irqMask.bit i

end Sys2Proof.Machine
end

