-- ==== Sys2Proof/Machine/FlowPort.lean ====
section
/-! DEFINITION. The flow ports of the cores (16 R459 to R462, Tables 16-14 to 16-17) and the assignment of ports to service
cores (16 R445, R446). -/

set_option linter.unusedVariables false

namespace Sys2Proof.Machine

/-- The core executes instructions: in RUN, and with the device awake (R466; 19 Table 19-1). -/
def State.executes (s : State) (c : Fin 4) : Bool :=
  (s.core c).st == .run && s.pwr.st != .doze && s.pwr.st != .hibernate

def State.fp (s : State) (c : Fin 4) (x : Fin 16) : FlowPort := (s.core c).ports[x.val]
def State.modFp (s : State) (c : Fin 4) (x : Fin 16) (f : FlowPort → FlowPort) : State :=
  s.modCore c fun k => { k with ports := k.ports.set x.val (f k.ports[x.val]) }

/-- The service core assigned to a port (R445). -/
def State.assigned (s : State) (p : PortId) : Nat := s.wvl.mapNow.fld (2 * p.val + 1) (2 * p.val)

/-- Table 16-15. -/
def State.mayBind (s : State) (c : Fin 4) (f : Nat) (producer : Bool) : Bool :=
  let p : PortId := ⟨f % 16, Nat.mod_lt _ (by decide)⟩
  if 0x20 ≤ f ∧ f < 0x30 then !producer && s.assigned p == c.val
  else if 0x30 ≤ f ∧ f < 0x40 then producer && s.assigned p == c.val
  else if 0x40 ≤ f ∧ f < 0x50 then
    !producer && c == 0 && (s.port p).mtr.cfg.bit 2 && !(s.port p).mtr.cfg.bit 0
  else if f = 0x6D ∨ f = 0x6E then !producer && c == 0
  else if f = 0x6F then producer && c == 0
  else if f = 0x70 then true
  else decide (0x71 ≤ f ∧ f ≤ 0x74) && producer

/-- The flow has a consumer bound at a flow port (R459). -/
def State.bindInUse (s : State) (f : Nat) : Bool :=
  s.wvl.cores.toList.any fun k => k.ports.toList.any fun x => x.bound && x.flowNo == f && !x.producer

/-- Bindings of a core end (R461): cells held as consumer return to the head of their flow in their order, cells held as
producer are freed, and a waiting TAKE or ALLOC ends. -/
def State.unbind (s : State) (c : Fin 4) (l : List (Fin 16)) : State :=
  let holders : List (Fin 16 × Cell) := l.filterMap fun x => (s.fp c x).held.map fun y => (x, y)
  let back := holders.filter fun h => !(s.fp c h.1).producer
  let s := (l.map fun x => (s.fp c x).flowNo).eraseDups.foldl (fun s f =>
    (s.flow f).loose.reverse.foldl (fun s i =>
      match back.find? fun h => (s.fp c h.1).flowNo == f && h.2.idx == i with
      | some h => s.modFlow f fun x => { x with loose := x.loose.erase i, cells := h.2 :: x.cells }
      | none => s) s) s
  let s := (holders.filter fun h => (s.fp c h.1).producer).foldl (fun s h => s.freeCell (s.fp c h.1).flowNo h.2.idx) s
  let s := l.foldl (fun s x => s.modFlow (s.fp c x).flowNo fun y => { y with waiters := y.waiters.filter (· ≠ .flowPort c x) }) s
  l.foldl (fun s x => s.modFp c x fun y => { y with busy := false, wait := none, held := none, bound := false }) s

/-- The result of a command is written (Table 16-16). -/
def State.fpDone (s : State) (c : Fin 4) (x : Fin 16) (r : Nat) : State :=
  s.modFp c x fun y => { y with busy := false, wait := none, result := BitVec.ofNat 4 r }

/-- BIND (R459): a write of FP_BIND ends the earlier binding; EN binds where Table 16-15 permits and the flow is free. -/
def execBind (c : Fin 4) (fp : Fin 16) (v : Word) (s : State) : Res :=
  .next (
    let s := (s.unbind c [fp]).modFp c fp fun y => { y with bind := v &&& 0x3FF }
    let f := v.fld 7 0
    let prod := v.bit 8
    if ¬ v.bit 9 then s.fpDone c fp 0
    else if ¬ s.mayBind c f prod then s.fpDone c fp 1
    else if ¬ prod ∧ f ≠ fWmsg ∧ s.bindInUse f then s.fpDone c fp 2
    else (s.modFp c fp fun y => { y with bound := true }).fpDone c fp 0)

/-- A command of FP_CMD: while BUSY it is ignored; without a binding it completes NOT_BOUND; where ROLE or HELD does not fit it
completes SEQUENCE (R459). -/
def State.fpCmd (s : State) (c : Fin 4) (fp : Fin 16) (producer held : Bool) (f : State → State) : State :=
  let x := s.fp c fp
  if x.busy then s
  else if ¬ x.bound then s.fpDone c fp 3
  else if x.producer ≠ producer ∨ x.held.isSome ≠ held then s.fpDone c fp 4
  else f s

/-- A cell is taken into the buffer, or the TAKE goes on waiting (R459, R460). -/
def State.fpTake (s : State) (c : Fin 4) (fp : Fin 16) : State :=
  let f := (s.fp c fp).flowNo
  if ¬ s.mayBind c f false then s.fpDone c fp 1
  else match s.waitingFor c f with
  | [] => s.modFp c fp fun y => { y with busy := true, wait := some 1 }
  | cell :: _ =>
    match cell.ue with
    | some w =>
      let s := s.storeUe cell.idx w
      let s := if (s.flow f).cells.any (fun y => y.idx == cell.idx) then s.dropCell f cell.idx else s
      s.fpDone c fp 5
    | none =>
      (((s.correct f cell).modFlow f fun y =>
          { y with cells := y.cells.filter (fun z => z.idx != cell.idx), loose := y.loose ++ [cell.idx] }).modFp
        c fp fun y => { y with held := some { cell with ce := [] }, buf := Mem.writeN 0 [] 0 cell.bytes }).fpDone c fp 0

/-- A cell is claimed and the buffer cleared (R459). -/
def State.fpClaim (s : State) (c : Fin 4) (fp : Fin 16) : Option State :=
  (s.takeCell (s.fp c fp).flowNo).map fun (i, s) =>
    (s.modFp c fp fun y => { y with held := some { idx := i }, buf := [] }).fpDone c fp 0

/-- TAKE (R459, R460, R462). -/
def execTake (c : Fin 4) (fp : Fin 16) (s : State) : Res := .next (s.fpCmd c fp false false fun s => s.fpTake c fp)

/-- The held cell is freed. -/
def State.fpFree (s : State) (c : Fin 4) (fp : Fin 16) (r : Nat) : State :=
  match (s.fp c fp).held with
  | some cell => ((s.freeCell (s.fp c fp).flowNo cell.idx).modFp c fp fun y => { y with held := none }).fpDone c fp r
  | none => s.fpDone c fp 4

/-- RELEASE (R459). -/
def execRelease (c : Fin 4) (fp : Fin 16) (s : State) : Res := .next (s.fpCmd c fp false true fun s => s.fpFree c fp 0)

/-- ABANDON (R459). -/
def execAbandon (c : Fin 4) (fp : Fin 16) (s : State) : Res := .next (s.fpCmd c fp true true fun s => s.fpFree c fp 0)

/-- ALLOC (R459): a cell is claimed after the producers that wait already (03 R76, R77). -/
def execAlloc (c : Fin 4) (fp : Fin 16) (s : State) : Res :=
  .next (s.fpCmd c fp true false fun s =>
    let f := (s.fp c fp).flowNo
    match (if (s.flow f).waiters.isEmpty then s.fpClaim c fp else none) with
    | some s => s
    | none => (s.wait f (.flowPort c fp)).modFp c fp fun y => { y with busy := true, wait := some 3 })

/-- The address, the lengths and the flags of an item are within Table 17-4. -/
def twiOk (bus flags addr wlen rlen : Nat) : Bool :=
  decide (bus ≤ 3 ∧ flags ≤ 1 ∧ addr < (if flags = 1 then 1024 else 128) ∧ wlen ≤ 224 ∧ rlen ≤ 208 ∧ 0 < wlen + rlen)

/-- A core's two-wire item for a bus (17 Table 17-4, R483). -/
def coreItem (c : Fin 4) (bus : Nat) (b : List Byte) : TwItem :=
  let wlen := getLE b 4 2
  { core := some c, addr10 := (getLE b 1 1).testBit 0, addr := BitVec.ofNat 16 (getLE b 2 2), wlen, rlen := getLE b 6 2
    wdata := getBytes b 32 (min wlen 224), tag := BitVec.ofNat 32 (getLE b 8 4)
    bad := !(twiOk (getLE b 0 1) (getLE b 1 1) (getLE b 2 2) wlen (getLE b 6 2) && getLE b 0 1 == bus && (getBytes b 12 20).all (· == 0)) }

/-- COMMIT (R459, R462): the held cell joins its flow; a WMSG cell gets SRC and TIME, and one for no core is freed. -/
def execCommit (c : Fin 4) (fp : Fin 16) (s : State) : Res :=
  .next (s.fpCmd c fp true true fun s =>
    let x := s.fp c fp
    let f := x.flowNo
    let b := x.buf.readN 0 0 256
    match x.held with
    | none => s.fpDone c fp 4
    | some cell =>
      let put (r : Payload) : State :=
        ((s.queueCell f { cell with pay := [r] }).modFp c fp fun y => { y with held := none }).fpDone c fp 0
      if f = fWmsg then
        (if 3 < getLE b 0 1 then s.fpFree c fp 7 else put (.bytes (putLE (putLE b 1 1 c.val) 8 8 s.now.toNat)))
      else if 0x71 ≤ f then put (.tw (coreItem c (f - 0x71) b))
      else put (.bytes b))

/-- CANCEL (R459): a TAKE or ALLOC that still waits ends. -/
def execCancel (c : Fin 4) (fp : Fin 16) (s : State) : Res :=
  .next (
    let x := s.fp c fp
    if x.wait.isSome then
      (s.modFlow x.flowNo fun y => { y with waiters := y.waiters.filter (· ≠ .flowPort c fp) }).fpDone c fp 6
    else if ¬ x.bound then s.fpDone c fp 3 else s.fpDone c fp 4)

/-- FLOW_PORT_WAIT_DONE (R459): a waiting TAKE finds a cell, or a waiting ALLOC, first in line, finds credit. -/
def execFlowPortWaitDone (c : Fin 4) (fp : Fin 16) (s : State) : Res :=
  .next (
    let x := s.fp c fp
    if x.wait = some 1 then s.fpTake c fp
    else if x.wait = some 3 ∧ (s.flow x.flowNo).waiters.head? = some (.flowPort c fp) then
      match s.fpClaim c fp with
      | some s => s.modFlow x.flowNo fun y => { y with waiters := y.waiters.drop 1 }
      | none => s
    else s)

/-- PORTMAP_APPLIED (R446): a new assignment takes effect once the port's VDM flows are empty; the old core's bindings to them
end, and its next command on them, a waiting one at once, completes NOT_BOUND. -/
def execPortmapApplied (p : PortId) (s : State) : Res :=
  .next (
    let i := 2 * p.val
    let new := s.wvl.portmap.fld (i + 1) i
    let old := s.assigned p
    let empty (f : Nat) : Bool := (s.flow f).held == 0
    if new = old ∨ ¬ empty (fVdmRx p) ∨ ¬ empty (fVdmTx p) then s
    else
      let c : Fin 4 := Fin.ofNat 4 old
      let l := (List.finRange 16).filter fun x => (s.fp c x).bound && ((s.fp c x).flowNo == fVdmRx p || (s.fp c x).flowNo == fVdmTx p)
      let s := l.foldl (fun s x => let b := (s.fp c x).busy; let s := s.unbind c [x]; if b then s.fpDone c x 3 else s) s
      ({ s with wvl := { s.wvl with mapNow := s.wvl.mapNow.put (i + 1) i new } }).eventD 0x0904 [(24, 1, p.val), (25, 1, old), (26, 1, new)])

end Sys2Proof.Machine
end

