-- ==== Sys2Proof/Machine/P256.lean ====
section
/-! DEFINITION. ECDSA over the curve P-256 for the crypto engine and the package signature (16 Table 16-20, 18 R499; the
published standard and its constants are PRESUMED, notes/assumptions/7). -/

set_option linter.unusedVariables false

namespace Sys2Proof.P256

def p : Nat := 0xFFFFFFFF00000001000000000000000000000000FFFFFFFFFFFFFFFFFFFFFFFF
def n : Nat := 0xFFFFFFFF00000000FFFFFFFFFFFFFFFFBCE6FAADA7179E84F3B9CAC2FC632551
def b : Nat := 0x5AC635D8AA3A93E7B3EBBD55769886BC651D06B0CC53B0F63BCE3C3E27D2604B
def gx : Nat := 0x6B17D1F2E12C4247F8BCE6E563A440F277037D812DEB33A0F4A13945D898C296
def gy : Nat := 0x4FE342E2FE1A7F9B8EE7EB4A7C0F9E162BCE33576B315ECECBB6406837BF51F5

/-- A power modulo `m` by `k` squarings. -/
def powMod (m : Nat) : Nat → Nat → Nat → Nat
  | 0, _, _ => 1
  | k + 1, a, e => (if e % 2 = 1 then a else 1) * powMod m k (a * a % m) (e / 2) % m

/-- The inverse modulo a prime. -/
def inv (m a : Nat) : Nat := powMod m 256 (a % m) (m - 2)

/-- A point; none is the point at infinity. -/
abbrev Pt := Option (Nat × Nat)

/-- The difference modulo the field's prime. -/
def subP (a b : Nat) : Nat := (a + p - b % p) % p

def add : Pt → Pt → Pt
  | none, q => q
  | q, none => q
  | some (x1, y1), some (x2, y2) =>
    if x1 = x2 then
      if y1 = y2 ∧ y1 ≠ 0 then
        let l := subP (3 * x1 * x1) 3 * inv p (2 * y1) % p
        let x := subP (subP (l * l) x1) x2
        some (x, subP (l * subP x1 x) y1)
      else none
    else
      let l := subP y2 y1 * inv p (subP x2 x1) % p
      let x := subP (subP (l * l) x1) x2
      some (x, subP (l * subP x1 x) y1)

/-- A multiple of a point by `k` doublings. -/
def mul : Nat → Nat → Pt → Pt
  | 0, _, _ => none
  | k + 1, e, q => let r := mul k (e / 2) (add q q); if e % 2 = 1 then add q r else r

def onCurve (x y : Nat) : Bool := decide (x < p) && decide (y < p) && y * y % p == (x * x * x + (p - 3) * x + b) % p

/-- Verification of a signature r, s of a hash by a public key X, Y. -/
def verify (hash x y r s : Nat) : Bool :=
  if r = 0 ∨ n ≤ r ∨ s = 0 ∨ n ≤ s ∨ ¬ onCurve x y then false
  else
    let w := inv n s
    match add (mul 256 (hash * w % n) (some (gx, gy))) (mul 256 (r * w % n) (some (x, y))) with
    | none => false
    | some (v, _) => v % n == r

/-- The signature of a hash by a private key with a nonce. -/
def sign (hash d k : Nat) : Nat × Nat :=
  match mul 256 (k % n) (some (gx, gy)) with
  | none => (0, 0)
  | some (x, _) => (x % n, inv n k * (hash + x % n * d) % n)

end Sys2Proof.P256
end

