-- ==== Sys2Proof/Machine/CryptoEng.lean ====
section
/-! DEFINITION. The crypto engine (16 R465, Tables 16-19, 16-20): the contexts of the cores, jobs in round-robin order, and
their results in shared RAM. -/

set_option linter.unusedVariables false

namespace Sys2Proof

/-- OP of Table 16-20, CONT, FINAL and the key slot of CX_OP. -/
def CxJob.kind (j : CxJob) : Nat := j.op.fld 3 0
def CxJob.slot (j : CxJob) : Nat := j.op.fld 10 8

/-- Bytes that a job reads at CX_SRC and at CX_AUX, and writes at CX_DST. -/
def CxJob.reads (j : CxJob) : List (Word × Nat) :=
  let n := j.len.toNat
  match j.kind with
  | 1 => [(j.src, n)]
  | 2 => [(j.src, 32), (j.aux, 64), (j.dst, 64)]
  | 3 => [(j.src, 32)]
  | 4 | 5 | 6 => [(j.src, n), (j.aux, 16)]
  | _ => []

def CxJob.writes (j : CxJob) : Nat :=
  match j.kind with
  | 1 => if j.op.bit 5 then 32 else 0
  | 3 => 64
  | 4 | 5 | 6 | 7 => j.len.toNat
  | _ => 0

/-- A byte string lies in shared RAM (16 Table 16-2). -/
def inShared (a : Word) (n : Nat) : Bool := decide (0x20000000 ≤ a.toNat ∧ a.toNat + n ≤ 0x20080000)

end Sys2Proof

namespace Sys2Proof.Machine

/-- Bytes of shared RAM; addresses count from its base. -/
def State.shRead (s : State) (a : Word) (n : Nat) : List Byte := s.wvl.shared.readN 0 (a.toNat - 0x20000000) n
def State.shWrite (s : State) (a : Word) (b : List Byte) : State :=
  { s with wvl := { s.wvl with shared := s.wvl.shared.writeN 0 (a.toNat - 0x20000000) b } }

def State.modCx (s : State) (c : Fin 4) (f : Crypto → Crypto) : State := s.modCore c fun k => { k with cx := f k.cx }

/-- A bad operand: an address outside shared RAM, a length, an empty key slot, or no operation (Table 16-19). -/
def State.cxBad (s : State) (j : CxJob) : Bool :=
  let n := j.len.toNat
  let k := j.kind
  k == 0 || decide (7 < k) || !(j.reads.all fun r => inShared r.1 r.2) || (decide (0 < j.writes) && !inShared j.dst j.writes)
    || (decide (3 ≤ k ∧ k ≤ 6) && (s.wvl.keys[j.slot]?.getD none).isNone)
    || (decide (4 ≤ k ∧ k ≤ 6) && n % 16 != 0) || (k == 7 && (n == 0 || decide (256 < n)))

/-- CX_GO (Table 16-19): ignored while BUSY; the job waits for the engine, or takes it. -/
def State.cxGo (s : State) (c : Fin 4) : State :=
  let x := (s.core c).cx
  if x.busy then s
  else
    let s := s.modCx c fun x => { x with busy := true, done := false
                                         job := some { op := x.op, src := x.src, len := x.len, dst := x.dst, aux := x.aux } }
    if s.wvl.engine.isNone then { s with wvl := { s.wvl with engine := some c } } else s

/-- The next waiting context in round-robin order takes the engine (R465). -/
def State.cxNext (s : State) (c : Fin 4) : State :=
  { s with wvl := { s.wvl with
      engine := ([c + 1, c + 2, c + 3, c].find? fun k => (s.core k).cx.job.isSome), rr := c.val } }

/-- `n` bytes of undefined value at CX_DST, at most `fuel` draws of 32. -/
def State.freeBytes (s : State) (a : Word) : Nat → Nat → State
  | 0, _ => s
  | k + 1, n =>
    let (v, s) := s.draw
    State.freeBytes (s.shWrite a ((leBytes 32 v.toNat).take n)) (a + 32) k (n - 32)

/-- A core reset cancels its context's job, and its destination is left undefined (R465). -/
def State.cxCancel (s : State) (c : Fin 4) : State :=
  match (s.core c).cx.job with
  | none => s
  | some j =>
    let s := if s.cxBad j then s else s.freeBytes j.dst (j.writes / 32 + 1) j.writes
    let s := s.modCx c fun x => { x with job := none, busy := false }
    if s.wvl.engine = some c then s.cxNext c else s

/-- SHA-256 over more bytes: hash state, bytes hashed before, tail (Table 16-19 CONT, FINAL). -/
def Crypto.shaJob (x : Crypto) (cont : Bool) (b : List Byte) : ShaSt × Nat × List Byte :=
  let h := x.hash
  let st : ShaSt := if cont then { a := h[0], b := h[1], c := h[2], d := h[3], e := h[4], f := h[5], g := h[6], h := h[7] } else shaInit
  let all := (if cont then x.tail else []) ++ b
  let n := all.length / 64
  (shaBlocks n st all, (if cont then x.hashed else 0) + b.length, all.drop (64 * n))

def ShaSt.words (t : ShaSt) : Vector Word 8 := #v[t.a, t.b, t.c, t.d, t.e, t.f, t.g, t.h]

/-- The result of a job with sound operands: the code of CX_STAT and the state (Table 16-20). -/
def State.cxRun (s : State) (c : Fin 4) (j : CxJob) : Nat × State :=
  let src := s.shRead j.src
  let key := (((s.wvl.keys[j.slot]?.getD none).getD 0)).toNat
  let aes := (beBytes 32 key).take 16
  let blocks := blocksOf (j.len.toNat / 16) (src j.len.toNat)
  let iv := s.shRead j.aux 16
  match j.kind with
  | 1 =>
    let (t, n, tail) := (s.core c).cx.shaJob (j.op.bit 4) (src j.len.toNat)
    let s := s.modCx c fun x => { x with hash := ShaSt.words t, hashed := n, tail }
    if j.op.bit 5 then
      let p := shaPad n tail
      (0, s.shWrite j.dst (shaBlocks (p.length / 64) t p).bytes)
    else (0, s)
  | 2 =>
    let k := s.shRead j.aux 64
    let g := s.shRead j.dst 64
    (if P256.verify (beVal (src 32)) (beVal (k.take 32)) (beVal (k.drop 32)) (beVal (g.take 32)) (beVal (g.drop 32)) then 0 else 1, s)
  | 3 =>
    let g := P256.sign (beVal (src 32)) key (Config.nonce s.fresh)
    (0, ({ s with fresh := s.fresh + 1 }).shWrite j.dst (beBytes 32 g.1 ++ beBytes 32 g.2))
  | 4 => (0, s.shWrite j.dst (aesCtr aes iv blocks))
  | 5 => (0, s.shWrite j.dst (aesCbcEnc aes iv blocks))
  | 6 => (0, s.shWrite j.dst (aesCbcDec aes iv blocks))
  | 7 =>
    let n := j.len.toNat
    (0, ({ s with fresh := s.fresh + n }).shWrite j.dst ((List.range n).map fun i => Config.randomByte (s.fresh + i)))
  | _ => (2, s)

/-- CRYPTO_JOB_DONE (R465): the engine's job ends, with an error of the memory or not; the next waiting context follows. -/
def execCryptoJobDone (err : Bool) (s : State) : Res :=
  .next (
    match s.wvl.engine with
    | none => s
    | some c =>
      match (s.core c).cx.job with
      | none => s.cxNext c
      | some j =>
        let (r, s) := if s.cxBad j then (2, s) else if err then (3, s) else s.cxRun c j
        (s.modCx c fun x => { x with busy := false, done := true, res := BitVec.ofNat 2 r, job := none }).cxNext c)

/-- A core sets OP, CONT, FINAL and the key slot of its context and writes CX_GO; only a core that runs does. -/
def State.cxStart (s : State) (c : Fin 4) (op slot : Nat) (cont final : Bool) : State :=
  if s.executes c then
    (s.modCx c fun x => { x with op := BitVec.ofNat 32 (op + 16 * b2n cont + 32 * b2n final + 256 * slot) }).cxGo c
  else s

/-- SHA256 (Table 16-20 OP 1). -/
def execSha256 (c : Fin 4) (cont final : Bool) (s : State) : Res := .next (s.cxStart c 1 0 cont final)
/-- ECDSA_VERIFY (OP 2). -/
def execEcdsaVerify (c : Fin 4) (slot : BitVec 3) (s : State) : Res := .next (s.cxStart c 2 slot.toNat false false)
/-- ECDSA_SIGN (OP 3). -/
def execEcdsaSign (c : Fin 4) (slot : BitVec 3) (s : State) : Res := .next (s.cxStart c 3 slot.toNat false false)
/-- AES_CTR (OP 4). -/
def execAesCtr (c : Fin 4) (slot : BitVec 3) (s : State) : Res := .next (s.cxStart c 4 slot.toNat false false)
/-- AES_CBC_ENCRYPT (OP 5). -/
def execAesCbcEncrypt (c : Fin 4) (slot : BitVec 3) (s : State) : Res := .next (s.cxStart c 5 slot.toNat false false)
/-- AES_CBC_DECRYPT (OP 6). -/
def execAesCbcDecrypt (c : Fin 4) (slot : BitVec 3) (s : State) : Res := .next (s.cxStart c 6 slot.toNat false false)
/-- RANDOM (OP 7). -/
def execRandom (c : Fin 4) (s : State) : Res := .next (s.cxStart c 7 0 false false)

end Sys2Proof.Machine
end

