-- ==== Sys2Proof/Machine/ImgPkg.lean ====
section
/-! DEFINITION. Update packages (18): flash slots, the manifest, settings copies, verification, and the delivery of packages by
IMG_BLOCK (R495 to R502). -/

set_option linter.unusedVariables false

namespace Sys2Proof.Machine

/-! ### Flash regions (18 Table 18-1) -/

/-- Start and size of a slot: kind 0 code, 1 Pod, 2 settings; slot A or B. -/
def slotAt (kind : Nat) (b : Bool) : Nat × Nat :=
  if kind = 0 then (0x10000 + 0x200000 * b2n b, 0x200000)
  else if kind = 1 then (0x410000 + 0x80000 * b2n b, 0x80000)
  else (0x510000 + 0x40000 * b2n b, 0x40000)

/-- Where the image of a core stands in a code slot, after the manifest (notes/assumptions/12). -/
def imageAt (b : Bool) (c : Nat) : Nat := (slotAt 0 b).1 + 0x200 + 0x20000 * c

def State.modImg (s : State) (f : ImgState → ImgState) : State := { s with img := f s.img }

/-- Bytes of flash; an erased byte is 0xFF. -/
def ImgState.read (m : ImgState) (a n : Nat) : List Byte := m.flash.readN 0xFF a n

/-- A slot erased. -/
def ImgState.erase (m : ImgState) (kind : Nat) (b : Bool) : ImgState :=
  let r := slotAt kind b
  { m with flash := m.flash.filter fun c => !(decide (r.1 ≤ c.1) && decide (c.1 < r.1 + r.2)) }

def ImgState.program (m : ImgState) (a : Nat) (bs : List Byte) : ImgState := { m with flash := m.flash.writeN 0xFF a bs }

/-! ### Candidates and active slots (R496) -/

/-- The active slot of a kind is B. -/
def ImgState.activeB (m : ImgState) (kind : Nat) : Bool :=
  if kind = 0 then m.codeB else if kind = 1 then m.podB else m.setB

/-- The candidate state of a kind: 0 NONE, 1 STAGED, 2 TRIAL. -/
def ImgState.candOf (m : ImgState) (kind : Nat) : Nat :=
  (if kind = 0 then m.cand.code else if kind = 1 then m.cand.pod else m.cand.sett).toNat

def ImgState.setCand (m : ImgState) (kind v : Nat) : ImgState :=
  let w : BitVec 2 := BitVec.ofNat 2 v
  { m with cand := if kind = 0 then { m.cand with code := w } else if kind = 1 then { m.cand with pod := w } else { m.cand with sett := w } }

/-- The kinds in a candidate state, as KINDS. -/
def ImgState.kindsIn (m : ImgState) (v : Nat) : Nat :=
  (List.range 3).foldl (fun a k => a + (if m.candOf k = v then 2 ^ k else 0)) 0

def ImgState.inTrial (m : ImgState) : Bool := m.kindsIn 2 != 0

/-- The slot of a kind that runs: the candidate's in a trial. -/
def ImgState.runB (m : ImgState) (kind : Nat) : Bool := if m.candOf kind = 2 then !m.activeB kind else m.activeB kind

/-- A directory write: one generation more (R496). -/
def ImgState.dirWrite (m : ImgState) : ImgState := { m with dirGen := m.dirGen + 1 }

/-! ### Manifest (R497, Table 18-2) -/

/-- A component entry. -/
structure Comp where
  typ : Nat
  off : Nat
  len : Nat
  sha : List Byte
  zeros : Bool
  deriving DecidableEq, Repr

def compsOf (m : List Byte) : List Comp :=
  (List.range 6).map fun i =>
    let a := 64 + 48 * i
    { typ := getLE m a 1, off := getLE m (a + 4) 4, len := getLE m (a + 8) 4, sha := getBytes m (a + 16) 32
      zeros := getLE m (a + 1) 3 == 0 && getLE m (a + 12) 4 == 0 }

def Comp.apart (x y : Comp) : Bool := decide (x.off + x.len ≤ y.off ∨ y.off + y.len ≤ x.off)

/-- No two components of a list overlap. -/
def apartAll : List Comp → Bool
  | [] => true
  | x :: r => r.all x.apart && apartAll r

/-- Fields of a manifest. -/
def mKinds (m : List Byte) : Nat := getLE m 5 1
def mLen (m : List Byte) : Nat := getLE m 20 4
def mVersion (m : List Byte) : Nat := getLE m 12 4
def mSec (m : List Byte) : Nat := getLE m 10 2

/-- Row 1 of Table 18-4: MAGIC, PKG_FORMAT, KINDS, reserved bytes and the component table (R497, R498). -/
def manifestOk (m : List Byte) : Bool :=
  let k := mKinds m
  let cs := (compsOf m).filter (·.typ != 0)
  let count (t : Nat) : Nat := (cs.filter (·.typ == t)).length
  getBytes m 0 4 == [0x56, 0x58, 0x50, 0x4B] && getLE m 4 1 == 1 && k != 0 && decide (k < 8)
    && (getBytes m 36 28).all (· == 0) && (getBytes m 353 95).all (· == 0)
    && decide (512 ≤ mLen m ∧ mLen m ≤ 1049088)
    && (compsOf m).all (·.zeros)
    && cs.all (fun c => decide (c.typ ≤ 6) && c.off % 512 == 0 && decide (512 ≤ c.off ∧ c.off + c.len ≤ mLen m)
        && (4 < c.typ || decide (4 ≤ c.len ∧ c.len ≤ 131072)) && (c.typ != 5 || c.len == 262144))
    && apartAll cs
    && [1, 2, 3, 4].all (fun t => count t == b2n (k.testBit 0)) && count 5 == b2n (k.testBit 1) && count 6 == b2n (k.testBit 2)

/-- The bytes of a component. -/
def compBytes (pkg : List Byte) (typ : Nat) : List Byte :=
  match (compsOf pkg).find? (·.typ == typ) with
  | some c => getBytes pkg c.off c.len
  | none => []

/-- Row 2: the signature over the SHA-256 of bytes 0 to 447, by the fused key that KEYSLOT names (R499). -/
def signatureOk (m : List Byte) : Bool :=
  let k := getLE m 352 1
  match (if k ≤ 1 then Config.fusedKey k else none) with
  | some (x, y) => P256.verify (beVal (sha256 (getBytes m 0 448))) x y (beVal (getBytes m 448 32)) (beVal (getBytes m 480 32))
  | none => false

/-- A byte string in pieces of `k` bytes. -/
def chunks (k : Nat) : Nat → List Byte → List (List Byte)
  | 0, _ => []
  | n + 1, bs => bs.take k :: chunks k n (bs.drop k)

/-- The non-empty slots of a Pod image (R498). -/
def podSlots (bs : List Byte) : List (Nat × PodEntry) :=
  ((chunks 64 4096 bs).zipIdx.filter fun x => x.1.any (· != 0)).map fun x => (x.2, { bytes := x.1 })

/-- Row 4: every slot passes Table 8-3, among the slots of the image. -/
def podImageOk (t : PodState) (l : List (Nat × PodEntry)) : Bool := l.all fun x => { t with slots := l }.check x.1 x.2 == 0

/-! ### Settings (R508 to R510) -/

/-- The data length that a tag demands (Table 18-7). -/
def lenSuits (tag len : Nat) : Bool :=
  if tag = 1 then len == 4
  else if tag = 2 then len % 8 == 0 && decide (len ≤ 4096)
  else if 0x10 ≤ tag ∧ tag < 0x20 then len == 8
  else if 0x20 ≤ tag ∧ tag < 0x28 then len == 64
  else if 0x30 ≤ tag ∧ tag < 0x38 then len == 32
  else true

/-- The records of a well-formed copy, or of a component, where LEN 0 deletes a tag (R508). -/
def setRecs (component : Bool) : Nat → List Byte → Option (List (Nat × List Byte))
  | 0, bs => if bs.isEmpty then some [] else none
  | n + 1, bs =>
    if bs.isEmpty then some []
    else
      let tag := getLE bs 0 2
      let len := getLE bs 2 2
      let pad := (len + 3) / 4 * 4
      if bs.length < 4 + pad ∨ ¬ (lenSuits tag len ∨ (component ∧ len = 0)) then none
      else (setRecs component n (bs.drop (4 + pad))).map fun r => (tag, getBytes bs 4 len) :: r

def parseSettings (component : Bool) (bs : List Byte) : Option (List (Nat × List Byte)) := setRecs component bs.length bs

/-- Records as bytes, padded with 0. -/
def recBytes (l : List (Nat × List Byte)) : List Byte :=
  l.flatMap fun x => leBytes 2 x.1 ++ leBytes 2 x.2.length ++ getBytes x.2 0 ((x.2.length + 3) / 4 * 4)

/-- A settings copy: header, records and CRC-32 (R508). -/
def copyBytes (format gen : Nat) (l : List (Nat × List Byte)) : List Byte :=
  let b := [0x56, 0x58, 0x53, 0x54] ++ leBytes 4 (format % 256) ++ leBytes 4 (recBytes l).length ++ leBytes 4 gen ++ recBytes l
  b ++ leBytes 4 (crc32 b).toNat

/-- An intact copy in flash: its format, generation and records. -/
def ImgState.readCopy (m : ImgState) (b : Bool) : Option (Nat × Nat × List (Nat × List Byte)) :=
  let r := slotAt 2 b
  let h := m.read r.1 16
  let n := getLE h 8 4
  if getBytes h 0 4 ≠ [0x56, 0x58, 0x53, 0x54] ∨ getLE h 5 3 ≠ 0 ∨ r.2 < n + 20 then none
  else
    let bs := m.read r.1 (16 + n)
    if leVal (m.read (r.1 + 16 + n) 4) ≠ (crc32 bs).toNat then none
    else (parseSettings false (bs.drop 16)).map fun l => (getLE h 4 1, getLE h 12 4, l)

/-- A component merged into records: a record replaces its tag, and one with LEN 0 deletes it (R509). -/
def mergeSettings (l c : List (Nat × List Byte)) : List (Nat × List Byte) :=
  c.foldl (fun l x =>
    if x.2.isEmpty then l.filter (·.1 != x.1)
    else if l.any (·.1 == x.1) then l.map fun y => if y.1 = x.1 then x else y
    else l ++ [x]) l

/-- The pairs of tag 2, offset and value (Table 18-7). -/
def settingPairs (l : List (Nat × List Byte)) : List (Nat × Word) :=
  l.flatMap fun x =>
    if x.1 = 2 then (chunks 8 (x.2.length / 8) x.2).map fun b => (getLE b 0 4, BitVec.ofNat 32 (getLE b 4 4)) else []

/-- The settings of a copy come into force; with none intact, the empty copy of format 1 (R581). -/
def ImgState.takeCopy (m : ImgState) (b : Bool) : ImgState :=
  match m.readCopy b with
  | some (f, _, l) => { m with settings := l, setFormat := BitVec.ofNat 8 f }
  | none => { m with settings := [], setFormat := 1 }

/-! ### The running set -/

/-- A manifest held at an address of flash; one of zeros where none stands (a factory set without a package, notes/assumptions/12). -/
def ImgState.manifestAt (m : ImgState) (a : Nat) : List Byte :=
  let b := m.read a 512
  if getBytes b 0 4 = [0x56, 0x58, 0x50, 0x4B] then b else List.replicate 512 0

/-- The manifest of the code slot that runs. -/
def ImgState.running (m : ImgState) : List Byte := m.manifestAt (slotAt 0 (m.runB 0)).1

def between (x lo hi : Nat) : Bool := decide (lo ≤ x ∧ x ≤ hi)

/-- A row of Table 18-5 holds for a package's manifest, with the Pod entries to be in force. In a rescue boot no code runs, so
rows 2 and 4 have nothing to compare with (notes/assumptions/12). -/
def State.compatible (s : State) (m : List Byte) (pods : List PodEntry) (row : Nat) : Bool :=
  let r := s.img.running
  if row = 1 then getLE m 6 2 == 0x1648 && between Config.stepping.toNat (getLE m 8 1) (getLE m 9 1)
  else if row = 2 then s.rst.rescue || decide (getLE m 16 4 ≤ mVersion r)
  else if row = 3 then between s.img.setFormat.toNat (getLE m 30 1) (getLE m 31 1)
  else if row = 4 then
    s.rst.rescue || (between (getLE r 33 1) (getLE m 34 1) (getLE m 35 1) && between (getLE m 33 1) (getLE r 34 1) (getLE r 35 1))
  else if row = 5 then pods.all fun e => between e.ver (getLE m 28 1) (getLE m 29 1)
  else if row = 6 then
    let any := s.hif.sq.toList.any (·.st != .absent) || s.hif.cq.toList.any (·.st != .absent) || s.hif.eq.st != .absent
    !any || between s.hif.ringSel.toNat (getLE m 24 1) (getLE m 25 1)
  else between s.twi.tver.toNat (getLE m 26 1) (getLE m 27 1)

/-- The first row of Table 18-4 that a package fails, 0 for none (R502). -/
def State.integrity (s : State) (pkg : List Byte) : Nat :=
  let m := getBytes pkg 0 512
  let has (k : Nat) : Bool := (mKinds m).testBit k
  if ¬ manifestOk m then 1
  else if ¬ signatureOk m then 2
  else if ((compsOf m).filter (·.typ != 0)).any fun c => sha256 (getBytes pkg c.off c.len) != c.sha then 3
  else if has 1 && !podImageOk s.pod (podSlots (compBytes pkg 5)) then 4
  else if has 2 && (parseSettings true (compBytes pkg 6)).isNone then 5
  else if mSec m < s.img.secFloor.toNat then 6
  else 0

/-! ### Delivery and verification (R500 to R502) -/

/-- Package bytes held. -/
def XferState.received (x : XferState) : Nat := x.pages.foldl (fun a k => a + min 4096 (x.len - 4096 * k)) 0

/-- The result of IMG_BLOCK (Table 18-3). -/
def State.blockResult (s : State) (reason : Nat) (received : Nat) : Quad :=
  evData [(24, 4, received), (28, 1, s.img.xferSt.toNat), (29, 1, reason)]

/-- The candidate slots of the kinds are erased and no longer hold anything (R500, R502). -/
def State.eraseKinds (s : State) (kinds : Nat) : State :=
  s.modImg fun m => (List.range 3).foldl (fun m k =>
    if kinds.testBit k then
      let m := (m.erase k (!m.activeB k)).setCand k 0
      if k = 0 then { m with prevOk := false } else m
    else m) m

/-- The candidate slots hold the package: manifest and images, manifest copy and Pod image, and the merged settings (R497,
R509, Table 18-1). -/
def State.stage (s : State) (pkg : List Byte) : State :=
  let man := getBytes pkg 0 512
  let k := mKinds man
  s.modImg fun m =>
    let m := if k.testBit 0 then
      let b := !m.codeB
      let m := [0, 1, 2, 3].foldl (fun m c => m.program (imageAt b c) (compBytes pkg (c + 1))) (m.program (slotAt 0 b).1 man)
      { m.setCand 0 1 with mans := m.mans.set 0 man } else m
    let m := if k.testBit 1 then
      let m := m.program (slotAt 1 !m.podB).1 (man ++ compBytes pkg 5)
      { m.setCand 1 1 with mans := m.mans.set 1 man } else m
    if k.testBit 2 then
      let l := mergeSettings m.settings ((parseSettings true (compBytes pkg 6)).getD [])
      let gen := ((m.readCopy m.setB).map fun x => x.2.1).getD 0
      let m := m.program (slotAt 2 !m.setB).1 (copyBytes m.setFormat.toNat (gen + 1) l)
      { m.setCand 2 1 with mans := m.mans.set 2 man } else m

/-- PACKAGE_VERIFY (R502): Tables 18-4 and 18-5 in row order; the status of the block that completed the package and its
REASON, with the records. -/
def State.verifyPackage (s : State) (id : Word) (pkg : List Byte) : State × Nat × Nat :=
  let man := getBytes pkg 0 512
  let k := mKinds man
  let shut (s : State) : State := (s.eraseKinds k).modImg fun m => { m with xfer := none, xferSt := 0 }
  let fail (table row : Nat) : State :=
    (shut s).eventD 0x0B01 [(24, 1, table), (25, 1, row), (28, 4, id.toNat)]
  let r := s.integrity pkg
  if r ≠ 0 then (fail 4 r, if r = 6 then 0x0093 else stImageInvalid, if r = 6 then 0 else r)
  else
    let pods := if k.testBit 1 then (podSlots (compBytes pkg 5)).map (·.2) else s.pod.slots.map (·.2)
    match [1, 2, 3, 4, 5].find? fun row => !s.compatible man pods row with
    | some row => (fail 5 row, stImageIncompatible, row)
    | none =>
      let s := (s.stage pkg).modImg fun m => { m with xfer := none, xferSt := 3 }
      (s.eventD 0x0B00 [(24, 1, k), (28, 4, mVersion man)], stOk, 0)

/-- The pages of 4,096 bytes that a block fills. -/
def pagesOf (off len : Nat) : List Nat := (List.range ((len + 4095) / 4096)).map (off / 4096 + ·)

/-- A byte of a block agrees with what the transfer holds there, or nothing is held there. -/
def XferState.agrees (x : XferState) (off : Nat) (b : List Byte) : Bool :=
  b.zipIdx.all fun y => !x.pages.contains ((off + y.2) / 4096) || x.held.read 0 (off + y.2) == y.1

/-- A block of an open transfer (R500, R501). -/
def State.writeBlock (s : State) (d : Desc) (x : XferState) (off : Nat) (b : List Byte) (fails : Nat) : State :=
  let got := s.blockResult 0 x.received
  if x.len < off + b.length then s.finish d 0x0091 got
  else if b.length % 4096 ≠ 0 ∧ off + b.length ≠ x.len then s.finish d stBadParam 0
  else if ¬ x.agrees off b then s.finish d 0x0091 got
  else if (pagesOf off b.length).all x.pages.contains then s.finish d stOk got
  else if 3 ≤ fails then
    let s := s.modImg fun m => { m with xfer := none, xferSt := 0 }
    s.finish d 0x0092 (s.blockResult 0 0)
  else
    let x := { x with held := x.held.writeN 0 off b, pages := (pagesOf off b.length).foldl (fun l k => insertNew k l) x.pages, tries := fails }
    if x.received < x.len then
      let s := s.modImg fun m => { m with xfer := some x, xferSt := 1 }
      s.finish d stOk (s.blockResult 0 x.received)
    else
      let (s, st, why) := s.verifyPackage x.id (x.held.readN 0 0 x.len)
      s.finish d st (s.blockResult why (if st = stOk then x.len else 0))

/-- A block with OFFSET 0 opens a transfer, abandoning another: blocks of that one still outstanding end, and the candidate
slots of the kinds named are erased (R500, R501). -/
def State.openXfer (s : State) (d : Desc) (id : Word) (b : List Byte) (fails : Nat) : State :=
  let man := getBytes b 0 512
  if mLen man < b.length then s.finish d 0x0091 (s.blockResult 0 (((s.img.xfer).map XferState.received).getD 0))
  else
    let s := match s.img.xfer with
      | some x => s.endWhere (fun (o : OutDesc) => o.d.op == 0x40 && o.ph != DPhase.running && o.d.le 24 4 == x.id.toNat) 0x0090
      | none => s
    let x : XferState := { id, len := mLen man }
    ((s.eraseKinds (mKinds man)).modImg fun m => { m with xfer := some x, xferSt := 1 }).writeBlock d x 0 b fails

/-- No kind is in TRIAL and no activation or fallback is in progress. -/
def ImgState.quiet (m : ImgState) : Bool := m.actStep == 0 && m.falling == 0

/-- W0 takes a block whose cells have passed through IMG (R500). -/
def State.takeBlock (s : State) (d : Desc) (fails : Nat) : State :=
  let off := d.le 16 4
  let id : Word := BitVec.ofNat 32 (d.le 24 4)
  let b := getBytes (((s.outDesc d.sq d.slot).map (·.data)).getD []) 0 (d.le 20 4)
  match s.img.xfer with
  | some x =>
    if x.id = id then s.writeBlock d x off b fails
    else if off = 0 then s.openXfer d id b fails
    else s.finish d 0x0090 (s.blockResult 0 x.received)
  | none => if off = 0 then s.openXfer d id b fails else s.finish d 0x0090 (s.blockResult 0 0)

/-- The cells of a block enter IMG, each waiting where the flow has no credit (03 R76); the block keeps its failed read-backs. -/
def State.queueBlock (s : State) (d : Desc) (fails : Nat) : State :=
  (List.range ((d.le 20 4 + 255) / 256)).foldl (fun s _ => s.sendCell fImg (.desc d)) (s.setAux d fails)

/-- W0 runs again, or credit has returned: it takes the blocks that wait in IMG, the oldest first (03 R77). -/
def State.imgBlocksGo (s : State) : State :=
  if ¬ s.w0Runs then s
  else
    let l := s.hif.table.filter fun o => o.ph == .running && o.d.op == 0x40
    let s := (s.emptyFlow fImg).modFlow fImg fun x => { x with waiters := [] }
    l.foldl (fun s o => match s.outDesc o.d.sq o.d.slot with
      | some o => if o.ph = .running then s.takeBlock o.d o.aux.toNat else s
      | none => s) s

def imgBlockSpec (fails : Nat) : CmdSpec where
  params s d :=
    let off := d.le 16 4
    let len := d.le 20 4
    if ¬ d.onlyAt [(8, 20)] ∨ d.le 8 8 % 256 ≠ 0 ∨ off % 4096 ≠ 0 ∨ len < 1 ∨ 65536 < len ∨ d.le 24 4 = 0 ∨ (off = 0 ∧ len < 512) then
      some stBadParam else none
  legal s d := if s.img.inTrial ∨ ¬ s.img.quiet then some 15 else none
  go s d :=
    match (if s.w0Runs ∧ (s.flow fImg).cells.isEmpty ∧ (s.flow fImg).waiters.isEmpty then s.passCell fImg else none) with
    | some s => s.takeBlock d fails
    | none => s.queueBlock d fails

/-- IMG_BLOCK (R500 to R502), with the block fetched from host memory and the number of failed read-backs. Its cells pass to W0 as
they enter IMG, or wait there while W0 does not run (01 R15, 03 R76). -/
def execImgBlock (d : Desc) (block : List Byte) (fails : Nat) (s : State) : Res :=
  .next ((imgBlockSpec fails).start 0x40 d block s)

end Sys2Proof.Machine
end

