-- ==== Sys2Proof/Machine/CoreCtl.lean ====
section
/-! DEFINITION. The states of the cores (16 R466), their resets and starts (R449, R461), taking an exception (R455) and
entering FAULT (R456, R457), the WVL_ block (R468), signals (R463) and the Pod Table port (R464). -/

set_option linter.unusedVariables false

namespace Sys2Proof.Machine

/-! ### Reset, start and FAULT -/

/-- A core reset (R449, R461, R465, R466): its registers and data RAM return to their reset values; the code RAM, the WVL_
registers of the core and everything outside it stay. -/
def State.coreReset (s : State) (c : Fin 4) : State :=
  let s := (s.unbind c (List.finRange 16)).cxCancel c
  s.modCore c fun k =>
    { pc := if c = 0 then 0xF0000000 else 0, code := k.code, fetchCode := k.code, hold := k.hold, haltReq := k.haltReq
      autoRst := k.autoRst, restarts := k.restarts, finfo := k.finfo, fpc := k.fpc, st := .reset }

/-- W0 runs again: journal closes and then the blocks of a package that have waited for it (01 R15, R16). -/
def State.w0Again (s : State) (c : Fin 4) : State := if c = 0 ∧ s.w0Runs then s.closesFirst.imgBlocksGo else s

/-- A core that has been reset runs, unless HALT stops it at its first boundary (R466). -/
def State.coreRun (s : State) (c : Fin 4) : State :=
  (s.modCore c fun k => { k with st := if k.haltReq then .halted else .run }).w0Again c

/-- A start after a reset, with its record: 1 AUTO_RESTART, 2 the host, 3 W0, 4 HOLD released (R466, R467). -/
def State.coreStart (s : State) (c : Fin 4) (reason : Nat) : State :=
  let s := (s.coreRun c).modCore c fun k => { k with restarts := satInc k.restarts }
  s.eventD 0x0901 [(24, 1, c.val), (25, 1, reason), (26, 1, (s.core c).restarts.toNat)]

/-- A core enters FAULT (R456, R457, R461): 1 double fault, 2 watchdog, 3 uncorrectable fetch. -/
def State.coreFault (s : State) (c : Fin 4) (kind : Nat) : State :=
  let s := (s.unbind c (List.finRange 16)).modCore c fun k =>
    { k with st := .fault, waiting := false, finfo := BitVec.ofNat 32 (k.ecause.fld 7 0 + 256 * kind), fpc := k.epc }
  let k := s.core c
  s.eventD 0x0900 [(24, 1, c.val), (25, 1, k.ecause.fld 7 0), (26, 1, kind), (28, 4, k.epc.toNat)]

/-! ### Taking an exception and returning from one -/

/-- STATUS at exception entry: PIE = IE, PMODE = MODE, IE = 0, MODE = SUPER, EXL = 1 (R455). -/
def enterStatus (st : Word) : Word :=
  ((((st.put 3 3 (b2n (st.bit 0))).put 4 4 (b2n (st.bit 1))).put 0 0 0).put 1 1 0).put 2 2 1

/-- Exception entry (R455): EPC, ECAUSE with its detail, EADDR, STATUS, and VBASE + 16 × the cause. -/
def Core.except (k : Core) (cause detail : Nat) (epc eaddr : Word) : Core :=
  { k with epc, ecause := BitVec.ofNat 32 (cause + 256 * detail), eaddr, status := enterStatus k.status
           pc := k.vbase + BitVec.ofNat 32 (16 * cause) }

/-- Return from an exception (R454). -/
def Core.rfe (k : Core) : Core :=
  let st := k.status
  { k with pc := k.epc &&& 0xFFFFFFFC, status := ((st.put 0 0 (b2n (st.bit 3))).put 1 1 (b2n (st.bit 4))).put 2 2 0 }

/-! ### WVL_ block -/

/-- HOLD (R466): a held core is in RESET; releasing it starts it. W0 has no HOLD. -/
def State.holdCore (s : State) (c : Fin 4) (b : Bool) : State :=
  if c = 0 ∨ (s.core c).hold = b then s
  else if b then (s.modCore c fun k => { k with hold := true }).coreReset c
  else (s.modCore c fun k => { k with hold := false }).coreStart c 4

/-- HALT (R466): the core stops at the next instruction boundary, and resumes as it was when cleared. -/
def State.haltCore (s : State) (c : Fin 4) (b : Bool) : State :=
  let halted := (s.core c).st = .halted
  let s := s.modCore c fun k =>
    let k := { k with haltReq := b }
    if b then (match k.st with
      | .run => { k with st := .halted, waiting := false }
      | .wait => { k with st := .halted, waiting := true }
      | _ => k)
    else if k.st = .halted then { k with st := if k.waiting then .wait else .run, waiting := false } else k
  if halted ∧ ¬ b then s.w0Again c else s

/-- RESTART (R466): the core is reset and, unless it is held, started. -/
def State.restartCore (s : State) (c : Fin 4) (reason : Nat) : State :=
  let s := s.coreReset c
  if (s.core c).hold then s else s.coreStart c reason

/-- WVL_CTRL as read. -/
def State.wvlCtrl (s : State) : Word :=
  BitVec.ofNat 32 ((List.finRange 4).foldl (fun a c =>
    a + (b2n (s.core c).hold + 2 * b2n (s.core c).haltReq + 8 * b2n (s.core c).autoRst) * 256 ^ c.val) 0)

/-- WVL_STAT as read (Table 16-24). -/
def State.wvlStat (s : State) : Word :=
  BitVec.ofNat 32 ((List.finRange 4).foldl (fun a c =>
    let k := s.core c
    a + (k.st.code + 8 * b2n k.task + 16 * k.restarts.toNat) * 256 ^ c.val) 0)

/-- A write of WVL_CTRL: with `lock` the RWL fields stay (22 R572); RESTART by the host or by W0. -/
def State.writeWvlCtrl (s : State) (v : Word) (lock byW0 : Bool) : State :=
  (List.finRange 4).foldl (fun s c =>
    let i := 8 * c.val
    let s := if lock then s
      else (((s.modCore c fun k => { k with autoRst := v.bit (i + 3) }).haltCore c (v.bit (i + 1))).holdCore c (v.bit i))
    if v.bit (i + 2) then s.restartCore c (if byW0 then 3 else 2) else s) s

def State.wvlCfgErr (s : State) : State := { s with wvl := { s.wvl with cfgErr := true } }

/-- A read of the WVL_ block at an offset from 0xB000 (Tables 16-22, 18-11). -/
def State.wvlRead (s : State) (o : Nat) : Word :=
  let m := s.img
  if o = 0x00 then s.wvlCtrl
  else if o = 0x04 then s.wvlStat
  else if o = 0x08 then s.wvl.portmap
  else if o = 0x0C then s.wvl.wdog
  else if 0x10 ≤ o ∧ o < 0x20 then (s.core (Fin.ofNat 4 ((o - 0x10) / 4))).finfo
  else if 0x20 ≤ o ∧ o < 0x30 then (s.core (Fin.ofNat 4 ((o - 0x20) / 4))).fpc
  else if o = 0x30 then BitVec.ofNat 32 (b2n s.wvl.cfgErr)
  else if o = 0x40 then
    BitVec.ofNat 32 (m.xferSt.toNat + 4 * m.trial.toNat + 16 * b2n m.codeB + 32 * b2n m.podB + 64 * b2n m.setB
      + 256 * m.setFormat.toNat + 65536 * m.trialBoots.toNat)
  else if o = 0x44 then m.version
  else if o = 0x48 then m.secFloor.setWidth 32
  else if o = 0x4C then
    BitVec.ofNat 32 (if m.trial = 2 then min 4095 ((m.health * 1000000 - (s.now - m.healthFrom).toNat + 999999) / 1000000) else 0)
  else 0

/-- A write of the WVL_ block (R468): a value out of range leaves the register and sets WVL_ERR.CFG_ERR. -/
def State.wvlWrite (s : State) (o : Nat) (v : Word) (lock byW0 : Bool) : State :=
  if o = 0x00 then s.writeWvlCtrl v lock byW0
  else if o = 0x08 then
    (if (List.range 16).all fun n => v.fld (2 * n + 1) (2 * n) != 0 then { s with wvl := { s.wvl with portmap := v } } else s.wvlCfgErr)
  else if o = 0x0C then
    (if lock then s
     else if v.fld 7 0 < 10 then s.wvlCfgErr
     else { s with wvl := { s.wvl with wdog := v &&& 0xFF } })
  else if o = 0x30 then (if v.bit 0 then { s with wvl := { s.wvl with cfgErr := false } } else s)
  else s

/-- CORE_HOLD (R466). -/
def execCoreHold (n : Fin 4) (hold : Bool) (s : State) : Res := 
  .next (if ¬ s.hif.lock then s.holdCore n hold else if n = 0 ∨ (s.core n).hold = hold then s else { s with hif := { s.hif with viol := true } })

/-- CORE_HALT (R466). -/
def execCoreHalt (n : Fin 4) (halt : Bool) (s : State) : Res := 
  .next (if ¬ s.hif.lock then s.haltCore n halt else if (s.core n).haltReq = halt then s else { s with hif := { s.hif with viol := true } })

/-- CORE_RESTART (R466), by the host. -/
def execCoreRestart (n : Fin 4) (s : State) : Res := .next (s.restartCore n 2)

/-- CORE_AUTO_RESTART (R466): 10 ms after FAULT. -/
def execCoreAutoRestart (c : Fin 4) (s : State) : Res :=
  .next (if (s.core c).st = .fault ∧ (s.core c).autoRst then s.restartCore c 1 else s)

/-! ### Local registers -/

/-- WDKICK (R457): the watchdog restarts. -/
def execWdkick (c : Fin 4) (v : Word) (s : State) : Res :=
  .next (if s.executes c then s.modCore c fun k => { k with wdKicked := true } else s)

/-- A write of SIG_SEND (R463): line 16 of each named core names the sender. -/
def State.sigSend (s : State) (c : Fin 4) (v : Word) : State :=
  (List.finRange 4).foldl (fun s n =>
    if v.bit n.val then s.modCore n fun k => { k with sigSrc := k.sigSrc ||| BitVec.ofNat 4 (2 ^ c.val) } else s) s

/-- SIG_SEND (R463). -/
def execSigSend (c : Fin 4) (v : Word) (s : State) : Res := .next (if s.executes c then s.sigSend c v else s)

/-! ### Pod Table port (R464) -/

/-- PP_OP: 1 reads PP_SLOT's slot; 2 writes and 3 deletes it for W0, and completes BAD_PARAM with reason 0 for others. -/
def State.ppOp (s : State) (c : Fin 4) (op : Nat) : State :=
  let s := if op = 1 ∨ (c = 0 ∧ (op = 2 ∨ op = 3)) then s.slotTurn else s
  let k := s.core c
  let slot := k.ppSlot.fld 11 0
  let done (s : State) (st why : Nat) : State := s.modCore c fun k => { k with ppRes := podResultWord st why, ppUnread := true }
  if op = 1 then
    let b := ((podGet s.pod.slots slot).map PodEntry.bytes).getD []
    done (s.modCore c fun k => { k with ppData := Vector.ofFn fun i => getBytes b i.val 1 |>.getD 0 0 }) stOk 0
  else if op = 2 ∨ op = 3 then
    if c ≠ 0 then done s stBadParam 0
    else if op = 3 then done (s.podStore slot none) stOk 0
    else
      let (s, why) := s.podWrite slot { bytes := k.ppData.toList }
      done s (podStatus why) why
  else s

/-- PP_READ (R464). -/
def execPpRead (c : Fin 4) (s : State) : Res := .next (if s.executes c then s.ppOp c 1 else s)
/-- PP_WRITE (R464). -/
def execPpWrite (c : Fin 4) (s : State) : Res := .next (if s.executes c then s.ppOp c 2 else s)
/-- PP_DELETE (R464). -/
def execPpDelete (c : Fin 4) (s : State) : Res := .next (if s.executes c then s.ppOp c 3 else s)

end Sys2Proof.Machine
end

