-- ==== Sys2Proof/Machine/RegRead.lean ====
section
/-! DEFINITION. What the registers of BAR0 read as (22 R567 to R571, Table 22-1, and the field tables of chapters 02 to 20), what
a read does (RC registers, LO halves that latch HI halves, the fault-log window), and which registers the supervisor sees
(22 Table 22-8). -/

set_option linter.unusedVariables false

namespace Sys2Proof.Machine

/-- A word from fields: lowest bit and value. -/
def wordOf (l : List (Nat × Nat)) : Word := BitVec.ofNat 32 (l.foldl (fun a x => a + x.2 * 2 ^ x.1) 0)

/-- One bit of a word. -/
def bitAt (i : Nat) (b : Bool) : Nat × Nat := (i, b2n b)

/-- The half of a 64-bit value: low and high word. -/
def Quad.lo (q : Quad) : Word := q.setWidth 32
def Quad.hi (q : Quad) : Word := (q >>> 32).setWidth 32

/-! ### HIF_ (02 Tables 2-4, 2-5; 13 Tables 13-12 to 13-17; 20 Tables 20-8, 20-9; 22 Table 22-4) -/

/-- The settings that HIF_QBASE, HIF_QCFG and HIF_QIRQ show: the queue's while it is live (13 R419). -/
def HifState.shown (h : HifState) : Quad × Word × Word :=
  if h.selSt ≠ .live then (h.setBase, h.setCfg, h.setIrq)
  else if h.selKind = 0 then let q := h.sq[h.selIx.val]; (q.base, q.cfg, q.irq)
  else if h.selKind = 1 then let q := h.cq[h.selIx.val]; (q.base, q.cfg, q.irq)
  else (h.eq.base, h.eq.cfg, h.eq.irq)

def State.qStat (s : State) : Word :=
  let h := s.hif
  let n := if h.selKind = 0 then (h.table.filter fun o => o.d.sq == h.selIx).length
    else if h.selKind = 1 then s.orphans fun x => x.cq == h.selIx.val else 0
  wordOf [(0, h.selSt.code), bitAt 2 h.qDone, (8, h.qResult.toNat), (16, satN 12 n)]

def msixWord (e : MsixEntry) (k : Nat) : Word :=
  if k = 0 then e.addrLo else if k = 1 then e.addrHi else if k = 2 then e.data else e.ctrl

def State.hifRead (s : State) (i : Iface) (a : Nat) : Word :=
  let h := s.hif
  let t := s.tb
  if a = 0x00 then wordOf [(0, 0x1648), (16, Config.stepping.toNat)]
  else if a = 0x04 then wordOf [(0, 1), (8, 2), (16, h.ringSel.toNat)]
  else if a = 0x08 then
    wordOf [bitAt 0 h.ready, bitAt 1 h.bme, bitAt 2 h.d3hot, bitAt 3 h.l1, (16, satN 12 (s.orphans fun _ => true))]
  else if a = 0x0C then h.err
  else if a = 0x10 then h.pmCfg
  else if a = 0x14 then h.eqCfg
  else if a = 0x18 then h.eqVec
  else if a = 0x20 then h.qsel
  else if a = 0x24 then Quad.lo h.shown.1
  else if a = 0x28 then Quad.hi h.shown.1
  else if a = 0x2C then h.shown.2.1
  else if a = 0x30 then h.shown.2.2
  else if a = 0x38 then s.qStat
  else if a = 0x40 then
    wordOf [bitAt 0 t.running, bitAt 1 t.fallback, bitAt 2 t.lostSeen, bitAt 3 t.calDone, (8, t.calCycleUs.toNat)]
  else if a = 0x48 then Quad.lo t.count
  else if a = 0x4C then (s.lat i).tbHi
  else if a = 0x50 then Quad.lo t.seqLast
  else if a = 0x54 then (s.lat i).seqHi
  else if a = 0x64 then
    wordOf [(0, s.rst.last.toNat), bitAt 3 s.rst.rescue, bitAt 4 s.rst.warmPend, (8, s.rst.warmCount.toNat)]
  else if a = 0x70 then wordOf [bitAt 0 h.lock, bitAt 1 h.viol, bitAt 2 s.rst.byTwt]
  else if 0x800 ≤ a ∧ a < 0xA00 then msixWord h.msix[(Fin.ofNat 32 ((a - 0x800) / 16)).val] (a % 16 / 4)
  else if a = 0xA00 then h.pba
  else 0

/-! ### STO_ (03 Tables 3-6 to 3-10) -/

def State.stoRead (s : State) (i : Iface) (a : Nat) : Word :=
  let t := s.sto
  let x := s.flow (s.lat i).flowSel.toNat
  if a = 0x1000 then t.cfg
  else if a = 0x1004 then wordOf [(0, t.sharedFree), (16, t.c2Held), bitAt 30 t.scrubLate]
  else if a = 0x1008 then t.c2cap
  else if a = 0x100C then t.ce
  else if a = 0x1010 then t.ue
  else if a = 0x1014 then wordOf [(0, t.retired.length)]
  else if a = 0x1018 then t.ueLast
  else if a = 0x1020 then (s.lat i).flowSel
  else if a = 0x1024 then wordOf [(0, x.resv), (14, x.cls), (16, x.cap)]
  else if a = 0x1028 then wordOf [(0, x.held), (16, x.dShared)]
  else if a = 0x102C then wordOf [(0, x.hwm)]
  else if a = 0x1030 then x.cnt
  else if a = 0x1034 then t.cfgErr
  else 0

/-! ### GLB_ (06, 07, 11, 12, 15, 20, 22) -/

def State.ctxCount (s : State) (st : Nat) : Nat := ((List.range 128).filter fun k => s.ctxState k == st).length

def State.glbRead (s : State) (i : Iface) (a : Nat) : Word :=
  if a = 0x2000 then s.bud.cfg
  else if a = 0x2004 then wordOf [(0, s.reserved % 4096), (16, (s.limit - s.reserved) % 4096)]
  else if a = 0x2008 then s.bud.err
  else if a = 0x2010 then s.hu.cfg
  else if a = 0x2014 then
    wordOf [(0, (mapOf fun p => (s.port p).swap.armed).toNat), bitAt 16 s.hu.active, bitAt 17 s.hu.cfgErr]
  else if a = 0x2020 then s.rst.ntc
  else if a = 0x2040 then
    wordOf [(0, s.ctxCount 0), (8, s.ctxCount 1), (16, s.ctxCount 2), (24, satN 8 s.pendingSes.length)]
  else if a = 0x2044 then
    wordOf [bitAt 0 s.ses.recovDone, bitAt 1 s.ses.jrnFault, bitAt 2 s.ses.jrnFull, (8, s.ses.recovered.toNat),
      (16, satN 16 s.ses.flashOnly.length)]
  else if a = 0x2048 then s.ses.epoch
  else if a = 0x204C then (s.lat i).sesSel
  else if a = 0x2060 then s.flog.cfg
  else if a = 0x2064 then wordOf [(0, s.flog.ring.length), (16, s.flog.overwritten.toNat)]
  else if a = 0x2068 then s.flog.wcnt
  else if a = 0x206C then (s.lat i).flogSel
  else if a = 0x2080 then s.rst.autoen
  else if 0x2100 ≤ a ∧ a < 0x2200 then BitVec.ofNat 32 (getLE (s.ctx ((s.lat i).sesSel.fld 6 0)) (a - 0x2100) 4)
  else if 0x2200 ≤ a ∧ a < 0x2220 then s.flogData i ((a - 0x2200) / 4)
  else if a = 0x2220 then
    match (s.lat i).flogEnt with | some x => BitVec.ofNat 32 x.1 | none => 0xFFFFFFFF
  else 0

/-! ### PRT_ windows (22 Table 22-2) -/

/-- ATTACH_WAIT held only by BUSIN (04 R101, Table 4-9). -/
def State.businWait (s : State) (p : PortId) : Bool :=
  let q := s.port p
  q.cc.st == .attachWait && q.ef.path == .off && !q.businOk
    && (s.modMon p 5 fun w => { w with below := false, above := false }).mayClose p

def phaseBits (c : CnvState) (f : PhaseSt → Bool) : Nat := b2n (f c.a) + 2 * b2n (f c.b) + 4 * b2n (f c.c)

/-- PRT_SUM (22 Table 22-3). -/
def Port.sum (q : Port) : Word :=
  wordOf [(0, q.cc.st.code), (4, q.pol.seq.code), (8, q.ef.path.code), bitAt 11 q.mtr.sess.isSome, bitAt 12 q.pol.contract.isSome,
    bitAt 13 q.pol.eprMode, bitAt 14 q.cc.vconnOn, bitAt 15 q.ef.bfOn, (16, q.ef.retryCnt.toNat), (20, q.ef.latch.toNat),
    (24, q.wm.mode.code), bitAt 26 q.wm.ffActive, bitAt 27 q.pol.reneg, bitAt 28 q.swap.armed]

/-- Theta in 1/4,096 of I_TRIP² (10 Table 10-10). -/
def EfState.thetaUnits (e : EfState) : Nat :=
  let k := e.now.i2t.fld 7 0
  satN 16 (e.theta * 4096 * 400 / ((k * k : Nat) : Rat)).floor.toNat

/-- The converter registers (09 Table 9-11). -/
def CnvState.read (c : CnvState) (a : Nat) : Word :=
  if a = 0x100 then c.cfg
  else if a = 0x104 then c.slew
  else if a = 0x108 then c.vloop0
  else if a = 0x10C then c.vloop1
  else if a = 0x110 then c.ilim
  else if a = 0x114 then c.swarm
  else if a = 0x118 then c.irc
  else if a = 0x11C then c.imcalA
  else if a = 0x120 then c.imcalB
  else if a = 0x124 then c.imcalC
  else if a = 0x128 then wordOf [(0, satN 16 c.setMv), (16, satN 16 c.refMv.floor.toNat)]
  else if a = 0x12C then wordOf [(0, satN 16 c.voutMv.toNat), (16, ofI 16 c.totMa)]
  else if a = 0x130 then
    wordOf [(0, phaseBits c (·.active)), (3, phaseBits c (·.failed)), (6, phaseBits c (·.sense)), bitAt 9 c.run, bitAt 10 c.slewing,
      bitAt 11 (decide (256 ≤ c.hist)), bitAt 12 c.rPath.isSome, bitAt 13 c.ircRange, bitAt 14 c.shuntTotal, bitAt 15 c.cfgErr,
      (24, if c.run then satN 8 c.slopeNow else 0)]
  else if a = 0x134 then wordOf [(0, satN 16 (c.rPath.getD 0)), (16, c.samples.length), (24, ofI 8 c.divCorr)]
  else if a = 0x138 then c.cnt
  else 0

/-- The path guard registers (10 Table 10-10). -/
def State.efRead (s : State) (p : PortId) (i : Iface) (a : Nat) : Word :=
  let e := (s.port p).ef
  if a = 0x140 then e.cfg
  else if a = 0x144 then e.inrush
  else if a = 0x148 then e.i2t
  else if a = 0x14C then e.retry
  else if a = 0x150 then e.bf
  else if a = 0x154 then
    wordOf [(0, e.path.code), bitAt 3 e.dsch, bitAt 4 e.bfOn, bitAt 5 e.provenWait, bitAt 6 (decide (0 < e.history ∧ e.history < 480000)),
      (8, e.retryCnt.toNat), bitAt 12 e.fdValid, (16, e.latch.toNat), bitAt 20 e.cfgErr, (21, e.bfReclosed.toNat), bitAt 23 e.holdOt]
  else if a = 0x158 then wordOf [(0, satN 16 (s.holdLeft p))]
  else if a = 0x15C then wordOf [(0, e.thetaUnits), (16, satN 8 (e.history / 8000))]
  else if a = 0x160 then Quad.lo e.fd
  else if a = 0x164 then (s.lat i).fdHi[p.val]
  else if a = 0x168 then e.cnt
  else if a = 0x16C then e.peak.setWidth 32
  else 0

/-- The monitor registers of a port (11 Table 11-20). -/
def WmState.read (w : WmState) (a : Nat) : Word :=
  let bits (f : Wm → Bool) : Nat := (List.finRange 32).foldl (fun n k => n + (if f w.m[k.val] then 2 ^ k.val else 0)) 0
  if a = 0x180 then
    wordOf [(0, w.mode.code), bitAt 2 w.ffActive, bitAt 3 w.holdupSel, (8, w.ffFirst.toNat), bitAt 16 w.cfgErr]
  else if a = 0x184 then w.trk
  else if a = 0x188 then BitVec.ofNat 32 (bits Wm.isOut)
  else if a = 0x18C then BitVec.ofNat 32 (bits fun x => x.latLo || x.latHi)
  else if a = 0x190 then
    wordOf [(0, bits (fun x => x.leg0 != x.leg1) % 256), (8, bits (fun x => x.leg0 && x.leg1) % 256), bitAt 16 w.initDone]
  else if a = 0x194 then wordOf [(0, bits (·.chkFail) / 256)]
  else if a = 0x198 then w.cap
  else 0

/-- The energy that PRT_MTR_SES shows: the session's, or the pre-contract energy (12 Table 12-10). -/
def MtrState.sesEnergy (m : MtrState) : Nat := if m.sess.isSome then m.ses else m.pre

/-- The metering registers (12 Table 12-10). -/
def State.mtrRead (s : State) (p : PortId) (i : Iface) (a : Nat) : Word :=
  let m := (s.port p).mtr
  let q (e : Nat) : Quad := BitVec.ofNat 64 (uWh e)
  if a = 0x1C0 then m.cfg
  else if a = 0x1C4 then m.vcal
  else if a = 0x1C8 then m.ical
  else if a = 0x1CC then wordOf [(0, satN 16 m.nowMv.toNat), (16, ofI 16 m.nowMa)]
  else if a = 0x1D0 then BitVec.ofInt 32 m.pwr
  else if a = 0x1D4 then Quad.lo (q m.life)
  else if a = 0x1D8 then (s.lat i).lifeHi[p.val]
  else if a = 0x1DC then Quad.lo (q m.hold)
  else if a = 0x1E0 then (s.lat i).holdHi[p.val]
  else if a = 0x1E4 then Quad.lo (q m.sesEnergy)
  else if a = 0x1E8 then (s.lat i).sesHi[p.val]
  else if a = 0x1EC then
    wordOf [(0, ((m.sess.bind (·.ctx)).getD 127)), bitAt 7 m.sess.isSome, bitAt 8 m.preRun,
      bitAt 9 (match m.sess with | some x => x.ctx.isNone | none => false), bitAt 15 m.cfgErr]
  else 0

/-- A register of the window of a port, at its window offset. -/
def State.prtRead (s : State) (p : PortId) (i : Iface) (a : Nat) : Word :=
  let q := s.port p
  if a = 0x000 then q.sum
  else if a = 0x040 then q.cc.cfg
  else if a = 0x044 then
    wordOf [(0, q.cc.st.code), bitAt 4 q.cc.orient, bitAt 5 q.cc.vconnOn, bitAt 6 (s.businWait p), (7, q.cc.cls1.code),
      (10, q.cc.cls2.code), bitAt 14 q.cc.cfgErr, (16, q.cc.reattach.toNat)]
  else if a = 0x048 then wordOf [(0, q.cc.med1.toNat), (16, q.cc.med2.toNat)]
  else if a = 0x04C then q.cc.vcfg
  else if a = 0x050 then q.cc.inst.setWidth 32
  else if a = 0x060 then q.pd.cfg
  else if a = 0x064 then
    wordOf [(0, q.pd.revSop.toNat), (2, q.pd.revCable.toNat), bitAt 4 q.pd.caActive, bitAt 5 q.pd.rpNg, bitAt 6 q.pd.asm.isSome,
      (8, q.pd.sop.txId.toNat), (11, q.pd.sopp.txId.toNat), (14, q.pd.soppp.txId.toNat),
      (17, (q.pd.sop.rxId.getD 0).toNat), bitAt 20 q.pd.sop.rxId.isSome]
  else if a = 0x068 then
    wordOf [(0, q.pd.crcErr.toNat), (8, q.pd.txFail.toNat), (16, q.pd.txAbandon.toNat), (24, q.pd.dupRx.toNat)]
  else if a = 0x080 then q.pol.cfg
  else if a = 0x084 then q.pol.lim
  else if a = 0x088 then q.pol.xslew
  else if a = 0x08C then
    wordOf [(0, q.pol.seq.code), bitAt 4 q.pol.contract.isSome, bitAt 5 q.pol.eprMode,
      (6, ((q.pol.contract.map fun c => c.kind.code)).getD 0), (8, ((q.pol.contract.map (·.pos))).getD 0), bitAt 12 q.pol.reneg,
      bitAt 13 q.pol.cableSeen, bitAt 14 q.cableEpr, bitAt 15 q.pol.cfgErr, (16, satN 2 q.pol.hrCtr)]
  else if a = 0x090 then BitVec.ofNat 32 (contractWord q.pol.contract)
  else if a = 0x094 then
    wordOf [(0, satN 8 (s.demandOf p)), (8, satN 8 q.pol.target), (16, satN 8 q.pol.grant), (24, satN 8 q.pol.commit)]
  else if a = 0x098 then q.pol.cnt
  else if a = 0x0A0 then q.swap.cfg
  else if a = 0x0A4 then
    wordOf [bitAt 0 q.swap.elig, bitAt 1 q.swap.armed, bitAt 2 q.swap.snkValid, bitAt 3 q.swap.drp, (4, q.swap.frs.toNat),
      bitAt 6 q.swap.vconnSrc, bitAt 7 q.ef.bfCmd, (8, q.swap.kind.code), (11, q.swap.step), bitAt 15 q.swap.cfgErr]
  else if a = 0x0A8 then q.swap.cnt
  else if a = 0x0C0 then
    wordOf [(0, q.pod.slot.toNat), (12, q.pod.src.toNat), bitAt 14 q.pod.stale, bitAt 15 q.pod.fleet, (16, q.pod.auth.toNat),
      bitAt 20 q.pod.idValid, bitAt 21 q.pod.cableHit]
  else if a = 0x0C4 then Quad.lo q.pod.digest
  else if a = 0x0C8 then (s.lat i).digHi[p.val]
  else if a = 0x0CC then (match q.pod.inForce.1 with | some e => BitVec.ofNat 32 e.profileId | none => 0)
  else if 0x100 ≤ a ∧ a < 0x13C then q.cnv.read a
  else if 0x140 ≤ a ∧ a < 0x170 then s.efRead p i a
  else if 0x180 ≤ a ∧ a < 0x19C then q.wm.read a
  else if 0x1C0 ≤ a ∧ a < 0x1F0 then s.mtrRead p i a
  else 0

/-! ### Configuration space -/

/-- The dwords of the type 0 header that Table 13-1 gives (R384), at the offsets of the PCI specification (PRESUMED,
notes/assumptions/4). No command reads configuration space. -/
def State.cfgWord (s : State) (o : Nat) : Word :=
  if o = 0x00 then 0x16481F3A
  else if o = 0x04 then wordOf [bitAt 1 true, bitAt 2 s.hif.bme, bitAt 20 true]
  else if o = 0x08 then 0x08800000 ||| Config.stepping.setWidth 32
  else if o = 0x10 then 4
  else if o = 0x2C then s.hif.subsys
  else if o = 0x3C then 0
  else 0

/-! ### WMC_, POD_, TWI_, BKP_, PWR_ and DBL_ -/

/-- A register of a monitor (11 Table 11-15). -/
def State.wmcRead (s : State) (p : PortId) (m : Fin 32) (o : Nat) : Word :=
  let w := s.wm p m
  if o = 0 then w.thr
  else if o = 4 then w.cfg
  else if o = 8 then w.route
  else
    wordOf [bitAt 0 w.below, bitAt 1 w.above, bitAt 2 w.latLo, bitAt 3 w.latHi, bitAt 4 ((s.port p).wm.initDone && (s.port p).armed m), bitAt 5 w.leg0,
      bitAt 6 w.leg1, bitAt 7 w.chkFail, (8, w.cnt.toNat), (16, w.last.toNat)]

/-- POD_ (08 Table 8-10), offset from 0xA000. -/
def PodState.read (t : PodState) (o : Nat) : Word :=
  if o = 0x00 then t.cfg
  else if o = 0x04 then t.ver
  else if o = 0x08 then t.start
  else if o = 0x0C then t.fleet
  else if o = 0x10 then t.fmatch
  else if o = 0x14 then t.fmask
  else if o = 0x18 then wordOf [(0, t.slots.length), (16, t.bad.toNat), bitAt 24 t.updBusy, bitAt 25 t.cfgErr]
  else if o = 0x20 then t.slotSel
  else if o = 0x28 then t.result
  else if 0x40 ≤ o ∧ o < 0x80 then t.data[(Fin.ofNat 16 ((o - 0x40) / 4)).val]
  else 0

/-- Records in the event window (17 Table 17-10). -/
def State.evsRecords (s : State) : Nat := (List.range 3).foldl (fun a c => a + (s.flow (fEvs c)).records.length) 0

/-- TWI_ (17 Table 17-8), offset from 0xC000. -/
def State.twiRead (s : State) (o : Nat) : Word :=
  let t := s.twi
  if o < 0x10 then t.taddr[(Fin.ofNat 4 (o / 4)).val]
  else if o = 0x10 then wordOf [(0, 1), (8, 2), (16, t.tver.toNat)]
  else if o = 0x14 then t.tbase
  else if o = 0x18 then t.tcfg
  else if o = 0x1C then t.tibr
  else if o = 0x20 then
    wordOf [bitAt 0 t.busy, bitAt 1 t.alert, bitAt 2 t.ibrPend, (8, satN 8 s.evsRecords), bitAt 16 t.wrRefused, bitAt 17 t.pecErr,
      bitAt 18 t.tout, bitAt 19 t.cfgErr]
  else if 0x40 ≤ o ∧ o < 0xC0 then
    let c := t.c[(Fin.ofNat 4 ((o - 0x40) / 0x20)).val]
    if o % 0x20 = 0 then c.cfg
    else if o % 0x20 = 4 then c.ibr
    else if o % 0x20 = 8 then wordOf [(0, c.st.code), bitAt 2 c.sdaLow, bitAt 3 c.sclLow, bitAt 16 c.cfgErr]
    else if o % 0x20 = 0xC then c.cnt
    else 0
  else 0

/-- BKP_ (19 Tables 19-11 to 19-13), offset from 0xD000. -/
def State.bkpRead (s : State) (i : Iface) (o : Nat) : Word :=
  let b := s.bkp
  if o = 0x00 then Quad.lo b.cal
  else if o = 0x04 then (s.lat i).calHi
  else if o = 0x08 then
    wordOf [bitAt 0 b.valid, bitAt 1 b.lost, bitAt 2 b.onVbat, bitAt 3 b.oscFail, bitAt 4 b.alarmFlag, bitAt 5 b.vbatLow, bitAt 6 b.cfgErr]
  else if o = 0x0C then b.trim
  else if o = 0x10 then b.alarmLo
  else if o = 0x14 then b.alarmHi
  else if o = 0x18 then b.setLo
  else if o = 0x1C then b.setHi
  else if o = 0x24 then b.tampCfg
  else if o = 0x28 then wordOf [(0, b.lat.toNat), (2, b.live.toNat), (8, b.tcnt0.toNat), (16, b.tcnt1.toNat)]
  else if o = 0x30 then Quad.lo b.ts0
  else if o = 0x34 then (s.lat i).ts0Hi
  else if o = 0x38 then Quad.lo b.ts1
  else if o = 0x3C then (s.lat i).ts1Hi
  else if 0x40 ≤ o ∧ o < 0x60 then b.gp[(Fin.ofNat 8 ((o - 0x40) / 4)).val]
  else 0

/-- PWR_ (19 Tables 19-9, 19-10), offset from 0xE000. -/
def PwrState.read (w : PwrState) (o : Nat) : Word :=
  if o = 0x00 then w.cfg
  else if o = 0x04 then w.wakeEn
  else if o = 0x08 then w.wakePort
  else if o = 0x0C then
    wordOf [(0, w.st.code), (2, w.entry.toNat), bitAt 4 w.wakeLatch, (8, w.lastWake.toNat), (16, w.lastAbandon.toNat)]
  else if o = 0x10 then w.slept
  else 0

/-- Doorbells (13 Table 13-18), offset from 0xF000. -/
def HifState.dblRead (h : HifState) (o : Nat) : Word :=
  if o < 0x40 then (h.sq[(Fin.ofNat 16 (o / 4)).val]).db.setWidth 32
  else if o < 0x80 then (h.cq[(Fin.ofNat 16 ((o - 0x40) / 4)).val]).db.setWidth 32
  else if o = 0x80 then h.eq.db.setWidth 32
  else 0

/-- The port of a window or monitor offset. -/
def portAt (n : Nat) : PortId := ⟨n % 16, Nat.mod_lt _ (by decide)⟩

/-- What the aligned word at an offset of BAR0 reads as, through an interface (R567): 0 where Table 22-1 assigns nothing. -/
def State.readReg (s : State) (i : Iface) (a : Nat) : Word :=
  if a < 0x1000 then s.hifRead i a
  else if a < 0x2000 then s.stoRead i a
  else if a < 0x4000 then s.glbRead i a
  else if a < 0x8000 then s.prtRead (portAt ((a - 0x4000) / 0x400)) i (a % 0x400)
  else if a < 0xA000 then s.wmcRead (portAt ((a - 0x8000) / 0x200)) (Fin.ofNat 32 (a % 0x200 / 16)) (a % 16)
  else if a < 0xB000 then s.pod.read (a - 0xA000)
  else if a < 0xC000 then s.wvlRead (a - 0xB000)
  else if a < 0xD000 then s.twiRead (a - 0xC000)
  else if a < 0xE000 then s.bkpRead i (a - 0xD000)
  else if a < 0xF000 then s.pwr.read (a - 0xE000)
  else if a < 0x10000 then s.hif.dblRead (a - 0xF000)
  else 0

/-! ### What a read does -/

/-- RC registers of a port window are cleared. -/
def State.prtClear (s : State) (p : PortId) (a : Nat) : State :=
  if a = 0x068 then s.modPd p fun x => { x with crcErr := 0, txFail := 0, txAbandon := 0, dupRx := 0 }
  else if a = 0x098 then s.modPol p fun x => { x with cnt := 0 }
  else if a = 0x0A8 then s.modSwap p fun x => { x with cnt := 0 }
  else if a = 0x138 then s.modCnv p fun x => { x with cnt := 0 }
  else if a = 0x168 then s.modEf p fun x => { x with cnt := 0 }
  else if a = 0x16C then s.modEf p fun x => { x with peak := 0 }
  else s

/-- A LO half of a port window latches its HI half for the interface. -/
def State.prtLatch (s : State) (i : Iface) (p : PortId) (a : Nat) : State :=
  let q := s.port p
  let e (n : Nat) : Word := Quad.hi (BitVec.ofNat 64 (uWh n))
  s.modLat i fun l =>
    if a = 0x0C4 then { l with digHi := l.digHi.set p.val (Quad.hi q.pod.digest) }
    else if a = 0x160 then { l with fdHi := l.fdHi.set p.val (Quad.hi q.ef.fd) }
    else if a = 0x1D4 then { l with lifeHi := l.lifeHi.set p.val (e q.mtr.life) }
    else if a = 0x1DC then { l with holdHi := l.holdHi.set p.val (e q.mtr.hold) }
    else if a = 0x1E4 then { l with sesHi := l.sesHi.set p.val (e q.mtr.sesEnergy) }
    else l

/-- Reading the aligned word at an offset: RC registers clear, LO halves latch, and the fault-log window moves (R5, R568,
R576). GLB_FLOG_DATA0 latches before it is read. -/
def State.readEffect (s : State) (i : Iface) (a : Nat) : State :=
  let f := (s.lat i).flowSel.toNat
  if a = 0x48 then s.modLat i fun l => { l with tbHi := Quad.hi s.tb.count }
  else if a = 0x50 then s.modLat i fun l => { l with seqHi := Quad.hi s.tb.seqLast }
  else if a = 0x100C then { s with sto := { s.sto with ce := 0 } }
  else if a = 0x1010 then { s with sto := { s.sto with ue := 0 } }
  else if a = 0x102C then s.modFlow f fun x => { x with hwm := 0 }
  else if a = 0x1030 then s.modFlow f fun x => { x with cnt := 0 }
  else if a = 0x221C then s.flogNext i
  else if 0x4000 ≤ a ∧ a < 0x8000 then
    let p := portAt ((a - 0x4000) / 0x400)
    (s.prtClear p (a % 0x400)).prtLatch i p (a % 0x400)
  else if 0xC040 ≤ a ∧ a < 0xC0C0 ∧ a % 0x20 = 0xC then
    let n : Fin 4 := Fin.ofNat 4 ((a - 0xC040) / 0x20)
    let c : Twc := { s.twi.c[n.val] with cnt := 0 }
    { s with twi := { s.twi with c := s.twi.c.set n.val c } }
  else if a = 0xD000 then s.modLat i fun l => { l with calHi := Quad.hi s.bkp.cal }
  else if a = 0xD030 then s.modLat i fun l => { l with ts0Hi := Quad.hi s.bkp.ts0 }
  else if a = 0xD038 then s.modLat i fun l => { l with ts1Hi := Quad.hi s.bkp.ts1 }
  else s

/-- A read of the aligned word at an offset: its value, and the state afterwards. -/
def State.busRead (s : State) (i : Iface) (a : Nat) : Word × State :=
  let s := if a = 0x2200 then s.flogLatch i else s
  (s.readReg i a, s.readEffect i a)

/-- The offset of the aligned dword that holds a byte. -/
def aligned (off : BitVec 20) : Nat := off.toNat / 4 * 4

/-- RC_READ (R5): the register returns its value and is cleared. -/
def execRcRead (i : Iface) (off : BitVec 20) (s : State) : Res :=
  .next (let r := s.busRead i (aligned off); r.2.emit (.readData i off.toNat r.1))

/-- LO_LATCH_READ (R568): the LO half is returned and its HI half latched for the interface. -/
def execLoLatchRead (i : Iface) (off : BitVec 20) (s : State) : Res :=
  .next (let r := s.busRead i (aligned off); r.2.emit (.readData i off.toNat r.1))

/-! ### What the supervisor sees (22 R577, Table 22-8) -/

/-- The lowest register map version at which the register is visible, and at which it is writable, with the fields that may be
written; window offsets of a port are given from its base. -/
def twtRow (a : Nat) : Option (Nat × Option (Nat × Word)) :=
  let ro (v : Nat) : Option (Nat × Option (Nat × Word)) := some (v, none)
  let rw (v w : Nat) (m : Word := 0xFFFFFFFF) : Option (Nat × Option (Nat × Word)) := some (v, some (w, m))
  if a = 0x00 ∨ a = 0x08 ∨ a = 0x40 ∨ a = 0x48 ∨ a = 0x4C ∨ a = 0x50 ∨ a = 0x54 ∨ a = 0x64 then ro 1
  else if a = 0x04 then ro 2
  else if a = 0x60 then rw 2 2
  else if a = 0x70 then rw 2 2 1
  else if a = 0x1004 ∨ a = 0x1014 then ro 2
  else if a = 0x2000 then rw 2 2
  else if a = 0x2004 ∨ a = 0x2014 ∨ a = 0x2040 ∨ a = 0x2044 ∨ a = 0x2048 then ro 1
  else if a = 0x204C ∨ a = 0x206C then rw 2 2
  else if a = 0x2060 ∨ a = 0x2064 ∨ a = 0x2068 ∨ a = 0x2080 then ro 2
  else if (0x2100 ≤ a ∧ a < 0x2200) ∨ (0x2200 ≤ a ∧ a ≤ 0x2220) then ro 2
  else if 0x4000 ≤ a ∧ a < 0x8000 then
    let o := a % 0x400
    if o ∈ [0x000, 0x044, 0x050, 0x08C, 0x090, 0x094, 0x154, 0x158, 0x1CC, 0x1D0, 0x1D4, 0x1D8, 0x1EC] then ro 1
    else if o ∈ [0x048, 0x064, 0x0A4, 0x0C0, 0x0C4, 0x0C8, 0x0CC, 0x12C, 0x130, 0x15C, 0x160, 0x164, 0x180, 0x188, 0x190, 0x194,
      0x1DC, 0x1E0, 0x1E4, 0x1E8] then ro 2
    else none
  else if 0x8000 ≤ a ∧ a < 0xA000 then (if a % 16 = 0xC then ro 2 else none)
  else if a = 0xA004 ∨ a = 0xA018 ∨ a = 0xB004 ∨ a = 0xB040 ∨ a = 0xB044 ∨ a = 0xB048 then ro 2
  else if a = 0xC010 then rw 1 1 0x00FF0000
  else if a = 0xC020 then ro 1
  else if a = 0xD000 ∨ a = 0xD004 ∨ a = 0xD008 then ro 1
  else if a = 0xD018 ∨ a = 0xD01C ∨ a = 0xD020 then rw 1 1
  else if a = 0xD028 then rw 1 2 3
  else if 0xD030 ≤ a ∧ a < 0xD040 then ro 2
  else if 0xD040 ≤ a ∧ a < 0xD060 then rw 2 2
  else if a = 0xE00C then ro 1
  else if a = 0xE010 then ro 2
  else none

/-- The register is visible through TWT in the version in force. -/
def State.twtSees (s : State) (a : Nat) : Bool :=
  match twtRow a with | some (v, _) => decide (v ≤ s.twi.tver.toNat) | none => false

/-- The fields of a register that the supervisor may write in the version in force; none where a write is refused (17 R475). -/
def State.twtMay (s : State) (a : Nat) : Option Word :=
  match twtRow a with
  | some (_, some (w, m)) => if w ≤ s.twi.tver.toNat ∧ s.twi.tcfg.bit 5 then some m else none
  | _ => none

end Sys2Proof.Machine
end

