-- ==== Sys2Proof/Machine/RegWrite.lean ====
section
/-! DEFINITION. Writes of the registers of BAR0 by field: access codes (00 R5), range checks with the error bit of the owning
chapter, and HIF_LOCK (22 R572 to R574). Registers that have a command of their own are in RegBus.lean. -/

set_option linter.unusedVariables false

namespace Sys2Proof

/-- A field of a word lies in a range. -/
def Word.inR (w : Word) (hi lo a b : Nat) : Bool := decide (a ≤ w.fld hi lo) && decide (w.fld hi lo ≤ b)

/-- A field lies in the range that USB allows for its timer, widened by 50 ppm as it may run (02 R37, R38; DEDUCED,
notes/assumptions/110). -/
def Word.inTimer (w : Word) (hi lo a b : Nat) : Bool :=
  decide (a * 1000000 ≤ w.fld hi lo * 999950) && decide (w.fld hi lo * 1000050 ≤ b * 1000000)

/-- A signed field of 16 bits lies in a range about 0. -/
def Word.inS (w : Word) (lo : Nat) (m : Nat) : Bool := decide ((sgn 16 (w.fld (lo + 15) lo)).natAbs ≤ m)

end Sys2Proof

namespace Sys2Proof.Machine

/-- A command's next state. -/
def Res.st (r : Res) (s : State) : State := match r with | .next t => t | _ => s

/-! ### One register -/

/-- The word that a write leaves: RW fields always, RWL fields unless locked. -/
def regMerge (rw rwl : Word) (lock : Bool) (old v : Word) : Word :=
  let m := if lock then rw else rw ||| rwl
  (old &&& ~~~ m) ||| (v &&& m)

/-- How a register with storage takes a write: its RW and RWL fields, the range check, the value in force, where the new value
goes, and the owning chapter's error bit. -/
structure RegSpec where
  rw : Word := 0
  rwl : Word := 0
  ok : Word → Bool := fun _ => true
  get : State → Word
  put : State → Word → State
  err : State → State := id

/-- VIOLATION is set (R573). -/
def State.violate (s : State) : State := { s with hif := { s.hif with viol := true } }

/-- A write of a register: with `lock` its RWL fields stay and a differing value sets VIOLATION; a value out of range leaves the
whole register and sets the error bit. -/
def RegSpec.write (r : RegSpec) (lock : Bool) (v : Word) (s : State) : State :=
  let old := r.get s
  let n := regMerge r.rw r.rwl lock old v
  let s := if lock ∧ (v &&& r.rwl) ≠ (old &&& r.rwl) then s.violate else s
  if r.ok n then r.put s n else r.err s

/-! ### HIF_ -/

def State.modHif (s : State) (f : HifState → HifState) : State := { s with hif := f s.hif }

/-- HIF_QBASE and HIF_QCFG of a live queue ignore writes; HIF_QIRQ of a live CQ or EQ takes effect at the next entry (13 R419). -/
def State.setQIrq (s : State) (v : Word) : State :=
  if s.hif.selSt ≠ .live then s.modHif fun h => { h with setIrq := v }
  else if s.hif.selKind = 1 then s.modCq s.hif.selIx fun c => { c with irq := v }
  else if s.hif.selKind = 2 then s.modEq fun c => { c with irq := v }
  else s

def State.ifNotLive (s : State) (f : HifState → HifState) : State := if s.hif.selSt = .live then s else s.modHif f

/-- A write of the MSI-X table: address, data, and the mask bit of vector control; unmasking a pending vector sends its message. -/
def State.msixWrite (s : State) (o : Nat) (v : Word) : State :=
  let k : Fin 32 := Fin.ofNat 32 (o / 16)
  let e := s.hif.msix[k.val]
  let e := if o % 16 = 0 then { e with addrLo := v } else if o % 16 = 4 then { e with addrHi := v }
    else if o % 16 = 8 then { e with data := v } else { e with ctrl := v &&& 1 }
  (s.modHif fun h => { h with msix := h.msix.set k.val e }).msixPend k

/-- The registers of HIF_ with storage of their own. -/
def hifSpec (a : Nat) : Option RegSpec :=
  if a = 0x10 then some { rw := 0xFFFF, ok := fun w => w.inR 7 0 10 250 && w.inR 15 8 2 255, get := fun s => s.hif.pmCfg
                          put := fun s v =>
                            let t := s.modHif fun h => { h with pmCfg := v }
                            if s.hif.ltrEn ∧ v.fld 7 0 ≠ s.hif.pmCfg.fld 7 0 then t.sendLtr else t
                          err := fun s => s.hifErr 1 }
  else if a = 0x14 then some { rw := 1, get := fun s => s.hif.eqCfg, put := fun s v => s.modHif fun h => { h with eqCfg := v } }
  else if a = 0x18 then some { rw := 0x1F1F1F1F, get := fun s => s.hif.eqVec, put := fun s v => s.modHif fun h => { h with eqVec := v } }
  else if a = 0x20 then some { rw := 0x3F, ok := fun w => w.fld 5 4 != 3 && (w.fld 5 4 != 2 || w.fld 3 0 == 0)
                               get := fun s => s.hif.qsel, put := fun s v => s.modHif fun h => { h with qsel := v }
                               err := fun s => s.hifErr 1 }
  else if a = 0x24 then some { rw := 0xFFFFF000, get := fun s => Quad.lo s.hif.setBase
                               put := fun s v => s.ifNotLive fun h => { h with setBase := h.setBase &&& 0xFFFFFFFF00000000 ||| v.setWidth 64 } }
  else if a = 0x28 then some { rw := 0xFFFFFFFF, get := fun s => Quad.hi s.hif.setBase
                               put := fun s v => s.ifNotLive fun h => { h with setBase := h.setBase &&& 0xFFFFFFFF ||| v.setWidth 64 <<< 32 } }
  else if a = 0x2C then some { rw := 0x001F03FF, ok := fun w => w.inR 3 0 4 12 && w.fld 9 8 != 3, get := fun s => s.hif.setCfg
                               put := fun s v => s.ifNotLive fun h => { h with setCfg := v }, err := fun s => s.hifErr 1 }
  else if a = 0x30 then some { rw := 0xFFFF, get := fun s => s.hif.shown.2.2, put := State.setQIrq }
  else none

/-! ### STO_ (03 R66, R89, R90, Table 3-3) -/

/-- The smallest reservation of a flow (Table 3-3). -/
def minResv (f : Nat) : Nat :=
  if f < 0x20 then 2 else if f = 0x60 then 64 else if f = 0x63 then 16 else if f = 0x66 ∨ f = 0x69 then 8 else if f = 0x6E then 16 else 0

def State.stoErr (s : State) (bit : Nat) : State := { s with sto := { s.sto with cfgErr := s.sto.cfgErr ||| BitVec.ofNat 32 (2 ^ bit) } }

/-- STO_FLOW_CFG of a flow: RESERVED and CAP, with every check that a value fails noted. -/
def State.flowCfg (s : State) (lock : Bool) (f : Nat) (v : Word) : State :=
  let x := s.flow f
  let s := if lock ∧ v.fld 13 0 ≠ x.resv then s.violate else s
  let r := if lock then x.resv else v.fld 13 0
  let cap := v.fld 29 16
  let tooHigh := !lock && decide (floorOf x.cls < s.sto.resvOf x.cls - x.resv + r)
  let low := decide (cap < r ∨ cap = 0)
  let min := !lock && decide (r < minResv f)
  let s := if tooHigh then s.stoErr 0 else s
  let s := if low then s.stoErr 1 else s
  let s := if min then s.stoErr 2 else s
  if tooHigh ∨ low ∨ min then s else (s.modFlow f fun x => { x with resv := r, cap }).noteRegain

def stoSpec (i : Iface) (a : Nat) : Option RegSpec :=
  if a = 0x1000 then some { rwl := 0xF03, ok := fun w => w.inR 11 8 0 6, get := fun s => s.sto.cfg
                            put := fun s v => { s with sto := { s.sto with cfg := v } }, err := fun s => s.stoErr 3 }
  else if a = 0x1008 then some { rwl := 0x3FFF, ok := fun w => w.inR 13 0 4096 10240, get := fun s => s.sto.c2cap
                                 put := fun s v => { s with sto := { s.sto with c2cap := v } }.noteRegain, err := fun s => s.stoErr 3 }
  else if a = 0x1020 then some { rw := 0xFF, ok := fun w => decide (w.toNat < 117), get := fun s => (s.lat i).flowSel
                                 put := fun s v => s.modLat i fun l => { l with flowSel := v }, err := fun s => s.stoErr 4 }
  else none

/-! ### GLB_ -/

def State.budErr (s : State) (bit : Nat) : State := { s with bud := { s.bud with err := s.bud.err ||| BitVec.ofNat 32 (2 ^ bit) } }

/-- GLB_BUDGET_CFG (06 R177, R181, R182, R191): the floors must fit LIMIT; a change starts an allocation round. -/
def State.limitWrite (s : State) (lock : Bool) (v : Word) : State :=
  let old := s.bud.cfg
  let n := regMerge 0xFFF 0xF0000 lock old v
  let s := if lock ∧ v.fld 19 16 ≠ old.fld 19 16 then s.violate else s
  let t := { s with bud := { s.bud with cfg := n } }
  if ¬ (n.inR 11 0 24 3840 ∧ n.inR 19 16 5 15) then s.budErr 1
  else if t.limit < t.floorSum then s.budErr 0
  else if n = old then t
  else
    (execAllocationRound { t with bud := { t.bud with lowered := t.bud.lowered || decide (t.limit < s.limit ∧ t.limit < s.reserved) } }).st t

def glbSpec (i : Iface) (a : Nat) : Option RegSpec :=
  if a = 0x2010 then some { rw := 0x003F3F1F, ok := fun w => w.inR 4 0 0 16 && w.inR 13 8 5 48 && w.inR 21 16 1 50, get := fun s => s.hu.cfg
                            put := fun s v => { s with hu := { s.hu with cfg := v } }, err := fun s => { s with hu := { s.hu with cfgErr := true } } }
  else if a = 0x2020 then some { rwl := 0x0FFFFFFF, ok := fun w => w.inR 15 0 100 10000 && w.inR 27 16 2000 4500, get := fun s => s.rst.ntc
                                 put := fun s v => ({ s with rst := { s.rst with ntc := v } }).forPorts State.trackTemp
                                 err := fun s => s.budErr 1 }
  else if a = 0x204C then some { rw := 0x7F, get := fun s => (s.lat i).sesSel, put := fun s v => s.modLat i fun l => { l with sesSel := v } }
  else if a = 0x2060 then some { rw := 3, get := fun s => s.flog.cfg, put := fun s v => { s with flog := { s.flog with cfg := v } } }
  else if a = 0x206C then some { rw := 0xFFFFFFFF, get := fun s => (s.lat i).flogSel, put := fun s v => s.modLat i fun l => { l with flogSel := v } }
  else if a = 0x2080 then some { rwl := 0xFFFF, get := fun s => s.rst.autoen, put := fun s v => { s with rst := { s.rst with autoen := v } } }
  else none

/-! ### PRT_ windows -/

/-- A change of DBG_VBUS opens or closes the path of a DEBUG_ACC port (04 R108). -/
def State.ccCfg (s : State) (p : PortId) (v : Word) : State :=
  let was := (s.port p).cc.cfg
  let s := s.modCc p fun c => { c with cfg := v }
  if (s.port p).cc.st ≠ .debugAcc ∨ (s.port p).cc.detaching then s
  else
    let s := if v.bit 3 = was.bit 3 then s else if v.bit 3 then s.modPd p fun x => { x with stopped := false } else s.pdStop p
    if v.bit 4 = was.bit 4 then s
    else if v.bit 4 then (if (s.port p).swap.dbgHold then s else s.requestPath p .debug)
    else s.openPath p

/-- A change of PRT_POL_CFG or PRT_POL_LIM latches renegotiation where it alters the capabilities (06 R184). -/
def State.polWrite (s : State) (p : PortId) (f : PolState → PolState) : State :=
  let caps (s : State) : List Pdo × Bool × Bool :=
    let q := (s.port p).written
    (q.caps q.pol.grant q.pol.eprMode, q.eprBit, q.pol.eprMode && (q.eprFails false).isSome)
  let t := s.modPol p f
  if caps t = caps s then t else t.latchReneg p

def ccSpec (p : PortId) (a : Nat) : Option RegSpec :=
  let err (s : State) : State := s.modCc p fun c => { c with cfgErr := true }
  if a = 0x040 then some { rw := 0x1FFF0F1F, get := fun s => (s.port p).cc.cfg, put := fun s v => s.ccCfg p v, err
                           ok := fun w => w.fld 1 0 != 3 && w.inR 11 8 1 15 && w.inTimer 23 16 100 200 && w.inTimer 28 24 10 20 }
  else if a = 0x04C then some { rw := 0xFF01, ok := fun w => w.inR 15 8 2 12, get := fun s => (s.port p).cc.vcfg, err
                                put := fun s v => s.modCc p fun c => { c with vcfg := v } }
  else if a = 0x060 then some { rw := 7, get := fun s => (s.port p).pd.cfg, put := fun s v => s.modPd p fun x => { x with cfg := v } }
  else none

def polSpec (p : PortId) (a : Nat) : Option RegSpec :=
  let err (s : State) : State := s.modPol p fun x => { x with cfgErr := true }
  if a = 0x080 then some { rw := 0x0FFFF7FF, ok := fun w => w.inR 23 16 10 200, get := fun s => (s.port p).pol.cfg, err
                           put := fun s v => s.polWrite p fun x => { x with cfg := v } }
  else if a = 0x084 then some { rw := 0xFFFF, ok := fun w => w.inR 7 0 15 240 && w.inR 15 8 10 100, get := fun s => (s.port p).pol.lim, err
                                put := fun s v => s.polWrite p fun x => { x with lim := v } }
  else if a = 0x088 then some { rw := 0x03FF03FF, ok := fun w => w.inR 9 0 20 440 && w.inR 25 16 20 820, get := fun s => (s.port p).pol.xslew
                                put := fun s v => s.modPol p fun x => { x with xslew := v }, err }
  else if a = 0x0A0 then some { rw := 0x3F1F0F3F, ok := fun w => w.inR 20 16 2 20 && w.inR 29 24 10 60, get := fun s => (s.port p).swap.cfg
                                put := fun s v => s.modSwap p fun x => { x with cfg := v }
                                err := fun s => s.modSwap p fun x => { x with cfgErr := true } }
  else none

def cnvSpec (p : PortId) (a : Nat) : Option RegSpec :=
  let err (s : State) : State := s.modCnv p fun c => { c with cfgErr := true }
  let imOk (w : Word) : Bool := w.inR 11 0 300 1500 && w.inR 27 16 250 2000
  if a = 0x100 then some { rw := 0x5FFF, ok := fun w => w.inR 9 0 150 750, get := fun s => (s.port p).cnv.cfg
                           put := fun s v => s.modCnv p fun c => { c with cfg := v }, err }
  else if a = 0x104 then some { rw := 0xFFFF, ok := fun w => w.inR 7 0 1 250 && w.inR 15 8 1 250, get := fun s => (s.port p).cnv.slew
                                put := fun s v => s.modCnv p fun c => { c with slew := v }, err }
  else if a = 0x108 then some { rw := 0xFFFFFFFF, get := fun s => (s.port p).cnv.vloop0, put := fun s v => s.modCnv p fun c => { c with vloop0 := v }, err }
  else if a = 0x10C then some { rw := 0xFFFF, rwl := 0x7F0000, ok := fun w => w.inR 22 16 4 100, get := fun s => (s.port p).cnv.vloop1
                                put := fun s v => s.modCnv p fun c => { c with vloop1 := v }, err }
  else if a = 0x110 then some { rw := 0xFFFFFF, get := fun s => (s.port p).cnv.ilim, err
                                ok := fun w => w.inR 7 0 20 60 && w.inR 15 8 4 60 && decide (2 ≤ w.fld 23 16 ∧ w.fld 23 16 < w.fld 15 8)
                                put := fun s v => s.modCnv p fun c => { c with ilim := v } }
  else if a = 0x114 then some { rw := 0xFFFFF, ok := fun w => w.inR 7 0 10 255 && w.inR 15 8 5 100 && w.inR 19 16 2 15, get := fun s => (s.port p).cnv.swarm
                                put := fun s v => s.modCnv p fun c => { c with swarm := v }, err }
  else if a = 0x118 then some { rw := 0xFF00, rwl := 0xFF, ok := fun w => w.inR 7 0 0 200 && w.inR 15 8 0 100, get := fun s => (s.port p).cnv.irc
                                put := fun s v => s.modCnv p fun c => { c with irc := v }, err }
  else if a = 0x11C then some { rwl := 0x0FFF0FFF, ok := imOk, get := fun s => (s.port p).cnv.imcalA
                                put := fun s v => s.modCnv p fun c => { c with imcalA := v }, err }
  else if a = 0x120 then some { rwl := 0x0FFF0FFF, ok := imOk, get := fun s => (s.port p).cnv.imcalB
                                put := fun s v => s.modCnv p fun c => { c with imcalB := v }, err }
  else if a = 0x124 then some { rwl := 0x0FFF0FFF, ok := imOk, get := fun s => (s.port p).cnv.imcalC
                                put := fun s v => s.modCnv p fun c => { c with imcalC := v }, err }
  else none

def efSpec (p : PortId) (a : Nat) : Option RegSpec :=
  let err (s : State) : State := s.modEf p fun e => { e with cfgErr := true }
  if a = 0x140 then some { rw := 0x00FF0F3F, ok := fun w => w.inR 5 0 16 60 && w.inR 11 8 1 10 && w.inR 23 16 5 200, get := fun s => (s.port p).ef.cfg
                           put := fun s v => (s.modEf p fun e => { e with cfg := v }).trackShort p, err }
  else if a = 0x144 then some { rw := 0xFF7F, ok := fun w => w.inR 6 0 10 100 && w.inR 15 8 1 100, get := fun s => (s.port p).ef.inrush
                                put := fun s v => s.modEf p fun e => { e with inrush := v }, err }
  else if a = 0x148 then some { rw := 0x3FFF, ok := fun w => w.inR 7 0 40 150 && w.inR 13 8 1 60, get := fun s => (s.port p).ef.i2t
                                put := fun s v => s.modEf p fun e => { e with i2t := v }, err }
  else if a = 0x14C then some { rw := 0xFF07, ok := fun w => w.inR 15 8 1 255, get := fun s => (s.port p).ef.retry
                                put := fun s v => s.modEf p fun e => { e with retry := v }, err }
  else if a = 0x150 then some { rw := 0x33F, ok := fun w => w.inR 5 0 10 60, get := fun s => (s.port p).ef.bf
                                put := fun s v => s.modEf p fun e => { e with bf := v }, err }
  else none

def wmSpec (p : PortId) (a : Nat) : Option RegSpec :=
  let err (s : State) : State := s.modWm p fun w => { w with cfgErr := true }
  if a = 0x184 then some { rw := 0x00FF1F1F, ok := fun w => w.inR 4 0 10 30 && w.inR 12 8 5 20 && w.inR 23 16 40 125, get := fun s => (s.port p).wm.trk
                           put := fun s v => (((s.modWm p fun w => { w with trk := v }).trackPeaks p).trackTemp p), err }
  else if a = 0x198 then some { rw := 0x1FF, ok := fun w => w.inR 3 0 1 8 && w.inR 7 4 0 8, get := fun s => (s.port p).wm.cap
                                put := fun s v => s.modWm p fun w => { w with cap := v }, err }
  else none

def mtrSpec (p : PortId) (a : Nat) : Option RegSpec :=
  let err (s : State) : State := s.modMtr p fun m => { m with cfgErr := true }
  if a = 0x1C0 then some { rw := 0xFF05, rwl := 2, ok := fun w => w.inR 15 8 1 100, get := fun s => (s.port p).mtr.cfg
                           put := fun s v => s.modMtr p fun m => { m with cfg := v }, err }
  else if a = 0x1C4 then some { rwl := 0xFFFFFFFF, ok := fun w => w.inS 0 2000 && w.inS 16 500, get := fun s => (s.port p).mtr.vcal
                                put := fun s v => s.modMtr p fun m => { m with vcal := v }, err }
  else if a = 0x1C8 then some { rwl := 0xFFFFFFFF, ok := fun w => w.inS 0 2000 && w.inS 16 1000, get := fun s => (s.port p).mtr.ical
                                put := fun s v => s.modMtr p fun m => { m with ical := v }, err }
  else none

def prtSpec (p : PortId) (a : Nat) : Option RegSpec :=
  (ccSpec p a).or ((polSpec p a).or ((cnvSpec p a).or ((efSpec p a).or ((wmSpec p a).or (mtrSpec p a)))))

/-- W1C bits of a port window. -/
def State.prtW1c (s : State) (p : PortId) (a : Nat) (v : Word) : State :=
  if a = 0x044 ∧ v.bit 14 then s.modCc p fun c => { c with cfgErr := false }
  else if a = 0x08C ∧ v.bit 15 then s.modPol p fun x => { x with cfgErr := false }
  else if a = 0x0A4 ∧ v.bit 15 then s.modSwap p fun x => { x with cfgErr := false }
  else if a = 0x130 ∧ v.bit 15 then s.modCnv p fun c => { c with cfgErr := false }
  else if a = 0x154 ∧ v.bit 20 then s.modEf p fun e => { e with cfgErr := false }
  else if a = 0x180 ∧ v.bit 16 then s.modWm p fun w => { w with cfgErr := false }
  else if a = 0x1EC ∧ v.bit 15 then s.modMtr p fun m => { m with cfgErr := false }
  else if a = 0x18C then
    s.modWm p fun w => { w with m := Vector.ofFn fun k => if v.bit k.val then { w.m[k] with latLo := false, latHi := false } else w.m[k] }
  else s

/-! ### WMC_ (11 R329, R330, R337, R354) -/

def wmTracks (m : Nat) : Bool := m ≤ 4 || m == 7 || m == 8 || m == 21

/-- The thresholds of a monitor that tracks are computed anew. -/
def State.retrack (s : State) (p : PortId) : State := ((((s.trackShort p).trackPeaks p).trackUpdate p).trackTemp p)

/-- A routing that leads to FIREFLY in some mode (R337). -/
def routesFf (v : Word) : Bool := v.bit 7 || v.bit 11 || v.bit 15

/-- A general-class monitor with TRIP_AS 0 accepts no FIREFLY routing (R343): a write that would give it one is refused
(notes/assumptions/99). -/
def tripless (m : Fin 32) (cfg route : Word) : Bool := decide (8 ≤ m.val) && cfg.fld 18 16 == 0 && routesFf route

/-- A write of WMC_CFG takes effect: a change of SRC_SEL disables both edges (R329), and an edge that is not enabled is within its
window (R325). -/
def State.wmCfg (s : State) (p : PortId) (m : Fin 32) (v : Word) : State :=
  let old := (s.wm p m).cfg
  let v := if v.fld 28 24 ≠ old.fld 28 24 then v &&& 0xFFFFFFFC else v
  let s := s.modMon p m fun w => { w with cfg := v, below := w.below && v.bit 0, above := w.above && v.bit 1 }
  if v.bit 2 ∧ ¬ old.bit 2 then s.retrack p else s

def wmcSpec (p : PortId) (m : Fin 32) (o : Nat) : Option RegSpec :=
  let err (s : State) : State := s.modWm p fun w => { w with cfgErr := true }
  let prot := decide (m.val < 8)
  if o = 0 then some { rw := 0x03FF03FF, get := fun s => (s.wm p m).thr, err
                       put := fun s v => if (s.wm p m).tracked then err s else s.modMon p m fun w => w.load (v.fld 9 0) (v.fld 25 16) }
  else if o = 4 then
    let e : Word := 3
    some { rw := 0x1F38 ||| (if wmTracks m.val then 4 else 0) ||| (if prot then 0 else 0x70003) ||| (if m.val < 24 then 0 else 0x1F000000)
           rwl := if prot then e else 0
           ok := fun w => w.inR 18 16 0 4 && w.inR 28 24 0 12
           get := fun s => (s.wm p m).cfg, err
           put := fun s v => if tripless m v (s.wm p m).route then err s else s.wmCfg p m v }
  else if o = 8 then
    some { rw := if prot then 0xB337 else 0xBBB7, get := fun s => (s.wm p m).route
           put := fun s v =>
             if tripless m (s.wm p m).cfg v then err s else (s.modMon p m fun w => { w with route := v }).armedActs p, err }
  else none

/-- WMC_STAT: latched bits and CNT_CLR. -/
def State.wmStat (s : State) (p : PortId) (m : Fin 32) (v : Word) : State :=
  s.modMon p m fun w => { w with latLo := w.latLo && !v.bit 2, latHi := w.latHi && !v.bit 3, cnt := if v.bit 31 then 0 else w.cnt }

/-! ### POD_ -/

def State.modPodT (s : State) (f : PodState → PodState) : State := { s with pod := f s.pod }

def podSpec (o : Nat) : Option RegSpec :=
  let err (s : State) : State := s.modPodT fun t => { t with cfgErr := true }
  if o = 0x00 then some { rw := 0x1F, get := fun s => s.pod.cfg, put := fun s v => s.modPodT fun t => { t with cfg := v } }
  else if o = 0x04 then some { rw := 0xFFFF0000, get := fun s => s.pod.ver, put := fun s v => s.modPodT fun t => { t with ver := v } }
  else if o = 0x08 then some { rw := 0x00FFFF0E, ok := fun w => w.inR 15 8 10 60 && w.inR 23 16 15 100, get := fun s => s.pod.start
                               put := fun s v => s.modPodT fun t => { t with start := v }, err }
  else if o = 0x0C then some { rw := 0xFFFF, get := fun s => s.pod.fleet, put := fun s v => s.modPodT fun t => { t with fleet := v } }
  else if o = 0x10 then some { rw := 0xFFFFFFFF, get := fun s => s.pod.fmatch, put := fun s v => s.modPodT fun t => { t with fmatch := v } }
  else if o = 0x14 then some { rw := 0xFFFFFFFF, get := fun s => s.pod.fmask, put := fun s v => s.modPodT fun t => { t with fmask := v } }
  else if o = 0x20 then some { rw := 0xFFF, get := fun s => s.pod.slotSel, put := fun s v => s.modPodT fun t => { t with slotSel := v } }
  else if 0x40 ≤ o ∧ o < 0x80 then
    let k : Fin 16 := Fin.ofNat 16 ((o - 0x40) / 4)
    some { rw := 0xFFFFFFFF, get := fun s => s.pod.data[k.val], put := fun s v => s.modPodT fun t => { t with data := t.data.set k.val v } }
  else none

/-! ### TWI_ (17 R472, R478, R494) -/

def State.modTwi (s : State) (f : TwiState → TwiState) : State := { s with twi := f s.twi }
def State.modTwc (s : State) (n : Fin 4) (f : Twc → Twc) : State := s.modTwi fun t => { t with c := t.c.set n.val (f t.c[n.val]) }

/-- The bits of `a` at which `mask` is 0, packed from bit 0 (17 R473). -/
def packZeros (a mask : Nat) : Nat → Nat → Nat
  | 0, _ => 0
  | n + 1, i => if mask.testBit i then packZeros a mask n (i + 1) else (a.testBit i).toNat + 2 * packZeros a mask n (i + 1)

/-- The page by which the base/mask block answers an address (R473). -/
def blockPage (tbase : Word) (a : Nat) : Option Nat :=
  if tbase.bit 15 ∧ Nat.land (Nat.xor a (tbase.fld 6 0)) (tbase.fld 14 8) = 0 ∧ packZeros a (tbase.fld 14 8) 7 0 ≤ 15 then
    some (packZeros a (tbase.fld 14 8) 7 0)
  else none

/-- How many ways an address is answered (R472). -/
def ways (ta : Vector Word 4) (tbase : Word) (a : Nat) : Nat :=
  (ta.toList.filter fun w => w.fld 9 8 != 0 && w.fld 6 0 == a).length + b2n (blockPage tbase a).isSome

/-- A set-up of the target addresses that R472 allows. -/
def addressesOk (t : TwiState) (ta : Vector Word 4) (tbase : Word) : Bool :=
  (List.range 128).all fun a =>
    let n := ways ta tbase a
    n == 0 || (n == 1 && 8 ≤ a && a < 0x78 && !(a == 0x0C && t.tcfg.bit 4))

/-- The event window holds a record that entered after the last alert response (R481). -/
def State.alertHolds (s : State) : Bool :=
  (List.range 3).any fun c => (s.flow (fEvs c)).records.any fun r => match r with
    | .ev e => decide (s.twi.alertAt.toNat < e.seq.toNat)
    | _ => false

/-- A write of TWI_TCFG takes effect (R481, R482): the alert follows ARA_EN, and without IBR_EN no request waits. -/
def State.tcfgWrite (s : State) (v : Word) : State :=
  s.modTwi fun t => { t with tcfg := v, alert := v.bit 4 && s.alertHolds, ibrPend := t.ibrPend && v.bit 9 }

/-- A write of TWI_CnCFG takes effect: the controller is enabled, or disabled once its transaction has ended. -/
def State.twcCfg (s : State) (n : Fin 4) (v : Word) : State :=
  s.modTwc n fun c =>
    { c with cfg := v
             st := if v.bit 2 then (if c.st = .disabled then .idle else c.st) else if c.st = .busy then .busy else .disabled }

def twiSpec (o : Nat) : Option RegSpec :=
  let err (s : State) : State := s.modTwi fun t => { t with cfgErr := true }
  if o < 0x10 then
    let n : Fin 4 := Fin.ofNat 4 (o / 4)
    some { rwl := 0x77F, get := fun s => s.twi.taddr[n.val], err
           put := fun s v =>
             let ta := s.twi.taddr.set n.val v
             if v.fld 9 8 = 3 ∨ ¬ addressesOk s.twi ta s.twi.tbase then err s else s.modTwi fun t => { t with taddr := ta } }
  else if o = 0x14 then
    some { rwl := 0xFF7F, get := fun s => s.twi.tbase, err
           put := fun s v => if addressesOk s.twi s.twi.taddr v then s.modTwi fun t => { t with tbase := v } else err s }
  else if o = 0x18 then some { rw := 0x3DF, rwl := 0x20, ok := fun w => w.fld 1 0 != 3, get := fun s => s.twi.tcfg, put := State.tcfgWrite, err }
  else if o = 0x1C then some { rw := 0xFF7F, ok := fun w => w.inR 15 8 1 255, get := fun s => s.twi.tibr
                               put := fun s v => s.modTwi fun t => { t with tibr := v }, err }
  else if 0x40 ≤ o ∧ o < 0xC0 then
    let n : Fin 4 := Fin.ofNat 4 ((o - 0x40) / 0x20)
    let cerr (s : State) : State := s.modTwc n fun c => { c with cfgErr := true }
    if o % 0x20 = 0 then
      some { rw := 0x00FFFF7F, ok := fun w => w.fld 1 0 != 3 && w.inR 15 8 1 255 && w.inR 23 16 1 255, get := fun s => s.twi.c[n.val].cfg
             put := fun s v => s.twcCfg n v, err := cerr }
    else if o % 0x20 = 4 then
      some { rw := 0x1FF, get := fun s => s.twi.c[n.val].ibr, err := cerr
             put := fun s v =>
               if (s.twi.c[n.val].item.any fun (x : TwItem) => !x.addr10 && x.addr.toNat == v.fld 6 0) = true then cerr s else s.modTwc n fun c => { c with ibr := v } }
    else none
  else none

/-- W1C bits of TWI_TSTAT and TWI_CnSTAT. -/
def State.twiW1c (s : State) (o : Nat) (v : Word) : State :=
  if o = 0x20 then
    s.modTwi fun t => { t with wrRefused := t.wrRefused && !v.bit 16, pecErr := t.pecErr && !v.bit 17, tout := t.tout && !v.bit 18
                               cfgErr := t.cfgErr && !v.bit 19 }
  else if 0x40 ≤ o ∧ o < 0xC0 ∧ o % 0x20 = 8 then
    s.modTwc (Fin.ofNat 4 ((o - 0x40) / 0x20)) fun c => { c with cfgErr := c.cfgErr && !v.bit 16 }
  else s

/-- TWT_MAP_SEL_WRITE (R478): a SEL outside MIN to MAX is refused; a change takes effect at the next START. -/
def State.mapSel (s : State) (v : Nat) : State :=
  if 1 ≤ v ∧ v ≤ 2 then s.modTwi fun t => { t with tverNext := some (BitVec.ofNat 8 v) }
  else s.modTwi fun t => { t with cfgErr := true }

def execTwtMapSelWrite (v : Byte) (s : State) : Res :=
  .next (if s.twi.tcfg.bit 5 then s.mapSel v.toNat else s.modTwi fun t => { t with wrRefused := true })

/-! ### BKP_ and PWR_ (19 R536) -/

def State.modBkp (s : State) (f : BkpState → BkpState) : State := { s with bkp := f s.bkp }
def State.modPwr (s : State) (f : PwrState → PwrState) : State := { s with pwr := f s.pwr }
def State.bkpErr (s : State) : State := s.modBkp fun b => { b with cfgErr := true }

def bkpSpec (o : Nat) : Option RegSpec :=
  if o = 0x0C then some { rwl := 0xFF, ok := fun w => w.fld 7 0 != 0x80, get := fun s => s.bkp.trim, put := fun s v => s.modBkp fun b => { b with trim := v }
                          err := State.bkpErr }
  else if o = 0x10 then some { rw := 0xFFFFFFFF, get := fun s => s.bkp.alarmLo, put := fun s v => s.modBkp fun b => { b with alarmLo := v } }
  else if o = 0x14 then some { rw := 0x1FFFF, get := fun s => s.bkp.alarmHi, put := fun s v => s.modBkp fun b => { b with alarmHi := v } }
  else if o = 0x18 then some { rw := 0xFFFFFFFF, get := fun s => s.bkp.setLo, put := fun s v => s.modBkp fun b => { b with setLo := v } }
  else if o = 0x1C then some { rw := 0xFFFFFFFF, get := fun s => s.bkp.setHi, put := fun s v => s.modBkp fun b => { b with setHi := v } }
  else if o = 0x24 then some { rwl := 0xF7F7, get := fun s => s.bkp.tampCfg, put := fun s v => s.modBkp fun b => { b with tampCfg := v } }
  else if 0x40 ≤ o ∧ o < 0x60 then
    let k : Fin 8 := Fin.ofNat 8 ((o - 0x40) / 4)
    some { rw := 0xFFFFFFFF, get := fun s => s.bkp.gp[k.val], put := fun s v => s.modBkp fun b => { b with gp := b.gp.set k.val v } }
  else none

/-- BKP_STAT's W1C bits. -/
def State.bkpW1c (s : State) (v : Word) : State :=
  s.modBkp fun b => { b with lost := b.lost && !v.bit 1, oscFail := b.oscFail && !v.bit 3, alarmFlag := b.alarmFlag && !v.bit 4
                             cfgErr := b.cfgErr && !v.bit 6 }

def pwrSpec (o : Nat) : Option RegSpec :=
  if o = 0x00 then some { rw := 0xFFFFFF01, ok := fun w => w.inR 15 8 1 100, get := fun s => s.pwr.cfg, err := State.bkpErr
                          put := fun s v => let s := s.modPwr fun w => { w with cfg := v }; if v.bit 0 then s else s.idleExit }
  else if o = 0x04 then some { rw := 0xEE, get := fun s => s.pwr.wakeEn, put := fun s v => s.modPwr fun w => { w with wakeEn := v } }
  else if o = 0x08 then some { rw := 0xFFFF, get := fun s => s.pwr.wakePort, put := fun s v => s.modPwr fun w => { w with wakePort := v } }
  else none

/-! ### The map -/

/-- How the register at an offset takes a write, where it has fields of storage. -/
def regSpec (i : Iface) (a : Nat) : Option RegSpec :=
  if a < 0x1000 then hifSpec a
  else if a < 0x2000 then stoSpec i a
  else if a < 0x4000 then glbSpec i a
  else if a < 0x8000 then prtSpec (portAt ((a - 0x4000) / 0x400)) (a % 0x400)
  else if a < 0xA000 then wmcSpec (portAt ((a - 0x8000) / 0x200)) (Fin.ofNat 32 (a % 0x200 / 16)) (a % 16)
  else if a < 0xB000 then podSpec (a - 0xA000)
  else if a < 0xC000 then none
  else if a < 0xD000 then twiSpec (a - 0xC000)
  else if a < 0xE000 then bkpSpec (a - 0xD000)
  else if a < 0xF000 then pwrSpec (a - 0xE000)
  else none

/-- W1C and other bits that a write acts on, in registers without fields of storage. -/
def State.writeBits (s : State) (a : Nat) (v : Word) : State :=
  if a = 0x0C then s.modHif fun h => { h with err := h.err &&& ~~~ v }
  else if a = 0x40 then (if v.bit 2 then { s with tb := { s.tb with lostSeen := false } } else s)
  else if 0x800 ≤ a ∧ a < 0xA00 then s.msixWrite (a - 0x800) v
  else if a = 0x1034 then { s with sto := { s.sto with cfgErr := s.sto.cfgErr &&& ~~~ v } }
  else if a = 0x2008 then { s with bud := { s.bud with err := s.bud.err &&& ~~~ v } }
  else if a = 0x2014 then (if v.bit 17 then { s with hu := { s.hu with cfgErr := false } } else s)
  else if 0x4000 ≤ a ∧ a < 0x8000 then s.prtW1c (portAt ((a - 0x4000) / 0x400)) (a % 0x400) v
  else if 0x8000 ≤ a ∧ a < 0xA000 then
    (if a % 16 = 0xC then s.wmStat (portAt ((a - 0x8000) / 0x200)) (Fin.ofNat 32 (a % 0x200 / 16)) v else s)
  else if a = 0xA018 then (if v.bit 25 then s.modPodT fun t => { t with cfgErr := false } else s)
  else if 0xC000 ≤ a ∧ a < 0xD000 then s.twiW1c (a - 0xC000) v
  else if a = 0xD008 then s.bkpW1c v
  else s

/-- A write of a register of BAR0 that starts no command: `lock` says whether RWL fields are held. -/
def State.writePlain (s : State) (i : Iface) (lock : Bool) (a : Nat) (v : Word) : State :=
  match regSpec i a with
  | some r => r.write lock v s
  | none =>
    if a = 0x1024 then s.flowCfg lock (s.lat i).flowSel.toNat v
    else if a = 0x2000 then s.limitWrite lock v
    else if 0xB000 ≤ a ∧ a < 0xC000 then
      let o := a - 0xB000
      let differs := (o = 0 ∧ v &&& 0x0B0B0B0A ≠ s.wvlCtrl &&& 0x0B0B0B0A) ∨ (o = 0xC ∧ v &&& 0xFF ≠ s.wvl.wdog)
      (if lock ∧ differs then s.violate else s).wvlWrite o v lock false
    else s.writeBits a v

end Sys2Proof.Machine
end

