-- ==== Sys2Proof/Machine/Img.lean ====
section
/-! DEFINITION. Firmware and configuration update (18): settings in force, activation, trial, confirmation and fallback. -/

set_option linter.unusedVariables false

namespace Sys2Proof.Machine

/-! ### Settings in force (R510) -/

/-- The RW fields of the pairs take effect at activation; RWL fields stay and raise no VIOLATION (Table 18-7, R510). -/
def State.applyPairs (s : State) (lock : Bool) (l : List (Nat × List Byte)) : State :=
  let v := s.hif.viol
  ((settingPairs l).foldl (fun s x => s.writePlain .bar0 lock (x.1 % 0x10000 / 4 * 4) x.2) s).modHif fun h => { h with viol := v }

/-- Records that apply at a start: pairs with their RWL fields, metering calibration and key slots (Table 18-7). -/
def State.applySettings (s : State) (powerOn : Bool) : State :=
  let l := s.img.settings
  let s := s.applyPairs false l
  let s := l.foldl (fun s x =>
    if 0x10 ≤ x.1 ∧ x.1 < 0x20 then
      s.modMtr (portAt (x.1 - 0x10)) fun m =>
        { m with vcal := BitVec.ofNat 32 (getLE x.2 0 4), ical := BitVec.ofNat 32 (getLE x.2 4 4) }
    else if 0x31 ≤ x.1 ∧ x.1 < 0x38 then
      let k : Fin 8 := Fin.ofNat 8 (x.1 - 0x30)
      { s with wvl := { s.wvl with keys := s.wvl.keys.set k.val (some (BitVec.ofNat 256 (beVal x.2))) } }
    else s) s
  if ¬ powerOn then s
  else s.modHif fun h => { h with subsys := ((l.find? (·.1 == 1)).map fun x => BitVec.ofNat 32 (getLE x.2 0 4)).getD 0x16481F3A }

/-! ### Activation (R503, R504, Table 18-6) -/

/-- The Pod image of a slot; an empty one where none has been put there. -/
def ImgState.podImage (m : ImgState) (b : Bool) : List (Nat × PodEntry) :=
  if (m.manifestAt (slotAt 1 b).1).all (· == 0) then [] else podSlots (m.read ((slotAt 1 b).1 + 512) 262144)

/-- A2: the Pod image is written slot by slot under R237 and R238. -/
def State.writePodImage (s : State) (b : Bool) : State :=
  let l := s.img.podImage b
  (List.range 4096).foldl (fun s k =>
    let new := podGet l k
    if new.isNone ∧ (podGet s.pod.slots k).isNone then s else s.podStore k new) s

/-- The image of a core in a slot: LENGTH bytes from its start, as the slot's manifest gives it (R498). -/
def ImgState.image (m : ImgState) (b : Bool) (c : Nat) : List Byte :=
  match (compsOf (m.manifestAt (slotAt 0 b).1)).find? (·.typ == c + 1) with
  | some x => m.read (imageAt b c) (min x.len 0x20000)
  | none => []

/-- The code RAM of a core is loaded from a slot, at address 0. -/
def State.loadCode (s : State) (c : Fin 4) (b : Bool) : State :=
  let img := Mem.writeN 0 [] 0 (s.img.image b c.val)
  s.modCore c fun k => { k with code := img, fetchCode := img }

/-- The descriptors that a core executes end, and those waiting under DEFER (R415, Table 18-6): authentications run on the
service core of their port, journal acknowledgements on W0. -/
def State.endCoreDescs (s : State) (c : Fin 4) : State :=
  s.endWhere (fun (o : OutDesc) => o.ph == .waiting
    || (o.ph == .running && (if c = 0 then o.d.op == 0x11 else o.d.op == 0x22 && s.assigned o.d.pid == c.val)))
    stAbortedActivation

/-- A3 for one core, and the restart of A4 for W0: reset, load, and start from the slot being brought in. -/
def State.reloadCore (s : State) (c : Fin 4) (b : Bool) : State :=
  let s := ((s.endCoreDescs c).coreReset c).loadCode c b
  let s := if c = 0 then s.coreRun c else s.coreStart c 4
  s.modImg fun m => { m with actStep := if c = 0 then 4 else c.val }

/-- R509: a W0 image that writes a higher settings format migrates the settings to the candidate copy. -/
def State.migrate (s : State) : State :=
  let m := s.img
  let native := getLE m.running 32 1
  let b := m.runB 2
  let was := (m.readCopy b).getD (m.setFormat.toNat, 0, m.settings)
  if native ≤ was.1 ∨ s.rst.rescue then s
  else
    let s := s.modImg fun m =>
      let m := if m.candOf 2 = 2 then m else (m.erase 2 !m.setB).setCand 2 2
      (m.erase 2 (m.runB 2)).program (slotAt 2 (m.runB 2)).1 (copyBytes native (was.2.1 + 1) was.2.2)
    (s.modImg fun m => { m with setFormat := BitVec.ofNat 8 native }).eventD 0x0B06 [(24, 1, was.1), (25, 1, native)]

/-- A5 and A6: the candidate settings take effect, IMG_ACTIVATE completes, and the health window starts. -/
def State.activated (s : State) : State :=
  let s := if s.img.candOf 2 = 2 then
    let s := s.modImg fun m => m.takeCopy (m.runB 2)
    s.applyPairs true s.img.settings else s
  let t := s.now
  let k := s.img.actKinds.toNat
  let v := ((List.range 3).find? k.testBit).map fun i => mVersion (if i = 0 then s.img.mans[0] else if i = 1 then s.img.mans[1] else s.img.mans[2])
  let s := (s.modImg fun m => { m with actStep := 0, trial := 2, healthFrom := t }).eventD 0x0B03 [(24, 1, k), (28, 4, v.getD 0)]
  match s.runningDev 0x41 with
  | some o => s.finish o.d stOk 0
  | none => s

/-- The trial ends: no candidate is left (R505, R507). -/
def ImgState.endTrial (m : ImgState) : ImgState :=
  { (((m.setCand 0 0).setCand 1 0).setCand 2 0).dirWrite with trial := 0, trialBoots := 0, actStep := 0, falling := 0, xferSt := 0, actKinds := 0 }

/-- The previous set is in force again (R505). -/
def State.fellBack (s : State) (kinds reason : Nat) : State :=
  let was := s.img.candOf 2 = 2
  let s := s.modImg ImgState.endTrial
  let s := if was then
    let s := s.modImg fun m => m.takeCopy m.setB
    s.applyPairs true s.img.settings else s
  let s := (s.modImg fun m => { m with version := BitVec.ofNat 32 (mVersion m.running) }).eventD 0x0B05 [(24, 1, kinds), (25, 1, reason)]
  let s := match s.runningDev 0x42 with
    | some o => s.finish o.d stOk 0
    | none => s
  match s.runningDev 0x41 with
  | some o => s.finish o.d stHwFault 0
  | none => s

/-- The device falls back (R505): A2 to A4 run with the active slots. -/
def State.fallBack (s : State) (reason : Nat) : State :=
  if ¬ s.img.inTrial ∨ s.img.falling ≠ 0 then s
  else
    let s := s.modImg fun m => { m with falling := BitVec.ofNat 8 reason, trial := 3, actStep := 0 }
    let s := if s.img.candOf 1 = 2 then s.writePodImage s.img.podB else s
    if s.img.candOf 0 = 2 then s.reloadCore 3 s.img.codeB else s.fellBack (s.img.kindsIn 2) reason

/-- A core's FAULT during a trial makes the device fall back (R505). -/
def State.faultHook (s : State) : State := s.fallBack 2

/-- CORE_READY (R504, Table 18-6): a reloaded core reports ready, or fails its load check or its bound. -/
def execCoreReady (n : Fin 4) (ok : Bool) (s : State) : Res :=
  .next (
    let m := s.img
    let k := m.actStep
    if k = 0 ∨ k % 4 ≠ n.val then s
    else if m.falling ≠ 0 then
      (if n = 0 then s.fellBack (m.kindsIn 2) m.falling.toNat else s.reloadCore (Fin.ofNat 4 (n.val - 1)) m.codeB)
    else if ¬ ok then s.fallBack 6
    else if n = 0 then
      ((s.modImg fun m => { m with version := BitVec.ofNat 32 (mVersion m.running) }).migrate).activated
    else s.reloadCore (Fin.ofNat 4 (n.val - 1)) (!m.codeB))

/-- The first of the rows 3 to 7 of Table 18-5 that a staged kind's package fails at activation. -/
def State.activationRow (s : State) (kinds : Nat) : Option Nat :=
  let ms := s.img.mans
  let pods := if kinds.testBit 1 then (s.img.podImage !s.img.podB).map (·.2) else s.pod.slots.map (·.2)
  let mine := (if kinds.testBit 0 then [ms[0]] else []) ++ (if kinds.testBit 1 then [ms[1]] else []) ++ (if kinds.testBit 2 then [ms[2]] else [])
  [3, 4, 5, 6, 7].find? fun row => mine.any fun m => !s.compatible m pods row

def imgActivateSpec : CmdSpec where
  params s d :=
    let h := d.le 12 4
    if ¬ d.onlyAt [(8, 1), (12, 4)] ∨ d.le 8 1 = 0 ∨ 7 < d.le 8 1 ∨ (h ≠ 0 ∧ (h < 30 ∨ 3600 < h)) then some stBadParam else none
  legal s d :=
    if s.img.inTrial ∨ ¬ s.img.quiet ∨ s.tb.fallback
      ∨ (List.range 3).any (fun k => (d.le 8 1).testBit k && s.img.candOf k != 1) then some 15 else none
  go s d :=
    let k := d.le 8 1
    match s.activationRow k with
    | some _ => s.finish d stImageIncompatible 0
    | none =>
      let s := s.modImg fun m =>
        let m := (List.range 3).foldl (fun m i => if k.testBit i then m.setCand i 2 else m) m
        { m.dirWrite with trialBoots := 0, trial := 1, xferSt := if m.kindsIn 1 = 0 then 0 else m.xferSt, actKinds := BitVec.ofNat 3 k
                          health := if d.le 12 4 = 0 then 600 else d.le 12 4 }
      let v := ((List.range 3).find? k.testBit).map fun i => mVersion (if i = 0 then s.img.mans[0] else if i = 1 then s.img.mans[1] else s.img.mans[2])
      let s := s.eventD 0x0B02 [(24, 1, k), (28, 4, v.getD 0)]
      if s.rst.rescue then s.finish d stOk 0
      else
        let s := if k.testBit 1 then s.writePodImage !s.img.podB else s
        if k.testBit 0 then s.reloadCore 3 !s.img.codeB else s.activated

/-- IMG_ACTIVATE (R503): A1, A2 and the first core of A3; the cores follow by CORE_READY. -/
def execImgActivate (d : Desc) (s : State) : Res := .next (imgActivateSpec.start 0x41 d [] s)

/-! ### Confirmation and the health window (R505, R507) -/

/-- The trial is confirmed: the candidates become active and SEC_FLOOR rises to the packages' SEC_VER. -/
def State.confirmTrial (s : State) : State :=
  let m := s.img
  let k := m.kindsIn 2
  let sec := (List.range 3).foldl (fun a i =>
    if k.testBit i then max a (mSec (if i = 0 then m.mans[0] else if i = 1 then m.mans[1] else m.mans[2])) else a) m.secFloor.toNat
  let s := s.modImg fun m =>
    let m := { m with codeB := m.runB 0, podB := m.runB 1, setB := m.runB 2, prevOk := m.prevOk || k.testBit 0, secFloor := BitVec.ofNat 16 sec }
    let m := (List.range 3).foldl (fun m i => if k.testBit i then m.setCand i 0 else m) m
    { m.dirWrite with trial := 0, trialBoots := 0 }
  s.eventD 0x0B04 [(24, 1, k), (26, 2, sec)]

def imgConfirmSpec : CmdSpec where
  params s d := if ¬ d.onlyAt [(8, 1)] ∨ 1 < d.le 8 1 then some stBadParam else none
  legal s d := if s.img.inTrial ∧ s.img.quiet then none else some 15
  go s d := if d.le 8 1 = 1 then s.fallBack 3 else s.confirmTrial.finish d stOk 0

/-- IMG_CONFIRM (R505, R507). -/
def execImgConfirm (d : Desc) (s : State) : Res := .next (imgConfirmSpec.start 0x42 d [] s)

/-- HEALTH_WINDOW_EXPIRY (R505). -/
def execHealthWindowExpiry (s : State) : Res := .next (if s.img.trial = 2 ∧ s.img.quiet then s.fallBack 1 else s)

end Sys2Proof.Machine
end

