-- ==== Sys2Proof/Machine/Power.lean ====
section
/-! DEFINITION. Power states, sleep entry and wakes, the calendar, the tamper inputs and the backup supply (19). -/

set_option linter.unusedVariables false

namespace Sys2Proof.Machine

/-! ### Entry conditions (R519, Table 19-2) -/

/-- A port state in which the device may sleep. -/
def sleepsIn (x : PortSt) : Bool :=
  [PortSt.disabled, .unattached, .wet, .foreign, .holdoff, .faultLatched, .audioAcc].contains x

/-- The first row of Table 19-2 that fails for a target, 2 DOZE or 3 HIBERNATE, POWER_STATE commands in progress apart. -/
def State.entryRow (s : State) (target : Nat) : Option Nat :=
  let hib := target = 3
  let ports := (List.finRange 16).map s.port
  let phaseFailed (q : Port) : Bool := q.cnv.a.failed || q.cnv.b.failed || q.cnv.c.failed
  if ports.any fun q => !(sleepsIn q.cc.st && q.ef.path == .off) then some 1
  else if hib ∧ ports.any (fun q => q.cc.st.isHold || phaseFailed q) then some 2
  else if ¬ s.ses.recovDone ∨ ¬ s.pendingSes.isEmpty then some 3
  else if hib ∧ (0 < s.ctxCount 2 ∨ ¬ s.ses.pend.isEmpty ∨ s.pod.updBusy) then some 4
  else if ¬ (s.img.xferSt = 0 ∨ s.img.xferSt = 3) ∨ s.img.trial ≠ 0 then some 5
  else if s.hu.active ∨ s.tb.fallback then some 6
  else if hib ∧ s.hif.table.any (fun o => !(o.ph == .running && o.d.op == 0x48)) then some 7
  else none

/-! ### Entry (R520 to R522, Table 19-3) -/

/-- A wake source whose condition already holds sets the latch at E1: a WAKE-routed general-class monitor outside its window, a
judged tamper input at its level, and, for HIBERNATE, SRC.Rd on a port of PWR_WAKE_PORT. -/
def State.heldSources (s : State) : State :=
  let rd := (List.finRange 16).find? fun p =>
    s.pwr.wakePort.bit p.val && ((s.port p).cc.rep1 == .rd || (s.port p).cc.rep2 == .rd)
  let mon := (List.finRange 16).any fun p => (List.finRange 32).any fun m =>
    decide (8 ≤ m.val) && (s.wm p m).route.bit 2 && !(s.port p).disarmed m && (s.wm p m).isOut
  let s := match rd with | some p => s.wakeSet 1 p.val | none => s
  let s := if (List.range 2).any fun k => s.bkp.tampCfg.bit (8 * k) && s.bkp.live.getLsbD k then s.wakeSet 6 else s
  if mon then s.wakeSet 2 else s

/-- E1: the request is accepted. -/
def State.enterSleep (s : State) (target reqBy : Nat) : State :=
  ({ s with pwr := { s.pwr with entry := 1, target := BitVec.ofNat 8 target, reqBy := BitVec.ofNat 8 reqBy, wakeLatch := false
                                wakeSrc := 0, wakePortNo := 0xFF, after := false } }).heldSources

def powerStateSpec : CmdSpec where
  params s d := if ¬ d.onlyAt [(8, 1)] ∨ (d.le 8 1 ≠ 1 ∧ d.le 8 1 ≠ 2) then some stBadParam else none
  legal s d :=
    let others : State := s.modHif fun h => { h with table := h.table.filter fun o => !(o.d.sq == d.sq && o.d.slot == d.slot) }
    if s.pwr.entry ≠ 0 ∨ (others.entryRow (d.le 8 1 + 1)).isSome then some 15 else none
  go s d := s.enterSleep (d.le 8 1 + 1) 1

/-- POWER_STATE (R519). -/
def execPowerState (d : Desc) (s : State) : Res := .next (powerStateSpec.start 0x48 d [] s)

/-- Entry is abandoned (R522): 1 a condition failed, with its row, 2 the quiesce limit. -/
def State.abandonEntry (s : State) (why row : Nat) : State :=
  let t := s.pwr.target.toNat
  let s := (s.entryOver.modPwr fun w => { w with lastAbandon := BitVec.ofNat 8 why }).eventD 0x0C04 [(24, 1, t), (25, 1, why), (26, 1, row)]
  match s.runningDev 0x48 with
  | some o => if why = 1 then s.finish o.d stStateConflict (s.conflict o.d 15) else s.finish o.d stTimeout 0
  | none => s

/-- E2 is done: fetched descriptors have run to completion, those waiting under DEFER apart for DOZE, and no two-wire transaction
is in progress (R492). -/
def State.quiesced (s : State) : Bool :=
  s.hif.table.all (fun o => o.ph == .done || (o.ph == .running && o.d.op == 0x48) || (s.pwr.target == 2 && o.ph == .waiting))
    && s.twi.c.toList.all (·.item.isNone) && !s.twi.busy

/-- Records and completions of EVH and CPL. -/
def State.toHost (s : State) : Nat :=
  (List.range 3).foldl (fun a c => a + (s.flow (fEvh c)).records.length + (s.flow (fCpl c)).records.length) 0

/-- E4 for HIBERNATE: EVH and CPL are written to the host as far as its rings take them. -/
def State.flushHost (s : State) : State := (List.range s.toHost).foldl (fun s _ => (execHostRecordWrite s).st s) s

/-- What a core domain without power keeps: the backup domain, flash, the Cricket domain with its addresses and ports, and what has
left the block (R514, R523, R527, R529; 18 R496; 02 R47; 12 R371). -/
def State.coreOff (s : State) : State :=
  let m := s.img
  let base : State := {}
  { base with
    tb := { eraStored := s.tb.eraStored }
    ses := { units := s.ses.units, jrnCount := s.ses.jrnCount, wpos := s.ses.wpos, epoch := s.ses.epoch }
    img := { codeB := m.codeB, podB := m.podB, setB := m.setB, cand := m.cand, trialBoots := m.trialBoots, dirGen := m.dirGen
             prevOk := m.prevOk, mans := m.mans, secFloor := m.secFloor, health := m.health, flash := m.flash, flashMib := m.flashMib }
    pwr := s.pwr, bkp := { s.bkp with cfgErr := false, setLo := 0, setHi := 0 }
    twi := { taddr := s.twi.taddr, c := Vector.ofFn fun n => ({ ibr := s.twi.c[n].ibr } : Twc) }
    rst := { last := s.rst.last }
    out := s.out, fresh := s.fresh, pending := s.pending }

/-- In HIBERNATE each port of PWR_WAKE_PORT presents Rp at Default, and no other termination stands (R523). -/
def State.hibernatePins (s : State) : State :=
  s.forPorts fun s p => if s.pwr.wakePort.bit p.val then s.modCc p fun c => { c with rpOn := true, rpLevel := 0 } else s

/-- Seconds [31:0] of the calendar, 0 while TIME_UNKNOWN. -/
def State.calSec (s : State) : Nat := s.cal.toNat / 65536 % 2 ^ 32

/-- The SLEEP record's data (Table 19-8). -/
def sleepData (target reqBy undeliv sec : Nat) : List (Nat × Nat × Nat) :=
  [(24, 1, target), (25, 1, reqBy), (26, 2, undeliv), (28, 4, sec)]

/-- E3 and E4: entry is committed and the device sleeps. -/
def State.commitSleep (s : State) : State :=
  let w := s.pwr
  let t := w.target.toNat
  let s := s.modPwr fun w => { w with entry := 2, sleepFrom := s.bkp.cal, sleepTb := s.now, undeliv := 0 }
  let s := if t = 2 then s.eventD 0x0C01 (sleepData t w.reqBy.toNat 0 s.calSec) else s
  let s := match s.runningDev 0x48 with
    | some o => s.finish o.d stOk (evData [(24, 1, 1)])
    | none => s
  if t = 2 then s.modPwr fun w => { w with st := .doze }
  else
    let s := s.flushHost
    let n := s.toHost
    (s.coreOff.modPwr fun w => { w with st := .hibernate, coreEn := false, undeliv := BitVec.ofNat 16 (satN 16 n) }).hibernatePins

/-- QUIESCE_COMPLETE (R520, R522): the commit point judges Table 19-2 again. -/
def execQuiesceComplete (s : State) : Res :=
  .next (
    if s.pwr.entry ≠ 1 ∨ ¬ s.quiesced then s
    else match s.entryRow s.pwr.target.toNat with
      | some r => s.abandonEntry 1 r
      | none => s.commitSleep)

/-- QUIESCE_TIMEOUT (R522). -/
def execQuiesceTimeout (s : State) : Res := .next (if s.pwr.entry = 1 then s.abandonEntry 2 0 else s)

/-- DOZE_TIMER_EXPIRY (R524). -/
def execDozeTimerExpiry (s : State) : Res :=
  .next (
    if (s.pwr.st = .run ∨ s.pwr.st = .idle) ∧ s.pwr.entry = 0 ∧ s.pwr.cfg.fld 23 16 ≠ 0 ∧ (s.entryRow 2).isNone then s.enterSleep 2 2 else s)

/-- HIBERNATE_TIMER_EXPIRY (R524): HIB_MIN minutes have passed in DOZE. -/
def execHibernateTimerExpiry (s : State) : Res :=
  .next (
    if s.pwr.st = .doze ∧ s.pwr.entry = 2 ∧ ¬ s.pwr.wakeLatch ∧ s.pwr.cfg.fld 31 24 ≠ 0 ∧ (s.entryRow 3).isNone then s.enterSleep 3 3 else s)

/-- IDLE_ENTRY (R515): for 1 s every path has been OFF and no back-feed switch closed. -/
def execIdleEntry (s : State) : Res :=
  .next (
    if s.pwr.st = .run ∧ s.pwr.entry = 0 ∧ s.pwr.cfg.bit 0 ∧ (List.finRange 16).all (fun p => (s.port p).ef.path == .off && !(s.port p).ef.bfOn) then
      (s.modPwr fun w => { w with st := .idle }).eventD 0x0C00 [(24, 1, 1)]
    else s)

/-! ### Wakes (R525 to R527) -/

/-- The WAKE record, with the state left and the milliseconds slept. -/
def State.wakeRecord (s : State) (left ms : Nat) : State :=
  let w := s.pwr
  s.eventD 0x0C02 [(24, 1, w.wakeSrc.toNat), (25, 1, left), (26, 1, b2n w.after), (27, 1, w.wakePortNo.toNat), (28, 4, satN 32 ms)]

/-- The wake is over: LAST_WAKE and PWR_SLEPT hold it, and the latch is clear. -/
def State.woken (s : State) (ms : Nat) : State :=
  s.modPwr fun w => { w with lastWake := w.wakeSrc, slept := BitVec.ofNat 32 (satN 32 ms), wakeLatch := false, wakeSrc := 0
                             wakePortNo := 0xFF, after := false, entry := 0 }

/-- The protection-class monitors other than WM0 await one full check of each leg that has not failed (R517). -/
def State.recheckLegs (s : State) : State :=
  s.forPorts fun s p => s.modWm p fun w => { w with m := Vector.ofFn fun k =>
    if 1 ≤ k.val ∧ k.val < 8 then { w.m[k] with passed := b2n w.m[k].leg0 + 2 * b2n w.m[k].leg1 } else w.m[k] }

/-- WAKE_FROM_DOZE (R526): RUN again; the record follows those of its cause, and path requests that waited proceed. -/
def execWakeFromDoze (s : State) : Res :=
  .next (
    if s.pwr.st ≠ .doze ∨ ¬ s.pwr.wakeLatch then s
    else
      let ms := s.msSince s.pwr.sleepTb
      let s := ((s.modPwr fun w => { w with st := .run }).recheckLegs.wakeRecord 2 ms).woken ms
      s.forPorts State.tryPath)

/-- WAKE_FROM_HIBERNATE (R527): CORE_EN rises; a power-on reset follows. -/
def execWakeFromHibernate (s : State) : Res :=
  .next (if s.pwr.st = .hibernate ∧ s.pwr.wakeLatch then s.modPwr fun w => { w with coreEn := true } else s)

/-- HIBERNATE_CC_WAKE (R525): SRC.Rd held for 10 ms. -/
def execHibernateCcWake (p : PortId) (s : State) : Res :=
  .next (if s.pwr.st = .hibernate ∧ s.pwr.wakePort.bit p.val then s.wakeSet 1 p.val else s)

/-- PERST_RISE (R525). -/
def execPerstRise (s : State) : Res := .next (if s.pwr.st = .hibernate then s.wakeSet 4 else s)

/-- BUSIN_RISE_WAKE (R525). -/
def execBusinRiseWake (s : State) : Res := .next (s.wakeSet 7)

/-- The two-wire port, 0 TWT or 1 to 4 TWC0 to TWC3, on which an address with WAKE matches (17 R491). -/
def State.wakeAddress (s : State) (a : Nat) : Option Nat :=
  if s.twi.taddr.toList.any fun w => w.fld 9 8 != 0 && w.bit 10 && w.fld 6 0 == a then some 0
  else ((List.finRange 4).find? fun n => s.twi.c[n.val].ibr.bit 7 && s.twi.c[n.val].ibr.bit 8 && s.twi.c[n.val].ibr.fld 6 0 == a).map (·.val + 1)

/-- ADDRESS_MATCH_WAKE (17 R491, R492; R525): in HIBERNATE the first transaction is refused and TWT_WAKE waits for the boot. -/
def execAddressMatchWake (addr : BitVec 8) (s : State) : Res :=
  .next (
    match s.wakeAddress addr.toNat with
    | none => s
    | some n =>
      if s.pwr.st = .hibernate ∧ ¬ s.pwr.wakeLatch ∧ s.pwr.wakeEn.bit 3 then
        (s.modPwr fun w => { w with twWake := some (BitVec.ofNat 16 (addr.toNat + 256 * n)) }).wakeSet 3
      else s.wakeSet 3)

/-! ### Calendar (R530 to R533) -/

/-- A record of the backup domain: entered, or kept for the next boot while the core domain is off (R534). -/
def State.bkpRecord (s : State) (cause : Nat) (fs : List (Nat × Nat × Nat)) : State :=
  if s.pwr.st = .hibernate then s.modBkp fun b => { b with late := b.late ++ [(cause, evData fs)] } else s.eventD cause fs

/-- The alarm fires when the calendar has reached it (R533). -/
def State.alarmCheck (s : State) : State :=
  let b := s.bkp
  let at_ := b.alarmLo.toNat + 2 ^ 32 * b.alarmHi.fld 15 0
  if ¬ (b.alarmHi.bit 16 ∧ b.valid ∧ at_ ≤ b.cal.toNat / 65536) then s
  else
    ((s.modBkp fun b => { b with alarmHi := b.alarmHi &&& 0xFFFF, alarmFlag := true }).bkpRecord 0x0C06 [(28, 4, b.alarmLo.toNat)]).wakeSet 5

/-- CAL_ALARM (R533). -/
def execCalAlarm (s : State) : Res := .next s.alarmCheck

/-- The smallest calendar second that a set takes: 2020-01-01 (R532). -/
def calMin : Nat := 631152000

/-- The calendar is set (R532): by CAL_SET, 1, or BKP_CTRL, 2. -/
def State.setCalendar (s : State) (v : Quad) (by_ : Nat) : State :=
  let b := s.bkp
  let d : Int := (v.toNat / 65536 : Nat) - (b.cal.toNat / 65536 : Nat)
  let diff := if b.valid then ofI 32 (max (-2 ^ 31) (min (2 ^ 31 - 1) d)) else 0x80000000
  let s := (s.modBkp fun b => { b with cal := v, valid := true, frac := 0 }).eventD 0x0C07 [(24, 1, by_), (25, 1, b2n b.valid), (28, 4, diff)]
  (s.timeFix v).alarmCheck

def calSetSpec : CmdSpec where
  params s d := if ¬ d.onlyAt [(8, 8)] ∨ d.le 8 8 / 65536 < calMin then some stBadParam else none
  go s d :=
    let old := s.cal
    (s.setCalendar (BitVec.ofNat 64 (d.le 8 8)) 1).finish d stOk old

/-- CAL_SET (R532). -/
def execCalSet (d : Desc) (s : State) : Res := .next (calSetSpec.start 0x12 d [] s)

/-- A write of BKP_CTRL: SET takes BKP_SET_LO and BKP_SET_HI (R532). -/
def State.bkpCtrl (s : State) (v : Word) : State :=
  if ¬ v.bit 0 then s
  else
    let q : Nat := s.bkp.setLo.toNat + 2 ^ 32 * s.bkp.setHi.toNat
    if q / 65536 < calMin then s.bkpErr else s.setCalendar (BitVec.ofNat 64 q) 2

/-- BKP_SET (R532). -/
def execBkpSet (v : Word) (s : State) : Res := .next ((s.wakeSet 4).bkpCtrl v)

/-- CALENDAR_TRIM (R530): TRIM units of the fraction are added, or removed. -/
def execCalendarTrim (s : State) : Res :=
  .next (if s.bkp.oscStopped then s else s.modBkp fun b => { b with cal := b.cal + BitVec.ofInt 64 (sgn 8 (b.trim.fld 7 0)) })

/-- CALENDAR_OSC_FAIL (R531). -/
def execCalendarOscFail (s : State) : Res :=
  .next (
    if s.bkp.oscStopped then s
    else
      let s := s.modBkp fun b => { b with oscStopped := true, valid := false, oscFail := true }
      { s with ses := { s.ses with unknown := true } }.bkpRecord 0x0C08 [(24, 1, 2)])

/-- CALENDAR_OSC_RETURN (R531): the calendar counts again from the value it held, still not valid. -/
def execCalendarOscReturn (s : State) : Res := .next (s.modBkp fun b => { b with oscStopped := false })

/-! ### Tamper, VBAT and the backup supply (R529, R534, R535) -/

/-- TAMPER (R534): an input has held its level for the debounce, or has left it; another event requires it to leave first. -/
def execTamper (x : TamperLevel) (s : State) : Res :=
  .next (
    let b := s.bkp
    let k := x.input.val
    if ¬ x.holds then s.modBkp fun b => { b with live := b.live &&& ~~~ BitVec.ofNat 2 (2 ^ k) }
    else if ¬ b.tampCfg.bit (8 * k) ∨ b.live.getLsbD k then s
    else
      let erase := b.tampCfg.bit (8 * k + 2)
      let first := !b.lat.getLsbD k
      let cnt := satInc (if k = 0 then b.tcnt0 else b.tcnt1)
      let ts := if first then s.cal else if k = 0 then b.ts0 else b.ts1
      let bit : BitVec 2 := BitVec.ofNat 2 (2 ^ k)
      let s := s.modBkp fun b =>
        { b with lat := b.lat ||| bit, live := b.live ||| bit, gp := if erase then Vector.replicate 8 0 else b.gp
                 tcnt0 := if k = 0 then cnt else b.tcnt0, tcnt1 := if k = 0 then b.tcnt1 else cnt
                 ts0 := if k = 0 then ts else b.ts0, ts1 := if k = 0 then b.ts1 else ts }
      let off := s.pwr.st = .hibernate
      (s.bkpRecord 0x0C05 [(24, 1, k), (25, 1, cnt.toNat), (26, 1, if off then 1 else 0), (27, 1, b2n erase),
        (28, 4, ts.toNat / 65536 % 2 ^ 32)]).wakeSet 6)

/-- A write of BKP_TAMP_STAT: a 1 in LATn clears it and CNTn (R534). -/
def State.clearTamper (s : State) (v : Word) : State :=
  s.modBkp fun b => { b with lat := b.lat &&& ~~~ (v.setWidth 2), tcnt0 := if v.bit 0 then 0 else b.tcnt0
                             tcnt1 := if v.bit 1 then 0 else b.tcnt1 }

/-- TAMPER_LATCH_CLEAR (R534). -/
def execTamperLatchClear (v : Word) (s : State) : Res := .next ((s.wakeSet 4).clearTamper v)

/-- VBAT_MEASURE (R535): once a minute in RUN and IDLE. -/
def execVbatMeasure (mv : Nat) (s : State) : Res :=
  .next (
    if s.pwr.st ≠ .run ∧ s.pwr.st ≠ .idle then s
    else
      let note := decide (mv < 2000) && s.bkp.vbatArmed
      let s := s.modBkp fun b => { b with vbatMv := mv, vbatLow := decide (mv < 2000), vbatArmed := !note && (b.vbatArmed || decide (2200 < mv)) }
      if note then s.eventD 0x0C09 [(28, 2, satN 16 mv)] else s)

/-- BACKUP_SUPPLY_SWITCH (R529): the domain goes over to VBAT, or back to VDD33. -/
def execBackupSupplySwitch (onVbat : Bool) (s : State) : Res := .next (s.modBkp fun b => { b with onVbat })

end Sys2Proof.Machine
end

