-- ==== Sys2Proof/Machine/Boot.lean ====
section
/-! DEFINITION. Start-up and reset (20): power-on reset and boot, warm reset and port reset. -/

set_option linter.unusedVariables false

namespace Sys2Proof.Machine

/-! ### Stopping a port (Table 20-4 W1, R546) -/

/-- The state that a trip or a converter fault in progress takes the port to. -/
def Port.holdTarget (q : Port) : Option PortSt :=
  match q.ef.tripping.bind (·.toState) with
  | some st => some st
  | none => if q.ef.latch == 5 && !q.cc.st.isHold then some .faultLatched else none

/-- Hard Reset is signalled to a PD partner and recorded; the reset in progress takes the place of what follows it. -/
def State.hrSignal (s : State) (p : PortId) : State :=
  let q := s.port p
  if ¬ q.hasPartner then s
  else (((s.modPd p fun x => { x with hrLand := q.landing }).pdClear p .hardReset).emit (.hardReset p)).hrNote p false

/-- A port stops at W1 or under R546: an orderly opening, Hard Reset to a partner, the back-feed switch opened, VCONN removed and
the session closed. A port that a latch holds, or is taking to HOLDOFF or FAULT_LATCHED, ends there. -/
def State.stopPort (s : State) (p : PortId) (r : EndReason) : State :=
  let q := s.port p
  match q.holdTarget with
  | some st => (((((s.hrSignal p).openBf p).closeSession p r).seqOff p).vconnOff p).enterHold p st
  | none =>
    if q.cc.st.isHold ∨ q.cc.st = .disabled then ((s.openBf p).openPath p).vconnOff p
    else ((s.hrSignal p).openBf p).disable p r

/-- Latched bits, CNT and LAST of the monitors (Table 11-13). -/
def State.clearMonitors (s : State) (p : PortId) : State :=
  s.modWm p fun w => { w with m := w.m.map fun m => { m with latLo := false, latHi := false, cnt := 0, last := 0 } }

/-! ### Port reset (R546) -/

/-- What the converter, the guard and the monitors have learned returns to its value with no history (Tables 9-8, 10-5, 11-13). -/
def State.forgetPort (s : State) (p : PortId) : State :=
  let s := s.modCnv p fun c =>
    { c.modAll (fun x => { x with offset := false }) with divCorr := 0, rPath := none, samples := [], compMv := 0, hist := 0, falls := [] }
  (s.modEf p fun e => { e with bfReclosed := 0 }).clearMonitors p

def portResetSpec : CmdSpec where
  params _ d := if d.onlyAt [] then none else some stBadParam
  go s d :=
    let p := d.pid
    let before := (s.port p).cc.st
    let s := (s.setAux d before.code).endWhere (fun o => o.onPort p && !(o.d.sq == d.sq && o.d.slot == d.slot)) stAbortedPortReset
    let s := (s.stopPort p .stopped).forgetPort p
    let s := if before = .disabled ∨ (s.port p).cc.st.isHold then s else s.toUnattached p
    if (s.port p).ef.path = .off ∧ (s.port p).ef.vbusMv ≤ 800 then s.portResetDone p stOk else s

/-- PORT_RESET (R546). -/
def execPortReset (d : Desc) (s : State) : Res := .next (portResetSpec.start 0x04 d [] s)

/-! ### The slots that a boot takes (R506, R543) -/

/-- With no intact directory copy, a new one names the A slots and no candidates (R543). -/
def ImgState.repair (m : ImgState) : ImgState :=
  { m with codeB := false, podB := false, setB := false, cand := {}, trialBoots := 0, prevOk := false }.dirWrite

/-- The kinds in TRIAL are set to NONE, and the trial is over. -/
def ImgState.dropTrial (m : ImgState) : ImgState :=
  { ((List.range 3).foldl (fun m k => if m.candOf k = 2 then m.setCand k 0 else m) m).dirWrite with trialBoots := 0 }

/-- R506: one more trial boot, or the previous slots after two; with the kinds that fall back. -/
def ImgState.bootTrial (m : ImgState) : ImgState × Nat :=
  let k := m.kindsIn 2
  if k = 0 then (m, 0)
  else if m.trialBoots.toNat < 2 then ({ m with trialBoots := m.trialBoots + 1 }.dirWrite, 0)
  else (m.dropTrial, k)

/-- The code slot of a boot, given which slots match their hashes: the one chosen, or the other where it holds a confirmed set;
with the kinds that fall back, and whether neither can be booted. -/
def ImgState.bootCode (m : ImgState) (ok : Bool → Bool) : ImgState × Nat × Bool :=
  let b := m.runB 0
  if ok b then (m, 0, false)
  else if m.candOf 0 = 2 ∧ ok m.codeB then (m.dropTrial, m.kindsIn 2, false)
  else if m.candOf 0 ≠ 2 ∧ m.prevOk ∧ ok !b then ({ m with codeB := !b, prevOk := false }.dirWrite, 1, false)
  else (m, 0, true)

/-- IMG_FALLBACK, where any kind has fallen back. -/
def State.fallbackRecord (s : State) (kinds reason : Nat) : State :=
  if kinds = 0 then s else s.eventD 0x0B05 [(24, 1, kinds), (25, 1, reason)]

/-! ### B6 and W4 -/

/-- The settings copy in force is read; the other one where it is not intact (R581). -/
def State.readSettings (s : State) : State :=
  s.modImg fun m => let b := m.runB 2; if (m.readCopy b).isSome then m.takeCopy b else m.takeCopy !b

/-- What start-up holds of a trial, of an activation and of a transfer (R500, R504, R506). -/
def State.trialAtBoot (s : State) : State :=
  let t := s.now
  s.modImg fun m =>
    { m with trial := if m.inTrial then 2 else 0, healthFrom := t, actKinds := BitVec.ofNat 3 (m.kindsIn 2), actStep := 0, falling := 0
             xfer := none, xferSt := if m.kindsIn 1 ≠ 0 then 3 else 0, version := BitVec.ofNat 32 (mVersion m.running) }

/-- Every core is reset and its code RAM loaded from the slot that runs; W0 runs (B5, B6, W3). -/
def State.startCores (s : State) : State :=
  let b := s.img.runB 0
  let s := (List.finRange 4).foldl (fun s c => (s.coreReset c).loadCode c b) s
  s.coreRun 0

/-- Key slot 0 holds the device key; the others hold what the settings load (16 R465). -/
def State.resetKeys (s : State) : State :=
  { s with wvl := { s.wvl with keys := Vector.ofFn fun k => if k.val = 0 then some Config.deviceKey else none } }

/-- Settings and keys come into force, and the cores that HOLD does not hold start (B6, W4). -/
def State.loadUp (s : State) (powerOn : Bool) : State :=
  ((s.readSettings.startCores.resetKeys.migrate).readSettings.applySettings powerOn).trialAtBoot

/-- READY, with BOOT_COMPLETE (B6, W4). -/
def State.bootDone (s : State) : State :=
  let m := s.img
  let s := (s.modHif fun h => { h with ready := true }).modPwr fun w => { w with wakeOut := false }
  s.eventD 0x0D00
    [(24, 1, s.rst.last.toNat), (25, 1, b2n (m.runB 0) + 2 * b2n (m.runB 1) + 4 * b2n (m.runB 2) + 8 * b2n m.inTrial),
     (26, 1, m.setFormat.toNat), (28, 4, s.ses.epoch.toNat)]

/-- B7 and W5: each DISABLED port of GLB_PORT_AUTOEN is enabled where its floor fits; on the ring oscillator it counts as left
DISABLED by the loss (R541, R542). -/
def State.enablePorts (s : State) : State :=
  s.forPorts fun s p =>
    if ¬ (s.rst.autoen.bit p.val ∧ (s.port p).cc.st = .disabled) then s
    else if ¬ s.rpFits p 0 then s.budErr 0
    else if s.tb.fallback then { s with tb := { s.tb with tbDisabled := s.tb.tbDisabled ||| BitVec.ofNat 16 (2 ^ p.val) } }
    else s.toUnattached p

/-! ### Power-on reset and boot (Table 20-3) -/

/-- The Pod image of the slot that runs; slots that fail their check are left out and counted (08 R237). -/
def State.loadPod (s : State) : State :=
  let l := s.img.podImage (s.img.runB 1)
  let good := l.filter fun x => { s.pod with slots := l }.check x.1 x.2 == 0
  s.modPodT fun t => { t with slots := good, bad := BitVec.ofNat 8 (satN 8 (l.length - good.length)) }

/-- The records of a sleep in HIBERNATE and of the backup domain, in the order of their causes (19 R527, R534; 17 R492). -/
def State.wakeRecords (s : State) : State :=
  let w := s.pwr
  let woke := s.rst.last = 4
  let s := if woke then s.eventD 0x0C01 (sleepData w.target.toNat w.reqBy.toNat w.undeliv.toNat (w.sleepFrom.toNat / 65536 % 2 ^ 32)) else s
  let late := s.bkp.late
  let s := late.foldl (fun s x => s.event x.1 0xFF x.2) (s.modBkp fun b => { b with late := [] })
  let s := match w.twWake with
    | some v => (s.modPwr fun w => { w with twWake := none }).eventD 0x0A06 [(24, 1, v.toNat % 256), (25, 1, v.toNat / 256)]
    | none => s
  if woke then
    let ms := (s.bkp.cal - w.sleepFrom).toNat * 1000 / 65536
    (s.wakeRecord 3 ms).woken ms
  else s

/-- Rescue (R543): W0 stays in boot ROM, and no port or queue is served. -/
def State.rescue (s : State) (why : Nat) : State :=
  let s := s.coreRun 0
  let s := { s with rst := { s.rst with rescue := true } }
  ((s.modHif fun h => { h with ready := true }).modPwr fun w => { w with wakeOut := false }).eventD 0x0D03 [(24, 1, why)]

/-- B5 to B7: the journal scan of B8 is a command of its own. -/
def State.bootOn (s : State) (i : BootIn) : State :=
  let m := if i.dirOk then s.img else s.img.repair
  let gen := m.dirGen
  let (m, k4) := m.bootTrial
  let (m, k5, bad) := m.bootCode fun b => if b then i.codeBOk else i.codeAOk
  let era : BitVec 24 := (if i.countersOk then s.tb.eraStored else 0) + 1
  let s := { s with
    img := { m with secFloor := if i.countersOk then m.secFloor else 0 }
    tb := { s.tb with era, eraSaved := i.eraWritten, eraStored := if i.eraWritten then era else s.tb.eraStored }
    ses := { s.ses with epoch := (if i.countersOk then s.ses.epoch else 0) + 1, unknown := !s.bkp.valid }
    rst := { s.rst with boot := none, booted := !bad, rescue := bad } }
  let s := if i.eraWritten then s else s.event 0x0006 0xFF (evData [(24, 3, era.toNat)])
  let s := if i.dirOk then s else s.eventD 0x0D04 [(24, 1, gen.toNat % 256)]
  let s := (s.fallbackRecord k4 4).fallbackRecord k5 5
  if bad then s.rescue (b2n (!i.codeAOk) + 2 * b2n (!i.codeBOk))
  else (((s.loadUp true).loadPod).wakeRecords.bootDone).enablePorts

/-- What a power-on reset leaves before the crystal: everything at its reset value but the backup domain, flash, and after a
HIBERNATE wake what the Cricket domain holds of the sleep (Tables 20-1, 20-2). -/
def State.powerReset (s : State) (cause : Nat) (lost : Bool) : State :=
  let w := s.pwr
  let kept : PwrState :=
    { target := w.target, reqBy := w.reqBy, undeliv := w.undeliv, sleepFrom := w.sleepFrom, wakeSrc := w.wakeSrc, wakePortNo := w.wakePortNo
      after := w.after, twWake := w.twWake, wakeOut := w.wakeOut }
  let s := { s.coreOff with twi := {}, pwr := if cause = 4 then kept else {}, rst := { last := BitVec.ofNat 3 cause } }
  if lost then { s with bkp := { late := [(0x0C08, evData [(24, 1, 1)])] } } else s.modBkp fun b => { b with onVbat := false }

/-- POWER_ON_RESET (R537, R540 to R543): causes 1 to 4 of HIF_RST_STAT.LAST. -/
def execPowerOnReset (cause : Fin 8) (boot : BootIn) (s : State) : Res :=
  .next (
    let c := cause.val
    let hib := s.pwr.st = .hibernate
    if c = 0 ∨ 4 < c ∨ (c = 4 ∧ ¬ (hib ∧ s.pwr.coreEn)) ∨ (c = 2 ∧ ¬ s.pwr.coreEn) then s
    else
      let s := s.powerReset c boot.backupLost
      if boot.crystal then s.calibrate.bootOn boot else { s with rst := { s.rst with boot := some boot } })

/-- CRYSTAL_START_TIMEOUT (R542): boot goes on with the ring oscillator. -/
def execCrystalStartTimeout (s : State) : Res :=
  .next (
    match s.rst.boot with
    | none => s
    | some i =>
      let s := { s with tb := { s.tb with fallback := true, lostSeen := true, lossCount := s.tb.count } }
      (s.bootOn i).eventD 0x0004 [(24, 1, 1)])

/-! ### Warm reset (R544, R545, Table 20-4) -/

/-- HIF_LOCK and the RWL fields return to their reset values; those of the backup domain stay (Table 20-2). A CAP below the default
RESERVED stays as it is (DESIGN CHOICE, notes/assumptions/101). -/
def State.clearRwl (s : State) : State :=
  let z : State := {}
  let put (old new m : Word) : Word := (old &&& ~~~ m) ||| (new &&& m)
  let s := s.modHif fun h => { h with lock := false, viol := false }
  let s := { s with
    rst := { s.rst with byTwt := false, ntc := z.rst.ntc, autoen := z.rst.autoen }
    sto := { s.sto with cfg := z.sto.cfg, c2cap := z.sto.c2cap
                        flows := Vector.ofFn fun k => { s.sto.flows[k] with resv := z.sto.flows[k].resv } }
    bud := { s.bud with cfg := put s.bud.cfg z.bud.cfg 0xF0000 }
    wvl := { s.wvl with wdog := z.wvl.wdog
                        cores := Vector.ofFn fun c => { s.wvl.cores[c] with hold := z.wvl.cores[c].hold, haltReq := false, autoRst := true } }
    twi := { s.twi with taddr := z.twi.taddr, tbase := z.twi.tbase, tcfg := put s.twi.tcfg z.twi.tcfg 0x20 } }
  s.forPorts fun s p => s.modPort p fun q =>
    { q with
      cnv := { q.cnv with vloop1 := put q.cnv.vloop1 0x001E0000 0x7F0000, irc := put q.cnv.irc 0x00003200 0xFF
                          imcalA := 0x03E80320, imcalB := 0x03E80320, imcalC := 0x03E80320 }
      mtr := { q.mtr with cfg := put q.mtr.cfg 0x00000A02 2, vcal := 0, ical := 0 }
      wm := { q.wm with m := Vector.ofFn fun k =>
        if k.val < 8 then { q.wm.m[k] with cfg := put q.wm.m[k].cfg wmReset[k].cfg 3 } else q.wm.m[k] } }

/-- W2: every outstanding descriptor ends, and the posted buffers with them (R416). -/
def State.warmEnd (s : State) : State :=
  (s.endWhere (fun _ => true) stAbortedDeviceReset).modHif fun h => { h with mtrBufs := [], wavBufs := [] }

/-- W3 for a two-wire controller: the transaction in progress stops, a core's item ends for it, and recovery is due (17 R484, R488). -/
def State.warmBus (s : State) (n : Fin 4) : State :=
  let c := s.twi.c[n.val]
  let s := match c.item with
    | some x => (match x.core with
      | some k => s.coreResult n.val x k stAbortedDeviceReset 0 []
      | none => s)
    | none => s
  s.modTwc n fun c =>
    { c with item := none, st := if c.st = .busy then (if c.cfg.bit 2 then .idle else .disabled) else c.st, retries := 0
             retryDue := false, lossByte := 0xFF, lossBit := 0xFF, lossPhase := 0xFF, needRecovery := true }

/-- W5: the state of Tables 9-8 and 11-13 that a warm reset clears, each leg to be checked again (R350). -/
def State.warmPort (s : State) (p : PortId) : State :=
  let s := s.modCnv p fun c =>
    { c.modAll (fun x => { x with failed := false, sense := false, railRun := 0, devRun := 0, underRun := 0 }) with
      hist := 0, falls := [], pathFail := false, shuntTotal := false, incRun := 0 }
  let s := (s.modEf p fun e => { e with bfReclosed := 0 }).clearMonitors p
  s.modWm p fun w =>
    { w with initDone := false, m := w.m.map fun m => { m with leg0 := false, leg1 := false, chkFail := false, actLeg1 := false, passed := 0, forced := false } }

/-- The warm reset runs: W1 to W6. Out of a rescue it boots the activated package (R543), with the Pod load that rescue left out. -/
def State.warmRun (s : State) : State :=
  let r := s.rst
  let live := mapOf fun p => (s.port p).ef.path != .off
  let s := (s.modHif fun h => { h with ready := false }).eventD 0x0D01
    [(24, 1, r.warmBy.toNat), (25, 1, b2n r.warmForce), (26, 2, live.toNat)]
  let s := (s.forPorts fun s p => s.stopPort p .device).warmEnd
  let s := (List.finRange 4).foldl State.warmBus s
  let s := s.modTwi fun t => { t with tver := 1, tverNext := none }
  let s := { s with rst := { s.rst with warmPend := false, warmBy := 0, warmForce := false, last := if r.warmBy = 2 then 6 else 5
                                        warmCount := satInc s.rst.warmCount } }
  let (m, k4) := s.img.bootTrial
  let s := ({ s.clearRwl with img := m }.fallbackRecord k4 4).forPorts State.warmPort
  if r.rescue ∧ s.img.candOf 0 ≠ 2 then s.rescue 3
  else
    let s := { s with rst := { s.rst with rescue := false, booted := true } }
    let s := s.loadUp false
    ((if r.rescue then s.loadPod else s).bootDone).enablePorts

/-- Nothing makes a requested warm reset wait. -/
def State.warmMay (s : State) : Bool :=
  (!s.hu.active || s.rst.warmForce) && s.pwr.entry == 0 && (s.pwr.st == .run || s.pwr.st == .idle) && (s.rst.booted || s.rst.rescue)

/-- A warm reset is requested, by 1 the host or 2 the supervisor; a further request is merged into one that waits (R544). -/
def State.warmRequest (s : State) (by_ : Nat) (force : Bool) : State :=
  let s := if s.pwr.entry = 1 then s.abandonWake 4 0xFF else if s.pwr.st = .doze ∧ ¬ s.pwr.wakeLatch then s.latchWake 4 0xFF else s
  let s := { s with rst := { s.rst with
    warmPend := true, warmBy := if s.rst.warmPend then s.rst.warmBy else BitVec.ofNat 2 by_, warmForce := s.rst.warmForce || force } }
  if s.warmMay then s.warmRun else s

/-- A write of HIF_RST (R544, Table 20-8). -/
def State.hifRst (s : State) (i : Iface) (v : Word) : State :=
  if v.fld 15 0 ≠ 0x5752 then s.hifErr 1
  else if ¬ v.bit 16 then s
  else s.warmRequest (if i = .twt then 2 else 1) (v.bit 17)

/-- WARM_RESET (R544): through TWT where SUP_WR is 1. -/
def execWarmReset (i : Iface) (v : Word) (s : State) : Res :=
  .next (
    if i = .twt then
      (if (s.twtMay 0x60).isSome then s.hifRst i v else s.modTwi fun t => { t with wrRefused := true })
    else (s.wakeSet 4).hifRst i v)

/-- WARM_RESET_PROCEED (R544): what the request waited for is over. -/
def execWarmResetProceed (s : State) : Res := .next (if s.rst.warmPend ∧ s.warmMay then s.warmRun else s)

end Sys2Proof.Machine
end

