-- ==== Sys2Proof/Machine/Twc.lean ====
section
/-! DEFINITION. The two-wire controllers TWC0 to TWC3 (17 R483 to R490). -/

set_option linter.unusedVariables false

namespace Sys2Proof.Machine

/-! ### TWI_XFER -/

def twiXferSpec : CmdSpec where
  params s d :=
    let w := d.le 12 2
    let r := d.le 14 2
    if ¬ d.onlyAt [(8, 24)] ∨ ¬ twiOk (d.le 8 1) (d.le 9 1) (d.le 10 2) w r ∨ (w = 0 ∧ d.le 16 8 ≠ 0) ∨ (r = 0 ∧ d.le 24 8 ≠ 0) then some stBadParam
    else none
  legal s d := if s.twi.c[(Fin.ofNat 4 (d.le 8 1)).val].cfg.bit 2 then none else some 15
  go s d :=
    let data := ((s.outDesc d.sq d.slot).map (·.data)).getD []
    s.sendCell (fTwq (Fin.ofNat 4 (d.le 8 1))) (.tw
      { sq := d.sq, slot := d.slot, addr10 := (d.le 9 1).testBit 0, addr := BitVec.ofNat 16 (d.le 10 2), wlen := d.le 12 2, rlen := d.le 14 2
        wdata := getBytes data 0 (d.le 12 2), rdataAddr := BitVec.ofNat 64 (d.le 24 8), tag := d.tag })

/-- TWI_XFER (R483, R484), with the write bytes fetched from host memory. -/
def execTwiXfer (d : Desc) (wdata : List Byte) (s : State) : Res := .next (twiXferSpec.start 0x30 d wdata s)

/-! ### An item ends -/

/-- The state of a controller whose transaction has ended: idle, or disabled where EN has been cleared meanwhile. -/
def Twc.free (c : Twc) : Twc :=
  { c with item := none, retryDue := false, retries := 0, lossByte := 0xFF, lossBit := 0xFF, lossPhase := 0xFF
           st := if c.st = .quarantined then .quarantined else if c.cfg.bit 2 then .idle else .disabled }

/-- The producer of an item learns its status and result: the descriptor completes after its read bytes, or a core gets a WMSG
cell (Table 17-4). -/
def State.twTell (s : State) (n : Fin 4) (x : TwItem) (status : Nat) (res : Quad) (rd : List Byte) : State :=
  match x.core with
  | some k => s.coreResult n.val x k status res rd
  | none =>
    match s.outDesc x.sq x.slot with
    | some o =>
      if o.ph ≠ DPhase.running ∨ o.d.op ≠ 0x30 then s
      else (if rd.isEmpty then s else s.hostPut x.rdataAddr rd).finish o.d status res
    | none => s

/-- An item completes with a status: `moved` data bytes, and the failing byte with its phase, where there is one. -/
def State.twEnd (s : State) (n : Fin 4) (x : TwItem) (status moved : Nat) (at_ : Option (Nat × Nat)) (rd : List Byte := []) : State :=
  let c := s.twi.c[n.val]
  let byte := match at_ with | some a => satN 8 a.1 | none => c.lossByte.toNat
  let phase := match at_ with | some a => a.2 | none => c.lossPhase.toNat
  let res := evData [(24, 2, moved), (26, 1, byte), (27, 1, c.lossBit.toNat), (28, 1, c.retries), (29, 1, phase)]
  let s := s.modTwc n fun c => { c.free with cnt := if status = stOk then c.cnt else c.cnt.cntInc 0 }
  s.twTell n x status res rd

/-- Arbitration is lost (R486): the record, and the item waits to start again, or has used its retries. -/
def State.twLoss (s : State) (n : Fin 4) (x : TwItem) (byte bit phase moved : Nat) : State :=
  let s := s.modTwc n fun c =>
    { c with lossByte := BitVec.ofNat 8 (satN 8 byte), lossBit := BitVec.ofNat 8 bit, lossPhase := BitVec.ofNat 8 phase, cnt := c.cnt.cntInc 1 }
  let s := s.eventD 0x0A02 [(24, 1, n.val), (25, 1, satN 8 byte), (26, 1, bit), (27, 1, phase), (28, 2, x.addr.toNat)]
  if s.twi.c[n.val].retries < s.twi.c[n.val].cfg.fld 6 4 then
    s.modTwc n fun c => { c with item := some x, st := .busy, retryDue := true, retries := c.retries + 1 }
  else s.twEnd n x 0x0082 moved none

/-- A loss without a retry, while a STOP, 4, or a repeated START, 2, forms (R487). -/
def State.twLossAt (s : State) (n : Fin 4) (x : TwItem) (status byte phase moved : Nat) : State :=
  let s := s.modTwc n fun c =>
    { c with lossByte := BitVec.ofNat 8 (satN 8 byte), lossBit := 0xFF, lossPhase := BitVec.ofNat 8 phase, cnt := c.cnt.cntInc 1 }
  (s.eventD 0x0A02 [(24, 1, n.val), (25, 1, satN 8 byte), (26, 1, 0xFF), (27, 1, phase), (28, 2, x.addr.toNat)]).twEnd n x status moved none

/-- An item goes on the wire (R483), with the way it goes. -/
def State.twRun (s : State) (n : Fin 4) (x : TwItem) (r : TwcRes) : State :=
  let s := (s.modTwc n fun c => { c with item := some x, st := .busy, retryDue := false }).emit (.twiStart n x)
  match r with
  | .done data => s.twEnd n x stOk (x.wlen + x.rlen) none (getBytes data 0 x.rlen)
  | .nack byte phase moved => s.twEnd n x (if phase = 1 then 0x0081 else 0x0080) moved (some (byte, phase))
  | .arbLost byte bit phase moved => s.twLoss n x byte bit phase moved
  | .arbStop byte moved => s.twLossAt n x 0x0083 byte 4 moved
  | .arbRestart byte moved => s.twLossAt n x 0x0084 byte 2 moved
  | .busError byte phase moved => s.twEnd n x 0x0087 moved (some (byte, phase))
  | .stretched => s
  | .busLow => s

/-- The next item of TWQn. -/
def State.twNext (s : State) (n : Fin 4) : Option TwItem :=
  match (s.flow (fTwq n)).head with
  | some (.tw x) => some x
  | _ => none

/-- An item of the host's whose descriptor has ended meanwhile. -/
def State.twDead (s : State) (x : TwItem) : Bool :=
  x.core.isNone && !((s.outDesc x.sq x.slot).any fun (o : OutDesc) => o.ph == DPhase.running && o.d.op == 0x30)

/-- TWC_ITEM (R483, R484, R488, R492): the next item starts, or ends without a START on a disabled or quarantined bus. -/
def execTwcItem (n : Fin 4) (r : TwcRes) (s : State) : Res :=
  .next (
    let c := s.twi.c[n.val]
    if s.pwr.entry = 1 ∨ s.pwr.st = .hibernate ∨ c.item.isSome then s
    else if ((s.flow (fTwq n)).cells.head?.bind Cell.ue).isSome then s.headUe (fTwq n)
    else
      let s := s.headUe (fTwq n)
      match s.twNext n with
      | none => s
      | some x =>
        let t := s.popRecord (fTwq n)
        if s.twDead x then t
        else if c.st = .disabled then t.twEnd n x 0x0088 0 none
        else if c.st = .quarantined then t.twEnd n x 0x0085 0 none
        else if x.bad then t.twEnd n x stBadParam 0 none
        else if c.needRecovery then s
        else if r = TwcRes.busLow then s.modTwc n fun c => { c with needRecovery := true, sdaLow := true }
        else t.twRun n x r)

/-- ARB_RETRY (R486): after the next STOP and the bus free time the item starts again. -/
def execArbRetry (n : Fin 4) (r : TwcRes) (s : State) : Res :=
  .next (
    let c := s.twi.c[n.val]
    match c.item with
    | some x =>
      if ¬ c.retryDue ∨ c.needRecovery then s
      else if r = TwcRes.busLow then s.modTwc n fun c => { c with needRecovery := true, sdaLow := true }
      else s.twRun n x r
    | none => s)

/-- STRETCH_TIMEOUT (R485): the target has stretched SCL beyond the limit, `moved` data bytes into the item. -/
def execStretchTimeout (n : Fin 4) (moved : Nat) (s : State) : Res :=
  .next (
    let c := s.twi.c[n.val]
    match c.item with
    | some x =>
      if c.retryDue then s
      else (s.modTwc n fun c => { c with needRecovery := true, cnt := c.cnt.cntInc 2 }).twEnd n x 0x0086 moved none
    | none => s)

/-! ### Recovery and quarantine (R488, R489) -/

/-- A recovery has been tried: `sda` and `scl` say which line is still low. -/
def State.recovered (s : State) (n : Fin 4) (sda scl : Bool) : State :=
  s.modTwc n fun c => { c with sdaLow := sda, sclLow := scl, needRecovery := false, cnt := c.cnt.cntInc 3 }

/-- BUS_RECOVERY (R488). -/
def execBusRecovery (n : Fin 4) (sda scl : Bool) (pulses : Nat) (s : State) : Res :=
  .next (
    let c := s.twi.c[n.val]
    if ¬ c.needRecovery ∨ c.st = .disabled ∨ c.st = .quarantined then s
    else
      let s := s.recovered n sda scl
      if ¬ sda ∧ ¬ scl then s
      else
        let t := s.now
        let s := (s.modTwc n fun c => { c with st := .quarantined, attempts := 0, quarFrom := t }).eventD 0x0A00
          [(24, 1, n.val), (25, 1, if scl then 2 else 1), (26, 1, min 9 pulses)]
        match c.item with
        | some x => s.twEnd n x 0x0085 0 none
        | none => s)

/-- QUARANTINE_RETRY (R488, R489): RECOVER × 10 ms have passed. -/
def execQuarantineRetry (n : Fin 4) (sda scl : Bool) (pulses : Nat) (s : State) : Res :=
  .next (
    if s.twi.c[n.val].st ≠ .quarantined then s
    else
      let s := (s.recovered n sda scl).modTwc n fun c => { c with attempts := c.attempts + 1 }
      if sda ∨ scl then s
      else
        let c := s.twi.c[n.val]
        (s.modTwc n fun c => { c with st := if c.cfg.bit 2 then .idle else .disabled }).eventD 0x0A01
          [(24, 1, n.val), (25, 1, satN 8 c.attempts), (28, 4, satN 32 (s.msSince c.quarFrom))])

/-! ### In-band requests (R490) -/

/-- TWC_INBAND: a write of 1 to 6 bytes at the listen address of a port that is idle or has just lost arbitration. -/
def execTwcInband (n : Fin 4) (bytes : List Byte) (s : State) : Res :=
  .next (
    let c := s.twi.c[n.val]
    if ¬ c.ibr.bit 7 ∨ bytes.isEmpty ∨ s.pwr.st = .hibernate ∨ ¬ (c.st = .idle ∨ (c.st = .busy ∧ c.retryDue)) then s
    else
      let b := bytes.take 6
      s.eventD 0x0A03 ([(24, 1, n.val), (25, 1, b.length)] ++ b.zipIdx.map fun x => (26 + x.2, 1, x.1.toNat)))

end Sys2Proof.Machine
end

