-- ==== Sys2Proof/Machine/Commands.lean ====
section
/-! DEFINITION. Commands that wait under DEFER (14 R425), the time limits of commands (02 R54), and the deletion of queues (13 R395),
and the return of credit to a waiting producer (03 R77). -/

set_option linter.unusedVariables false

namespace Sys2Proof.Machine

/-- How a port command of an opcode is judged and started; the two times are those of a MONITOR_TEST. -/
def portSpec (leg0 leg1 : Option Nat) (op : Nat) : Option CmdSpec :=
  match op with
  | 0x02 => some portEnableSpec
  | 0x03 => some portDisableSpec
  | 0x04 => some portResetSpec
  | 0x05 => some clearFaultSpec
  | 0x06 => some hardResetSpec
  | 0x07 => some renegotiateSpec
  | 0x08 => some setpointTrimSpec
  | 0x09 => some roleSwapSpec
  | 0x0A => some vconnSwapSpec
  | 0x0B => some vconnSetSpec
  | 0x0C => some backfeedSetSpec
  | 0x0D => some phaseClearSpec
  | 0x21 => some podRelookupSpec
  | 0x22 => some authenticateSpec
  | 0x23 => some fleetModeSpec
  | 0x28 => some (monitorTestSpec leg0 leg1)
  | _ => none

/-- How a device command of an opcode is judged and started. -/
def devSpec (op : Nat) : Option CmdSpec :=
  match op with
  | 0x01 => some nopSpec
  | 0x10 => some sessionReadSpec
  | 0x11 => some sessionAckSpec
  | 0x12 => some calSetSpec
  | 0x20 => some podWriteSpec
  | 0x30 => some twiXferSpec
  | 0x38 => some faultLogReadSpec
  | 0x40 => some (imgBlockSpec 0)
  | 0x41 => some imgActivateSpec
  | 0x42 => some imgConfirmSpec
  | 0x48 => some powerStateSpec
  | _ => none

/-- How an opcode is judged and started (Table 14-1). -/
def specOf (leg0 leg1 : Option Nat) (op : Nat) : Option CmdSpec := (portSpec leg0 leg1 op).or (devSpec op)

/-- The condition that a waiting descriptor meets now, and byte 28 of R424. -/
def State.waitCond (s : State) (d : Desc) : Option (Nat × Nat) :=
  match specOf none none d.op.toNat with
  | none => none
  | some k => (k.cond s d).map fun c => (c, k.byte28 s d)

/-- DEFERRED_START (14 R425): judged again from step 1; a command that still meets a condition goes on waiting. What a monitor test
measures is left open (a free value). -/
def execDeferredStart (sq : Fin 16) (slot : BitVec 12) (s : State) : Res :=
  .next (
    match s.outDesc sq slot with
    | none => s
    | some o =>
      if o.ph ≠ .waiting then s
      else
        let (v, s) := s.draw
        let leg (k : Nat) : Option Nat := if v.getLsbD k then some ((v.toNat / 2 ^ (64 * (k + 1))) % 2 ^ 32) else none
        match specOf (leg 0) (leg 1) o.d.op.toNat with
        | some k => k.judge o.d s
        | none => s)

/-- DEFER_TIMEOUT (14 R424, R425): TIMEOUT, with the state met at expiry. -/
def execDeferTimeout (sq : Fin 16) (slot : BitVec 12) (s : State) : Res :=
  .next (
    match s.outDesc sq slot with
    | none => s
    | some o =>
      if o.ph ≠ .waiting then s
      else match s.waitCond o.d with
        | some c => s.finish o.d stTimeout (s.conflict o.d c.1 c.2)
        | none => s)

/-- COMMAND_TIME_LIMIT_EXPIRY (02 R54): a back-feed CLOSE leaves its switch open and completes TIMEOUT (10 Table 10-8), and a port
reset whose VBUS is not proven at vSafe0V completes HW_FAULT (20 R546). -/
def execCommandTimeLimitExpiry (sq : Fin 16) (slot : BitVec 12) (s : State) : Res :=
  .next (
    match s.outDesc sq slot with
    | none => s
    | some o =>
      if o.ph ≠ .running then s
      else if o.d.op = 0x0C then ((s.openBf o.d.pid).modEf o.d.pid fun e => { e with bfWhy := 0 }).finish o.d stTimeout 0
      else if o.d.op = 0x04 then s.portResetDone o.d.pid stHwFault
      else s)

/-! ### The scan at boot -/

/-- JOURNAL_SCAN (12 R377, R378): with RECOVERY_DONE a path request that has waited in OFF is served (01 R14). -/
def execJournalScan (s : State) : Res :=
  .next (if s.ses.recovDone ∨ ¬ s.rst.booted then s else s.scanJournal.forPorts State.tryPath)

/-! ### Credit that returns -/

/-- CREDIT_RETURN (R77): a waiting producer takes the credit that has returned to its flow, the first to wait first; a core's waiting
ALLOC does so by FLOW_PORT_WAIT_DONE. A block of IMG or PODUPD whose cells have all entered goes on to its consumer. -/
def execCreditReturn (flow : Nat) (s : State) : Res :=
  .next (
    if s.credit flow = 0 then s
    else if 0x10 ≤ flow ∧ flow < 0x20 then
      let p : PortId := ⟨flow % 16, Nat.mod_lt _ (by decide)⟩
      (s.admitTx p).nextTx p
    else if 0x40 ≤ flow ∧ flow < 0x50 then s.putMerged ⟨flow % 16, Nat.mod_lt _ (by decide)⟩
    else if 0x50 ≤ flow ∧ flow < 0x60 then (s.admitCell flow).pumpWave
    else if flow = fPodUpd then s.podBlocksGo
    else if flow = fImg then s.imgBlocksGo
    else if flow = fJrn ∨ 0x70 ≤ flow then s.admitCell flow
    else s)

/-! ### Deleting a queue -/

/-- An SQ stops being fetched; its waiting descriptors end with the state they met, posted buffers end with what they hold, and it
is absent once its last completion has been written. -/
def State.deleteSq (s : State) (k : Fin 16) : State :=
  let s := s.modSq k fun q => { q with st := .deleting }
  let s := (s.hif.table.filter fun o => o.d.sq == k && o.ph == .waiting).foldl
    (fun s o => let c := (s.waitCond o.d).getD (0, 0); s.finish o.d stStateConflict (s.conflict o.d c.1 c.2)) s
  let mine (b : StreamBuf) : Bool := b.d.sq == k
  let bufs := s.hif.mtrBufs.filter mine ++ s.hif.wavBufs.filter mine
  let s := s.modHif fun h => { h with mtrBufs := h.mtrBufs.filter (!mine ·), wavBufs := h.wavBufs.filter (!mine ·) }
  (bufs.foldl State.endBuf s).sqGone k

/-- QUEUE_DELETE (13 R395, R418). -/
def execQueueDelete (s : State) : Res :=
  .next (
    let h := s.hif
    if h.selSt ≠ .live ∧ h.selSt ≠ .faulted then s.qResult 6
    else if h.selKind = 0 then (s.deleteSq h.selIx).qResult 0
    else if h.selKind = 1 then
      (if h.sq.toList.any (fun q => q.st != .absent && q.cfg.fld 7 4 == h.selIx.val) then s.qResult 3
       else ((s.modCq h.selIx fun _ => {}).orphan fun k => k == h.selIx.val).qResult 0)
    else (s.modEq fun _ => {}).qResult 0)

end Sys2Proof.Machine
end

