-- ==== Sys2Proof/Machine/RegBus.lean ====
section
/-! DEFINITION. Writes on the register bus (00 R5, 22 R567, R572, R577, R578): each offset of BAR0 to what its write does. -/

set_option linter.unusedVariables false

namespace Sys2Proof.Machine

/-- A write of HIF_LOCK (22 R572): LOCK is set for good, with the interface that set it, and VIOLATION is cleared by a 1. -/
def State.lockWrite (s : State) (i : Iface) (v : Word) : State :=
  let first := v.bit 0 && !s.hif.lock
  let s := s.modHif fun h => { h with lock := h.lock || v.bit 0, viol := h.viol && !v.bit 1 }
  if first then { s with rst := { s.rst with byTwt := i == .twt } } else s

/-- A write of HIF_QCTRL: 1 create, 2 delete, 3 discard orphans (13 R419). -/
def State.qctrlWrite (s : State) (v : Word) : State :=
  let op := v.fld 1 0
  if op = 1 then (execQueueCreate s).st s
  else if op = 2 then (execQueueDelete s).st s
  else if op = 3 then (execDiscardOrphans s).st s
  else s

/-- A write of POD_CTRL: 1 read, 2 write, 3 delete the slot (08 R252). -/
def State.podCtrl (s : State) (v : Word) : State :=
  let op := v.fld 1 0
  if op = 1 then (execPodReadSlot s).st s
  else if op = 2 then (execPodWriteSlot s).st s
  else if op = 3 then (execPodDeleteSlot s).st s
  else s

/-- A write of a doorbell, at an offset from 0xF000 (13 R420). -/
def State.doorbell (s : State) (o : Nat) (v : Word) : State :=
  if o < 0x40 then (execSqTailDoorbell (Fin.ofNat 16 (o / 4)) v s).st s
  else if o < 0x80 then (execCqHeadDoorbell (Fin.ofNat 16 ((o - 0x40) / 4)) v s).st s
  else if o = 0x80 then (execEqHeadDoorbell v s).st s
  else s

/-- A write of the aligned word at an offset of BAR0, through an interface: nothing where Table 22-1 assigns nothing (R567). -/
def State.writeReg (s : State) (i : Iface) (a : Nat) (v : Word) : State :=
  if a = 0x04 then (execRingSelWrite v s).st s
  else if a = 0x34 then s.qctrlWrite v
  else if a = 0x60 then s.hifRst i v
  else if a = 0x70 then s.lockWrite i v
  else if a = 0xA024 then s.podCtrl v
  else if a = 0xD020 then s.bkpCtrl v
  else if a = 0xD028 then s.clearTamper v
  else if 0xF000 ≤ a ∧ a < 0x10000 then s.doorbell (a - 0xF000) v
  else s.writePlain i s.hif.lock a v

/-- A write through TWT of a register the supervisor may write, with the fields that are marked; any other is refused (17 R475,
22 R577, R578). -/
def State.twtWrite (s : State) (a : Nat) (v : Word) : State :=
  match s.twtMay a with
  | none => s.modTwi fun t => { t with wrRefused := true }
  | some m => if a = 0xC010 then s.mapSel (v.fld 23 16) else s.writeReg .twt a (v &&& m)

/-- A write on an interface; BAR0's reaches a sleeping device as a wake (19 Table 19-4). -/
def State.ifaceWrite (s : State) (i : Iface) (a : Nat) (v : Word) : State :=
  if i = .twt then s.twtWrite a v else (s.wakeSet 4).writeReg i a v

/-- REGISTER_WRITE (00 R5; 13 R390): an access that is not an aligned word is ignored. -/
def execRegisterWrite (i : Iface) (off : BitVec 20) (v : Word) (s : State) : Res :=
  .next (if off.toNat % 4 ≠ 0 then s.hifErr 6 else s.ifaceWrite i off.toNat v)

/-- LIMIT_WRITE (06 R191). -/
def execLimitWrite (i : Iface) (v : Word) (s : State) : Res := .next (s.ifaceWrite i 0x2000 v)

/-- LOCK_SET (22 R572). -/
def execLockSet (i : Iface) (v : Word) (s : State) : Res := .next (s.ifaceWrite i 0x70 v)

end Sys2Proof.Machine
end

