-- ==== Sys2Proof/Machine/Twt.lean ====
section
/-! DEFINITION. The two-wire target TWT (17 R470 to R482): register window, event window, alert and in-band request. -/

set_option linter.unusedVariables false

namespace Sys2Proof.Machine

/-! ### Addresses (R472, R473) -/

/-- What an address reaches. -/
inductive TwtWin
  | regs (base size : Nat)
  | events
  deriving DecidableEq, Repr

/-- The window behind an address, if TWT answers it; in HIBERNATE it answers none (R491). -/
def State.twtWin (s : State) (a : Nat) : Option TwtWin :=
  let t := s.twi
  if s.pwr.st = .hibernate then none
  else match (t.taddr.toList.find? fun w => w.fld 9 8 != 0 && w.fld 6 0 == a) with
    | some w => some (if w.fld 9 8 = 1 then .regs 0 0x10000 else .events)
    | none => (blockPage t.tbase a).map fun p => .regs (0x4000 + 0x400 * p) 0x400

/-- A START on the bus: a change of SEL takes effect (R478). -/
def State.twtStart (s : State) : State :=
  s.modTwi fun t => match t.tverNext with
    | some v => { t with tver := v, tverNext := none }
    | none => t

/-- PEC is in force (R480, Table 17-2). -/
def State.pecOn (s : State) : Bool := s.twi.tver == 2 && s.twi.tcfg.bit 3

/-! ### Register window (R474 to R476, R480) -/

/-- The offset of BAR0 that a pointer of a window names. -/
def winAt (base size ptr : Nat) : Nat := base + ptr % size

/-- Registers are applied one after another until one is refused: then its first byte is not acknowledged (R475). Of the last, fewer
than four bytes may have come. -/
def State.twtApply (base size : Nat) : Nat → Nat → List Byte → State → State
  | 0, _, _, s => s
  | n + 1, ptr, bs, s =>
    if bs.isEmpty then s
    else
      let a := winAt base size ptr
      if (s.twtMay a).isNone then (s.modTwi fun t => { t with wrRefused := true }).emit .nack
      else if bs.length < 4 then s
      else State.twtApply base size n (ptr + 4) (bs.drop 4) (s.twtWrite a (BitVec.ofNat 32 (getLE bs 0 4)))

/-- A write transaction: PTR_LO, PTR_HI and data; with PEC, whole registers and the PEC byte, applied at the STOP. -/
def State.twtWriteBytes (s : State) (addr base size : Nat) (bs : List Byte) : State :=
  let ptr := getLE bs 0 2
  let data := bs.drop 2
  if data.isEmpty then s
  else if ptr % 4 ≠ 0 then s.emit .nack
  else if ¬ s.pecOn then State.twtApply base size data.length ptr data s
  else
    let body := data.dropLast
    let pec := data.getLastD 0
    if (s.twtMay (winAt base size ptr)).isNone then (s.modTwi fun t => { t with wrRefused := true }).emit .nack
    else if 32 < body.length then s.emit .nack
    else if pec ≠ crc8 (BitVec.ofNat 8 (2 * addr) :: bs.dropLast) then
      ((s.modTwi fun t => { t with pecErr := true }).emit .nack).eventD 0x0A05 [(24, 1, addr), (25, 1, pec.toNat), (26, 2, ptr)]
    else State.twtApply base size body.length ptr body s

/-- TWT_REGISTER_WRITE (R474, R475, R480). An event window takes no write (R479). -/
def execTwtRegisterWrite (addr : BitVec 7) (bytes : List Byte) (s : State) : Res :=
  .next (
    let s := s.twtStart
    match s.twtWin addr.toNat with
    | none => s.emit .nack
    | some .events => if bytes.isEmpty then s else s.emit .nack
    | some (.regs base size) => s.twtWriteBytes addr.toNat base size bytes)

/-- A register as the supervisor reads it, whole when its first byte is reached: 0 where it does not see it (R475). The fault-log window
moves on only with the last byte of GLB_FLOG_DATA7 (22 R568, R571, R576). -/
def State.twtWord (s : State) (d : Nat) : Word × State :=
  if ¬ s.twtSees d then (0, s) else if d = 0x221C then (s.readReg .twt d, s) else s.busRead .twt d

/-- The bytes read from a pointer on, with the register it stands in (R474). -/
def State.twtReadN (base size : Nat) : Nat → Nat → Word → State → List Byte × State
  | 0, _, _, s => ([], s)
  | n + 1, ptr, w, s =>
    let a := winAt base size ptr
    let (w, s) := if ptr % 4 = 0 then s.twtWord (a / 4 * 4) else (w, s)
    let s := if a = 0x221F ∧ s.twtSees 0x221C then s.flogNext .twt else s
    let (bs, s) := State.twtReadN base size n (ptr + 1) w s
    (BitVec.ofNat 8 (w.toNat / 2 ^ (8 * (a % 4))) :: bs, s)

/-- TWT_REGISTER_READ (R474, R475, R480): `bytes` are those of the write phase, `n` the bytes clocked out. -/
def execTwtRegisterRead (addr : BitVec 7) (bytes : List Byte) (n : Nat) (s : State) : Res :=
  .next (
    let s := s.twtStart
    match s.twtWin addr.toNat with
    | some (.regs base size) =>
      let ptr := getLE bytes 0 2
      let cnt := getLE bytes 2 1
      if s.pecOn ∧ (cnt < 1 ∨ 32 < cnt) then s.emit .nack
      else
        let m := if s.pecOn then min n cnt else n
        let pec := s.pecOn
        let (w, s) := if ptr % 4 = 0 then (0, s) else s.twtWord (winAt base size ptr / 4 * 4)
        let (bs, s) := State.twtReadN base size m ptr w s
        let hdr : List Byte := BitVec.ofNat 8 (2 * addr.toNat) :: bytes.take 3 ++ [BitVec.ofNat 8 (2 * addr.toNat + 1)]
        let tail := if pec ∧ cnt < n then crc8 (hdr ++ bs) :: List.replicate (n - cnt - 1) 0xFF else []
        s.emit (.windowBytes (bs ++ tail))
    | _ => s.emit .nack)

/-! ### Event window (R479, R443) -/

/-- The records held, lowest number first. -/
def State.window (s : State) : List (Nat × Payload) :=
  let all := (List.range 3).flatMap fun c => ((s.flow (fEvs c)).records.filter fun r => match r with | .ev _ => true | _ => false).map fun r => (fEvs c, r)
  let rec go : Nat → List (Nat × Payload) → List (Nat × Payload)
    | 0, _ => []
    | n + 1, l => match lowestSeq l with
      | none => []
      | some x => x :: go n (l.erase x)
  go all.length all

/-- Records have been delivered: they leave their flows, and the alert and the in-band request follow (R481, R482). -/
def State.delivered (s : State) (l : List (Nat × Payload)) : State :=
  let s := l.foldl (fun s x => s.readRecord x.1 (· == x.2)) s
  s.modTwi fun t => { t with alert := t.alert && s.alertHolds, ibrHeld := t.ibrHeld - l.length }

def recBytesOf (x : Nat × Payload) : List Byte :=
  match x.2 with
  | .ev r => evBytes r false
  | _ => List.replicate 32 0

/-- TWT_EVENT_READ (R479): `n` bytes are clocked out. -/
def execTwtEventRead (addr : BitVec 7) (n : Nat) (s : State) : Res :=
  .next (
    let s := s.twtStart
    match s.twtWin addr.toNat with
    | some .events =>
      let s := [fEvs 0, fEvs 1, fEvs 2].foldl State.headUe s
      let l := s.window
      if s.twi.tver = 1 then
        let b := match l.head? with | some x => recBytesOf x | none => List.replicate 32 0
        (s.delivered (if 32 ≤ n then l.take 1 else [])).emit (.windowBytes ((b ++ List.replicate n 0xFF).take n))
      else
        let k := min 7 l.length
        let l := l.take k
        let b : List Byte := BitVec.ofNat 8 k :: l.flatMap recBytesOf
        let b := if s.pecOn then b ++ [crc8 (BitVec.ofNat 8 (2 * addr.toNat + 1) :: b)] else b
        (s.delivered (l.take ((n - 1) / 32))).emit (.windowBytes ((b ++ List.replicate n 0xFF).take n))
    | _ => s.emit .nack)

/-! ### Alert and in-band request (R481, R482) -/

/-- The event window address. -/
def State.eventAddr (s : State) : Nat := ((s.twi.taddr.toList.find? fun w => w.fld 9 8 == 2).map fun w => w.fld 6 0).getD 0

/-- ALERT_RESPONSE (R481): a read at 0x0C. -/
def execAlertResponse (s : State) : Res :=
  .next (
    let s := s.twtStart
    if ¬ s.twi.tcfg.bit 4 ∨ ¬ s.twi.alert ∨ s.pwr.st = .hibernate then s.emit .nack
    else (s.modTwi fun t => { t with alert := false, alertAt := s.tb.seqLast }).emit (.windowBytes [BitVec.ofNat 8 (2 * s.eventAddr)]))

/-- The request goes on the wire with the number of records held. -/
def State.sendRequest (s : State) : State :=
  let n := s.window.length
  (s.twtStart.modTwi fun t => { t with ibrPend := false, ibrHeld := n }).emit
    (.twiRequest (s.twi.tibr.fld 6 0) (2 * s.eventAddr) (satN 8 n))

/-- IN_BAND_REQUEST (R482). -/
def execInBandRequest (s : State) : Res :=
  .next (if s.twi.ibrPend ∧ s.twi.tcfg.bit 9 ∧ s.pwr.st ≠ .hibernate then s.sendRequest else s)

/-- IBR_RESEND_EXPIRY (R482). -/
def execIbrResendExpiry (s : State) : Res :=
  .next (if 0 < s.twi.ibrHeld ∧ s.twi.tcfg.bit 9 ∧ s.pwr.st ≠ .hibernate then s.sendRequest else s)

/-- TWT_TIMEOUT (R471): SCL was low for more than 35 ms within a transaction, `n` bytes into it. -/
def execTwtTimeout (addr : BitVec 7) (n : Nat) (s : State) : Res :=
  .next (
    let s := s.twtStart
    if ¬ s.twi.tcfg.bit 2 ∨ (s.twtWin addr.toNat).isNone then s
    else (s.modTwi fun t => { t with tout := true }).eventD 0x0A04 [(24, 1, addr.toNat), (25, 1, satN 8 n)])

end Sys2Proof.Machine
end

