-- ==== Sys2Proof/Machine/Weevil.lean ====
section
/-! DEFINITION. How a Weevil core runs an instruction (16 R451, R455, R456): fetch, legality, exceptions; and its registers on the
bus (Tables 16-2, 16-14, 16-18, 16-19). -/

set_option linter.unusedVariables false

namespace Sys2Proof.Machine

/-! ### Exceptions -/

/-- A synchronous exception (R455): taken, or with EXL at 1 a double fault, of kind 1, or 3 for an uncorrectable fetch (R456). -/
def State.sync (s : State) (c : Fin 4) (cause detail : Nat) (epc eaddr : Word) (kind : Nat := 1) : State :=
  let exl := (s.core c).exl
  let s := s.modCore c fun k => k.except cause detail epc eaddr
  if exl then (s.coreFault c kind).faultHook else s

/-- An error record of core memory: 0 code, 1 data, 2 shared (Table 16-21). -/
def State.eccRecord (s : State) (c : Fin 4) (cause mem : Nat) (a : Word) : State :=
  s.eventD cause [(24, 1, c.val), (25, 1, mem), (28, 4, a.toNat)]

/-- An instruction of a core: fetch faults, then ILLEGAL, then what it does (R449, R451, R456). -/
def State.instr (s : State) (c : Fin 4) (f : Fetch) (legal : Bool) (body : State → State) : State :=
  let k := s.core c
  let r := s.range c k.pc.toNat
  if ¬ s.executes c then s
  else if ¬ k.mayDo k.pc.toNat 2 then s.sync c 3 0 k.pc k.pc
  else if ¬ r.fetches then s.sync c 6 0 k.pc k.pc
  else if f = .fetchUe ∧ r = .code then (s.eccRecord c 0x0903 0 k.pc).sync c 6 0 k.pc k.pc 3
  else
    let s := if f = .fetchCe ∧ r = .code then s.eccRecord c 0x0902 0 k.pc else s
    if ¬ legal then s.sync c 1 0 k.pc 0 else body s

/-- An instruction that changes its core alone. -/
def State.onCore (s : State) (c : Fin 4) (f : Fetch) (legal : Bool) (g : Core → Core) : State :=
  s.instr c f legal fun s => s.modCore c g

/-- A result goes to RD and, where flags are to be set, to STATUS (R452). -/
def Core.result (k : Core) (rd : Reg) (flags : Bool) (r : Alu) : Core :=
  { (k.setReg rd r.val).next with status := if flags then setFlags k.status r else k.status }

/-! ### Registers on the bus -/

/-- Flow port registers, offset from 0x4000_0000 (Table 16-14). -/
def State.fpRead (s : State) (c : Fin 4) (o : Nat) : Word :=
  let i : Fin 16 := Fin.ofNat 16 (o / 32)
  let x := s.fp c i
  if o % 32 = 0 then x.bind
  else if o % 32 = 8 then
    BitVec.ofNat 32 (b2n x.busy + 2 * b2n x.held.isSome + 4 * b2n (s.fpReady c i) + 8 * b2n x.bound + 16 * x.result.toNat)
  else if o % 32 = 12 then BitVec.ofNat 32 (if x.bound && !x.producer then (s.waitingFor c x.flowNo).length % 2 ^ 14 else 0)
  else 0

/-- A command of FP_CMD (Table 16-14). -/
def State.fpCommand (s : State) (c : Fin 4) (i : Fin 16) (op : Nat) : State :=
  if op = 1 then (execTake c i s).st s
  else if op = 2 then (execRelease c i s).st s
  else if op = 3 then (execAlloc c i s).st s
  else if op = 4 then (execCommit c i s).st s
  else if op = 5 then (execAbandon c i s).st s
  else if op = 6 then (execCancel c i s).st s
  else s

def State.fpWrite (s : State) (c : Fin 4) (o : Nat) (v : Word) : State :=
  let i : Fin 16 := Fin.ofNat 16 (o / 32)
  if o % 32 = 0 then (execBind c i v s).st s
  else if o % 32 = 4 then s.fpCommand c i (v.fld 2 0)
  else s

/-- Crypto context, offset from 0x4300_0000 (Table 16-19). -/
def Crypto.read (x : Crypto) (o : Nat) : Word :=
  if o = 0x00 then x.op
  else if o = 0x04 then x.src
  else if o = 0x08 then x.len
  else if o = 0x0C then x.dst
  else if o = 0x10 then x.aux
  else if o = 0x18 then BitVec.ofNat 32 (b2n x.busy + 2 * b2n x.done + 4 * x.res.toNat)
  else 0

def State.cxWrite (s : State) (c : Fin 4) (o : Nat) (v : Word) : State :=
  if o = 0x00 then s.modCx c fun x => { x with op := v &&& 0x73F }
  else if o = 0x04 then s.modCx c fun x => { x with src := v }
  else if o = 0x08 then s.modCx c fun x => { x with len := v }
  else if o = 0x0C then s.modCx c fun x => { x with dst := v }
  else if o = 0x10 then s.modCx c fun x => { x with aux := v }
  else if o = 0x14 ∧ v.bit 0 then s.cxGo c
  else s

/-- Local registers, offset from 0x4400_0000 (Table 16-18): the word read, and TB_HI latched by a read of TB_LO. -/
def State.localRead (s : State) (c : Fin 4) (o : Nat) : Word × State :=
  let k := s.core c
  if o = 0x00 then (Quad.lo s.now, s.modCore c fun k => { k with tbHi := Quad.hi s.now })
  else if o = 0x04 then (k.tbHi, s)
  else if o = 0x08 then (Quad.lo k.tcmp, s)
  else if o = 0x0C then (Quad.hi k.tcmp, s)
  else if o = 0x18 then (k.sigSrc.setWidth 32, s)
  else (0, s)

def State.localWrite (s : State) (c : Fin 4) (o : Nat) (v : Word) : State :=
  if o = 0x08 then s.modCore c fun k => { k with tcmp := k.tcmp &&& 0xFFFFFFFF00000000 ||| v.setWidth 64 }
  else if o = 0x0C then s.modCore c fun k => { k with tcmp := k.tcmp &&& 0xFFFFFFFF ||| v.setWidth 64 <<< 32 }
  else if o = 0x10 then s.modCore c fun k => { k with wdKicked := true }
  else if o = 0x14 then s.sigSend c v
  else if o = 0x18 then s.modCore c fun k => { k with sigSrc := k.sigSrc &&& ~~~ (v.setWidth 4) }
  else s

/-- The Pod port's word at an offset from 0x4200_0000 (R464). -/
def Core.ppWord (k : Core) (o : Nat) : Word :=
  if o = 0x00 then k.ppSlot
  else if o = 0x08 then k.ppRes
  else if 0x40 ≤ o then BitVec.ofNat 32 (leVal ((List.range 4).map fun i => k.ppData.toList.getD (o - 0x40 + i) 0))
  else 0

/-- A store at the Pod port: PP_SLOT, PP_OP, or bytes of the slot's data. -/
def State.ppStore (s : State) (c : Fin 4) (o : Nat) (b : List Byte) : State :=
  let put (w : Word) : Word := BitVec.ofNat 32 (putLE (leBytes 4 w.toNat) (o % 4) b.length (leVal b) |> leVal)
  if 0x40 ≤ o then
    s.modCore c fun k => { k with ppData := Vector.ofFn fun i => if o - 0x40 ≤ i.val ∧ i.val < o - 0x40 + b.length then b.getD (i.val - (o - 0x40)) 0 else k.ppData[i] }
  else if o < 4 then s.modCore c fun k => { k with ppSlot := put k.ppSlot &&& 0xFFF }
  else if o < 8 then s.ppOp c (put 0).toNat
  else s

/-! ### Loads and stores of the memory map (Table 16-2) -/

/-- The bytes at an address of a range, and what reading them does. -/
def State.busLoad (s : State) (c : Fin 4) (r : Range) (a size : Nat) : List Byte × State :=
  let k := s.core c
  let part (w : Word) : List Byte := getBytes (leBytes 4 w.toNat) (a % 4) size
  match r with
  | .code => (k.code.readN 0 a size, s)
  | .data => (k.data.readN 0 (a - 0x10000000) size, s)
  | .shared => (s.wvl.shared.readN 0 (a - 0x20000000) size, s)
  | .other n => ((s.core n).code.readN 0 (a % 2 ^ 24) size, s)
  | .rom => ((List.range size).map fun i => Config.bootRom (a - 0xF0000000 + i), s)
  | .fpReg => (part (s.fpRead c (a - 0x40000000)), s)
  | .fpBuf => ((s.fp c (Fin.ofNat 16 ((a - 0x41000000) / 256))).buf.readN 0 (a % 256) size, s)
  | .pod =>
    let o := a - 0x42000000
    (part (k.ppWord (o / 4 * 4)), if o / 4 = 2 then s.modCore c fun k => { k with ppUnread := false } else s)
  | .crypto => (part (k.cx.read (a - 0x43000000)), s)
  | .localR => let x := s.localRead c (a - 0x44000000); (part x.1, x.2)
  | .wvl => (part (s.wvlRead (a - 0x45000000)), s)
  | .none => ([], s)

/-- Bytes are stored at an address of a range. A store into the core's own code RAM is not yet seen by fetch (R454). -/
def State.busStore (s : State) (c : Fin 4) (r : Range) (a : Nat) (b : List Byte) : State :=
  let w : Word := BitVec.ofNat 32 (leVal b)
  match r with
  | .code => s.modCore c fun k => { k with code := k.code.writeN 0 a b }
  | .data => s.modCore c fun k => { k with data := k.data.writeN 0 (a - 0x10000000) b }
  | .shared => { s with wvl := { s.wvl with shared := s.wvl.shared.writeN 0 (a - 0x20000000) b } }
  | .other n => s.modCore n fun k => let m := k.code.writeN 0 (a % 2 ^ 24) b; { k with code := m, fetchCode := m }
  | .fpReg => s.fpWrite c (a - 0x40000000) w
  | .fpBuf => s.modFp c (Fin.ofNat 16 ((a - 0x41000000) / 256)) fun y => { y with buf := y.buf.writeN 0 (a % 256) b }
  | .pod => s.ppStore c (a - 0x42000000) b
  | .crypto => s.cxWrite c (a - 0x43000000) w
  | .localR => s.localWrite c (a - 0x44000000) w
  | .wvl => s.wvlWrite (a - 0x45000000) w false true
  | .rom | .none => s

/-- The memory number of an error record; none where the range has no check bits. -/
def Range.ecc : Range → Option Nat
  | .code | .other _ => some 0
  | .data => some 1
  | .shared => some 2
  | _ => Option.none

/-- The faults of a data access, in the order of R456: MISALIGNED, PROT_LOAD or PROT_STORE, BUS_ERROR; an uncorrectable error is one
where the access reads the memory (R448 to R450). -/
def State.dataFault (s : State) (c : Fin 4) (f : Fetch) (a : Word) (size : Nat) (load store : Bool) : Option Nat :=
  let k := s.core c
  let r := s.range c a.toNat
  if a.toNat % size ≠ 0 then some 2
  else if load ∧ ¬ k.mayDo a.toNat 0 then some 4
  else if store ∧ ¬ k.mayDo a.toNat 1 then some 5
  else if ¬ r.permits store size then some 6
  else if f = .dataUe ∧ r.ecc.isSome ∧ (load ∨ size < 4 ∨ r = .shared) then some 6
  else none

/-- A corrected error of a data access is recorded. -/
def State.dataCe (s : State) (c : Fin 4) (f : Fetch) (a : Word) : State :=
  match (s.range c a.toNat).ecc with
  | some m => if f = .dataCe then s.eccRecord c 0x0902 m a else s
  | none => s

end Sys2Proof.Machine
end

