-- ==== Sys2Proof/Machine/WeevilAlu.lean ====
section
/-! DEFINITION. The R-format and I-format instructions of the Weevil cores (16 R451, R452, Tables 16-5, 16-6). -/

set_option linter.unusedVariables false

namespace Sys2Proof.Machine

/-- An R-format function of two registers. -/
def State.aluR (s : State) (c : Fin 4) (f : Fetch) (i : InsR) (g : Core → Word → Word → Alu) : State :=
  s.onCore c f i.ok3 fun k => k.result i.rd i.s (g k (k.reg i.ra) (k.reg i.rb))

/-- A shift or rotate by rb[4:0]. -/
def State.aluShift (s : State) (c : Fin 4) (f : Fetch) (i : InsR) (x : Shift) : State :=
  s.aluR c f i fun _ a b => shiftBy x a (b.fld 4 0)

/-- A shift or rotate by SHAMT; RB is 0. -/
def State.aluShiftImm (s : State) (c : Fin 4) (f : Fetch) (i : InsR) (x : Shift) : State :=
  s.onCore c f i.okSh fun k => k.result i.rd i.s (shiftBy x (k.reg i.ra) i.sh.toNat)

/-- A function of one register; RB is 0. -/
def State.aluOne (s : State) (c : Fin 4) (f : Fetch) (i : InsR) (g : Word → Word) : State :=
  s.onCore c f i.ok2 fun k => k.result i.rd i.s (logic (g (k.reg i.ra)))

/-- CMP and TST: the flags alone, always set; RD is 0. -/
def State.aluFlags (s : State) (c : Fin 4) (f : Fetch) (i : InsR) (g : Word → Word → Alu) : State :=
  s.onCore c f i.okCmp fun k => k.result 0 true (g (k.reg i.ra) (k.reg i.rb))

/-- An I-format function of a register and the immediate, extended as its row gives. -/
def State.aluI (s : State) (c : Fin 4) (f : Fetch) (i : InsI) (imm : Word) (g : Word → Word → Alu) : State :=
  s.onCore c f i.ok fun k => k.result i.rd i.s (g (k.reg i.ra) imm)

/-- CMPI and TSTI. -/
def State.aluIFlags (s : State) (c : Fin 4) (f : Fetch) (i : InsI) (imm : Word) (g : Word → Word → Alu) : State :=
  s.onCore c f i.okCmp fun k => k.result 0 true (g (k.reg i.ra) imm)

/-- ADD (Table 16-5). -/
def execAdd (c : Fin 4) (f : Fetch) (i : InsR) (s : State) : Res := .next (s.aluR c f i fun _ a b => addC a b false)

/-- SUB (Table 16-5). -/
def execSub (c : Fin 4) (f : Fetch) (i : InsR) (s : State) : Res := .next (s.aluR c f i fun _ a b => subC a b true)

/-- ADC: with the C of STATUS (Table 16-5). -/
def execAdc (c : Fin 4) (f : Fetch) (i : InsR) (s : State) : Res := .next (s.aluR c f i fun k a b => addC a b (flagC k.status))

/-- SBC: ra − rb − (1 − C) (Table 16-5). -/
def execSbc (c : Fin 4) (f : Fetch) (i : InsR) (s : State) : Res := .next (s.aluR c f i fun k a b => subC a b (flagC k.status))

/-- AND (Table 16-5). -/
def execAnd (c : Fin 4) (f : Fetch) (i : InsR) (s : State) : Res := .next (s.aluR c f i fun _ a b => logic (a &&& b))

/-- OR (Table 16-5). -/
def execOr (c : Fin 4) (f : Fetch) (i : InsR) (s : State) : Res := .next (s.aluR c f i fun _ a b => logic (a ||| b))

/-- XOR (Table 16-5). -/
def execXor (c : Fin 4) (f : Fetch) (i : InsR) (s : State) : Res := .next (s.aluR c f i fun _ a b => logic (a ^^^ b))

/-- ANDN (Table 16-5). -/
def execAndn (c : Fin 4) (f : Fetch) (i : InsR) (s : State) : Res := .next (s.aluR c f i fun _ a b => logic (a &&& ~~~ b))

/-- SLL (Table 16-5). -/
def execSll (c : Fin 4) (f : Fetch) (i : InsR) (s : State) : Res := .next (s.aluShift c f i .sll)

/-- SRL (Table 16-5). -/
def execSrl (c : Fin 4) (f : Fetch) (i : InsR) (s : State) : Res := .next (s.aluShift c f i .srl)

/-- SRA (Table 16-5). -/
def execSra (c : Fin 4) (f : Fetch) (i : InsR) (s : State) : Res := .next (s.aluShift c f i .sra)

/-- ROR (Table 16-5). -/
def execRor (c : Fin 4) (f : Fetch) (i : InsR) (s : State) : Res := .next (s.aluShift c f i .ror)

/-- SLLI (Table 16-5). -/
def execSlli (c : Fin 4) (f : Fetch) (i : InsR) (s : State) : Res := .next (s.aluShiftImm c f i .sll)

/-- SRLI (Table 16-5). -/
def execSrli (c : Fin 4) (f : Fetch) (i : InsR) (s : State) : Res := .next (s.aluShiftImm c f i .srl)

/-- SRAI (Table 16-5). -/
def execSrai (c : Fin 4) (f : Fetch) (i : InsR) (s : State) : Res := .next (s.aluShiftImm c f i .sra)

/-- RORI (Table 16-5). -/
def execRori (c : Fin 4) (f : Fetch) (i : InsR) (s : State) : Res := .next (s.aluShiftImm c f i .ror)

/-- MUL: the low 32 bits (Table 16-5). -/
def execMul (c : Fin 4) (f : Fetch) (i : InsR) (s : State) : Res := .next (s.aluR c f i fun _ a b => logic (a * b))

/-- MULHU: the high 32 bits, unsigned (Table 16-5). -/
def execMulhu (c : Fin 4) (f : Fetch) (i : InsR) (s : State) : Res := .next (s.aluR c f i fun _ a b => logic (BitVec.ofNat 32 (a.toNat * b.toNat / 2 ^ 32)))

/-- MULHS: the high 32 bits, signed (Table 16-5). -/
def execMulhs (c : Fin 4) (f : Fetch) (i : InsR) (s : State) : Res := .next (s.aluR c f i fun _ a b => logic (BitVec.ofInt 32 (a.toInt * b.toInt / 2 ^ 32)))

/-- DIVU (Table 16-5). -/
def execDivu (c : Fin 4) (f : Fetch) (i : InsR) (s : State) : Res := .next (s.aluR c f i fun _ a b => logic (divU a b))

/-- DIVS (Table 16-5). -/
def execDivs (c : Fin 4) (f : Fetch) (i : InsR) (s : State) : Res := .next (s.aluR c f i fun _ a b => logic (divS a b))

/-- REMU (Table 16-5). -/
def execRemu (c : Fin 4) (f : Fetch) (i : InsR) (s : State) : Res := .next (s.aluR c f i fun _ a b => logic (remU a b))

/-- REMS (Table 16-5). -/
def execRems (c : Fin 4) (f : Fetch) (i : InsR) (s : State) : Res := .next (s.aluR c f i fun _ a b => logic (remS a b))

/-- CMP (Table 16-5). -/
def execCmp (c : Fin 4) (f : Fetch) (i : InsR) (s : State) : Res := .next (s.aluFlags c f i fun a b => subC a b true)

/-- TST (Table 16-5). -/
def execTst (c : Fin 4) (f : Fetch) (i : InsR) (s : State) : Res := .next (s.aluFlags c f i fun a b => logic (a &&& b))

/-- MIN: signed (Table 16-5). -/
def execMin (c : Fin 4) (f : Fetch) (i : InsR) (s : State) : Res := .next (s.aluR c f i fun _ a b => logic (if a.toInt ≤ b.toInt then a else b))

/-- MAX: signed (Table 16-5). -/
def execMax (c : Fin 4) (f : Fetch) (i : InsR) (s : State) : Res := .next (s.aluR c f i fun _ a b => logic (if a.toInt ≤ b.toInt then b else a))

/-- MINU (Table 16-5). -/
def execMinu (c : Fin 4) (f : Fetch) (i : InsR) (s : State) : Res := .next (s.aluR c f i fun _ a b => logic (if a.toNat ≤ b.toNat then a else b))

/-- MAXU (Table 16-5). -/
def execMaxu (c : Fin 4) (f : Fetch) (i : InsR) (s : State) : Res := .next (s.aluR c f i fun _ a b => logic (if a.toNat ≤ b.toNat then b else a))

/-- CLZ (Table 16-5). -/
def execClz (c : Fin 4) (f : Fetch) (i : InsR) (s : State) : Res := .next (s.aluOne c f i fun a => BitVec.ofNat 32 (clzN a 32))

/-- REV (Table 16-5). -/
def execRev (c : Fin 4) (f : Fetch) (i : InsR) (s : State) : Res := .next (s.aluOne c f i revBytes)

/-- SEXTB (Table 16-5). -/
def execSextb (c : Fin 4) (f : Fetch) (i : InsR) (s : State) : Res := .next (s.aluOne c f i fun a => (a.setWidth 8).signExtend 32)

/-- SEXTH (Table 16-5). -/
def execSexth (c : Fin 4) (f : Fetch) (i : InsR) (s : State) : Res := .next (s.aluOne c f i fun a => (a.setWidth 16).signExtend 32)

/-- ADDI (Table 16-6). -/
def execAddi (c : Fin 4) (f : Fetch) (i : InsI) (s : State) : Res := .next (s.aluI c f i i.sext fun a b => addC a b false)

/-- ANDI (Table 16-6). -/
def execAndi (c : Fin 4) (f : Fetch) (i : InsI) (s : State) : Res := .next (s.aluI c f i i.zext fun a b => logic (a &&& b))

/-- ORI (Table 16-6). -/
def execOri (c : Fin 4) (f : Fetch) (i : InsI) (s : State) : Res := .next (s.aluI c f i i.zext fun a b => logic (a ||| b))

/-- XORI (Table 16-6). -/
def execXori (c : Fin 4) (f : Fetch) (i : InsI) (s : State) : Res := .next (s.aluI c f i i.zext fun a b => logic (a ^^^ b))

/-- CMPI (Table 16-6). -/
def execCmpi (c : Fin 4) (f : Fetch) (i : InsI) (s : State) : Res := .next (s.aluIFlags c f i i.sext fun a b => subC a b true)

/-- TSTI (Table 16-6). -/
def execTsti (c : Fin 4) (f : Fetch) (i : InsI) (s : State) : Res := .next (s.aluIFlags c f i i.zext fun a b => logic (a &&& b))

/-- LUI: RA and S are 0 (Table 16-6). -/
def execLui (c : Fin 4) (f : Fetch) (i : InsI) (s : State) : Res := .next (s.onCore c f i.okUp fun k => k.result i.rd false (logic (i.zext <<< 16)))

/-- ADDPC: the address of this instruction plus 4 × the immediate; RA and S are 0 (Table 16-6). -/
def execAddpc (c : Fin 4) (f : Fetch) (i : InsI) (s : State) : Res := .next (s.onCore c f i.okUp fun k => k.result i.rd false (logic (k.pc + i.sext * 4)))

end Sys2Proof.Machine
end

