-- ==== Sys2Proof/Machine/WeevilMem.lean ====
section
/-! DEFINITION. Loads, stores and AMO of the Weevil cores (16 R448, R449, R453, Tables 16-2, 16-7, 16-8). -/

set_option linter.unusedVariables false

namespace Sys2Proof.Machine

/-- The base register after an access of a mode that updates it (Table 16-7). -/
def Core.upd (k : Core) (i : InsM) (b : Option Word) : Core := match b with | some v => k.setReg i.rb v | none => k

/-- A load of `size` bytes, extended by `g`: a load into g0 makes the access and discards the data (R453). A fault leaves it without
effect (R455). -/
def State.loadM (s : State) (c : Fin 4) (f : Fetch) (i : InsM) (size : Nat) (g : Nat → Word) : State :=
  s.instr c f (i.ok true) fun s =>
    let k := s.core c
    let (a, b) := k.addr i size
    match s.dataFault c f a size true false with
    | some x => s.sync c x 0 k.pc a
    | none =>
      let (bs, s) := (s.dataCe c f a).busLoad c (s.range c a.toNat) a.toNat size
      s.modCore c fun k => ((k.upd i b).setReg i.rt (g (leVal bs))).next

/-- A store of the low `size` bytes of RT (R453). -/
def State.storeM (s : State) (c : Fin 4) (f : Fetch) (i : InsM) (size : Nat) : State :=
  s.instr c f (i.ok false) fun s =>
    let k := s.core c
    let (a, b) := k.addr i size
    match s.dataFault c f a size false true with
    | some x => s.sync c x 0 k.pc a
    | none =>
      let s := (s.dataCe c f a).modCore c fun k => (k.upd i b).next
      s.busStore c (s.range c a.toNat) a.toNat (leBytes size (k.reg i.rt).toNat)

/-- LB (R453). -/
def execLb (c : Fin 4) (f : Fetch) (i : InsM) (s : State) : Res := .next (s.loadM c f i 1 fun v => (BitVec.ofNat 8 v).signExtend 32)

/-- LBU (R453). -/
def execLbu (c : Fin 4) (f : Fetch) (i : InsM) (s : State) : Res := .next (s.loadM c f i 1 fun v => BitVec.ofNat 32 v)

/-- LH (R453). -/
def execLh (c : Fin 4) (f : Fetch) (i : InsM) (s : State) : Res := .next (s.loadM c f i 2 fun v => (BitVec.ofNat 16 v).signExtend 32)

/-- LHU (R453). -/
def execLhu (c : Fin 4) (f : Fetch) (i : InsM) (s : State) : Res := .next (s.loadM c f i 2 fun v => BitVec.ofNat 32 v)

/-- LW (R453). -/
def execLw (c : Fin 4) (f : Fetch) (i : InsM) (s : State) : Res := .next (s.loadM c f i 4 fun v => BitVec.ofNat 32 v)

/-- SB (R453). -/
def execSb (c : Fin 4) (f : Fetch) (i : InsM) (s : State) : Res := .next (s.storeM c f i 1)

/-- SH (R453). -/
def execSh (c : Fin 4) (f : Fetch) (i : InsM) (s : State) : Res := .next (s.storeM c f i 2)

/-- SW (R453). -/
def execSw (c : Fin 4) (f : Fetch) (i : InsM) (s : State) : Res := .next (s.storeM c f i 4)

/-- What an AMO leaves in memory (Table 16-8): 0 SWAP, 1 ADD, 2 OR, 3 CAS with the old value of RD. -/
def amoMem (op : BitVec 2) (old rd rb : Word) : Word :=
  if op = 0 then rb else if op = 1 then old + rb else if op = 2 then old ||| rb else if old = rd then rb else old

/-- AMO: a word of shared RAM at ra; rd takes the old value (Table 16-8, R463). -/
def execAmo (c : Fin 4) (f : Fetch) (rd ra rb : Reg) (op : BitVec 2) (z : BitVec 12) (s : State) : Res :=
  .next (s.instr c f (z == 0) fun s =>
    let k := s.core c
    let a := k.reg ra
    match s.dataFault c f a 4 true true with
    | some x => s.sync c x 0 k.pc a
    | none =>
      if s.range c a.toNat ≠ .shared then s.sync c 6 0 k.pc a
      else
        let old := BitVec.ofNat 32 (leVal (s.shRead a 4))
        ((s.dataCe c f a).shWrite a (leBytes 4 (amoMem op old (k.reg rd) (k.reg rb)).toNat)).modCore c fun k => (k.setReg rd old).next)

end Sys2Proof.Machine
end

