-- ==== Sys2Proof/Machine/WeevilSys.lean ====
section
/-! DEFINITION. Branches, system instructions and control registers of the Weevil cores (16 R454, Tables 16-8, 16-9), and what
happens to a core at an instruction boundary (16 R454, R456, R457). -/

set_option linter.unusedVariables false

namespace Sys2Proof.Machine

/-! ### Branches (Table 16-8) -/

/-- BCC: COND 15 is ILLEGAL. -/
def execBcc (c : Fin 4) (f : Fetch) (cond : BitVec 4) (off : BitVec 22) (s : State) : Res :=
  .next (s.onCore c f (cond != 15) fun k => { k with pc := if condHolds k.status cond.toNat then k.pc + off.signExtend 32 * 4 else k.pc + 4 })

/-- BL: the link is g14. -/
def execBl (c : Fin 4) (f : Fetch) (off : BitVec 26) (s : State) : Res :=
  .next (s.onCore c f true fun k => { k.setReg 14 (k.pc + 4) with pc := k.pc + off.signExtend 32 * 4 })

/-- JALR: a target that is not aligned raises MISALIGNED with it in EADDR (Table 16-10). -/
def execJalr (c : Fin 4) (f : Fetch) (rd ra : Reg) (z : BitVec 18) (s : State) : Res :=
  .next (s.instr c f (z == 0) fun s =>
    let k := s.core c
    let t := k.reg ra
    if t.toNat % 4 ≠ 0 then s.sync c 2 0 k.pc t else s.modCore c fun k => { k.setReg rd (k.pc + 4) with pc := t })

/-! ### System instructions -/

/-- TRAP: EPC is the next instruction, and ECAUSE holds the number. -/
def execTrap (c : Fin 4) (f : Fetch) (i : InsS) (s : State) : Res :=
  .next (s.instr c f i.okTrap fun s => let k := s.core c; s.sync c 7 i.imm.toNat (k.pc + 4) 0)

/-- BRK. -/
def execBrk (c : Fin 4) (f : Fetch) (i : InsS) (s : State) : Res :=
  .next (s.instr c f i.bare fun s => let k := s.core c; s.sync c 8 0 k.pc 0)

/-- RFE: ILLEGAL in TASK mode (R454). -/
def execRfe (c : Fin 4) (f : Fetch) (i : InsS) (s : State) : Res :=
  .next (s.onCore c f (i.bare && !(s.core c).task) Core.rfe)

/-- WAIT: the core is suspended unless a line set in IRQ_MASK is pending (R454). -/
def execWait (c : Fin 4) (f : Fetch) (i : InsS) (s : State) : Res :=
  .next (s.instr c f i.bare fun s => s.modCore c fun k => { k.next with st := if (s.irqLine c).isSome then .run else .wait })

/-- FENCE: fetch sees the stores into code RAM made before (R454). -/
def execFence (c : Fin 4) (f : Fetch) (i : InsS) (s : State) : Res :=
  .next (s.onCore c f i.bare fun k => { k.next with fetchCode := k.code })

/-- The control registers of Table 16-9. -/
def crKnown (n : Nat) : Bool := decide (n ≤ 8 ∨ (16 ≤ n ∧ n < 32))

/-- A control register as CRR reads it. -/
def State.crRead (s : State) (c : Fin 4) (n : Nat) : Word :=
  let k := s.core c
  if n = 0 then k.status
  else if n = 1 then k.epc
  else if n = 2 then k.ecause
  else if n = 3 then k.eaddr
  else if n = 4 then k.vbase
  else if n = 5 then BitVec.ofNat 32 c.val
  else if n = 6 then s.irqPend c
  else if n = 7 then k.irqMask
  else if n = 8 then k.scratch
  else if n % 2 = 0 then k.rbase[(Fin.ofNat 8 ((n - 16) / 2)).val]
  else k.rattr[(Fin.ofNat 8 ((n - 16) / 2)).val]

/-- VBASE may hold an address of code RAM or, for W0, of boot ROM. -/
def vbaseOk (c : Fin 4) (v : Word) : Bool :=
  decide (v.toNat < 0x20000) || (c == 0 && decide (0xF0000000 ≤ v.toNat ∧ v.toNat < 0xF0004000))

/-- A control register as CRW leaves it (Table 16-9): read-only ones stay, and so do the registers of a locked region (R450). -/
def Core.crWrite (k : Core) (c : Fin 4) (n : Nat) (v : Word) : Core :=
  let i : Fin 8 := Fin.ofNat 8 ((n - 16) / 2)
  if n = 0 then { k with status := v &&& 0xF000001F }
  else if n = 1 then { k with epc := v }
  else if n = 4 then (let v := v &&& 0xFFFFFF00; if vbaseOk c v then { k with vbase := v } else k)
  else if n = 7 then { k with irqMask := v }
  else if n = 8 then { k with scratch := v }
  else if n < 16 ∨ 32 ≤ n ∨ k.rattr[i.val].bit 3 then k
  else if n % 2 = 0 then { k with rbase := k.rbase.set i.val (if v.fld 4 0 < 8 then v &&& 0xFFFFFF00 else v &&& 0xFFFFFF1F) }
  else { k with rattr := k.rattr.set i.val (v &&& 0xF) }

/-- CRR: in TASK mode STATUS and CORE_ID alone (R454). -/
def execCrr (c : Fin 4) (f : Fetch) (i : InsS) (s : State) : Res :=
  let n := i.imm.toNat
  .next (s.instr c f (i.okCr && crKnown n && (!(s.core c).task || n == 0 || n == 5)) fun s =>
    let v := s.crRead c n
    s.modCore c fun k => (k.setReg i.reg v).next)

/-- CRW: ILLEGAL in TASK mode (R454). -/
def execCrw (c : Fin 4) (f : Fetch) (i : InsS) (s : State) : Res :=
  let n := i.imm.toNat
  .next (s.onCore c f (i.okCr && crKnown n && !(s.core c).task) fun k => (k.crWrite c n (k.reg i.reg)).next)

/-! ### Instruction boundaries -/

/-- A core suspended by WAIT goes on once a line set in IRQ_MASK is pending (R454). -/
def State.resume (s : State) (c : Fin 4) : State :=
  if (s.core c).st = .wait ∧ (s.irqLine c).isSome then s.modCore c fun k => { k with st := .run } else s

/-- WAIT_RESUME (R454). -/
def execWaitResume (c : Fin 4) (s : State) : Res := .next (s.resume c)

/-- TCMP_MATCH (R456): line 17 is pending from now on. -/
def execTcmpMatch (c : Fin 4) (s : State) : Res := .next (if (s.core c).tcmp ≤ s.now then s.resume c else s)

/-- INTERRUPT_TAKEN (R455, R456): with IE 1 and EXL 0 the lowest pending line of IRQ_MASK is taken. -/
def execInterruptTaken (c : Fin 4) (s : State) : Res :=
  .next (
    let s := s.resume c
    let k := s.core c
    match s.irqLine c with
    | some l => if s.executes c ∧ k.ie ∧ ¬ k.exl then s.modCore c fun k => k.except 9 l k.pc 0 else s
    | none => s)

/-- WATCHDOG_EXPIRY (R457) of a core that is not suspended (19 Table 19-1): first WATCHDOG, where EXL is 0; at the next expiry
without a kick, FAULT. A suspended core does not count (DEDUCED, notes/assumptions/124). -/
def execWatchdogExpiry (c : Fin 4) (s : State) : Res :=
  .next (
    let k := s.core c
    if ¬ (k.st = .run ∨ k.st = .wait) ∨ s.pwr.st = .doze ∨ s.pwr.st = .hibernate then s
    else if ¬ k.wdKicked then (s.coreFault c 2).faultHook
    else
      s.modCore c fun k =>
        let k := { k with wdKicked := false }
        if k.exl then k else { k.except 10 0 k.pc 0 with st := .run })

end Sys2Proof.Machine
end

