-- ==== Sys2Proof/Machine/Dispatch.lean ====
section
/-! DEFINITION. The dispatch: one arm for each command, each one direct call of its meaning. -/

namespace Sys2Proof.Machine

def exec (i : Instr) (s : State) : Host.Outcome State Fault Refusal :=
  match i with
  | .nop d => Sys2Proof.Machine.execNop d s
  | .portEnable d => Sys2Proof.Machine.execPortEnable d s
  | .portDisable d => Sys2Proof.Machine.execPortDisable d s
  | .portReset d => Sys2Proof.Machine.execPortReset d s
  | .clearFault d => Sys2Proof.Machine.execClearFault d s
  | .hardReset d => Sys2Proof.Machine.execHardReset d s
  | .renegotiate d => Sys2Proof.Machine.execRenegotiate d s
  | .setpointTrim d => Sys2Proof.Machine.execSetpointTrim d s
  | .roleSwap d => Sys2Proof.Machine.execRoleSwap d s
  | .vconnSwap d => Sys2Proof.Machine.execVconnSwap d s
  | .vconnSet d => Sys2Proof.Machine.execVconnSet d s
  | .backfeedSet d => Sys2Proof.Machine.execBackfeedSet d s
  | .phaseClear d => Sys2Proof.Machine.execPhaseClear d s
  | .sessionRead d => Sys2Proof.Machine.execSessionRead d s
  | .sessionAck d => Sys2Proof.Machine.execSessionAck d s
  | .calSet d => Sys2Proof.Machine.execCalSet d s
  | .podWrite d block => Sys2Proof.Machine.execPodWrite d block s
  | .podRelookup d => Sys2Proof.Machine.execPodRelookup d s
  | .authenticate d => Sys2Proof.Machine.execAuthenticate d s
  | .fleetMode d => Sys2Proof.Machine.execFleetMode d s
  | .monitorTest d leg0 leg1 => Sys2Proof.Machine.execMonitorTest d leg0 leg1 s
  | .twiXfer d wdata => Sys2Proof.Machine.execTwiXfer d wdata s
  | .faultLogRead d => Sys2Proof.Machine.execFaultLogRead d s
  | .imgBlock d block fails => Sys2Proof.Machine.execImgBlock d block fails s
  | .imgActivate d => Sys2Proof.Machine.execImgActivate d s
  | .imgConfirm d => Sys2Proof.Machine.execImgConfirm d s
  | .powerState d => Sys2Proof.Machine.execPowerState d s
  | .bufferDescriptor d => Sys2Proof.Machine.execBufferDescriptor d s
  | .deferredStart sq slot => Sys2Proof.Machine.execDeferredStart sq slot s
  | .deferTimeout sq slot => Sys2Proof.Machine.execDeferTimeout sq slot s
  | .sqTailDoorbell sq v => Sys2Proof.Machine.execSqTailDoorbell sq v s
  | .cqHeadDoorbell cq v => Sys2Proof.Machine.execCqHeadDoorbell cq v s
  | .eqHeadDoorbell v => Sys2Proof.Machine.execEqHeadDoorbell v s
  | .descriptorFetch sq bytes => Sys2Proof.Machine.execDescriptorFetch sq bytes s
  | .hostFetchError sq why => Sys2Proof.Machine.execHostFetchError sq why s
  | .hostRecordWrite => Sys2Proof.Machine.execHostRecordWrite s
  | .moderationTimerExpiry q sev => Sys2Proof.Machine.execModerationTimerExpiry q sev s
  | .msixUnmask vec => Sys2Proof.Machine.execMsixUnmask vec s
  | .streamFlushExpiry meter => Sys2Proof.Machine.execStreamFlushExpiry meter s
  | .queueCreate => Sys2Proof.Machine.execQueueCreate s
  | .queueDelete => Sys2Proof.Machine.execQueueDelete s
  | .discardOrphans => Sys2Proof.Machine.execDiscardOrphans s
  | .ringSelWrite v => Sys2Proof.Machine.execRingSelWrite v s
  | .functionLevelReset k => Sys2Proof.Machine.execFunctionLevelReset k s
  | .pciPmStateChange d3 bme => Sys2Proof.Machine.execPciPmStateChange d3 bme s
  | .l1EntryRequest => Sys2Proof.Machine.execL1EntryRequest s
  | .registerWrite x off v => Sys2Proof.Machine.execRegisterWrite x off v s
  | .rcRead x off => Sys2Proof.Machine.execRcRead x off s
  | .loLatchRead x off => Sys2Proof.Machine.execLoLatchRead x off s
  | .limitWrite x v => Sys2Proof.Machine.execLimitWrite x v s
  | .lockSet x v => Sys2Proof.Machine.execLockSet x v s
  | .flogData0Read x => Sys2Proof.Machine.execFlogData0Read x s
  | .flogData7LastRead x => Sys2Proof.Machine.execFlogData7LastRead x s
  | .podReadSlot => Sys2Proof.Machine.execPodReadSlot s
  | .podWriteSlot => Sys2Proof.Machine.execPodWriteSlot s
  | .podDeleteSlot => Sys2Proof.Machine.execPodDeleteSlot s
  | .warmReset x v => Sys2Proof.Machine.execWarmReset x v s
  | .warmResetProceed => Sys2Proof.Machine.execWarmResetProceed s
  | .bkpSet v => Sys2Proof.Machine.execBkpSet v s
  | .tamperLatchClear v => Sys2Proof.Machine.execTamperLatchClear v s
  | .coreHold n hold => Sys2Proof.Machine.execCoreHold n hold s
  | .coreHalt n halt => Sys2Proof.Machine.execCoreHalt n halt s
  | .coreRestart n => Sys2Proof.Machine.execCoreRestart n s
  | .twtMapSelWrite v => Sys2Proof.Machine.execTwtMapSelWrite v s
  | .eventOccurrence cause port data => Sys2Proof.Machine.execEventOccurrence cause port data s
  | .eventFlowFlush flow => Sys2Proof.Machine.execEventFlowFlush flow s
  | .creditReturn flow => Sys2Proof.Machine.execCreditReturn flow s
  | .scrubRead cell word r => Sys2Proof.Machine.execScrubRead cell word r s
  | .cellRewriteCheck cell bad => Sys2Proof.Machine.execCellRewriteCheck cell bad s
  | .timebaseLost noEdge => Sys2Proof.Machine.execTimebaseLost noEdge s
  | .timebaseRestored => Sys2Proof.Machine.execTimebaseRestored s
  | .calibrationCycle us steps => Sys2Proof.Machine.execCalibrationCycle us steps s
  | .eraWriteRetry ok => Sys2Proof.Machine.execEraWriteRetry ok s
  | .ccAttachDetected p => Sys2Proof.Machine.execCcAttachDetected p s
  | .probeSample p r1 r2 => Sys2Proof.Machine.execProbeSample p r1 r2 s
  | .reprobeExpiry p => Sys2Proof.Machine.execReprobeExpiry p s
  | .tccDebounceExpiry p => Sys2Proof.Machine.execTccDebounceExpiry p s
  | .tpdDebounceExpiry p onVbus => Sys2Proof.Machine.execTpdDebounceExpiry p onVbus s
  | .vconnFault p why ma => Sys2Proof.Machine.execVconnFault p why ma s
  | .holdoffExpiry p => Sys2Proof.Machine.execHoldoffExpiry p s
  | .pdMessageReceived p pin m => Sys2Proof.Machine.execPdMessageReceived p pin m s
  | .goodcrcReceived p sopx id => Sys2Proof.Machine.execGoodcrcReceived p sopx id s
  | .frameCrcError p => Sys2Proof.Machine.execFrameCrcError p s
  | .treceiveExpiry p => Sys2Proof.Machine.execTreceiveExpiry p s
  | .channelIdle p => Sys2Proof.Machine.execChannelIdle p s
  | .pdtxMessage p m prod => Sys2Proof.Machine.execPdtxMessage p m prod s
  | .hardResetReceived p => Sys2Proof.Machine.execHardResetReceived p s
  | .hardResetSignallingEnd p => Sys2Proof.Machine.execHardResetSignallingEnd p s
  | .cableResetReceived p => Sys2Proof.Machine.execCableResetReceived p s
  | .chunkTimerExpiry p => Sys2Proof.Machine.execChunkTimerExpiry p s
  | .amsStartWaitExpiry p => Sys2Proof.Machine.execAmsStartWaitExpiry p s
  | .sinktxokRead r => Sys2Proof.Machine.execSinktxokRead r s
  | .sendSourceCapExpiry p => Sys2Proof.Machine.execSendSourceCapExpiry p s
  | .senderResponseExpiry p => Sys2Proof.Machine.execSenderResponseExpiry p s
  | .srcTransitionExpiry p => Sys2Proof.Machine.execSrcTransitionExpiry p s
  | .transitionLimitExpiry p => Sys2Proof.Machine.execTransitionLimitExpiry p s
  | .ppsTimeoutExpiry p => Sys2Proof.Machine.execPpsTimeoutExpiry p s
  | .eprKeepAliveExpiry p => Sys2Proof.Machine.execEprKeepAliveExpiry p s
  | .cableDiscTimeout p => Sys2Proof.Machine.execCableDiscTimeout p s
  | .vdmBusyExpiry p => Sys2Proof.Machine.execVdmBusyExpiry p s
  | .vdmResponseTimeout p => Sys2Proof.Machine.execVdmResponseTimeout p s
  | .vbusInBand p mv => Sys2Proof.Machine.execVbusInBand p mv s
  | .allocationRound => Sys2Proof.Machine.execAllocationRound s
  | .renegotiationCaps p => Sys2Proof.Machine.execRenegotiationCaps p s
  | .budgetHardResetExpiry => Sys2Proof.Machine.execBudgetHardResetExpiry s
  | .connectorTempRead p deciC => Sys2Proof.Machine.execConnectorTempRead p deciC s
  | .cableRediscovery p => Sys2Proof.Machine.execCableRediscovery p s
  | .waitSpacingExpiry p => Sys2Proof.Machine.execWaitSpacingExpiry p s
  | .psHardResetExpiry p => Sys2Proof.Machine.execPsHardResetExpiry p s
  | .srcRecoverExpiry p => Sys2Proof.Machine.execSrcRecoverExpiry p s
  | .psSourceOnExpiry p => Sys2Proof.Machine.execPsSourceOnExpiry p s
  | .psSourceOffExpiry p => Sys2Proof.Machine.execPsSourceOffExpiry p s
  | .psTransitionExpiry p => Sys2Proof.Machine.execPsTransitionExpiry p s
  | .sinkWaitCapExpiry p => Sys2Proof.Machine.execSinkWaitCapExpiry p s
  | .vconnSourceTimeoutExpiry p => Sys2Proof.Machine.execVconnSourceTimeoutExpiry p s
  | .frSwapWaitExpiry p => Sys2Proof.Machine.execFrSwapWaitExpiry p s
  | .takeoverLimitExpiry p => Sys2Proof.Machine.execTakeoverLimitExpiry p s
  | .holdupVbusLow p => Sys2Proof.Machine.execHoldupVbusLow p s
  | .backfeedClose p => Sys2Proof.Machine.execBackfeedClose p s
  | .returnCriterion p => Sys2Proof.Machine.execReturnCriterion p s
  | .holdupReturnRetry p => Sys2Proof.Machine.execHoldupReturnRetry p s
  | .armedSetRecompute => Sys2Proof.Machine.execArmedSetRecompute s
  | .getSinkCapStart p => Sys2Proof.Machine.execGetSinkCapStart p s
  | .discoverIdentityStart p => Sys2Proof.Machine.execDiscoverIdentityStart p s
  | .fleetModeEntry p => Sys2Proof.Machine.execFleetModeEntry p s
  | .fleetEnterModeTimeout p => Sys2Proof.Machine.execFleetEnterModeTimeout p s
  | .identityDigest p cable => Sys2Proof.Machine.execIdentityDigest p cable s
  | .podLookup p => Sys2Proof.Machine.execPodLookup p s
  | .authResult p => Sys2Proof.Machine.execAuthResult p s
  | .authTimeout p => Sys2Proof.Machine.execAuthTimeout p s
  | .vdmtxItem p => Sys2Proof.Machine.execVdmtxItem p s
  | .vdmAnswerTimeout p => Sys2Proof.Machine.execVdmAnswerTimeout p s
  | .controlUpdate p meas => Sys2Proof.Machine.execControlUpdate p meas s
  | .phaseShed p => Sys2Proof.Machine.execPhaseShed p s
  | .swarmFire dip => Sys2Proof.Machine.execSwarmFire dip s
  | .swarmEnd p => Sys2Proof.Machine.execSwarmEnd p s
  | .peakLimit p ph mv => Sys2Proof.Machine.execPeakLimit p ph mv s
  | .phaseFailureDeclared p ph rule => Sys2Proof.Machine.execPhaseFailureDeclared p ph rule s
  | .isolationCheck p m => Sys2Proof.Machine.execIsolationCheck p m s
  | .dividerCorrection p vout vsns => Sys2Proof.Machine.execDividerCorrection p vout vsns s
  | .compensationSample p vout vsns ma => Sys2Proof.Machine.execCompensationSample p vout vsns ma s
  | .txslewLimitExpiry p => Sys2Proof.Machine.execTxslewLimitExpiry p s
  | .vsafe0vProven p => Sys2Proof.Machine.execVsafe0vProven p s
  | .gateRiseComplete p => Sys2Proof.Machine.execGateRiseComplete p s
  | .gateRiseTimeout p mv => Sys2Proof.Machine.execGateRiseTimeout p mv s
  | .inrushTimeout p => Sys2Proof.Machine.execInrushTimeout p s
  | .softstartTimeout p => Sys2Proof.Machine.execSoftstartTimeout p s
  | .vbusUnexpected p => Sys2Proof.Machine.execVbusUnexpected p s
  | .passFetShorted p => Sys2Proof.Machine.execPassFetShorted p s
  | .goodServiceExpiry p => Sys2Proof.Machine.execGoodServiceExpiry p s
  | .backfeedOpened p cause => Sys2Proof.Machine.execBackfeedOpened p cause s
  | .backfeedReclose p => Sys2Proof.Machine.execBackfeedReclose p s
  | .monitorCrossing p m e code => Sys2Proof.Machine.execMonitorCrossing p m e code s
  | .monitorReturn p m r => Sys2Proof.Machine.execMonitorReturn p m r s
  | .thresholdSettled p m => Sys2Proof.Machine.execThresholdSettled p m s
  | .legCheck p m fail => Sys2Proof.Machine.execLegCheck p m fail s
  | .generalMonitorCheck p m fail => Sys2Proof.Machine.execGeneralMonitorCheck p m fail s
  | .meteringSample p uv ua => Sys2Proof.Machine.execMeteringSample p uv ua s
  | .meteringInterval p => Sys2Proof.Machine.execMeteringInterval p s
  | .sessionContextUpdate p => Sys2Proof.Machine.execSessionContextUpdate p s
  | .snapshot => Sys2Proof.Machine.execSnapshot s
  | .journalWrite ok => Sys2Proof.Machine.execJournalWrite ok s
  | .journalRetry ok => Sys2Proof.Machine.execJournalRetry ok s
  | .journalScan => Sys2Proof.Machine.execJournalScan s
  | .add c f x => Sys2Proof.Machine.execAdd c f x s
  | .sub c f x => Sys2Proof.Machine.execSub c f x s
  | .adc c f x => Sys2Proof.Machine.execAdc c f x s
  | .sbc c f x => Sys2Proof.Machine.execSbc c f x s
  | .and c f x => Sys2Proof.Machine.execAnd c f x s
  | .or c f x => Sys2Proof.Machine.execOr c f x s
  | .xor c f x => Sys2Proof.Machine.execXor c f x s
  | .andn c f x => Sys2Proof.Machine.execAndn c f x s
  | .sll c f x => Sys2Proof.Machine.execSll c f x s
  | .srl c f x => Sys2Proof.Machine.execSrl c f x s
  | .sra c f x => Sys2Proof.Machine.execSra c f x s
  | .ror c f x => Sys2Proof.Machine.execRor c f x s
  | .slli c f x => Sys2Proof.Machine.execSlli c f x s
  | .srli c f x => Sys2Proof.Machine.execSrli c f x s
  | .srai c f x => Sys2Proof.Machine.execSrai c f x s
  | .rori c f x => Sys2Proof.Machine.execRori c f x s
  | .mul c f x => Sys2Proof.Machine.execMul c f x s
  | .mulhu c f x => Sys2Proof.Machine.execMulhu c f x s
  | .mulhs c f x => Sys2Proof.Machine.execMulhs c f x s
  | .divu c f x => Sys2Proof.Machine.execDivu c f x s
  | .divs c f x => Sys2Proof.Machine.execDivs c f x s
  | .remu c f x => Sys2Proof.Machine.execRemu c f x s
  | .rems c f x => Sys2Proof.Machine.execRems c f x s
  | .cmp c f x => Sys2Proof.Machine.execCmp c f x s
  | .tst c f x => Sys2Proof.Machine.execTst c f x s
  | .min c f x => Sys2Proof.Machine.execMin c f x s
  | .max c f x => Sys2Proof.Machine.execMax c f x s
  | .minu c f x => Sys2Proof.Machine.execMinu c f x s
  | .maxu c f x => Sys2Proof.Machine.execMaxu c f x s
  | .clz c f x => Sys2Proof.Machine.execClz c f x s
  | .rev c f x => Sys2Proof.Machine.execRev c f x s
  | .sextb c f x => Sys2Proof.Machine.execSextb c f x s
  | .sexth c f x => Sys2Proof.Machine.execSexth c f x s
  | .addi c f x => Sys2Proof.Machine.execAddi c f x s
  | .andi c f x => Sys2Proof.Machine.execAndi c f x s
  | .ori c f x => Sys2Proof.Machine.execOri c f x s
  | .xori c f x => Sys2Proof.Machine.execXori c f x s
  | .cmpi c f x => Sys2Proof.Machine.execCmpi c f x s
  | .tsti c f x => Sys2Proof.Machine.execTsti c f x s
  | .lui c f x => Sys2Proof.Machine.execLui c f x s
  | .addpc c f x => Sys2Proof.Machine.execAddpc c f x s
  | .lb c f x => Sys2Proof.Machine.execLb c f x s
  | .lbu c f x => Sys2Proof.Machine.execLbu c f x s
  | .lh c f x => Sys2Proof.Machine.execLh c f x s
  | .lhu c f x => Sys2Proof.Machine.execLhu c f x s
  | .lw c f x => Sys2Proof.Machine.execLw c f x s
  | .sb c f x => Sys2Proof.Machine.execSb c f x s
  | .sh c f x => Sys2Proof.Machine.execSh c f x s
  | .sw c f x => Sys2Proof.Machine.execSw c f x s
  | .bcc c f cond off => Sys2Proof.Machine.execBcc c f cond off s
  | .bl c f off => Sys2Proof.Machine.execBl c f off s
  | .jalr c f rd ra z => Sys2Proof.Machine.execJalr c f rd ra z s
  | .amo c f rd ra rb op z => Sys2Proof.Machine.execAmo c f rd ra rb op z s
  | .trap c f x => Sys2Proof.Machine.execTrap c f x s
  | .rfe c f x => Sys2Proof.Machine.execRfe c f x s
  | .wait c f x => Sys2Proof.Machine.execWait c f x s
  | .fence c f x => Sys2Proof.Machine.execFence c f x s
  | .crr c f x => Sys2Proof.Machine.execCrr c f x s
  | .crw c f x => Sys2Proof.Machine.execCrw c f x s
  | .brk c f x => Sys2Proof.Machine.execBrk c f x s
  | .waitResume c => Sys2Proof.Machine.execWaitResume c s
  | .interruptTaken c => Sys2Proof.Machine.execInterruptTaken c s
  | .tcmpMatch c => Sys2Proof.Machine.execTcmpMatch c s
  | .watchdogExpiry c => Sys2Proof.Machine.execWatchdogExpiry c s
  | .coreAutoRestart c => Sys2Proof.Machine.execCoreAutoRestart c s
  | .wdkick c v => Sys2Proof.Machine.execWdkick c v s
  | .sigSend c v => Sys2Proof.Machine.execSigSend c v s
  | .portmapApplied p => Sys2Proof.Machine.execPortmapApplied p s
  | .bind c fp v => Sys2Proof.Machine.execBind c fp v s
  | .take c fp => Sys2Proof.Machine.execTake c fp s
  | .release c fp => Sys2Proof.Machine.execRelease c fp s
  | .alloc c fp => Sys2Proof.Machine.execAlloc c fp s
  | .commit c fp => Sys2Proof.Machine.execCommit c fp s
  | .abandon c fp => Sys2Proof.Machine.execAbandon c fp s
  | .cancel c fp => Sys2Proof.Machine.execCancel c fp s
  | .flowPortWaitDone c fp => Sys2Proof.Machine.execFlowPortWaitDone c fp s
  | .ppRead c => Sys2Proof.Machine.execPpRead c s
  | .ppWrite c => Sys2Proof.Machine.execPpWrite c s
  | .ppDelete c => Sys2Proof.Machine.execPpDelete c s
  | .sha256 c cont final => Sys2Proof.Machine.execSha256 c cont final s
  | .ecdsaVerify c slot => Sys2Proof.Machine.execEcdsaVerify c slot s
  | .ecdsaSign c slot => Sys2Proof.Machine.execEcdsaSign c slot s
  | .aesCtr c slot => Sys2Proof.Machine.execAesCtr c slot s
  | .aesCbcEncrypt c slot => Sys2Proof.Machine.execAesCbcEncrypt c slot s
  | .aesCbcDecrypt c slot => Sys2Proof.Machine.execAesCbcDecrypt c slot s
  | .random c => Sys2Proof.Machine.execRandom c s
  | .cryptoJobDone err => Sys2Proof.Machine.execCryptoJobDone err s
  | .twtRegisterWrite addr bytes => Sys2Proof.Machine.execTwtRegisterWrite addr bytes s
  | .twtRegisterRead addr bytes n => Sys2Proof.Machine.execTwtRegisterRead addr bytes n s
  | .twtEventRead addr n => Sys2Proof.Machine.execTwtEventRead addr n s
  | .alertResponse => Sys2Proof.Machine.execAlertResponse s
  | .inBandRequest => Sys2Proof.Machine.execInBandRequest s
  | .ibrResendExpiry => Sys2Proof.Machine.execIbrResendExpiry s
  | .twtTimeout addr n => Sys2Proof.Machine.execTwtTimeout addr n s
  | .twcItem b r => Sys2Proof.Machine.execTwcItem b r s
  | .arbRetry b r => Sys2Proof.Machine.execArbRetry b r s
  | .stretchTimeout b n => Sys2Proof.Machine.execStretchTimeout b n s
  | .busRecovery b sda scl pulses => Sys2Proof.Machine.execBusRecovery b sda scl pulses s
  | .quarantineRetry b sda scl pulses => Sys2Proof.Machine.execQuarantineRetry b sda scl pulses s
  | .twcInband b bytes => Sys2Proof.Machine.execTwcInband b bytes s
  | .coreReady n ok => Sys2Proof.Machine.execCoreReady n ok s
  | .healthWindowExpiry => Sys2Proof.Machine.execHealthWindowExpiry s
  | .idleEntry => Sys2Proof.Machine.execIdleEntry s
  | .quiesceComplete => Sys2Proof.Machine.execQuiesceComplete s
  | .quiesceTimeout => Sys2Proof.Machine.execQuiesceTimeout s
  | .dozeTimerExpiry => Sys2Proof.Machine.execDozeTimerExpiry s
  | .hibernateTimerExpiry => Sys2Proof.Machine.execHibernateTimerExpiry s
  | .wakeFromDoze => Sys2Proof.Machine.execWakeFromDoze s
  | .wakeFromHibernate => Sys2Proof.Machine.execWakeFromHibernate s
  | .hibernateCcWake p => Sys2Proof.Machine.execHibernateCcWake p s
  | .addressMatchWake addr => Sys2Proof.Machine.execAddressMatchWake addr s
  | .perstRise => Sys2Proof.Machine.execPerstRise s
  | .businRiseWake => Sys2Proof.Machine.execBusinRiseWake s
  | .calendarTrim => Sys2Proof.Machine.execCalendarTrim s
  | .calendarOscFail => Sys2Proof.Machine.execCalendarOscFail s
  | .calAlarm => Sys2Proof.Machine.execCalAlarm s
  | .tamper x => Sys2Proof.Machine.execTamper x s
  | .vbatMeasure mv => Sys2Proof.Machine.execVbatMeasure mv s
  | .backupSupplySwitch onVbat => Sys2Proof.Machine.execBackupSupplySwitch onVbat s
  | .powerOnReset cause boot => Sys2Proof.Machine.execPowerOnReset cause boot s
  | .crystalStartTimeout => Sys2Proof.Machine.execCrystalStartTimeout s
  | .ccReportChange p pin r => Sys2Proof.Machine.execCcReportChange p pin r s
  | .sopOrderedSetRecognised x => Sys2Proof.Machine.execSopOrderedSetRecognised x s
  | .frSwapSignalEnd p => Sys2Proof.Machine.execFrSwapSignalEnd p s
  | .frameTransmitted p => Sys2Proof.Machine.execFrameTransmitted p s
  | .vconnPinSettled p => Sys2Proof.Machine.execVconnPinSettled p s
  | .bfeedOnLevelReached p => Sys2Proof.Machine.execBfeedOnLevelReached p s
  | .commandTimeLimitExpiry sq slot => Sys2Proof.Machine.execCommandTimeLimitExpiry sq slot s
  | .configSpaceWrite w => Sys2Proof.Machine.execConfigSpaceWrite w s
  | .linkTrained rate => Sys2Proof.Machine.execLinkTrained rate s
  | .calendarOscReturn => Sys2Proof.Machine.execCalendarOscReturn s
  | .captureFrameEnd p samples => Sys2Proof.Machine.execCaptureFrameEnd p samples s

end Sys2Proof.Machine
end

