-- ==== Sys2Proof/Machine/Pins.lean ====
section
/-! DEFINITION. Output balls of the device (21 R552 to R556, Tables 21-3 and 21-4; 10 Table 10-2; 19 Table 19-7): what the state drives
at each of them. -/

set_option linter.unusedVariables false

namespace Sys2Proof.Machine

/-- What an output ball carries. -/
inductive Ball
  /-- Driven low. -/
  | low
  /-- Driven high, a gate at its on level among them. -/
  | high
  /-- The Off level of a three-level PWM output (09 Table 9-1). -/
  | off
  /-- A gate pulled down (10 R296). -/
  | pulledDown
  /-- A gate being charged (10 R296, R297). -/
  | charging
  /-- An open-drain output that is not driven. -/
  | released
  /-- An output without its supply (19 R528). -/
  | floats
  deriving DecidableEq, Repr

/-- Both legs of a protection-class monitor of the port have failed (11 R350). -/
def Port.bothLegsFailed (q : Port) : Bool := (q.wm.m.toList.take 8).any fun m => m.leg0 && m.leg1

/-- Any port in FAULT_LATCHED, any protection-class monitor with both legs failed, or FALLBACK (R554). -/
def State.faultHolds (s : State) : Bool :=
  (s.ports.toList.any fun q => q.cc.st == .faultLatched || q.bothLegsFailed) || s.tb.fallback

/-- FAULT_N (R554): driven low in RUN, IDLE and DOZE while a fault holds, and released at all other times. Reset clears each of
the three conditions (DESIGN CHOICE, notes/assumptions/85). -/
def State.faultN (s : State) : Ball := if s.pwr.st ≠ .hibernate ∧ s.faultHolds then .low else .released

/-- CORE_EN (19 R518). -/
def State.coreEnBall (s : State) : Ball := if s.pwr.coreEn then .high else .low

/-- WAKE_OUT_N (19 R528). -/
def State.wakeOutN (s : State) : Ball := if s.pwr.wakeOut then .low else .released

/-- TWT_ALERT_N (17 R481). -/
def State.twtAlertN (s : State) : Ball := if s.pwr.st ≠ .hibernate ∧ s.twi.alert then .low else .released

/-- GATE of a port (Table 10-2). -/
def State.gateBall (s : State) (p : PortId) : Ball :=
  if s.pwr.st = .hibernate then .floats
  else match (s.port p).ef.path with
    | .on => .high
    | .closing => .charging
    | _ => .pulledDown

/-- BFEED of a port (Table 10-2). -/
def State.bfeedBall (s : State) (p : PortId) : Ball :=
  if s.pwr.st = .hibernate then .floats else if (s.port p).ef.bfOn then .high else .pulledDown

/-- DSCH of a port (Table 10-2). -/
def State.dschBall (s : State) (p : PortId) : Ball :=
  if s.pwr.st = .hibernate then .floats else if (s.port p).ef.dsch then .high else .low

/-- A PWM output (09 Table 9-1): Off in DOZE. -/
def State.pwmBall (s : State) (p : PortId) (x : PhaseSt) : Ball :=
  if s.pwr.st = .hibernate then .floats
  else if s.pwr.st = .doze then .off
  else match x.pwm with
    | .high => .high
    | .low => .low
    | .off => .off

end Sys2Proof.Machine
end

