-- ==== Sys2Proof/Machine/WeevilFetch.lean ====
section
/-! DEFINITION. The words that the Weevil cores fetch (16 R449, R451, R454), and what the block does while no command waits. -/

set_option linter.unusedVariables false

namespace Sys2Proof.Machine

/-- The word that core `c` fetches next from its code RAM; none at another address or at one that is not a word's. -/
def State.fetched (s : State) (c : Fin 4) : Option Word :=
  let k := s.core c
  if k.pc.toNat < 0x20000 ∧ k.pc.toNat % 4 = 0 then some (Mem.word 0 k.fetchCode k.pc.toNat) else none

/-- The command that core `c` offers next: the instruction at its PC. -/
def State.offered (s : State) (c : Fin 4) (f : Fetch) : Option Instr :=
  match s.fetched c with
  | some w => if s.executes c then weevil c f w else none
  | none => none

/-- A word that spells no instruction has no command of its own: a core that executes and fetches one raises ILLEGAL (R451). -/
def State.undefinedWord (s : State) (c : Fin 4) : State :=
  match s.fetched c with
  | some w => if (weevil c .ok w).isNone then s.instr c .ok false id else s
  | none => s

/-- No command waits: a microsecond passes, and each core whose next word spells no instruction takes the exception. -/
def State.idle (s : State) : State := (List.finRange 4).foldl State.undefinedWord s.tick

end Sys2Proof.Machine
end

