-- ==== Sys2Proof/Safety.lean ====
section
/-! DEFINITION. The vocabulary of the statements: when a core can fetch, what retiring an instruction leaves, the flags as words, the
canonical form of every memory, and the legal codes of the fields that the spec bounds. -/

set_option linter.unusedVariables false

namespace Sys2Proof.Machine

/-! ### The Weevil cores -/

/-- Core `c` executes, and the address of its next instruction may be fetched from: R450 permits it and it lies in code RAM or boot
ROM (16 R449, R456, R466). -/
def State.canFetch (s : State) (c : Fin 4) : Bool :=
  s.executes c && (s.core c).mayDo (s.core c).pc.toNat 2 && (s.range c (s.core c).pc.toNat).fetches

/-- The fetch meets no memory error. -/
def fetchClean (f : Fetch) : Bool := f != .fetchCe && f != .fetchUe

/-- A core after an instruction that writes `v` to RD and leaves STATUS at `st`. -/
def Core.retire (k : Core) (rd : Reg) (v st : Word) : Core := { k.setReg rd v with pc := k.pc + 4, status := st }

/-- STATUS with N and Z of a result, and C and V (16 Table 16-3). -/
def nzcv (st r : Word) (c v : Bool) : Word :=
  BitVec.ofBool r.msb ++ BitVec.ofBool (r == 0) ++ BitVec.ofBool c ++ BitVec.ofBool v ++ st.extractLsb' 0 28

/-- STATUS with N, Z and C, and V unchanged. -/
def nzc (st r : Word) (c : Bool) : Word :=
  BitVec.ofBool r.msb ++ BitVec.ofBool (r == 0) ++ BitVec.ofBool c ++ st.extractLsb' 0 29

/-- STATUS with N and Z, and C and V unchanged: logical flags (16 R452). -/
def nz (st r : Word) : Word := BitVec.ofBool r.msb ++ BitVec.ofBool (r == 0) ++ st.extractLsb' 0 30

/-- Signed overflow of a sum `r` of `a` and `b`: the operands agree in sign and the sum does not. -/
def overAdd (a b r : Word) : Bool := a.msb == b.msb && r.msb != a.msb

/-- Signed overflow of a difference `r` of `a` and `b`: the operands differ in sign and the difference has not `a`'s. -/
def overSub (a b r : Word) : Bool := a.msb != b.msb && r.msb != a.msb

/-- The restrictions of Tables 16-5 to 16-9 that an instruction's fields obey, by format; an instruction that breaks one is ILLEGAL
(16 R451). Commands that are no instruction of a core have none. -/
def legalFields : Instr → Bool
  | .add _ _ i | .sub _ _ i | .adc _ _ i | .sbc _ _ i | .and _ _ i | .or _ _ i | .xor _ _ i | .andn _ _ i | .sll _ _ i
  | .srl _ _ i | .sra _ _ i | .ror _ _ i | .mul _ _ i | .mulhu _ _ i | .mulhs _ _ i | .divu _ _ i | .divs _ _ i | .remu _ _ i
  | .rems _ _ i | .min _ _ i | .max _ _ i | .minu _ _ i | .maxu _ _ i => decide (i.sh = 0 ∧ i.z = 0)
  | .slli _ _ i | .srli _ _ i | .srai _ _ i | .rori _ _ i => decide (i.rb = 0 ∧ i.z = 0)
  | .cmp _ _ i | .tst _ _ i => decide (i.rd = 0 ∧ i.sh = 0 ∧ i.z = 0)
  | .clz _ _ i | .rev _ _ i | .sextb _ _ i | .sexth _ _ i => decide (i.rb = 0 ∧ i.sh = 0 ∧ i.z = 0)
  | .addi _ _ i | .andi _ _ i | .ori _ _ i | .xori _ _ i => decide (i.z = false)
  | .cmpi _ _ i | .tsti _ _ i => decide (i.z = false ∧ i.rd = 0)
  | .lui _ _ i | .addpc _ _ i => decide (i.z = false ∧ i.ra = 0 ∧ i.s = false)
  | .lb _ _ i | .lbu _ _ i | .lh _ _ i | .lhu _ _ i | .lw _ _ i => decide (
      (i.mode = 0 → i.x.extractLsb' 12 5 = 0) ∧ (i.mode = 3 → i.x.extractLsb' 0 11 = 0)
      ∧ (i.mode = 1 ∨ i.mode = 2 → i.x = 0 ∧ i.rb ≠ 0 ∧ i.rt ≠ i.rb))
  | .sb _ _ i | .sh _ _ i | .sw _ _ i => decide (
      (i.mode = 0 → i.x.extractLsb' 12 5 = 0) ∧ (i.mode = 3 → i.x.extractLsb' 0 11 = 0)
      ∧ (i.mode = 1 ∨ i.mode = 2 → i.x = 0 ∧ i.rb ≠ 0))
  | .bcc _ _ cond _ => decide (cond ≠ 15)
  | .jalr _ _ _ _ z => decide (z = 0)
  | .amo _ _ _ _ _ _ z => decide (z = 0)
  | .trap _ _ i => decide (i.reg = 0 ∧ i.z = 0 ∧ i.imm.toNat < 256)
  | .rfe _ _ i | .wait _ _ i | .fence _ _ i | .brk _ _ i => decide (i.reg = 0 ∧ i.z = 0 ∧ i.imm = 0)
  | .crr _ _ i | .crw _ _ i => decide (i.z = 0 ∧ (i.imm.toNat ≤ 8 ∨ (16 ≤ i.imm.toNat ∧ i.imm.toNat ≤ 31)))
  | _ => true

/-! ### Host commands -/

/-- The device is awake: RUN, with no sleep being entered. -/
def State.awake (s : State) : Bool := s.pwr.st == .run && s.pwr.entry == 0

/-- Descriptor `d`, of opcode `op`, stands fetched in the outstanding table, may start (13 R407, R408), and meets no other command of
the exclusion group (14 R428); the boot was no rescue, and the CMD cell that holds its record has no uncorrectable error (03 R87). -/
def State.firstUp (s : State) (d : Desc) (op : Nat) : Bool :=
  match s.outDesc d.sq d.slot with
  | some o => o.ph == .fetched && o.d == d && d.op.toNat == op && s.mayStart d && !s.rst.rescue && !s.excluded d && !s.cmdBroken d
  | none => false

/-- The state in which the command of `d` starts: its record has been read from CMD, its operand bytes are kept, and it is in
progress (13 R407, 14 R422). -/
def State.begun (s : State) (d : Desc) (data : List Byte := []) : State :=
  (((s.readCmd d).readRecord (fCmd (d.cls.toNat % 3)) (· == .desc d)).modOut d.sq d.slot fun o =>
    { o with data := if data.isEmpty then o.data else data }).modOut d.sq d.slot fun o => { o with ph := .running }

/-- Descriptor `d` has ended with a status and a result: its completion waits in the table for R409, or stands in its CPL flow. -/
def State.ended (s : State) (d : Desc) (status : Nat) (result : Quad) : Prop :=
  (∃ o ∈ s.hif.table, o.d = d ∧ o.ph = .done ∧ o.status = BitVec.ofNat 16 status ∧ o.result = result)
  ∨ ∃ r, .cpl r ∈ (s.flow (fCpl (d.cls.toNat % 3))).records ∧ r.sq = d.sq.val ∧ r.slot = d.slot ∧ r.tag = d.tag
      ∧ r.status = BitVec.ofNat 16 status ∧ r.result = result

/-! ### Memories -/

/-- The memories of a core are in canonical form. -/
def Core.memWf (k : Core) : Bool :=
  Mem.wf 0 k.code && Mem.wf 0 k.fetchCode && Mem.wf 0 k.data && k.ports.toList.all fun x => Mem.wf 0 x.buf

/-- Every addressed memory of the block is in canonical form: the RAMs and cell buffers of the cores, the shared RAM and the flash. -/
def State.memWf (s : State) : Bool :=
  s.wvl.cores.toList.all Core.memWf && Mem.wf 0 s.wvl.shared && Mem.wf 0xFF s.img.flash

end Sys2Proof.Machine

namespace Sys2Proof

/-! ### Families whose effect stays within a part of the block -/

/-- A command that only the slice of one port sees, with that port. -/
def Instr.ofSlice : Instr → Option PortId
  | .ccAttachDetected p | .reprobeExpiry p | .frameCrcError p | .amsStartWaitExpiry p | .sinktxokRead ⟨p, _⟩ | .connectorTempRead p _
  | .phaseShed p | .swarmFire ⟨p, _, _⟩ | .swarmEnd p | .peakLimit p _ _ | .dividerCorrection p _ _ | .goodServiceExpiry p
  | .backfeedReclose p | .thresholdSettled p _ | .ccReportChange p .. | .frSwapSignalEnd p | .frameTransmitted p => some p
  | _ => none

/-- An event of one port: on its pins, its timers, its protocol, its path, its converter, its monitors or its meter. -/
def Instr.ofPort : Instr → Bool
  | .ccAttachDetected .. | .probeSample .. | .reprobeExpiry .. | .tccDebounceExpiry .. | .tpdDebounceExpiry .. | .vconnFault ..
  | .holdoffExpiry .. | .pdMessageReceived .. | .goodcrcReceived .. | .frameCrcError .. | .treceiveExpiry .. | .channelIdle ..
  | .pdtxMessage .. | .hardResetReceived .. | .hardResetSignallingEnd .. | .cableResetReceived .. | .chunkTimerExpiry ..
  | .amsStartWaitExpiry .. | .sinktxokRead .. | .sendSourceCapExpiry .. | .senderResponseExpiry .. | .srcTransitionExpiry ..
  | .transitionLimitExpiry .. | .ppsTimeoutExpiry .. | .eprKeepAliveExpiry .. | .cableDiscTimeout .. | .vdmBusyExpiry ..
  | .vdmResponseTimeout .. | .vbusInBand .. | .renegotiationCaps .. | .connectorTempRead .. | .cableRediscovery ..
  | .waitSpacingExpiry .. | .psHardResetExpiry .. | .srcRecoverExpiry .. | .psSourceOnExpiry .. | .psSourceOffExpiry ..
  | .psTransitionExpiry .. | .sinkWaitCapExpiry .. | .vconnSourceTimeoutExpiry .. | .frSwapWaitExpiry ..
  | .takeoverLimitExpiry .. | .holdupVbusLow .. | .backfeedClose .. | .returnCriterion .. | .holdupReturnRetry ..
  | .getSinkCapStart .. | .discoverIdentityStart .. | .fleetModeEntry .. | .fleetEnterModeTimeout .. | .identityDigest ..
  | .podLookup .. | .authResult .. | .authTimeout .. | .vdmtxItem .. | .vdmAnswerTimeout .. | .controlUpdate .. | .phaseShed ..
  | .swarmFire .. | .swarmEnd .. | .peakLimit .. | .phaseFailureDeclared .. | .isolationCheck .. | .dividerCorrection ..
  | .compensationSample .. | .txslewLimitExpiry .. | .vsafe0vProven .. | .gateRiseComplete .. | .gateRiseTimeout ..
  | .inrushTimeout .. | .softstartTimeout .. | .vbusUnexpected .. | .passFetShorted .. | .goodServiceExpiry ..
  | .backfeedOpened .. | .backfeedReclose .. | .monitorCrossing .. | .monitorReturn .. | .thresholdSettled .. | .legCheck ..
  | .generalMonitorCheck .. | .meteringSample .. | .meteringInterval .. | .sessionContextUpdate .. | .hibernateCcWake ..
  | .ccReportChange .. | .sopOrderedSetRecognised .. | .frSwapSignalEnd .. | .frameTransmitted .. | .vconnPinSettled ..
  | .bfeedOnLevelReached .. | .captureFrameEnd .. => true
  | _ => false

/-- A command of the rings, the two-wire ports, the records, the sleep entry or the backup domain. -/
def Instr.ofDevice : Instr → Bool
  | .nop .. | .sessionRead .. | .twiXfer .. | .faultLogRead .. | .powerState .. | .sqTailDoorbell .. | .cqHeadDoorbell ..
  | .eqHeadDoorbell .. | .descriptorFetch .. | .hostFetchError .. | .moderationTimerExpiry .. | .msixUnmask .. | .queueCreate
  | .discardOrphans | .ringSelWrite .. | .functionLevelReset .. | .l1EntryRequest | .tamperLatchClear .. | .twtMapSelWrite ..
  | .eventOccurrence .. | .eventFlowFlush .. | .cellRewriteCheck .. | .eraWriteRetry .. | .alertResponse | .inBandRequest
  | .ibrResendExpiry | .twtTimeout .. | .twcItem .. | .arbRetry .. | .stretchTimeout .. | .busRecovery .. | .quarantineRetry ..
  | .twcInband .. | .idleEntry | .quiesceTimeout | .dozeTimerExpiry | .hibernateTimerExpiry | .wakeFromHibernate
  | .addressMatchWake .. | .perstRise | .businRiseWake | .calendarTrim | .calAlarm | .tamper .. | .vbatMeasure ..
  | .backupSupplySwitch .. | .configSpaceWrite .. | .calendarOscReturn => true
  | _ => false

end Sys2Proof

namespace Sys2Proof.Machine

/-! ### The path -/

/-- The outputs of a port's path are those of one path state: GATE is on only in ON, and the back-feed switch is commanded, or
closed, only in BACKFEED (10 R28, Table 10-2). -/
def EfState.pathOk (e : EfState) : Bool :=
  (!e.gateOn || e.path == .on) && (!e.bfCmd || e.path == .backfeed) && (!e.bfOn || e.path == .backfeed)

/-- So in every port. -/
def State.pathsOk (s : State) : Bool := (List.finRange 16).all fun p => (s.port p).ef.pathOk

end Sys2Proof.Machine
end

