-- ==== Sys2Proof/Certificates/Slice0/Obligations.lean ====
section
/-! DEFINITION. The statements for the provers. -/

set_option linter.unusedVariables false

open Sys2Proof Sys2Proof.Machine

/-! ### The Weevil cores -/

/-- 16 R452, Tables 16-5 and 16-6: the sums and differences, with N, Z, C and V of the full result; CMP and CMPI write flags alone. -/
def Obligations.WeevilAddSubtract : Prop :=
  ∀ (s : State) (c : Fin 4) (f : Fetch), s.canFetch c = true → fetchClean f = true →
    (∀ i : InsR, i.sh = 0 → i.z = 0 →
      let st := (s.core c).status
      let a := (s.core c).reg i.ra
      let b := (s.core c).reg i.rb
      let n := if st.getLsbD 29 then 1 else 0
      let done (r : Word) (cy ov : Bool) : Res :=
        .next (s.modCore c fun k => k.retire i.rd r (if i.s then nzcv st r cy ov else st))
      exec (.add c f i) s = done (a + b) (2 ^ 32 ≤ a.toNat + b.toNat) (overAdd a b (a + b))
      ∧ exec (.sub c f i) s = done (a - b) (b.toNat ≤ a.toNat) (overSub a b (a - b))
      ∧ (let r := a + b + BitVec.ofNat 32 n
         exec (.adc c f i) s = done r (2 ^ 32 ≤ a.toNat + b.toNat + n) (overAdd a b r))
      ∧ (let r := a - b - BitVec.ofNat 32 (1 - n)
         exec (.sbc c f i) s = done r (b.toNat + (1 - n) ≤ a.toNat) (overSub a b r))
      ∧ (i.rd = 0 → exec (.cmp c f i) s = .next (s.modCore c fun k =>
          k.retire 0 0 (nzcv st (a - b) (b.toNat ≤ a.toNat) (overSub a b (a - b))))))
    ∧ (∀ i : InsI, i.z = false →
      let st := (s.core c).status
      let a := (s.core c).reg i.ra
      let b : Word := i.imm.signExtend 32
      exec (.addi c f i) s = .next (s.modCore c fun k => k.retire i.rd (a + b)
          (if i.s then nzcv st (a + b) (2 ^ 32 ≤ a.toNat + b.toNat) (overAdd a b (a + b)) else st))
      ∧ (i.rd = 0 → exec (.cmpi c f i) s = .next (s.modCore c fun k =>
          k.retire 0 0 (nzcv st (a - b) (b.toNat ≤ a.toNat) (overSub a b (a - b))))))

/-- 16 R452, Tables 16-5 and 16-6: the logical functions set N and Z alone; LUI and ADDPC set no flag.
16 Table 16-5: minimum and maximum, leading zeros, byte order and sign extension. -/
def Obligations.WeevilLogic : Prop :=
  (
  ∀ (s : State) (c : Fin 4) (f : Fetch), s.canFetch c = true → fetchClean f = true →
    (∀ i : InsR, i.sh = 0 → i.z = 0 →
      let st := (s.core c).status
      let a := (s.core c).reg i.ra
      let b := (s.core c).reg i.rb
      let done (r : Word) : Res := .next (s.modCore c fun k => k.retire i.rd r (if i.s then nz st r else st))
      exec (.and c f i) s = done (a &&& b) ∧ exec (.or c f i) s = done (a ||| b)
      ∧ exec (.xor c f i) s = done (a ^^^ b) ∧ exec (.andn c f i) s = done (a &&& ~~~b)
      ∧ (i.rd = 0 → exec (.tst c f i) s = .next (s.modCore c fun k => k.retire 0 0 (nz st (a &&& b)))))
    ∧ (∀ i : InsI, i.z = false →
      let st := (s.core c).status
      let a := (s.core c).reg i.ra
      let b : Word := 0#16 ++ i.imm
      let done (r : Word) : Res := .next (s.modCore c fun k => k.retire i.rd r (if i.s then nz st r else st))
      exec (.andi c f i) s = done (a &&& b) ∧ exec (.ori c f i) s = done (a ||| b) ∧ exec (.xori c f i) s = done (a ^^^ b)
      ∧ (i.rd = 0 → exec (.tsti c f i) s = .next (s.modCore c fun k => k.retire 0 0 (nz st (a &&& b))))
      ∧ (i.ra = 0 → i.s = false →
          exec (.lui c f i) s = .next (s.modCore c fun k => k.retire i.rd (i.imm ++ 0#16) st)
          ∧ exec (.addpc c f i) s = .next (s.modCore c fun k => k.retire i.rd (k.pc + (i.imm.signExtend 32 <<< 2)) st))))
  ∧ (
  ∀ (s : State) (c : Fin 4) (f : Fetch) (i : InsR), s.canFetch c = true → fetchClean f = true → i.sh = 0 → i.z = 0 →
    let st := (s.core c).status
    let a := (s.core c).reg i.ra
    let b := (s.core c).reg i.rb
    let done (r : Word) : Res := .next (s.modCore c fun k => k.retire i.rd r (if i.s then nz st r else st))
    exec (.min c f i) s = done (if a.slt b then a else b) ∧ exec (.max c f i) s = done (if a.slt b then b else a)
    ∧ exec (.minu c f i) s = done (if a.ult b then a else b) ∧ exec (.maxu c f i) s = done (if a.ult b then b else a)
    ∧ (i.rb = 0 →
        (∀ n, n ≤ 32 → a.toNat < 2 ^ (32 - n) → (n = 32 ∨ 2 ^ (31 - n) ≤ a.toNat) →
          exec (.clz c f i) s = done (BitVec.ofNat 32 n))
        ∧ exec (.rev c f i) s = done (a.extractLsb' 0 8 ++ a.extractLsb' 8 8 ++ a.extractLsb' 16 8 ++ a.extractLsb' 24 8)
        ∧ exec (.sextb c f i) s = done ((a.extractLsb' 0 8).signExtend 32)
        ∧ exec (.sexth c f i) s = done ((a.extractLsb' 0 16).signExtend 32)))

/-- 16 R452, Table 16-5: shifts and rotates, by RB[4:0] or by SHAMT; C takes the last bit shifted out and is unchanged for an amount
of 0. -/
def Obligations.WeevilShifts : Prop :=
  ∀ (s : State) (c : Fin 4) (f : Fetch) (i : InsR), s.canFetch c = true → fetchClean f = true → i.z = 0 →
    let st := (s.core c).status
    let a := (s.core c).reg i.ra
    let done (n : Nat) (r : Word) (out : Bool) : Res :=
      .next (s.modCore c fun k => k.retire i.rd r (if i.s then (if n = 0 then nz st r else nzc st r out) else st))
    (i.sh = 0 →
      let n := ((s.core c).reg i.rb).toNat % 32
      exec (.sll c f i) s = done n (a <<< n) (a.getLsbD (32 - n))
      ∧ exec (.srl c f i) s = done n (a >>> n) (a.getLsbD (n - 1))
      ∧ exec (.sra c f i) s = done n (a.sshiftRight n) (a.getLsbD (n - 1))
      ∧ exec (.ror c f i) s = done n (a >>> n ||| a <<< (32 - n)) (a.getLsbD (n - 1)))
    ∧ (i.rb = 0 →
      let n := i.sh.toNat
      exec (.slli c f i) s = done n (a <<< n) (a.getLsbD (32 - n))
      ∧ exec (.srli c f i) s = done n (a >>> n) (a.getLsbD (n - 1))
      ∧ exec (.srai c f i) s = done n (a.sshiftRight n) (a.getLsbD (n - 1))
      ∧ exec (.rori c f i) s = done n (a >>> n ||| a <<< (32 - n)) (a.getLsbD (n - 1)))

/-- 16 Table 16-5 and the text under it: products, quotients and remainders, a divisor of 0 and the overflowing quotient included. -/
def Obligations.WeevilMultiplyDivide : Prop :=
  ∀ (s : State) (c : Fin 4) (f : Fetch) (i : InsR), s.canFetch c = true → fetchClean f = true → i.sh = 0 → i.z = 0 →
    let st := (s.core c).status
    let a := (s.core c).reg i.ra
    let b := (s.core c).reg i.rb
    let done (r : Word) : Res := .next (s.modCore c fun k => k.retire i.rd r (if i.s then nz st r else st))
    exec (.mul c f i) s = done ((a.setWidth 64 * b.setWidth 64).extractLsb' 0 32)
    ∧ exec (.mulhu c f i) s = done ((a.setWidth 64 * b.setWidth 64).extractLsb' 32 32)
    ∧ exec (.mulhs c f i) s = done ((a.signExtend 64 * b.signExtend 64).extractLsb' 32 32)
    ∧ exec (.divu c f i) s = done (if b = 0 then 0xFFFFFFFF else a.udiv b)
    ∧ exec (.remu c f i) s = done (if b = 0 then a else a.umod b)
    ∧ exec (.divs c f i) s = done (if b = 0 then 0xFFFFFFFF else a.sdiv b)
    ∧ exec (.rems c f i) s = done (if b = 0 then a else a.srem b)

/-- 16 R453, Table 16-7: a load reads the bytes of its address with the range's own read, updates the base where the mode does,
extends, and goes on; for every range and mode, a corrected error recorded first, where the access meets no fault. -/
def Obligations.WeevilLoads : Prop :=
  ∀ (s : State) (c : Fin 4) (f : Fetch) (i : InsM), s.canFetch c = true → fetchClean f = true → i.ok true = true →
    let b := (s.core c).reg i.rb
    let adr (n : Nat) : Word :=
      if i.mode = 0 then b + (i.x.extractLsb' 0 12).signExtend 32
      else if i.mode = 1 then b
      else if i.mode = 2 then b - BitVec.ofNat 32 n
      else b + ((s.core c).reg (i.x.extractLsb' 13 4) <<< (i.x.extractLsb' 11 2).toNat)
    let base (n : Nat) (k : Core) : Core :=
      if i.mode = 1 then k.setReg i.rb (b + BitVec.ofNat 32 n)
      else if i.mode = 2 then k.setReg i.rb (b - BitVec.ofNat 32 n) else k
    let run (n : Nat) (ext : Nat → Word) : Res :=
      let x := (s.dataCe c f (adr n)).busLoad c (s.range c (adr n).toNat) (adr n).toNat n
      .next (x.2.modCore c fun k => ((base n k).setReg i.rt (ext (leVal x.1))).next)
    (s.dataFault c f (adr 1) 1 true false = none →
      exec (.lb c f i) s = run 1 (fun v => (BitVec.ofNat 8 v).signExtend 32)
      ∧ exec (.lbu c f i) s = run 1 (fun v => (BitVec.ofNat 8 v).setWidth 32))
    ∧ (s.dataFault c f (adr 2) 2 true false = none →
      exec (.lh c f i) s = run 2 (fun v => (BitVec.ofNat 16 v).signExtend 32)
      ∧ exec (.lhu c f i) s = run 2 (fun v => (BitVec.ofNat 16 v).setWidth 32))
    ∧ (s.dataFault c f (adr 4) 4 true false = none → exec (.lw c f i) s = run 4 (fun v => BitVec.ofNat 32 v))

/-- 16 R453, Tables 16-7 and 16-8: a store puts the low bytes of RT at its address, little-endian, with the range's own write, after
the base update; AMO exchanges a word of shared RAM with RD. Accesses that meet no fault, a corrected error recorded first.
16 R453, R449: what a core stores into its data RAM with SW it loads back with LW from the same address (both by displacement,
neither instruction meeting a fault), whatever else its data RAM holds. -/
def Obligations.WeevilStores : Prop :=
  (
  ∀ (s : State) (c : Fin 4) (f : Fetch), s.canFetch c = true → fetchClean f = true →
    (∀ i : InsM, i.ok false = true →
      let b := (s.core c).reg i.rb
      let v := (s.core c).reg i.rt
      let adr (n : Nat) : Word :=
        if i.mode = 0 then b + (i.x.extractLsb' 0 12).signExtend 32
        else if i.mode = 1 then b
        else if i.mode = 2 then b - BitVec.ofNat 32 n
        else b + ((s.core c).reg (i.x.extractLsb' 13 4) <<< (i.x.extractLsb' 11 2).toNat)
      let base (n : Nat) (k : Core) : Core :=
        if i.mode = 1 then k.setReg i.rb (b + BitVec.ofNat 32 n)
        else if i.mode = 2 then k.setReg i.rb (b - BitVec.ofNat 32 n) else k
      let run (n : Nat) (bytes : List Byte) : Res :=
        .next (((s.dataCe c f (adr n)).modCore c fun k => (base n k).next).busStore c (s.range c (adr n).toNat) (adr n).toNat bytes)
      (s.dataFault c f (adr 1) 1 false true = none → exec (.sb c f i) s = run 1 [v.extractLsb' 0 8])
      ∧ (s.dataFault c f (adr 2) 2 false true = none → exec (.sh c f i) s = run 2 [v.extractLsb' 0 8, v.extractLsb' 8 8])
      ∧ (s.dataFault c f (adr 4) 4 false true = none →
          exec (.sw c f i) s = run 4 [v.extractLsb' 0 8, v.extractLsb' 8 8, v.extractLsb' 16 8, v.extractLsb' 24 8]))
    ∧ (∀ (rd ra rb : Reg) (op : BitVec 2),
      let a := (s.core c).reg ra
      let old := BitVec.ofNat 32 (leVal (s.wvl.shared.readN 0 (a.toNat - 0x20000000) 4))
      let new : Word :=
        if op = 0 then (s.core c).reg rb else if op = 1 then old + (s.core c).reg rb
        else if op = 2 then old ||| (s.core c).reg rb
        else if old = (s.core c).reg rd then (s.core c).reg rb else old
      s.range c a.toNat = .shared → s.dataFault c f a 4 true true = none →
      let r := s.dataCe c f a
      exec (.amo c f rd ra rb op 0) s = .next
        (({ r with wvl := { r.wvl with shared := s.wvl.shared.writeN 0 (a.toNat - 0x20000000) (leBytes 4 new.toNat) } }).modCore c
          fun k => (k.setReg rd old).next)))
  ∧ (
  ∀ (s t : State) (c : Fin 4) (i j : InsM), (s.core c).memWf = true →
    s.canFetch c = true → i.ok false = true → j.ok true = true → i.mode = 0 → j.mode = 0 → i.rb = j.rb → i.x = j.x →
    (let a := (s.core c).reg i.rb + (i.x.extractLsb' 0 12).signExtend 32
     0x10000000 ≤ a.toNat ∧ a.toNat < 0x10010000 ∧ s.dataFault c .ok a 4 true true = none) →
    exec (.sw c .ok i) s = .next t → t.canFetch c = true →
    ∃ u, exec (.lw c .ok j) t = .next u ∧ (u.core c).reg j.rt = if j.rt = 0 then 0 else (s.core c).reg i.rt)

/-- 16 Table 16-8: the branches. -/
def Obligations.WeevilBranches : Prop :=
  ∀ (s : State) (c : Fin 4) (f : Fetch), s.canFetch c = true → fetchClean f = true →
    let st := (s.core c).status
    let N := st.getLsbD 31
    let Z := st.getLsbD 30
    let C := st.getLsbD 29
    let V := st.getLsbD 28
    (∀ (cond : BitVec 4) (off : BitVec 22), cond ≠ 15 →
      let holds : Bool := [true, Z, !Z, N, !N, V, !V, C, !C, C && !Z, !C || Z, N == V, N != V, !Z && N == V, Z || N != V].getD
        cond.toNat false
      exec (.bcc c f cond off) s = .next (s.modCore c fun k =>
        { k with pc := if holds then k.pc + (off.signExtend 32 <<< 2) else k.pc + 4 }))
    ∧ (∀ off : BitVec 26, exec (.bl c f off) s = .next (s.modCore c fun k =>
        { k with g := k.g.set 14 (k.pc + 4), pc := k.pc + (off.signExtend 32 <<< 2) }))
    ∧ (∀ rd ra : Reg, (s.core c).reg ra &&& 3 = 0 → exec (.jalr c f rd ra 0) s = .next (s.modCore c fun k =>
        { k.setReg rd (k.pc + 4) with pc := k.reg ra }))

/-- 16 R455, Table 16-10: TRAP and BRK take their exceptions with EXL at 0: the saved and the current status bit by bit, ECAUSE,
EADDR, and the vector.
16 R454: RFE restores IE and MODE and clears EXL; FENCE lets fetch see the stores into code RAM; WAIT suspends the core unless a
line of IRQ_MASK is pending. -/
def Obligations.WeevilSystem : Prop :=
  (
  ∀ (s : State) (c : Fin 4) (f : Fetch) (i : InsS), s.canFetch c = true → fetchClean f = true →
    (s.core c).status.getLsbD 2 = false → i.z = 0 → i.reg = 0 →
    let k := s.core c
    let entered (x : Core) (cause detail : Nat) (epc : Word) : Prop :=
      x = { k with epc, ecause := BitVec.ofNat 32 (cause + 256 * detail), eaddr := 0, status := x.status
                   pc := k.vbase + BitVec.ofNat 32 (16 * cause) }
      ∧ ∀ n, x.status.getLsbD n =
          (if n = 0 then false else if n = 1 then false else if n = 2 then true else if n = 3 then k.status.getLsbD 0
           else if n = 4 then k.status.getLsbD 1 else k.status.getLsbD n)
    (i.imm.toNat < 256 → ∃ x, entered x 7 i.imm.toNat (k.pc + 4) ∧ exec (.trap c f i) s = .next (s.modCore c fun _ => x))
    ∧ (i.imm = 0 → ∃ x, entered x 8 0 k.pc ∧ exec (.brk c f i) s = .next (s.modCore c fun _ => x)))
  ∧ (
  ∀ (s : State) (c : Fin 4) (f : Fetch), s.canFetch c = true → fetchClean f = true →
    let k := s.core c
    let none : InsS := { reg := 0, z := 0, imm := 0 }
    (k.status.getLsbD 1 = false → ∃ st : Word,
      exec (.rfe c f none) s = .next (s.modCore c fun k => { k with pc := k.epc &&& 0xFFFFFFFC, status := st })
      ∧ ∀ n, st.getLsbD n = (if n = 0 then k.status.getLsbD 3 else if n = 1 then k.status.getLsbD 4 else if n = 2 then false
          else k.status.getLsbD n))
    ∧ exec (.fence c f none) s = .next (s.modCore c fun k => { k with pc := k.pc + 4, fetchCode := k.code })
    ∧ (s.irqPend c &&& k.irqMask = 0 → exec (.wait c f none) s = .next (s.modCore c fun k => { k with pc := k.pc + 4, st := .wait }))
    ∧ (s.irqPend c &&& k.irqMask ≠ 0 → exec (.wait c f none) s = .next (s.modCore c fun k => { k with pc := k.pc + 4, st := .run })))

/-- 16 Table 16-9, R450: CRR reads a control register into REG and CRW writes one from it, in SUPER mode; read-only registers and
those of a locked region keep their values. -/
def Obligations.WeevilControlRegisters : Prop :=
  ∀ (s : State) (c : Fin 4) (f : Fetch) (i : InsS), s.canFetch c = true → fetchClean f = true → i.z = 0 →
    (s.core c).status.getLsbD 1 = false →
    let k := s.core c
    let v := k.reg i.reg
    let reads (n : Nat) (w : Word) : Prop :=
      i.imm.toNat = n → exec (.crr c f i) s = .next (s.modCore c fun k => (k.setReg i.reg w).next)
    let writes (n : Nat) (g : Core → Core) : Prop :=
      i.imm.toNat = n → exec (.crw c f i) s = .next (s.modCore c fun k => (g k).next)
    (reads 0 k.status ∧ reads 1 k.epc ∧ reads 2 k.ecause ∧ reads 3 k.eaddr ∧ reads 4 k.vbase ∧ reads 5 (BitVec.ofNat 32 c.val)
      ∧ reads 6 (s.irqPend c) ∧ reads 7 k.irqMask ∧ reads 8 k.scratch
      ∧ ∀ j : Fin 8, reads (16 + 2 * j.val) k.rbase[j.val] ∧ reads (17 + 2 * j.val) k.rattr[j.val])
    ∧ (writes 0 (fun k => { k with status := v &&& 0xF000001F }) ∧ writes 1 (fun k => { k with epc := v })
      ∧ writes 2 id ∧ writes 3 id ∧ writes 5 id ∧ writes 6 id
      ∧ (v.toNat < 0x20000 → writes 4 (fun k => { k with vbase := v &&& 0xFFFFFF00 }))
      ∧ writes 7 (fun k => { k with irqMask := v }) ∧ writes 8 (fun k => { k with scratch := v })
      ∧ ∀ j : Fin 8,
        (k.rattr[j.val].getLsbD 3 = true → writes (16 + 2 * j.val) id ∧ writes (17 + 2 * j.val) id)
        ∧ (k.rattr[j.val].getLsbD 3 = false →
            writes (17 + 2 * j.val) (fun k => { k with rattr := k.rattr.set j.val (v &&& 0xF) })
            ∧ (8 ≤ (v &&& 0x1F).toNat →
                writes (16 + 2 * j.val) (fun k => { k with rbase := k.rbase.set j.val (v &&& 0xFFFFFF1F) }))
            ∧ ((v &&& 0x1F).toNat < 8 →
                writes (16 + 2 * j.val) (fun k => { k with rbase := k.rbase.set j.val (v &&& 0xFFFFFF00) }))))

/-- 16 R451, R454, R456: what raises an exception in place of an instruction, in the order of R456, for any instruction of a core:
a fetch that protection forbids, a fetch from where none is, then a field that breaks the tables or a privileged instruction in TASK
mode.
16 R449, R455, Table 16-21: a corrected error in the fetched word enters CORE_ECC_CE with the core, the memory and the address,
and the instruction then runs as any other; an uncorrectable one enters CORE_ECC_UE and raises BUS_ERROR.
16 R453, R455, R456: an access that meets a fault leaves every register of the core as it was, but for those the exception sets,
and takes MISALIGNED before the protection faults, those before BUS_ERROR. -/
def Obligations.WeevilExceptions : Prop :=
  (
  ∀ (s : State) (c : Fin 4) (f : Fetch) (i : Instr), i.coreFetch = some (c, f) → s.executes c = true →
    (s.core c).status.getLsbD 2 = false →
    let k := s.core c
    let takes (cause : Nat) (eaddr : Word) : Prop :=
      exec i s = .next (s.modCore c fun k => k.except cause 0 k.pc eaddr)
    (k.mayDo k.pc.toNat 2 = false → takes 3 k.pc)
    ∧ (k.mayDo k.pc.toNat 2 = true → (s.range c k.pc.toNat).fetches = false → takes 6 k.pc)
    ∧ (s.canFetch c = true → fetchClean f = true →
        (legalFields i = false → takes 1 0)
        ∧ (k.status.getLsbD 1 = true → ∀ j : InsS,
            i = .rfe c f j ∨ i = .crw c f j ∨ (i = .crr c f j ∧ j.imm ≠ 0 ∧ j.imm ≠ 5) → takes 1 0)))
  ∧ (
  ∀ (s : State) (c : Fin 4) (w : Word) (i : Instr), s.canFetch c = true → s.range c (s.core c).pc.toNat = .code →
    let data : List (Nat × Nat × Nat) := [(24, 1, c.val), (25, 1, 0), (28, 4, (s.core c).pc.toNat)]
    (∀ j, weevil c .fetchCe w = some i → weevil c .ok w = some j → exec i s = exec j (s.eventD 0x0902 data))
    ∧ (weevil c .fetchUe w = some i → (s.core c).status.getLsbD 2 = false →
        exec i s = .next ((s.eventD 0x0903 data).modCore c fun k => k.except 6 0 k.pc k.pc)))
  ∧ (
  ∀ (s : State) (c : Fin 4) (f : Fetch) (i : InsM), s.canFetch c = true → fetchClean f = true →
    (s.core c).status.getLsbD 2 = false →
    let k := s.core c
    let a := ((k.addr i 4).1)
    let takes (cause : Nat) (op : Instr) : Prop := exec op s = .next (s.modCore c fun k => k.except cause 0 k.pc a)
    let half := (k.addr i 2).1
    (i.ok true = true →
      (a.toNat % 4 ≠ 0 → takes 2 (.lw c f i))
      ∧ (half.toNat % 2 ≠ 0 →
          exec (.lh c f i) s = .next (s.modCore c fun k => k.except 2 0 k.pc half)
          ∧ exec (.lhu c f i) s = .next (s.modCore c fun k => k.except 2 0 k.pc half))
      ∧ (a.toNat % 4 = 0 → k.mayDo a.toNat 0 = false → takes 4 (.lw c f i))
      ∧ (a.toNat % 4 = 0 → k.mayDo a.toNat 0 = true → s.range c a.toNat = .none → takes 6 (.lw c f i))
      ∧ (a.toNat % 4 = 0 → k.mayDo a.toNat 0 = true → s.range c a.toNat = .data → f = .dataUe → takes 6 (.lw c f i)))
    ∧ (i.ok false = true →
      (a.toNat % 4 ≠ 0 → takes 2 (.sw c f i))
      ∧ (a.toNat % 4 = 0 → k.mayDo a.toNat 1 = false → takes 5 (.sw c f i))
      ∧ (a.toNat % 4 = 0 → k.mayDo a.toNat 1 = true → s.range c a.toNat = .rom → takes 6 (.sw c f i))))

/-! ### What happens to a core between instructions, core control, flow ports and the crypto engine -/

/-- 16 R454 to R457: with IE at 1 and EXL at 0 the lowest pending line of IRQ_MASK is taken, out of WAIT too; a suspended core goes on
when a line of IRQ_MASK is pending; the watchdog raises WATCHDOG at its first expiry, and puts the core into FAULT at a second
without a kick.
16 R456: a synchronous exception with EXL at 1 is a double fault: BRK there ends in FAULT with WVL_FINFO naming cause 8 and
kind 1, and every port stays as it was. -/
def Obligations.CoreBoundaries : Prop :=
  (
  ∀ (s : State) (c : Fin 4),
    let k := s.core c
    let live := s.irqPend c &&& k.irqMask
    (∀ l : Nat, l < 20 → live.getLsbD l = true → (∀ m, m < l → live.getLsbD m = false) →
      k.st = .run ∨ k.st = .wait → s.pwr.st ≠ .doze → s.pwr.st ≠ .hibernate →
      k.status.getLsbD 0 = true → k.status.getLsbD 2 = false →
      exec (.interruptTaken c) s = .next (s.modCore c fun k => { k.except 9 l k.pc 0 with st := .run }))
    ∧ (k.st = .wait → (∃ l, l < 20 ∧ live.getLsbD l = true) →
        exec (.waitResume c) s = .next (s.modCore c fun k => { k with st := .run }))
    ∧ (k.st = .wait → k.tcmp ≤ s.now → k.irqMask.getLsbD 17 = true →
        exec (.tcmpMatch c) s = .next (s.modCore c fun k => { k with st := .run }))
    ∧ (k.st = .run ∨ k.st = .wait → s.pwr.st ≠ .doze → s.pwr.st ≠ .hibernate → k.wdKicked = true → k.status.getLsbD 2 = false →
        exec (.watchdogExpiry c) s = .next (s.modCore c fun k => { k.except 10 0 k.pc 0 with st := .run, wdKicked := false }))
    ∧ (k.st = .run ∨ k.st = .wait → s.pwr.st ≠ .doze → s.pwr.st ≠ .hibernate → k.wdKicked = false → s.img.inTrial = false →
        ∃ t, exec (.watchdogExpiry c) s = .next t ∧ (t.core c).st = .fault
          ∧ (t.core c).finfo = BitVec.ofNat 32 (k.ecause.toNat % 256 + 512) ∧ (t.core c).fpc = k.epc))
  ∧ (
  ∀ (s : State) (c : Fin 4) (f : Fetch), s.canFetch c = true → fetchClean f = true → (s.core c).status.getLsbD 2 = true →
    s.img.inTrial = false →
    ∃ t, exec (.brk c f { reg := 0, z := 0, imm := 0 }) s = .next t ∧ (t.core c).st = .fault
      ∧ (t.core c).finfo = BitVec.ofNat 32 (8 + 256) ∧ ∀ p, t.port p = s.port p)

/-- 16 R466, R449: HOLD, HALT and RESTART by the host with the register lock open, and AUTO_RESTART: a reset returns the core's
registers and data RAM to their reset values and keeps its code RAM; a start counts in RESTARTS, saturating. -/
def Obligations.CoreControl : Prop :=
  ∀ (s : State) (c : Fin 4),
    let k := s.core c
    let zeroed (x : Core) : Prop :=
      x.g = Vector.replicate 16 0 ∧ x.pc = (if c = 0 then 0xF0000000 else 0) ∧ x.status = 0 ∧ x.epc = 0 ∧ x.ecause = 0 ∧ x.eaddr = 0
        ∧ x.vbase = 0 ∧ x.irqMask = 0 ∧ x.scratch = 0 ∧ x.data = [] ∧ x.tcmp = 0xFFFFFFFFFFFFFFFF ∧ x.sigSrc = 0
        ∧ x.code = k.code ∧ x.fetchCode = k.code ∧ x.finfo = k.finfo ∧ x.fpc = k.fpc
    let started (x : Core) : Prop :=
      zeroed x ∧ x.st = (if k.haltReq then .halted else .run)
        ∧ x.restarts = (if k.restarts = 15 then 15 else k.restarts + 1)
    (s.hif.lock = false → c ≠ 0 → k.hold = false →
      ∃ t, exec (.coreHold c true) s = .next t ∧ zeroed (t.core c) ∧ (t.core c).st = .reset ∧ (t.core c).hold = true)
    ∧ (s.hif.lock = false → c ≠ 0 → k.hold = true →
      ∃ t, exec (.coreHold c false) s = .next t ∧ (t.core c).st = (if k.haltReq then .halted else .run) ∧ (t.core c).hold = false)
    ∧ (s.hif.lock = false → k.st = .run →
      exec (.coreHalt c true) s = .next (s.modCore c fun k => { k with haltReq := true, st := .halted, waiting := false }))
    ∧ (s.hif.lock = false → k.st = .wait →
      exec (.coreHalt c true) s = .next (s.modCore c fun k => { k with haltReq := true, st := .halted, waiting := true }))
    ∧ (s.hif.lock = false → k.st = .halted → ∃ t, exec (.coreHalt c false) s = .next t
        ∧ t.core c = { k with haltReq := false, st := if k.waiting then .wait else .run, waiting := false }
        ∧ ∀ n, n ≠ c → t.core n = s.core n)
    ∧ (k.hold = false → ∃ t, exec (.coreRestart c) s = .next t ∧ started (t.core c))
    ∧ (k.hold = true → ∃ t, exec (.coreRestart c) s = .next t ∧ zeroed (t.core c) ∧ (t.core c).st = .reset)
    ∧ (k.st = .fault → k.autoRst = true → k.hold = false → ∃ t, exec (.coreAutoRestart c) s = .next t ∧ started (t.core c))

/-- 16 R457, R463, R464, R446: WDKICK restarts the watchdog; SIG_SEND sets the sender's bit in each core named; the Pod Table port
reads a slot for any core and deletes or writes one for W0 alone; a changed port map takes effect with the port's VDM flows empty.
16 R459, Tables 16-14 to 16-16: binding a flow port, and the commands of a bound one. -/
def Obligations.CorePorts : Prop :=
  (
  (∀ (s : State) (c : Fin 4), s.executes c = true →
    (∀ v, exec (.wdkick c v) s = .next (s.modCore c fun k => { k with wdKicked := true }))
    ∧ (∀ v, ∃ t, exec (.sigSend c v) s = .next t
        ∧ ∀ n : Fin 4, t.core n = { s.core n with
            sigSrc := if v.getLsbD n.val then (s.core n).sigSrc ||| BitVec.ofNat 4 (2 ^ c.val) else (s.core n).sigSrc })
    ∧ (∃ t, exec (.ppRead c) s = .next t ∧ (t.core c).ppRes = podResultWord 0 0 ∧ (t.core c).ppUnread = true
        ∧ t.pod.slots = s.pod.slots
        ∧ ∀ e, podGet s.pod.slots ((s.core c).ppSlot.toNat % 4096) = some e → e.bytes.length = 64 → (t.core c).ppData.toList = e.bytes)
    ∧ (c ≠ 0 →
        exec (.ppWrite c) s = .next (s.modCore c fun k => { k with ppRes := podResultWord 0x0010 0, ppUnread := true })
        ∧ exec (.ppDelete c) s = .next (s.modCore c fun k => { k with ppRes := podResultWord 0x0010 0, ppUnread := true }))
    ∧ (c = 0 → ∃ t, exec (.ppDelete c) s = .next t ∧ (t.core c).ppRes = podResultWord 0 0
        ∧ podGet t.pod.slots ((s.core c).ppSlot.toNat % 4096) = none)
    ∧ (c = 0 → s.pod.check ((s.core c).ppSlot.toNat % 4096) { bytes := (s.core c).ppData.toList } = 0 →
        ∃ t, exec (.ppWrite c) s = .next t ∧ (t.core c).ppRes = podResultWord 0 0
          ∧ podGet t.pod.slots ((s.core c).ppSlot.toNat % 4096) = some { bytes := (s.core c).ppData.toList }))
  ∧ (∀ (s : State) (p : PortId), (s.flow (fVdmRx p)).held = 0 → (s.flow (fVdmTx p)).held = 0 →
        let field (w : Word) := w.toNat / 4 ^ p.val % 4
        field s.wvl.portmap ≠ s.assigned p →
        ∃ t, exec (.portmapApplied p) s = .next t ∧ t.assigned p = field s.wvl.portmap))
  ∧ (
  ∀ (s : State) (c : Fin 4) (x : Fin 16),
    let y := s.fp c x
    (∀ v : Word, v.getLsbD 9 = false →
      ∃ t, exec (.bind c x v) s = .next t ∧ (t.fp c x).bound = false ∧ (t.fp c x).result = 0 ∧ (t.fp c x).bind = v &&& 0x3FF)
    ∧ (∀ v : Word, v.getLsbD 9 = true → v.toNat % 256 = 0x70 →
      ∃ t, exec (.bind c x v) s = .next t ∧ (t.fp c x).bound = true ∧ (t.fp c x).result = 0)
    ∧ (y.busy = false → y.bound = false →
        let t := s.modFp c x fun y => { y with busy := false, wait := none, result := 3 }
        exec (.take c x) s = .next t ∧ exec (.release c x) s = .next t ∧ exec (.alloc c x) s = .next t
        ∧ exec (.commit c x) s = .next t ∧ exec (.abandon c x) s = .next t)
    ∧ (y.busy = false → y.bound = true → y.flowNo = fWmsg →
        (y.producer = false → y.held = none → s.waitingFor c fWmsg = [] →
          exec (.take c x) s = .next (s.modFp c x fun y => { y with busy := true, wait := some 1 }))
        ∧ (y.producer = false → y.held = none → ∀ cell r, s.waitingFor c fWmsg = cell :: r → cell.ue = none →
            ∃ t, exec (.take c x) s = .next t ∧ (t.fp c x).held = some { cell with ce := [] } ∧ (t.fp c x).result = 0)
        ∧ (y.producer = false → ∀ cell, y.held = some cell →
            ∃ t, exec (.release c x) s = .next t ∧ (t.fp c x).held = none ∧ (t.fp c x).result = 0)
        ∧ (y.producer = true → y.held = none → (s.flow fWmsg).waiters = [] → 0 < s.credit fWmsg →
            ∃ t, exec (.alloc c x) s = .next t ∧ (t.fp c x).held.isSome = true ∧ (t.fp c x).buf = [] ∧ (t.fp c x).result = 0)
        ∧ (y.producer = true → ∀ cell, y.held = some cell → y.buf.readN 0 0 1 = [0] →
            ∃ t, exec (.commit c x) s = .next t ∧ (t.fp c x).held = none ∧ (t.fp c x).result = 0
              ∧ ((t.flow fWmsg).cells.getLast?.map Cell.dest) = some 0)
        ∧ (y.producer = true → ∀ cell, y.held = some cell →
            ∃ t, exec (.abandon c x) s = .next t ∧ (t.fp c x).held = none ∧ (t.fp c x).result = 0))
    ∧ (y.wait.isSome = true → ∃ t, exec (.cancel c x) s = .next t ∧ (t.fp c x).result = 6 ∧ (t.fp c x).busy = false)
    ∧ (y.wait = some 1 → y.flowNo = fWmsg → ∀ cell r, s.waitingFor c fWmsg = cell :: r → cell.ue = none →
        ∃ t, exec (.flowPortWaitDone c x) s = .next t ∧ (t.fp c x).held = some { cell with ce := [] } ∧ (t.fp c x).busy = false))

/-- 16 R465, Tables 16-19 and 16-20: a running core starts a job with the context registers as they stand; the engine takes it when it
is free; at the job's end the context's DONE is set, with bad operands reported as 2 and a memory error as 3, and the next waiting
context has the engine. -/
def Obligations.CryptoJobs : Prop :=
  ∀ (s : State) (c : Fin 4), s.executes c = true → (s.core c).cx.busy = false →
    let started (i : Instr) (op : Nat) : Prop :=
      ∃ t, exec i s = .next t ∧ (t.core c).cx.busy = true ∧ (t.core c).cx.done = false
        ∧ (t.core c).cx.job = some { op := BitVec.ofNat 32 op, src := (s.core c).cx.src, len := (s.core c).cx.len
                                     dst := (s.core c).cx.dst, aux := (s.core c).cx.aux }
        ∧ t.wvl.engine = (if s.wvl.engine = none then some c else s.wvl.engine)
        ∧ t.wvl.shared = s.wvl.shared
    (∀ cont final : Bool, started (.sha256 c cont final) (1 + (if cont then 16 else 0) + (if final then 32 else 0)))
    ∧ (∀ k : BitVec 3, started (.ecdsaVerify c k) (2 + 256 * k.toNat) ∧ started (.ecdsaSign c k) (3 + 256 * k.toNat)
        ∧ started (.aesCtr c k) (4 + 256 * k.toNat) ∧ started (.aesCbcEncrypt c k) (5 + 256 * k.toNat)
        ∧ started (.aesCbcDecrypt c k) (6 + 256 * k.toNat))
    ∧ started (.random c) 7
    ∧ (∀ (d : Fin 4) (j : CxJob), s.wvl.engine = some d → (s.core d).cx.job = some j → s.cxBad j = true → ∀ err,
        ∃ t, exec (.cryptoJobDone err) s = .next t ∧ (t.core d).cx.done = true ∧ (t.core d).cx.busy = false
          ∧ (t.core d).cx.res = 2 ∧ t.wvl.shared = s.wvl.shared
          ∧ t.wvl.engine = [d + 1, d + 2, d + 3].find? fun k => (s.core k).cx.job.isSome)
    ∧ (∀ (d : Fin 4) (j : CxJob), s.wvl.engine = some d → (s.core d).cx.job = some j → s.cxBad j = false →
        ∃ t, exec (.cryptoJobDone true) s = .next t ∧ (t.core d).cx.done = true ∧ (t.core d).cx.res = 3)
    ∧ (∀ (d : Fin 4) (j : CxJob), s.wvl.engine = some d → (s.core d).cx.job = some j → s.cxBad j = false → j.kind = 5 →
        ∃ t, exec (.cryptoJobDone false) s = .next t ∧ (t.core d).cx.done = true ∧ (t.core d).cx.res = 0
          ∧ t.wvl.shared = s.wvl.shared.writeN 0 (j.dst.toNat - 0x20000000)
              (aesCbcEnc ((beBytes 32 (((s.wvl.keys[j.slot]?.getD none).getD 0)).toNat).take 16) (s.shRead j.aux 16)
                (blocksOf (j.len.toNat / 16) (s.shRead j.src j.len.toNat))))

/-! ### Host commands -/

/-- 14 R422, R430, Table 14-6, 10 Table 10-8: NOP, PORT_ENABLE, PORT_DISABLE, CLEAR_FAULT, HARD_RESET and RENEGOTIATE where they are
legal: what each does to its port and how it completes; NOP leaves every port alone; out of place PORT_ENABLE completes
STATE_CONFLICT with condition 1, or waits under DEFER.
20 R546: PORT_RESET is legal in every port state: other commands of the port end, the port stops and forgets what it has learned,
and it completes once VBUS is proven at vSafe0V. -/
def Obligations.PortCommands : Prop :=
  (
  ∀ (s : State) (d : Desc), d.onlyAt [] = true →
    let p := d.pid
    let q := s.port p
    (s.firstUp d 0x01 = true → ∃ t, exec (.nop d) s = .next t ∧ t.ended d 0x0000 0 ∧ ∀ r, t.port r = s.port r)
    ∧ (s.firstUp d 0x02 = true → q.cc.st = .disabled → s.tb.fallback = false → s.rpFits p 0 = true →
        ∃ t, exec (.portEnable d) s = .next t ∧ (t.port p).cc.st = .unattached ∧ (t.port p).cc.rpOn = true
          ∧ t.ended d 0x0000 (evData [(24, 1, (t.port p).cc.rpLevel.toNat)]) ∧ ∀ r, r ≠ p → t.port r = s.port r)
    ∧ (s.firstUp d 0x02 = true → q.cc.st = .disabled → s.tb.fallback = false → s.rpFits p 0 = false →
        ∃ t, exec (.portEnable d) s = .next t ∧ t.ended d 0x0021 0 ∧ ∀ r, t.port r = s.port r)
    ∧ (s.firstUp d 0x02 = true → q.cc.st ≠ .disabled → d.defer = false →
        ∃ t, exec (.portEnable d) s = .next t ∧ t.ended d 0x0020 (s.conflict d 1) ∧ ∀ r, t.port r = s.port r)
    ∧ (s.firstUp d 0x02 = true → q.cc.st ≠ .disabled → d.defer = true →
        ∃ t, exec (.portEnable d) s = .next t ∧ (t.outDesc d.sq d.slot).map OutDesc.ph = some .waiting ∧ ∀ r, t.port r = s.port r)
    ∧ (s.firstUp d 0x03 = true → q.cc.st ≠ .disabled → q.cc.st.isHold = false → q.latching = false →
        let u := ((s.begun d).disable p .stopped).endPort p 0x0070 [0x03]
        exec (.portDisable d) s = .next (if (u.port p).ef.path = .off
          then u.finishAll 0x03 p 0x0000 (evData [(24, 1, q.cc.st.code)]) else u))
    ∧ (s.firstUp d 0x05 = true → q.cc.st.isHold = true →
        ∃ t, exec (.clearFault d) s = .next t ∧ (t.port p).ef.latch = 0 ∧ (t.port p).ef.retryCnt = 0 ∧ (t.port p).ef.fdValid = false
          ∧ (t.port p).ef.holdOn = false ∧ (t.port p).ef.holdOt = false
          ∧ t.ended d 0x0000 (evData [(24, 1, q.ef.latch.toNat), (25, 1, q.ef.retryCnt.toNat)]))
    ∧ (s.firstUp d 0x06 = true → q.cc.st = .attachedSrc → q.pol.seq = .ready →
        exec (.hardReset d) s = .next ((s.begun d).hrRequest p)
        ∧ (((s.begun d).hrRequest p).port p).pd.hrPend = true)
    ∧ (s.firstUp d 0x07 = true → q.cc.st = .attachedSrc → q.pol.seq = .ready →
        exec (.renegotiate d) s = .next ((s.begun d).modPol p fun x => { x with reneg := true })))
  ∧ (
  ∀ (s : State) (d : Desc), s.firstUp d 0x04 = true → d.onlyAt [] = true →
    let p := d.pid
    let before := (s.port p).cc.st
    let u := ((((s.begun d).setAux d before.code).endWhere
      (fun o => o.onPort p && !(o.d.sq == d.sq && o.d.slot == d.slot)) 0x0042).stopPort p .stopped).forgetPort p
    let w := if before = .disabled ∨ (u.port p).cc.st.isHold = true then u else u.toUnattached p
    exec (.portReset d) s = .next (if (w.port p).ef.path = .off ∧ (w.port p).ef.vbusMv ≤ 800 then w.portResetDone p 0x0000 else w))

/-- 14 R431, R432, 09 R270, 07 R198, R205, 10 R320, 09 R282: the commands of the exclusion group on a port that is in place for them:
what each starts. -/
def Obligations.ExclusionGroupCommands : Prop :=
  ∀ (s : State) (d : Desc),
    let p := d.pid
    let q := s.port p
    let u := s.begun d
    (∀ c, s.firstUp d 0x08 = true → d.onlyAt [(8, 2)] = true → q.cc.st = .attachedSrc → q.pol.seq = .ready → q.pol.contract = some c →
        c.kind ≠ .pps → (trimUnits d).natAbs ≤ c.mv * 3 / 100 / 20 →
        ∃ t, exec (.setpointTrim d) s = .next t ∧ (t.port p).cnv.setMv = ((c.mv : Int) + 20 * trimUnits d).toNat
          ∧ (t.port p).cnv.src = .trim ∧ t.runs p .trimLimit = true
          ∧ (t.port p).cnv.trim = some { sq := d.sq, slot := d.slot, deltaMv := 20 * trimUnits d })
    ∧ (s.firstUp d 0x09 = true → d.onlyAt [(8, 1)] = true → d.le 8 1 = 1 → s.roleSwapLegal p false = none →
        exec (.roleSwap d) s = .next (u.swapAsk p .toSink))
    ∧ (s.firstUp d 0x09 = true → d.onlyAt [(8, 1)] = true → d.le 8 1 = 0 → s.roleSwapLegal p true = none →
        exec (.roleSwap d) s = .next (u.swapAsk p .toSource))
    ∧ (s.firstUp d 0x0A = true → d.onlyAt [(8, 1)] = true → d.le 8 1 ≤ 1 → s.vconnSwapLegal p (d.le 8 1 == 1) = none →
        exec (.vconnSwap d) s = .next (u.swapAsk p .vconn))
    ∧ (s.firstUp d 0x0B = true → d.onlyAt [(8, 1)] = true → d.le 8 1 = 1 → q.cc.st = .attachedSrc → q.pol.seq = .ready →
        q.cc.vcfg.getLsbD 0 = true → q.cc.vconnOn = false → q.vconnMay = true →
        ∃ t, exec (.vconnSet d) s = .next t ∧ (t.port p).cc.vconnOn = true ∧ (t.port p).cc.vconnBusy = true
          ∧ (t.port p).swap.vconnSrc = true)
    ∧ (s.firstUp d 0x0B = true → d.onlyAt [(8, 1)] = true → d.le 8 1 = 0 → q.cc.st = .attachedSrc → q.pol.seq = .ready →
        q.swap.vconnSrc = true → q.pol.eprMode = false → q.cc.vconnOn = true →
        ∃ t, exec (.vconnSet d) s = .next t ∧ (t.port p).cc.vconnOn = false ∧ (t.port p).swap.vconnSrc = false)
    ∧ (s.firstUp d 0x0C = true → d.onlyAt [(8, 1)] = true → d.le 8 1 = 1 → q.cc.st = .attachedSnk → q.swap.cfg.getLsbD 4 = true →
        q.ef.bfCmd = false → 4750 ≤ q.ef.vbusMv → q.ef.vbusMv ≤ 5500 →
        ∃ t, exec (.backfeedSet d) s = .next t ∧ (t.port p).ef.bfWhy = 4 ∧ (t.port p).ef.bfReclosed = 0 ∧ t.runs p .bfReclose = false)
    ∧ (s.firstUp d 0x0C = true → d.onlyAt [(8, 1)] = true → d.le 8 1 = 0 → q.cc.st = .attachedSnk → q.ef.bfCmd = true →
        q.swap.kind ≠ .fr →
        ∃ t, exec (.backfeedSet d) s = .next t ∧ t.ended d 0x0000 0)

/-- 09 R282, 12 Table 12-8, 19 R532, 15 R440: PHASE_CLEAR, SESSION_READ, SESSION_ACK, CAL_SET and FAULT_LOG_READ where they are
legal. -/
def Obligations.RecordCommands : Prop :=
  ∀ (s : State) (d : Desc),
    let p := d.pid
    let u := s.begun d
    (s.firstUp d 0x0D = true → d.onlyAt [(8, 1)] = true → d.le 8 1 = 7 → (s.port p).pol.seq = .ready →
        ∃ t, exec (.phaseClear d) s = .next t ∧ (t.port p).cnv.a.failed = false ∧ (t.port p).cnv.b.failed = false
          ∧ (t.port p).cnv.c.failed = false
          ∧ t.ended d 0x0000 (evData [(24, 1, (if (s.port p).cnv.a.failed then 1 else 0) + (if (s.port p).cnv.b.failed then 2 else 0)
              + (if (s.port p).cnv.c.failed then 4 else 0))]))
    ∧ (s.firstUp d 0x10 = true → d.onlyAt [(8, 1), (16, 8)] = true → d.le 8 1 < 128 → d.le 16 8 % 64 = 0 →
        s.ses.recovDone = true → s.ctxState (d.le 8 1) ≠ 0 →
        ∃ t, exec (.sessionRead d) s = .next t
          ∧ (s.hostOn = true → .hostWrite (BitVec.ofNat 64 (d.le 16 8)) (getBytes (s.ctx (d.le 8 1)) 0 256) ∈ t.out)
          ∧ (s.hostOn = false → (BitVec.ofNat 64 (d.le 16 8), getBytes (s.ctx (d.le 8 1)) 0 256) ∈ t.hif.held)
          ∧ t.ended d 0x0000 (BitVec.ofNat 64 (s.ctxId (d.le 8 1))))
    ∧ (s.firstUp d 0x11 = true → d.onlyAt [(8, 1), (16, 8)] = true → d.le 8 1 < 128 → s.ctxState (d.le 8 1) = 3 →
        s.ctxId (d.le 8 1) = d.le 16 8 →
        exec (.sessionAck d) s = .next (u.journal (.ack (BitVec.ofNat 64 (d.le 16 8)) d.sq d.slot (d.le 8 1))))
    ∧ (s.firstUp d 0x12 = true → d.onlyAt [(8, 8)] = true → calMin ≤ d.le 8 8 / 65536 →
        ∃ t, exec (.calSet d) s = .next t ∧ t.bkp.cal = BitVec.ofNat 64 (d.le 8 8) ∧ t.bkp.valid = true ∧ t.bkp.frac = 0
          ∧ t.ended d 0x0000 s.cal)
    ∧ (s.firstUp d 0x38 = true → d.onlyAt [(8, 15)] = true → d.le 8 8 % 32 = 0 → 1 ≤ d.le 20 2 → d.le 20 2 ≤ 256 → d.le 22 1 ≤ 1 →
        s.rst.booted = true → s.tb.seqCount + s.hif.table.length < 2 ^ 40 →
        let l := s.flog.take (d.le 16 4) (d.le 20 2)
        let a : Quad := BitVec.ofNat 64 (d.le 8 8)
        let b := l.flatMap fun x => logBytes x.2
        let first := l.head?.map (·.1)
        ∃ t, exec (.faultLogRead d) s = .next t
          ∧ (d.le 22 1 = 1 → ∀ x ∈ l, x ∉ t.flog.ring) ∧ (d.le 22 1 = 0 → t.flog.ring = s.flog.ring)
          ∧ (l ≠ [] → (s.hostOn = true → .hostWrite a b ∈ t.out) ∧ (s.hostOn = false → (a, b) ∈ t.hif.held))
          ∧ t.ended d 0x0000 (evData [(24, 4, first.getD s.flog.wcnt.toNat), (28, 2, l.length), (30, 1, s.flog.gone (d.le 16 4) first)]))

/-- 08 R237 to R243, 14 R433, 03 R76: POD_WRITE applies its entries slot by slot, or waits without credit of its flow; POD_RELOOKUP,
AUTHENTICATE and FLEET_MODE where they are legal.
08 R231, R237, R252: the slot commands of POD_CTRL: a read gives the entry's words, a checked write replaces the entry or leaves
the table with its reason, a delete empties the slot. -/
def Obligations.PodCommands : Prop :=
  (
  ∀ (s : State) (d : Desc),
    let p := d.pid
    let q := s.port p
    (∀ block : List Byte, s.firstUp d 0x20 = true → d.onlyAt [(8, 8), (16, 2), (18, 2), (20, 8)] = true → d.le 8 8 % 64 = 0 →
        d.le 20 8 = 0 → d.le 18 2 = 1 → d.le 16 2 < 4096 → s.rst.booted = true → s.pod.updBusy = false →
        0 < (s.begun d block).credit fPodUpd → block.length = 64 →
        (block.all (· == 0) = true → ∃ t, exec (.podWrite d block) s = .next t ∧ podGet t.pod.slots (d.le 16 2) = none
          ∧ t.ended d 0x0000 (evData [(24, 2, 1), (26, 2, 0), (28, 2, 0xFFFF), (30, 1, 0)]))
        ∧ (block.all (· == 0) = false → s.pod.check (d.le 16 2) { bytes := block } = 0 →
            ∃ t, exec (.podWrite d block) s = .next t ∧ podGet t.pod.slots (d.le 16 2) = some { bytes := block }
              ∧ t.ended d 0x0000 (evData [(24, 2, 1), (26, 2, 0), (28, 2, 0xFFFF), (30, 1, 0)]))
        ∧ (block.all (· == 0) = false → ∀ k, s.pod.check (d.le 16 2) { bytes := block } = k → k ≠ 0 →
            ∃ t, exec (.podWrite d block) s = .next t ∧ t.pod.slots = s.pod.slots
              ∧ t.ended d (podStatus k) (evData [(24, 2, 0), (26, 2, 1), (28, 2, d.le 16 2), (30, 1, k)])))
    ∧ (∀ block : List Byte, s.firstUp d 0x20 = true → d.onlyAt [(8, 8), (16, 2), (18, 2), (20, 8)] = true →
        d.le 8 8 % 64 = 0 → d.le 20 8 % 4 = 0 → 1 ≤ d.le 18 2 → d.le 18 2 ≤ 256 → d.le 16 2 + d.le 18 2 ≤ 4096 → s.rst.booted = true →
        s.pod.updBusy = false → ∀ u, (s.begun d block).passCell fPodUpd = some u → exec (.podWrite d block) s = .next (u.takePods d))
    ∧ (∀ block : List Byte, s.firstUp d 0x20 = true → d.onlyAt [(8, 8), (16, 2), (18, 2), (20, 8)] = true → d.le 8 8 % 64 = 0 →
        d.le 20 8 % 4 = 0 → 1 ≤ d.le 18 2 → d.le 18 2 ≤ 256 → d.le 16 2 + d.le 18 2 ≤ 4096 → s.rst.booted = true →
        s.pod.updBusy = true ∨ (s.begun d block).credit fPodUpd = 0 →
        ∃ t, exec (.podWrite d block) s = .next t ∧ t.pod.slots = s.pod.slots ∧ t.pod.updBusy = true
          ∧ (t.outDesc d.sq d.slot).map OutDesc.ph = some .running)
    ∧ (s.firstUp d 0x21 = true → d.onlyAt [] = true → q.podLegal = none →
        exec (.podRelookup d) s = .next ((s.begun d).askLookup p .again)
        ∧ (((s.begun d).askLookup p .again).port p).pod.lookPend = some .again)
    ∧ (∀ e, s.firstUp d 0x22 = true → d.onlyAt [] = true → q.podLegal = none → q.rev3 = true →
        q.pod.copy.or q.pod.authEntry = some e → (q.pod.stale = true ∨ q.pod.src = 2 ∧ q.pod.copy.map PodEntry.authReq = some true) →
        ∃ t, exec (.authenticate d) s = .next t ∧ (t.port p).pod.auth = 1 ∧ (t.port p).pod.pendCopy = some e
          ∧ t.runs p .auth = true)
    ∧ (s.firstUp d 0x23 = true → d.onlyAt [(8, 1)] = true → d.le 8 1 = 1 → s.fleetLegal p = none →
        exec (.fleetMode d) s = .next ((s.begun d).fleetSend p 1 0))
    ∧ (s.firstUp d 0x23 = true → d.onlyAt [(8, 1)] = true → d.le 8 1 = 0 → q.cc.st = .attachedSrc ∨ q.cc.st = .attachedSnk →
        q.pod.fleet = true → exec (.fleetMode d) s = .next ((s.begun d).fleetExit p)))
  ∧ (
  ∀ (s : State),
    let k := s.pod.slotNo
    let e : PodEntry := { bytes := s.pod.data.toList.flatMap fun w => leBytes 4 w.toNat }
    (∀ x, podGet s.pod.slots k = some x → ∃ t, exec .podReadSlot s = .next t ∧ t.pod.result = 0x00010000
        ∧ t.pod.slots = s.pod.slots ∧ ∀ n : Fin 16, t.pod.data[n.val] = BitVec.ofNat 32 (getLE x.bytes (4 * n.val) 4))
    ∧ (podGet s.pod.slots k = none → ∃ t, exec .podReadSlot s = .next t ∧ ∀ n : Fin 16, t.pod.data[n.val] = 0)
    ∧ (s.pod.check k e = 0 → ∃ t, exec .podWriteSlot s = .next t ∧ podGet t.pod.slots k = some e ∧ t.pod.result = 0x00010000)
    ∧ (s.pod.check k e ≠ 0 → ∃ t, exec .podWriteSlot s = .next t ∧ t.pod.slots = s.pod.slots
        ∧ t.pod.result = podResultWord (podStatus (s.pod.check k e)) (s.pod.check k e))
    ∧ (∃ t, exec .podDeleteSlot s = .next t ∧ podGet t.pod.slots k = none ∧ t.pod.result = 0x00010000))

/-- 11 R351, 17 R483, 19 R519, 13 R413, 14 R424, R425, 02 R54. A legal MONITOR_TEST of a protection-class monitor, of one leg or of
both, or of a general-class monitor that routes TEST, completes OK with the longest time and the passing legs where each leg tested
acts within 35 ns, and HW_FAULT with each other leg failed. A legal TWI_XFER puts its item into the queue of its bus. A legal
POWER_STATE begins the entry of its state. A posted buffer joins the buffers of its stream, or completes with nothing in it where its
queue is being deleted, or BAD_PARAM.
A command waiting under DEFER is judged again by DEFERRED_START, and goes on waiting while a condition holds; one that still meets a
condition when its time ends completes TIMEOUT with that condition. At its time limit a back-feed CLOSE leaves the switch open and
completes TIMEOUT, a PORT_RESET completes HW_FAULT, and no other command does anything. -/
def Obligations.DeviceCommands : Prop :=
  (
  ∀ (s : State) (d : Desc),
    let p := d.pid
    (∀ leg0 leg1 : Option Nat, s.firstUp d 0x28 = true → d.onlyAt [(8, 3)] = true → d.le 8 1 ≤ 31 → d.le 9 1 ≤ 1 →
        (d.le 8 1 < 8 ∧ d.le 10 1 ≤ 2) ∨ (8 ≤ d.le 8 1 ∧ d.le 10 1 = 2 ∧ (s.wm p (Fin.ofNat 32 (d.le 8 1))).route.getLsbD 15 = true) →
        (s.port p).cc.st = .disabled → s.tb.fallback = false →
        let m := d.le 8 1
        let k : Fin 32 := Fin.ofNat 32 m
        let good (x : Option Nat) : Bool := x.any fun t => t ≤ 35000
        let on0 : Bool := d.le 10 1 ≠ 1
        let on1 : Bool := m < 8 ∧ d.le 10 1 ≠ 0
        let longest := max (if on0 then leg0.getD 0 else 0) (if on1 then leg1.getD 0 else 0)
        let res := evData [(24, 2, min longest 65535), (26, 1, m), (27, 1, (if on0 && good leg0 then 1 else 0) + (if on1 && good leg1 then 2 else 0))]
        ((on0 = true → good leg0 = true) → (on1 = true → good leg1 = true) →
          ∃ t, exec (.monitorTest d leg0 leg1) s = .next t ∧ t.ended d 0x0000 res ∧ ∀ r, t.port r = s.port r)
        ∧ ((on0 = true ∧ good leg0 = false) ∨ (on1 = true ∧ good leg1 = false) →
          ∃ t, exec (.monitorTest d leg0 leg1) s = .next t ∧ t.ended d 0x0050 res
            ∧ (8 ≤ m → (t.wm p k).chkFail = true) ∧ (m < 8 → on0 = true → good leg0 = false → (t.wm p k).leg0 = true)
            ∧ (m < 8 → on1 = true → good leg1 = false → (t.wm p k).leg1 = true)))
    ∧ (∀ w : List Byte, s.firstUp d 0x30 = true → d.onlyAt [(8, 24)] = true →
        twiOk (d.le 8 1) (d.le 9 1) (d.le 10 2) (d.le 12 2) (d.le 14 2) = true → (d.le 12 2 = 0 → d.le 16 8 = 0) →
        (d.le 14 2 = 0 → d.le 24 8 = 0) → s.twi.c[(Fin.ofNat 4 (d.le 8 1)).val].cfg.getLsbD 2 = true →
        let data := ((s.begun d w).outDesc d.sq d.slot).map OutDesc.data
        exec (.twiXfer d w) s = .next ((s.begun d w).sendCell (fTwq (Fin.ofNat 4 (d.le 8 1))) (.tw
          { sq := d.sq, slot := d.slot, addr10 := (d.le 9 1).testBit 0, addr := BitVec.ofNat 16 (d.le 10 2), wlen := d.le 12 2
            rlen := d.le 14 2, wdata := getBytes (data.getD []) 0 (d.le 12 2), rdataAddr := BitVec.ofNat 64 (d.le 24 8), tag := d.tag }))
        ∧ (w ≠ [] → data = some w))
    ∧ (s.firstUp d 0x48 = true → d.onlyAt [(8, 1)] = true → d.le 8 1 = 1 ∨ d.le 8 1 = 2 → s.pwr.entry = 0 →
        (s.modHif fun h => { h with table := h.table.filter fun o => !(o.d.sq == d.sq && o.d.slot == d.slot) }).entryRow (d.le 8 1 + 1)
          = none →
        exec (.powerState d) s = .next ((s.begun d).enterSleep (d.le 8 1 + 1) 1)
        ∧ (((s.begun d).enterSleep (d.le 8 1 + 1) 1).pwr.target = BitVec.ofNat 8 (d.le 8 1 + 1))
        ∧ (s.pwr.wakeEn = 0 → ((s.begun d).enterSleep (d.le 8 1 + 1) 1).pwr.entry = 1))
    ∧ (s.firstUp d 0x00 = true →
        let q := s.hif.sq[d.sq.val]
        (bufferOk (q.cfg.fld 9 8) d = true → q.st = .deleting →
          ∃ t, exec (.bufferDescriptor d) s = .next t ∧ t.ended d 0x0000 0)
        ∧ (bufferOk (q.cfg.fld 9 8) d = true → q.st ≠ .deleting →
          exec (.bufferDescriptor d) s = .next
            (let u := s.begun d
             if q.cfg.fld 9 8 = 1 then ({ u with hif := { u.hif with mtrBufs := u.hif.mtrBufs ++ [({ d } : StreamBuf)] } }).pumpMtr
             else ({ u with hif := { u.hif with wavBufs := u.hif.wavBufs ++ [({ d } : StreamBuf)] } }).pumpWave))
        ∧ (bufferOk (q.cfg.fld 9 8) d = false → ∃ t, exec (.bufferDescriptor d) s = .next t ∧ t.ended d 0x0010 0)))
  ∧ (
  ∀ (s : State) (o : OutDesc), s.outDesc o.d.sq o.d.slot = some o →
    (o.ph = .waiting → ∀ c b, s.waitCond o.d = some (c, b) →
      ∃ t, exec (.deferTimeout o.d.sq o.d.slot) s = .next t ∧ t.ended o.d 0x0022 (s.conflict o.d c b) ∧ ∀ p, t.port p = s.port p)
    ∧ (o.ph = .waiting → o.d.op ≠ 0x28 → ∀ k, specOf none none o.d.op.toNat = some k →
        exec (.deferredStart o.d.sq o.d.slot) s = .next (k.judge o.d s.draw.2)
        ∧ (k.params s.draw.2 o.d = none → k.cond s.draw.2 o.d = none →
            exec (.deferredStart o.d.sq o.d.slot) s
              = .next (k.go (s.draw.2.modOut o.d.sq o.d.slot fun x => { x with ph := .running }) o.d))
        ∧ (o.d.defer = true → k.params s.draw.2 o.d = none → ∀ c, k.cond s.draw.2 o.d = some c →
            ∃ t, exec (.deferredStart o.d.sq o.d.slot) s = .next t ∧ (t.outDesc o.d.sq o.d.slot).map OutDesc.ph = some .waiting
              ∧ ∀ p, t.port p = s.port p))
    ∧ (o.ph ≠ .waiting → exec (.deferredStart o.d.sq o.d.slot) s = .next s ∧ exec (.deferTimeout o.d.sq o.d.slot) s = .next s)
    ∧ (o.ph = .running → o.d.op = 0x0C →
        ∃ t, exec (.commandTimeLimitExpiry o.d.sq o.d.slot) s = .next t ∧ (t.port o.d.pid).ef.bfWhy = 0
          ∧ (t.port o.d.pid).ef.bfCmd = false ∧ t.ended o.d 0x0022 0)
    ∧ (o.ph = .running → o.d.op = 0x04 → s.running 0x04 o.d.pid = some o →
        (s.hif.table.filter fun x => x.ph == .running && x.d.op.toNat == 0x04 && x.d.port.toNat == o.d.pid.val) = [o] →
        ∃ t, exec (.commandTimeLimitExpiry o.d.sq o.d.slot) s = .next t
          ∧ t.ended o.d 0x0050 (evData [(24, 1, o.aux.toNat), (25, 1, (s.port o.d.pid).cc.st.code)]))
    ∧ (o.ph ≠ .running ∨ (o.d.op ≠ 0x0C ∧ o.d.op ≠ 0x04) → exec (.commandTimeLimitExpiry o.d.sq o.d.slot) s = .next s))

/-- 18 R500 to R505, R507, 03 R76: IMG_BLOCK, IMG_ACTIVATE and IMG_CONFIRM where they are legal. A block enters IMG and waits there
while W0 does not run; else W0 takes it. A block that belongs to no open transfer, reaches beyond the package or disagrees with bytes
held has no effect; one that repeats bytes held completes OK; one that fails its read-back three times closes the transfer; any other is
held and completes with the bytes received, unless it completes the package. A manifest that does not meet R497 and R498 closes the
transfer with row 1. A block with OFFSET 0 opens a transfer and erases the candidate slots of the kinds named.
An activation whose packages fail a row of Table 18-5 ends with no effect; else the kinds named are in TRIAL: with a code image among
them W3 is reloaded first, and without one the command completes and the health window starts. A confirmation makes the candidates
active and raises SEC_FLOOR; a rejection brings the previous slots back, from W3 on where code is in TRIAL. -/
def Obligations.ImageCommands : Prop :=
  (
  ∀ (s : State) (d : Desc) (w : List Byte) (fails : Nat), s.firstUp d 0x40 = true → d.onlyAt [(8, 20)] = true →
    d.le 8 8 % 256 = 0 → d.le 16 4 % 4096 = 0 → 1 ≤ d.le 20 4 → d.le 20 4 ≤ 65536 → d.le 24 4 ≠ 0 → (d.le 16 4 = 0 → 512 ≤ d.le 20 4) →
    s.img.inTrial = false → s.img.quiet = true → w.length = d.le 20 4 →
    let off := d.le 16 4
    let id : Word := BitVec.ofNat 32 (d.le 24 4)
    let res (held st row : Nat) := evData [(24, 4, held), (28, 1, st), (29, 1, row)]
    (s.w0Runs = false → ∃ t, exec (.imgBlock d w fails) s = .next t ∧ t.img = s.img
        ∧ (t.outDesc d.sq d.slot).map OutDesc.ph = some .running ∧ ∀ p, t.port p = s.port p)
    ∧ (s.w0Runs = true → (s.flow fImg).cells = [] → (s.flow fImg).waiters = [] → 0 < (s.begun d w).credit fImg →
      (s.img.xfer = none → off ≠ 0 → ∃ t, exec (.imgBlock d w fails) s = .next t ∧ t.img = s.img
          ∧ t.ended d 0x0090 (res 0 s.img.xferSt.toNat 0))
      ∧ (∀ x, s.img.xfer = some x → x.id ≠ id → off ≠ 0 → ∃ t, exec (.imgBlock d w fails) s = .next t ∧ t.img = s.img
          ∧ t.ended d 0x0090 (res x.received s.img.xferSt.toNat 0))
      ∧ (∀ x, s.img.xfer = some x → x.id = id →
          let y : XferState := { x with held := x.held.writeN 0 off w, tries := fails
                                        pages := (pagesOf off w.length).foldl (fun l k => insertNew k l) x.pages }
          let fits := off + w.length ≤ x.len ∧ (w.length % 4096 = 0 ∨ off + w.length = x.len)
          let news := ∃ k ∈ pagesOf off w.length, k ∉ x.pages
          (x.len < off + w.length → ∃ t, exec (.imgBlock d w fails) s = .next t ∧ t.img = s.img
              ∧ t.ended d 0x0091 (res x.received s.img.xferSt.toNat 0))
          ∧ (fits → x.agrees off w = false → ∃ t, exec (.imgBlock d w fails) s = .next t ∧ t.img = s.img
              ∧ t.ended d 0x0091 (res x.received s.img.xferSt.toNat 0))
          ∧ (fits → x.agrees off w = true → ¬ news → ∃ t, exec (.imgBlock d w fails) s = .next t ∧ t.img = s.img
              ∧ t.ended d 0x0000 (res x.received s.img.xferSt.toNat 0))
          ∧ (fits → x.agrees off w = true → news → 3 ≤ fails → ∃ t, exec (.imgBlock d w fails) s = .next t
              ∧ t.img = { s.img with xfer := none, xferSt := 0 } ∧ t.ended d 0x0092 (res 0 0 0))
          ∧ (fits → x.agrees off w = true → news → fails < 3 → y.received < x.len → ∃ t, exec (.imgBlock d w fails) s = .next t
              ∧ t.img = { s.img with xfer := some y, xferSt := 1 } ∧ t.ended d 0x0000 (res y.received 1 0))
          ∧ (fits → x.agrees off w = true → news → fails < 3 → y.received = x.len →
              manifestOk (getBytes (y.held.readN 0 0 x.len) 0 512) = false → ∃ t, exec (.imgBlock d w fails) s = .next t
              ∧ t.img.xfer = none ∧ t.ended d 0x0061 (res 0 0 1)))
      ∧ (off = 0 → s.img.xfer.map XferState.id ≠ some id → w.length < mLen (getBytes w 0 512) → w.length % 4096 = 0 → fails < 3 →
          ∃ t, exec (.imgBlock d w fails) s = .next t ∧ t.ended d 0x0000 (res w.length 1 0)
            ∧ t.img.xfer.map (fun x => (x.id, x.len, x.received)) = some (id, mLen (getBytes w 0 512), w.length)
            ∧ ∀ k, k < 3 → (mKinds (getBytes w 0 512)).testBit k = true → t.img.candOf k = 0
                ∧ t.img.read (slotAt k (!s.img.activeB k)).1 512 = List.replicate 512 0xFF)))
  ∧ (
  ∀ (s : State) (d : Desc),
    let n := d.le 8 1
    (s.firstUp d 0x41 = true → d.onlyAt [(8, 1), (12, 4)] = true → 1 ≤ n → n ≤ 7 → d.le 12 4 = 0 ∨ (30 ≤ d.le 12 4 ∧ d.le 12 4 ≤ 3600) →
        s.img.inTrial = false → s.img.quiet = true → s.tb.fallback = false → (∀ k, k < 3 → n.testBit k = true → s.img.candOf k = 1) →
        (∀ o ∈ s.hif.table, o.ph = .running → o.d.op ≠ 0x41) →
        (∀ row, s.activationRow n = some row → ∃ t, exec (.imgActivate d) s = .next t ∧ t.ended d 0x0062 0 ∧ t.img = s.img)
        ∧ (s.activationRow n = none → ∃ t, exec (.imgActivate d) s = .next t
            ∧ (∀ k, k < 3 → n.testBit k = true → t.img.candOf k = 2) ∧ t.img.trialBoots = 0
            ∧ t.img.health = (if d.le 12 4 = 0 then 600 else d.le 12 4)
            ∧ (n.testBit 0 = true → t.img.trial = 1 ∧ t.img.actStep = 3 ∧ (t.outDesc d.sq d.slot).map OutDesc.ph = some .running
                ∧ (t.core 3).code = Mem.writeN 0 [] 0 (s.img.image (!s.img.codeB) 3))
            ∧ (n.testBit 0 = false → t.img.trial = 2 ∧ t.img.actStep = 0 ∧ t.ended d 0x0000 0)))
    ∧ (s.firstUp d 0x42 = true → d.onlyAt [(8, 1)] = true → n = 0 → s.img.inTrial = true → s.img.quiet = true →
        ∃ t, exec (.imgConfirm d) s = .next t ∧ t.img.trial = 0 ∧ t.img.codeB = s.img.runB 0 ∧ t.img.podB = s.img.runB 1
          ∧ t.img.setB = s.img.runB 2 ∧ t.img.inTrial = false ∧ t.ended d 0x0000 0 ∧ s.img.secFloor.toNat ≤ t.img.secFloor.toNat
          ∧ (∀ k : Fin 3, s.img.candOf k.val = 2 → mSec s.img.mans[k.val] ≤ t.img.secFloor.toNat))
    ∧ (s.firstUp d 0x42 = true → d.onlyAt [(8, 1)] = true → n = 1 → s.img.inTrial = true → s.img.quiet = true →
        (∀ o ∈ s.hif.table, o.ph = .running → o.d.op ≠ 0x42) → (∀ o ∈ s.hif.table, o.ph = .running → o.d.op ≠ 0x41) →
        (s.img.candOf 0 = 2 → ∃ t, exec (.imgConfirm d) s = .next t ∧ t.img.trial = 3 ∧ t.img.falling = 3 ∧ t.img.actStep = 3
            ∧ (t.core 3).code = Mem.writeN 0 [] 0 (s.img.image s.img.codeB 3))
        ∧ (s.img.candOf 0 ≠ 2 → ∃ t, exec (.imgConfirm d) s = .next t ∧ t.img.trial = 0 ∧ t.img.cand = {} ∧ t.ended d 0x0000 0)))

/-! ### Rings, doorbells, MSI-X and the function -/

/-- 13 R401, R404, R406: with the device awake, the tail doorbell of a live SQ submits the slots up to its index, and a head doorbell
of a live CQ or of the EQ releases entries; an index at or above the depth, and a queue that is absent, set their bits of HIF_ERR. -/
def Obligations.HostDoorbells : Prop :=
  ∀ (s : State) (k : Fin 16) (v : Word), s.awake = true →
    let i := v.toNat % 4096
    let err (b : Nat) : Res := .next { s with hif := { s.hif with err := s.hif.err ||| BitVec.ofNat 32 (2 ^ b) } }
    let q := s.hif.sq[k.val]
    let c := s.hif.cq[k.val]
    let e := s.hif.eq
    let used (c : CqState) : Nat := (c.tail + qDepth c.cfg - c.head) % qDepth c.cfg
    let moved (c : CqState) : Nat := (i + qDepth c.cfg - c.head) % qDepth c.cfg
    (q.st = .absent → exec (.sqTailDoorbell k v) s = err 2)
    ∧ (q.st ≠ .absent → qDepth q.cfg ≤ i → exec (.sqTailDoorbell k v) s = err 3)
    ∧ (q.st ≠ .absent → i < qDepth q.cfg →
        exec (.sqTailDoorbell k v) s = .next { s with hif := { s.hif with
          sq := s.hif.sq.set k.val { q with tail := i, db := BitVec.ofNat 12 i } } })
    ∧ (c.st = .absent → exec (.cqHeadDoorbell k v) s = err 2)
    ∧ (c.st ≠ .absent → qDepth c.cfg ≤ i → exec (.cqHeadDoorbell k v) s = err 3)
    ∧ (c.st ≠ .absent → i < qDepth c.cfg → used c < moved c → exec (.cqHeadDoorbell k v) s = err 4)
    ∧ (c.st ≠ .absent → i < qDepth c.cfg → moved c ≤ used c →
        exec (.cqHeadDoorbell k v) s = .next { s with hif := { s.hif with
          cq := s.hif.cq.set k.val { c with head := i, db := BitVec.ofNat 12 i } } })
    ∧ (e.st = .absent → exec (.eqHeadDoorbell v) s = err 2)
    ∧ (e.st ≠ .absent → i < qDepth e.cfg → moved e ≤ used e →
        exec (.eqHeadDoorbell v) s = .next { s with hif := { s.hif with eq := { e with head := i, db := BitVec.ofNat 12 i } } })

/-- 13 R396, R397, R403, 03 R73: the next descriptor of an SQ with room in its CMD and CPL flows enters the outstanding table and
the fetch index moves on; one whose opcode Table 14-1 does not have ends BAD_OPCODE with no effect on any port. 13 R389: a failed fetch
faults the SQ. -/
def Obligations.HostFetch : Prop :=
  ∀ (s : State) (k : Fin 16), s.fetchOpen k = true →
    let q := s.hif.sq[k.val]
    (∀ b : List Byte,
      let d := descOf s.hif.ringSel.toNat k q.fetch b
      s.hasRoom (fCmd (d.cls.toNat % 3)) = true → s.hasRoom (fCpl (d.cls.toNat % 3)) = true →
      (s.fetchStatus d = none → ∃ t, exec (.descriptorFetch k b) s = .next t
        ∧ t.hif.table = s.hif.table ++ [{ d, cq := q.cfg.toNat / 16 % 16 }]
        ∧ t.hif.sq[k.val].fetch = (q.fetch + 1) % qDepth q.cfg ∧ ∀ p, t.port p = s.port p)
      ∧ (q.cfg.toNat / 256 % 4 = 0 → opTable.lookup d.op.toNat = none → ∃ t, exec (.descriptorFetch k b) s = .next t
          ∧ t.ended d 0x0011 0 ∧ ∀ p, t.port p = s.port p))
    ∧ (∀ why, 1 ≤ why → why ≤ 3 → ∃ t, exec (.hostFetchError k why) s = .next t ∧ t.hif.sq[k.val].st = .faulted
        ∧ t.hif.err = s.hif.err ||| 0x20
        ∧ t.hif.aerUnc = s.hif.aerUnc ||| (if why = 1 then 0x00100000 else if why = 2 then 0x00008000 else 0x00004000))

/-- 13 R388, R404, R405, R411, R412, R414, 02 R56. Of the records whose rings have room the lowest-numbered is written next, an event
record to the EQ and a completion to its CQ, at the tail, which moves on; no cell at hand has an error. TIME_US after the first
unsignalled entry of a CQ, or of a severity of the EQ, its count clears and its vector's message goes, or is pending where the vector is
masked. A vector unmasked sends its one pending message; with none pending, or while another mask holds, nothing goes. FLUSH_MS after
its first item the oldest buffer of a stream completes with the bytes and items it holds. -/
def Obligations.HostWrites : Prop :=
  (
  ∀ (s : State),
    let pended (t : State) (v : Fin 32) : Prop :=
      let e := s.hif.msix[v.val]
      if s.hif.masked v = true then t.hif.pba = s.hif.pba ||| BitVec.ofNat 32 (2 ^ v.val) ∧ t.out = s.out
      else t.hif.pba = s.hif.pba
        ∧ t.out = s.out ++ [.msix v.val (BitVec.ofNat 64 (e.addrLo.toNat + 2 ^ 32 * e.addrHi.toNat)) e.data]
    (∀ (f : Nat) (r : Payload), s.hostOn = true → (∀ g ∈ ringFlows, ∀ c ∈ (s.flow g).cells, c.ue = none ∧ c.ce = []) → f ∈ ringFlows →
        r ∈ (s.flow f).records → s.ringOpen r = true →
        (∀ g ∈ ringFlows, ∀ y ∈ (s.flow g).records, s.ringOpen y = true → g ≠ f ∨ y ≠ r → r.seqNo < y.seqNo) →
        (∀ x, r = .ev x → ∃ t, exec .hostRecordWrite s = .next t ∧ t = (s.readRecord f (· == r)).writeEv x
          ∧ .hostWrite (s.hif.eq.base + BitVec.ofNat 64 (32 * s.hif.eq.tail)) (evBytes x s.hif.eq.phase) ∈ t.out
          ∧ t.hif.eq.tail = (s.hif.eq.tail + 1) % qDepth s.hif.eq.cfg)
        ∧ (∀ x, r = .cpl x → let k : Fin 16 := Fin.ofNat 16 x.cq
          let c := s.hif.cq[k.val]
          ∃ t, exec .hostRecordWrite s = .next t ∧ t = (s.readRecord f (· == r)).writeCpl x
            ∧ .hostWrite (c.base + BitVec.ofNat 64 (32 * c.tail)) (cplBytes x s.hif.ringSel.toNat c.phase) ∈ t.out
            ∧ t.hif.cq[k.val].tail = (c.tail + 1) % qDepth c.cfg))
    ∧ (∀ (k : Fin 16) (sev : Fin 4), let c := s.hif.cq[k.val]
        0 < c.unsig → 0 < c.irqNow.toNat / 256 % 256 → ∃ t, exec (.moderationTimerExpiry (some k) sev) s = .next t
          ∧ t.hif.cq[k.val].unsig = 0 ∧ pended t (Fin.ofNat 32 (c.cfg.toNat / 2 ^ 16 % 32)))
    ∧ (∀ sev : Fin 4, 0 < s.hif.eq.unsigSev[sev.val] → 0 < s.hif.eq.irqNow.toNat / 256 % 256 →
        ∃ t, exec (.moderationTimerExpiry none sev) s = .next t ∧ t.hif.eq.unsigSev[sev.val] = 0
          ∧ pended t (Fin.ofNat 32 (s.hif.eqVecNow.toNat / 2 ^ (8 * sev.val) % 32)))
    ∧ (∀ v : Fin 32,
        let e := { s.hif.msix[v.val] with ctrl := s.hif.msix[v.val].ctrl &&& ~~~ 1#32 }
        let open_ := s.hif.msixEn = true ∧ s.hif.msixFmask = false ∧ s.hif.bme = true ∧ s.hif.d3hot = false ∧ s.hif.link.isSome = true
        (open_ → s.hif.pba.getLsbD v.val = true →
          ∃ t, exec (.msixUnmask v) s = .next t ∧ t.hif.pba.getLsbD v.val = false ∧ t.hif.msix[v.val] = e
            ∧ t.out = s.out ++ [.msix v.val (BitVec.ofNat 64 (e.addrLo.toNat + 2 ^ 32 * e.addrHi.toNat)) e.data])
        ∧ (¬ open_ ∨ s.hif.pba.getLsbD v.val = false →
          exec (.msixUnmask v) s = .next { s with hif := { s.hif with msix := s.hif.msix.set v.val e } })))
  ∧ (
  ∀ (s : State) (b : StreamBuf) (r : List StreamBuf), b.firstT.isSome = true → b.d.le 20 4 ≠ 0 →
    ((s.outDesc b.d.sq b.d.slot).any fun o => o.d == b.d && o.ph == .running) = true →
    (s.hif.mtrBufs = b :: r → ∃ t, exec (.streamFlushExpiry true) s = .next t ∧ (s.hostOn = false → t.hif.mtrBufs = r)
        ∧ t.ended b.d 0x0000 (evData [(24, 4, b.used), (28, 4, b.items)]))
    ∧ (s.hif.wavBufs = b :: r → ∃ t, exec (.streamFlushExpiry false) s = .next t ∧ (s.hostOn = false → t.hif.wavBufs = r)
        ∧ t.ended b.d 0x0000 (evData [(24, 4, b.used), (28, 4, b.items)])))

/-- 13 R392 to R395, R418, Table 13-17: creating and deleting a queue by HIF_QSEL, discarding the orphans of a CQ index, and
choosing the ring format while no queue exists.
13 R385 to R388, R412, R417: the resets of the function leave no queue, no buffer and ring format 1; the D-state, the link and the
bits of configuration space are as the host sets them; the LTR message is sent when LTR is enabled. -/
def Obligations.HostQueues : Prop :=
  (
  ∀ (s : State),
    let h := s.hif
    (h.createCheck ≠ 0 → exec .queueCreate s = .next { s with hif := { h with qDone := true, qResult := BitVec.ofNat 4 h.createCheck } })
    ∧ (h.createCheck = 0 → h.selKind = 0 → exec .queueCreate s = .next { s with hif := { h with
          sq := h.sq.set h.selIx.val { st := .live, base := h.setBase, cfg := h.setCfg, irq := h.setIrq }, qDone := true, qResult := 0 } })
    ∧ (h.createCheck = 0 → h.selKind = 1 → exec .queueCreate s = .next { s with hif := { h with
          cq := h.cq.set h.selIx.val { st := .live, base := h.setBase, cfg := h.setCfg, irq := h.setIrq }, qDone := true, qResult := 0 } })
    ∧ (h.createCheck = 0 → 2 ≤ h.selKind → exec .queueCreate s = .next { s with hif := { h with
          eq := { st := .live, base := h.setBase, cfg := h.setCfg, irq := h.setIrq }, qDone := true, qResult := 0 } })
    ∧ (h.selSt = .absent ∨ h.selSt = .deleting → exec .queueDelete s = .next { s with hif := { h with qDone := true, qResult := 6 } })
    ∧ (2 ≤ h.selKind → h.selSt = .live → exec .queueDelete s = .next { s with hif := { h with eq := {}, qDone := true, qResult := 0 } })
    ∧ (h.selKind = 0 → h.selSt = .live → ∃ t, exec .queueDelete s = .next t ∧ t.hif.qResult = 0
        ∧ (t.hif.sq[h.selIx.val].st = .deleting ∨ t.hif.sq[h.selIx.val].st = .absent))
    ∧ (let used := ∃ k : Fin 16, s.hif.sq[k.val].st ≠ .absent ∧ s.hif.sq[k.val].cfg.toNat / 16 % 16 = h.selIx.val
       (h.selKind = 1 → h.selSt = .live → used → exec .queueDelete s = .next { s with hif := { h with qDone := true, qResult := 3 } })
       ∧ (h.selKind = 1 → h.selSt = .live → ¬ used → ∃ t, exec .queueDelete s = .next t ∧ t.hif.qResult = 0
          ∧ t.hif.cq = h.cq.set h.selIx.val {}
          ∧ ∀ c < 3, ∀ x, .cpl x ∈ (t.flow (fCpl c)).records → x.cq = h.selIx.val → x.orphan = true))
    ∧ (h.selKind ≠ 1 → exec .discardOrphans s = .next { s with hif := { h with qDone := true, qResult := 6 } })
    ∧ (h.selKind = 1 → ∃ t, exec .discardOrphans s = .next t ∧ t.hif.qDone = true ∧ t.hif.qResult = 0
        ∧ ∀ c < 3, ∀ x, .cpl x ∈ (t.flow (fCpl c)).records →
            .cpl x ∈ (s.flow (fCpl c)).records ∧ ¬ (x.orphan = true ∧ x.cq = h.selIx.val))
    ∧ (∀ v : Word, s.awake = true → h.anyQueue = false → v.toNat / 2 ^ 16 % 256 = 1 ∨ v.toNat / 2 ^ 16 % 256 = 2 →
        exec (.ringSelWrite v) s = .next { s with hif := { h with ringSel := BitVec.ofNat 8 (v.toNat / 2 ^ 16 % 256) } })
    ∧ (∀ v : Word, s.awake = true → h.anyQueue = true ∨ v.toNat / 2 ^ 16 % 256 = 0 ∨ 2 < v.toNat / 2 ^ 16 % 256 →
        exec (.ringSelWrite v) s = .next { s with hif := { h with err := h.err ||| 1 } }))
  ∧ (
  ∀ (s : State),
    (∀ k, ∃ t, exec (.functionLevelReset k) s = .next t ∧ t.hif.anyQueue = false ∧ t.hif.ringSel = 1 ∧ t.hif.bme = false
        ∧ t.hif.mtrBufs = [] ∧ t.hif.wavBufs = [] ∧ t.hif.msixEn = false ∧ t.hif.pba = 0 ∧ (k ≠ .flr → t.hif.link = none)
        ∧ (k = .flr → t.hif.link = s.hif.link) ∧ ∀ p, t.port p = s.port p)
    ∧ (∀ d3 bme, ∃ t, exec (.pciPmStateChange d3 bme) s = .next t ∧ t.hif.d3hot = d3 ∧ t.hif.bme = bme)
    ∧ (s.hif.aspmL1 = true → s.hif.link.isSome = true → s.hif.l1 = false →
        exec .l1EntryRequest s = .next { s with hif := { s.hif with l1 := true }, out := s.out ++ [.l1Request] })
    ∧ (s.hif.aspmL1 = false ∨ s.hif.link = none ∨ s.hif.l1 = true → exec .l1EntryRequest s = .next s)
    ∧ (∀ rate : BitVec 2, rate ≠ 3 → ∃ t, exec (.linkTrained rate) s = .next t ∧ t.hif.link = some rate)
    ∧ (exec (.configSpaceWrite (.ltrEn true)) s = .next { s with
          hif := { s.hif with ltrEn := true }, out := s.out ++ [.ltr (s.hif.pmCfg.toNat % 256)] })
    ∧ exec (.configSpaceWrite (.ltrEn false)) s = .next { s with hif := { s.hif with ltrEn := false } }
    ∧ (∀ b, exec (.configSpaceWrite (.aspmL1 b)) s = .next { s with hif := { s.hif with aspmL1 := b } })
    ∧ (∀ b, exec (.configSpaceWrite (.pmeEn b)) s = .next { s with hif := { s.hif with pmeEn := b } })
    ∧ (exec (.configSpaceWrite .pmeClear) s = .next { s with hif := { s.hif with pmeSta := false } })
    ∧ (∀ m : Word, ∃ t, exec (.configSpaceWrite (.aerClear m)) s = .next t
        ∧ ∀ n, t.hif.aerUnc.getLsbD n = (s.hif.aerUnc.getLsbD n && !m.getLsbD n))
    ∧ (∀ b, ∃ t, exec (.configSpaceWrite (.msixMask b)) s = .next t ∧ t.hif.msixFmask = b)
    ∧ (∀ b, ∃ t, exec (.configSpaceWrite (.msixEn b)) s = .next t ∧ t.hif.msixEn = b))

/-! ### The register bus -/

/-- 00 R5, 13 R390, 22 R572 to R574, 17 R475: an access that is no aligned word is ignored and noted in HIF_ERR. On an awake device, a
write of a register with storage changes its RW fields, and its RWL fields unless HIF_LOCK holds them; a locked field that differs
sets VIOLATION; a value out of range leaves the register and tells the owning chapter. A write that the supervisor may not make sets
WR_REFUSED and nothing else. -/
def Obligations.RegisterWrites : Prop :=
  ∀ (s : State) (off : BitVec 20) (v : Word),
    (∀ i, off.toNat % 4 ≠ 0 → exec (.registerWrite i off v) s = .next { s with hif := { s.hif with err := s.hif.err ||| 0x40 } })
    ∧ (s.awake = true → off.toNat % 4 = 0 → ∀ r, regSpec .bar0 off.toNat = some r →
        let old := r.get s
        let m := if s.hif.lock then r.rw else r.rw ||| r.rwl
        let n := (old &&& ~~~m) ||| (v &&& m)
        let u : State := if s.hif.lock = true ∧ (v ^^^ old) &&& r.rwl ≠ 0 then { s with hif := { s.hif with viol := true } } else s
        exec (.registerWrite .bar0 off v) s = .next (if r.ok n = true then r.put u n else r.err u))
    ∧ (off.toNat % 4 = 0 → s.twtMay off.toNat = none →
        exec (.registerWrite .twt off v) s = .next { s with twi := { s.twi with wrRefused := true } })
    ∧ (∀ k : Fin 8, off.toNat = 0xD040 + 4 * k.val → s.twi.tver.toNat = 2 → s.twi.tcfg.getLsbD 5 = true →
        exec (.registerWrite .twt off v) s = .next { s with bkp := { s.bkp with gp := s.bkp.gp.set k.val v } })

/-- 06 R177, R191, 22 R572: LIMIT_WRITE on an awake, unlocked device: LIMIT and HOLDUP_GRANT taken where they are in range and the
floors fit; else the register stays and GLB_BUDGET_ERR tells which. LOCK_SET locks for good, and VIOLATION is cleared by writing 1.
20 R544, 19 R532, R534, 17 R478: HIF_RST with its key and WARM requests a warm reset, which runs once nothing holds it up; a wrong
key is noted. BKP_CTRL.SET sets the calendar from BKP_SET; the tamper latches are cleared with their counts; TWI_TVER.SEL changes at
the next START. -/
def Obligations.LimitLockResetWrites : Prop :=
  (
  ∀ (s : State) (v : Word), s.awake = true →
    let n : Word := (s.bud.cfg &&& 0xFFF0F000) ||| (v &&& 0x000F0FFF)
    let u : State := { s with bud := { s.bud with cfg := n } }
    let inRange := 24 ≤ v.toNat % 4096 ∧ v.toNat % 4096 ≤ 3840 ∧ 5 ≤ v.toNat / 65536 % 16
    (s.hif.lock = false → inRange → u.floorSum ≤ u.limit →
        ∃ t, exec (.limitWrite .bar0 v) s = .next t ∧ t.bud.cfg = n ∧ t.bud.err = s.bud.err)
    ∧ (s.hif.lock = false → inRange → u.limit < u.floorSum →
        exec (.limitWrite .bar0 v) s = .next { s with bud := { s.bud with err := s.bud.err ||| 1 } })
    ∧ (s.hif.lock = false → ¬ inRange →
        exec (.limitWrite .bar0 v) s = .next { s with bud := { s.bud with err := s.bud.err ||| 2 } })
    ∧ (∃ t, exec (.lockSet .bar0 v) s = .next t ∧ t.hif.lock = (s.hif.lock || v.getLsbD 0)
        ∧ t.hif.viol = (s.hif.viol && !v.getLsbD 1)
        ∧ t.rst.byTwt = (if v.getLsbD 0 = true ∧ s.hif.lock = false then false else s.rst.byTwt)))
  ∧ (
  ∀ (s : State) (v : Word),
    (s.awake = true → v.toNat % 65536 ≠ 0x5752 →
        exec (.warmReset .bar0 v) s = .next { s with hif := { s.hif with err := s.hif.err ||| 2 } })
    ∧ (s.awake = true → v.toNat % 65536 = 0x5752 → v.getLsbD 16 = true → s.rst.warmPend = false → s.rst.booted = true →
        s.hu.active = false ∨ v.getLsbD 17 = true →
        ∃ t, exec (.warmReset .bar0 v) s = .next t ∧ t.rst.last = 5 ∧ t.rst.warmPend = false
          ∧ t.rst.warmCount = satInc s.rst.warmCount ∧ t.hif.mtrBufs = [] ∧ t.hif.wavBufs = [])
    ∧ (s.awake = true → v.toNat % 65536 = 0x5752 → v.getLsbD 16 = true → s.hu.active = true → v.getLsbD 17 = false →
        s.rst.warmForce = false → s.rst.warmPend = false →
        exec (.warmReset .bar0 v) s = .next { s with rst := { s.rst with warmPend := true, warmBy := 1 } })
    ∧ (s.rst.warmPend = true → s.warmMay = true →
        ∃ t, exec .warmResetProceed s = .next t ∧ t.rst.warmPend = false ∧ t.rst.last = (if s.rst.warmBy = 2 then 6 else 5)
          ∧ t.rst.warmCount = satInc s.rst.warmCount)
    ∧ (s.rst.warmPend = false ∨ s.warmMay = false → exec .warmResetProceed s = .next s)
    ∧ (s.awake = true → v.getLsbD 0 = true →
        let q := s.bkp.setLo.toNat + 2 ^ 32 * s.bkp.setHi.toNat
        (631152000 ≤ q / 65536 → ∃ t, exec (.bkpSet v) s = .next t ∧ t.bkp.cal.toNat = q ∧ t.bkp.valid = true ∧ t.bkp.frac = 0)
        ∧ (q / 65536 < 631152000 → exec (.bkpSet v) s = .next { s with bkp := { s.bkp with cfgErr := true } }))
    ∧ (s.awake = true → ∃ t, exec (.tamperLatchClear v) s = .next t
        ∧ (∀ k < 2, t.bkp.lat.getLsbD k = (s.bkp.lat.getLsbD k && !v.getLsbD k))
        ∧ t.bkp.tcnt0 = (if v.getLsbD 0 then 0 else s.bkp.tcnt0) ∧ t.bkp.tcnt1 = (if v.getLsbD 1 then 0 else s.bkp.tcnt1)
        ∧ t.bkp.ts0 = s.bkp.ts0 ∧ t.bkp.ts1 = s.bkp.ts1)
    ∧ (∀ b : Byte, s.twi.tcfg.getLsbD 5 = true → b = 1 ∨ b = 2 →
        exec (.twtMapSelWrite b) s = .next { s with twi := { s.twi with tverNext := some b } })
    ∧ (∀ b : Byte, s.twi.tcfg.getLsbD 5 = true → b ≠ 1 → b ≠ 2 →
        exec (.twtMapSelWrite b) s = .next { s with twi := { s.twi with cfgErr := true } })
    ∧ (∀ b : Byte, s.twi.tcfg.getLsbD 5 = false →
        exec (.twtMapSelWrite b) s = .next { s with twi := { s.twi with wrRefused := true } }))

/-- 00 R5, 22 R568, R576: a clear-on-read register answers its value and is cleared; a LO half answers and latches its HI half for
that interface alone; the fault-log window latches the first entry from its selector on, and moves past it when the last byte has
been read. -/
def Obligations.RegisterReads : Prop :=
  ∀ (s : State) (i : Iface),
    (exec (.rcRead i 0x100C) s = .next (({ s with sto := { s.sto with ce := 0 } } : State).emit (.readData i 0x100C s.sto.ce)))
    ∧ (exec (.rcRead i 0x1010) s = .next (({ s with sto := { s.sto with ue := 0 } } : State).emit (.readData i 0x1010 s.sto.ue)))
    ∧ (∀ (p : PortId) (o : BitVec 20), o.toNat ∈ [0x068, 0x098, 0x0A8, 0x138, 0x168, 0x16C] →
        let a : BitVec 20 := 0x4000 + 0x400 * BitVec.ofNat 20 p.val + o
        ∃ t, exec (.rcRead i a) s = .next t ∧ t.out = s.out ++ [.readData i a.toNat (s.readReg i a.toNat)] ∧ t.readReg i a.toNat = 0
          ∧ ∀ r, r ≠ p → t.port r = s.port r)
    ∧ (∃ t, exec (.loLatchRead i 0x48) s = .next t ∧ t.out = s.out ++ [.readData i 0x48 (s.tb.count.setWidth 32)]
        ∧ (∀ u : State, u.lat i = t.lat i → u.readReg i 0x4C = (s.tb.count >>> 32).setWidth 32)
        ∧ ∀ j, j ≠ i → t.lat j = s.lat j)
    ∧ (∃ t, exec (.loLatchRead i 0xD000) s = .next t ∧ t.readReg i 0xD004 = (s.bkp.cal >>> 32).setWidth 32)
    ∧ (∀ x, s.flog.ring.find? (fun y => decide ((s.lat i).flogSel.toNat ≤ y.1)) = some x →
        exec (.flogData0Read i) s = .next ((s.modLat i fun l => { l with flogEnt := some x, flogSel := BitVec.ofNat 32 x.1 }).emit
          (.readData i 0x2200 (BitVec.ofNat 32 (getLE (logBytes x.2) 0 4)))))
    ∧ ((∀ y ∈ s.flog.ring, y.1 < (s.lat i).flogSel.toNat) →
        exec (.flogData0Read i) s = .next ((s.modLat i fun l => { l with flogEnt := none }).emit (.readData i 0x2200 0)))
    ∧ (∀ x, (s.lat i).flogEnt = some x →
        exec (.flogData7LastRead i) s = .next ((s.emit (.readData i 0x221C (BitVec.ofNat 32 (getLE (logBytes x.2) 28 4)))).modLat i
          fun l => { l with flogSel := BitVec.ofNat 32 (x.1 + 1) }))

/-! ### The central store, events and the Timebase -/

/-- 03 R79, 02 R47, 15 R434, R439: an occurrence of a cause of the catalogue, with its class's host flow open and the supervisor's
flow closed. With two free slots or more the record takes the next number and joins the flow; with fewer it takes no number and is
counted. The fault log takes it when its severity reaches MIN_SEV. No port, command or session is touched.
03 R80: a flow out of credit is flushed once two slots are free: its one counter as a record, then DEVICE_LOG_OVERFLOW with the
occurrences counted; a flow with credit, or with fewer slots, stays as it is. -/
def Obligations.EventRecords : Prop :=
  (
  ∀ (s : State) (cause port cls sev : Nat) (data : Quad), catalogue.lookup cause = some (cls, sev) → s.rst.booted = true →
    s.evsOn cls = false → s.tb.seqCount < 2 ^ 40 → (s.flow (fEvh cls)).ooc = none →
    let f := fEvh cls
    let e : EvRec := { cause, port, cls, sev := sevOf cause data, time := s.tb.count, data }
    ∃ t, exec (.eventOccurrence cause port data) s = .next t
      ∧ (2 ≤ s.slots f → t.tb.seqLast = s.tb.seqNo ∧ t.tb.seqCount = s.tb.seqCount + 1
          ∧ (t.flow f).records = (s.flow f).records ++ [.ev { e with seq := s.tb.seqNo }]
          ∧ (s.flog.cfg.toNat % 4 ≤ sevOf cause data → t.flog.ring.getLast? = some (s.flog.wcnt.toNat, { e with seq := s.tb.seqNo })))
      ∧ (s.slots f ≤ 1 → t.tb = s.tb ∧ (t.flow f).records = (s.flow f).records ∧ (t.flow f).cnt = satInc (s.flow f).cnt
          ∧ (∃ c ∈ (t.flow f).ctrs, c.port = port ∧ c.cause = cause)
          ∧ (s.flog.cfg.toNat % 4 ≤ sevOf cause data →
              t.flog.ring.getLast? = some (s.flog.wcnt.toNat, { e with seq := s.tb.seqLast, unnum := true })))
      ∧ (sevOf cause data < s.flog.cfg.toNat % 4 → t.flog = s.flog)
      ∧ t.ports = s.ports ∧ t.hif.table = s.hif.table ∧ t.ses = s.ses ∧ t.wvl = s.wvl ∧ t.img = s.img ∧ t.bkp = s.bkp ∧ t.rst = s.rst
      ∧ ∀ g, g ≠ f → t.flow g = s.flow g)
  ∧ (
  ∀ (s : State) (f : Nat), 0x60 ≤ f → f ≤ 0x65 →
    ((s.flow f).ooc = none → exec (.eventFlowFlush f) s = .next s)
    ∧ (s.slots f < 2 → exec (.eventFlowFlush f) s = .next s)
    ∧ (∀ (since : Quad) (c : CoalCtr), (s.flow f).ooc = some since → 3 ≤ s.slots f → (s.flow f).ctrs = [c] → 0 < (s.flow f).counted →
        s.tb.seqCount + 1 < 2 ^ 40 →
        ∃ (t : State) (lost : EvRec), exec (.eventFlowFlush f) s = .next t ∧ (t.flow f).ctrs = [] ∧ (t.flow f).counted = 0
          ∧ lost.cause = 0x0001 ∧ lost.coal = (s.flow f).counted ∧ lost.seq = s.tb.seqNo + 1
          ∧ (t.flow f).records = (s.flow f).records ++ [
              .ev { cause := c.cause, port := c.port, cls := f % 3, sev := c.sev, coal := c.cnt, seq := s.tb.seqNo
                    time := c.lastT, data := c.worst }, .ev lost]))

/-- 03 R64, R77, R86 to R88. With SCRUB_EN 1 a scrub read of a cell in use moves the pass on, counts a single-bit error, and meets an
uncorrectable one, which is counted and kept with its place; with SCRUB_EN 0 an error stays in its cell for the consumer's read. A
suspect cell that is free goes back to use, or is retired where its rewrite fails, RETIRE_EN is 1 and the Class 2 cap is above 4,096;
one that is owned, or not suspect, is left. Returned credit is taken by the first waiting producer of its flow; without credit
nothing happens.
02 R43 to R48, Table 2-3: losing the Timebase drives FAULT_N low (21 R554) and stops each port but those in DISABLED, ATTACHED_SNK, HOLDOFF or FAULT_LATCHED, or on
their way to the last two; its return starts the stopped ports again; a calibration cycle sets its duration and each port's steps; and
the era is kept once its write to flash succeeds. -/
def Obligations.StoreAndTimebase : Prop :=
  (
  ∀ (s : State) (cell : Nat) (w : Fin 32), cell < 16384 →
    let u : State := { s with sto := s.sto.scrubbed s.now }
    (s.sto.retired.contains cell = false → s.sto.cfg.getLsbD 0 = true →
      exec (.scrubRead cell w .clean) s = .next u
      ∧ exec (.scrubRead cell w .single) s = .next { u with sto := { u.sto with ce := satInc s.sto.ce } }
      ∧ exec (.scrubRead cell w .double) s = .next (u.storeUe cell w.val)
      ∧ (s.cellOwner cell = none → s.looseOwner cell = none →
          (u.storeUe cell w.val).sto.ue = satInc s.sto.ue ∧ (cell, w.val) ∈ (u.storeUe cell w.val).sto.suspect
          ∧ (u.storeUe cell w.val).sto.ueLast = BitVec.ofNat 32 (cell + 2 ^ 14 * w.val + 2 ^ 19 * 0xFF)))
    ∧ (s.sto.retired.contains cell = false → s.sto.cfg.getLsbD 0 = false →
        (∀ r, s.cellOwner cell = none → exec (.scrubRead cell w r) s = .next s)
        ∧ (∀ f c, s.cellOwner cell = some (f, c) →
            exec (.scrubRead cell w .single) s = .next (s.modFlow f fun x => { x with cells := x.cells.map fun y =>
              if y.idx = cell then { y with ce := insertNew w.val y.ce } else y })
            ∧ exec (.scrubRead cell w .double) s = .next (s.modFlow f fun x => { x with cells := x.cells.map fun y =>
              if y.idx = cell then { y with ue := some w.val } else y })))
    ∧ (s.sto.retired.contains cell = true → ∀ r, exec (.scrubRead cell w r) s = .next s)
    ∧ (∀ bad, (∀ x ∈ s.sto.suspect, x.1 ≠ cell) → exec (.cellRewriteCheck cell bad) s = .next s)
    ∧ (∀ bad, (s.cellOwner cell).isSome = true ∨ (s.looseOwner cell).isSome = true → exec (.cellRewriteCheck cell bad) s = .next s)
    ∧ (∀ bad, (s.sto.suspect.any fun x => x.1 == cell) = true → s.cellOwner cell = none → s.looseOwner cell = none →
        let left := s.sto.suspect.filter fun x => x.1 != cell
        (bad = false ∨ s.sto.cfg.getLsbD 1 = false → exec (.cellRewriteCheck cell bad) s
          = .next { s with sto := { s.sto with suspect := left, freed := s.sto.freed ++ [cell] } })
        ∧ (bad = true → s.sto.cfg.getLsbD 1 = true → s.sto.c2Cap ≤ 4096 → ∃ t, exec (.cellRewriteCheck cell bad) s = .next t
            ∧ t.sto.suspect = left ∧ t.sto.retired = s.sto.retired)
        ∧ (bad = true → s.sto.cfg.getLsbD 1 = true → 4096 < s.sto.c2Cap → ∃ t, exec (.cellRewriteCheck cell bad) s = .next t
            ∧ t.sto.suspect = left ∧ t.sto.retired = s.sto.retired ++ [cell]))
    ∧ (∀ f : Nat, s.credit f = 0 → exec (.creditReturn f) s = .next s)
    ∧ (∀ f : Nat, 0 < s.credit f → f < 117 → ∀ (r : Payload) (l : List Waiter), (s.flow f).waiters = .cell r :: l →
        (f = fJrn ∨ 0x70 ≤ f → ∃ t, exec (.creditReturn f) s = .next t ∧ (t.flow f).waiters = l
          ∧ (t.flow f).cells.map Cell.pay = (s.flow f).cells.map Cell.pay ++ [[r]])
        ∧ (0x50 ≤ f → f < 0x60 → exec (.creditReturn f) s = .next (s.admitCell f).pumpWave))
    ∧ (∀ q : PortId, (0 < s.credit (fPdTx q) → exec (.creditReturn (fPdTx q)) s = .next ((s.admitTx q).nextTx q))
        ∧ (0 < s.credit (fMtr q) → exec (.creditReturn (fMtr q)) s = .next (s.putMerged q)))
    ∧ (0 < s.credit fPodUpd → exec (.creditReturn fPodUpd) s = .next s.podBlocksGo)
    ∧ (0 < s.credit fImg → exec (.creditReturn fImg) s = .next s.imgBlocksGo))
  ∧ (
  ∀ (s : State),
    (∀ noEdge, s.tb.running = true → ∃ t, exec (.timebaseLost noEdge) s = .next t ∧ t.tb.running = false ∧ t.tb.fallback = true
        ∧ (s.pwr.st ≠ .hibernate → t.faultN = .low)
        ∧ t.tb.lostSeen = true ∧ t.tb.lossCount = s.tb.count ∧ t.tb.count = s.tb.count
        ∧ ∀ p, ((s.port p).lossStops = true → (t.port p).cc.st = .disabled ∧ (t.port p).cc.rpOn = false
              ∧ t.tb.tbDisabled.getLsbD p.val = true)
            ∧ ((s.port p).lossStops = false → (t.port p).cc.st = (s.port p).cc.st))
    ∧ (∀ noEdge, s.tb.running = false → exec (.timebaseLost noEdge) s = .next s)
    ∧ (s.tb.fallback = true → ∃ t, exec .timebaseRestored s = .next t ∧ t.tb.running = true ∧ t.tb.fallback = false
        ∧ t.tb.calDone = true ∧ t.tb.tbDisabled = 0
        ∧ ∀ p, s.tb.tbDisabled.getLsbD p.val = true → (s.port p).cc.st = .disabled → (t.port p).cc.st = .unattached)
    ∧ (∀ us (steps : List Nat), s.tb.running = true → us < 256 → steps.length = 16 →
        ∃ t, exec (.calibrationCycle us steps) s = .next t ∧ t.tb = { s.tb with calDone := true, calCycleUs := BitVec.ofNat 8 us }
          ∧ ∀ p, (t.port p).cnv.dlySteps = steps.getD p.val 0)
    ∧ (∀ ok, s.tb.eraSaved = true ∨ ok = false → exec (.eraWriteRetry ok) s = .next s)
    ∧ (s.tb.eraSaved = false → s.tb.seqCount < 0xFF00000000 →
        exec (.eraWriteRetry true) s = .next { s with tb := { s.tb with eraSaved := true, eraAdvanced := false, eraStored := s.tb.era } })
    ∧ (s.tb.eraSaved = false → 0xFF00000000 ≤ s.tb.seqCount →
        exec (.eraWriteRetry true) s = .next { s with tb := { s.tb with eraSaved := true, eraAdvanced := true, eraStored := s.tb.era + 1 } }))

/-! ### The CC front end -/

/-- 04 R95, R96, Table 4-1: the eighth sample of a window ends it with each pin's class: Open with no reading at or below 250 kΩ, wet
with some, else Rd, Ra or foreign by range and spread. With VBUS above vSafe0V or GATE on no sample counts, and without a window
nothing happens. -/
def Obligations.PinClasses : Prop :=
  ∀ (s : State) (p : PortId) (r1 r2 : Option Nat),
    let c := (s.port p).cc
    let seen (r : Option Nat) : Option Nat := if r.any (· ≤ 250000) then r else none
    let shows (l : List (Option Nat)) (k : CcClass) : Prop :=
      let v := l.filterMap id
      let tight : Prop := ∀ x ∈ v, ∀ y ∈ v, 160 * (x - y) ≤ v.sum
      ((∀ x ∈ l, x = none) → k = .opn)
      ∧ ((∃ x ∈ l, x = none) → (∃ x ∈ l, x ≠ none) → k = .wet)
      ∧ ((∀ x ∈ l, x ≠ none) →
        ((∀ x ∈ v, x < 600) → (tight ∨ ∀ x ∈ v, ∀ y ∈ v, x - y ≤ 30) → k = .foreign)
        ∧ ((∀ x ∈ v, 800 ≤ x ∧ x ≤ 1200) → tight → k = .ra)
        ∧ ((∀ x ∈ v, 4590 ≤ x ∧ x ≤ 5610) → tight → k = .rd)
        ∧ ((∀ x ∈ v, 5610 < x) → k = .wet))
    (c.win = none → exec (.probeSample p r1 r2) s = .next s)
    ∧ (c.win ≠ none → (s.port p).ef.vbusMv ≤ 800 → (s.port p).ef.gateOn = false → c.smp1.length < 7 → c.smp2.length < 7 →
        ∃ t, exec (.probeSample p r1 r2) s = .next t
          ∧ (t.port p).cc = { c with smp1 := c.smp1 ++ [seen r1], smp2 := c.smp2 ++ [seen r2] })
    ∧ (c.win ≠ none → 800 < (s.port p).ef.vbusMv ∨ (s.port p).ef.gateOn = true →
        ∃ t, exec (.probeSample p r1 r2) s = .next t ∧ (t.port p).cc = { c with smp1 := [], smp2 := [] })
    ∧ (c.win ≠ none → (s.port p).ef.vbusMv ≤ 800 → (s.port p).ef.gateOn = false → c.smp1.length = 7 → c.smp2.length = 7 →
        ∃ t, exec (.probeSample p r1 r2) s = .next t
          ∧ shows (c.smp1 ++ [seen r1]) (t.port p).cc.cls1 ∧ shows (c.smp2 ++ [seen r2]) (t.port p).cc.cls2)

/-- 04 R91, R92, R97, R98, R101, R102, R107, R108, R110 to R113: a changed report restarts its pin's debounce, a report that only a
level change brought or that is no change leaves reports and timers; SRC.Rd on a pin, or SRC.Ra on both, with Rp on them starts a new
instance and its window, in HOLDOFF too where no partner stands; the re-probe interval starts a window; a sink that has held asks for
the path, debug and audio verdicts that have held enter their state, a cable alone gets its window once; an open active pin detaches
ATTACHED_SRC, either pin DEBUG_ACC and AUDIO_ACC, low VBUS ATTACHED_SNK outside a swap; a VCONN fault keeps VCONN off. A counted hold-off that ends
leads to UNATTACHED with nothing on the pins, to WET, to FOREIGN, to DEBUG_ACC, to AUDIO_ACC, and with a sink to ATTACH_WAIT and its path
request; it stays while the over-temperature hold-off stands. A VCONN pin that settles sends the PS_RDY of a VCONN_Swap, or ends a
detach that waited for it. -/
def Obligations.CcEvents : Prop :=
  (
  ∀ (s : State) (p : PortId),
    let q := s.port p
    let c := q.cc
    (∀ rep, c.raw1 ≠ rep → ∃ t, exec (.ccReportChange p .cc1 ⟨rep, false⟩) s = .next t ∧ (t.port p).cc.rep1 = rep
        ∧ (t.port p).cc.met1 = false ∧ (t.port p).cc.rep2 = c.rep2 ∧ (t.port p).cc.met2 = c.met2 ∧ ∀ r, r ≠ p → t.port r = s.port r)
    ∧ (∀ rep, c.raw2 ≠ rep → ∃ t, exec (.ccReportChange p .cc2 ⟨rep, false⟩) s = .next t ∧ (t.port p).cc.rep2 = rep
        ∧ (t.port p).cc.met2 = false ∧ (t.port p).cc.rep1 = c.rep1 ∧ (t.port p).cc.met1 = c.met1 ∧ ∀ r, r ≠ p → t.port r = s.port r)
    ∧ (∀ pin rep byLevel, byLevel = true ∨ rep = (if pin = .cc1 then c.raw1 else c.raw2) →
        ∃ t, exec (.ccReportChange p pin ⟨rep, byLevel⟩) s = .next t ∧ (t.port p).cc.rep1 = c.rep1
          ∧ (t.port p).cc.rep2 = c.rep2 ∧ (t.port p).cc.met1 = c.met1 ∧ (t.port p).cc.met2 = c.met2)
    ∧ (c.rep1 = .rd ∨ c.rep2 = .rd ∨ (c.rep1 = .ra ∧ c.rep2 = .ra) → c.rpOn = true → c.vconnOn = false → c.vconnBusy = false →
        (c.st = .unattached → ∃ t, exec (.ccAttachDetected p) s = .next t ∧ (t.port p).cc.st = .attachWait
          ∧ (t.port p).cc.inst = c.inst + 1 ∧ (t.port p).cc.win = some .attach ∧ (t.port p).pod.startNow = s.pod.start
          ∧ (t.port p).ef.bfReclosed = 0)
        ∧ (c.st = .holdoff ∨ c.st = .faultLatched → c.atEntry = false → c.verdict = none → c.win = none →
          ∃ t, exec (.ccAttachDetected p) s = .next t ∧ (t.port p).cc.st = c.st ∧ (t.port p).cc.inst = c.inst + 1
            ∧ (t.port p).cc.win = some .attach))
    ∧ (c.rep1 = .opn → c.rep2 = .opn → exec (.ccAttachDetected p) s = .next s)
    ∧ (s.runs p .reprobe = true → c.st = .wet ∨ c.st = .foreign → c.win = none →
        ∃ t, exec (.reprobeExpiry p) s = .next t ∧ (t.port p).cc.win = some .reprobe ∧ t.runs p .reprobe = true)
    ∧ (s.runs p .reprobe = true → c.st = .unattached → c.cfg.getLsbD 2 = true → c.win = none →
        ∃ t, exec (.reprobeExpiry p) s = .next t ∧ (t.port p).cc.win = some .idle)
    ∧ (c.st = .unattached → (c.rep1 = .ra ∧ c.rep2 = .opn) ∨ (c.rep1 = .opn ∧ c.rep2 = .ra) → c.occ2Done = none → c.win = none →
        ∃ t, exec (.tccDebounceExpiry p) s = .next t ∧ (t.port p).cc.win = some .cable)
    ∧ (c.st = .unattached → c.occ2Done ≠ none → c.win = none →
        ∃ t, exec (.tccDebounceExpiry p) s = .next t ∧ (t.port p).cc.win = none)
    ∧ (c.st = .attachWait → c.verdict = some .debug → c.rep1 = .rd → c.rep2 = .rd →
        ∃ t, exec (.tccDebounceExpiry p) s = .next t ∧ (t.port p).cc.st = .debugAcc)
    ∧ (c.st = .attachWait → c.verdict = some .audio → c.rep1 = .ra → c.rep2 = .ra →
        ∃ t, exec (.tccDebounceExpiry p) s = .next t ∧ (t.port p).cc.st = .audioAcc)
    ∧ (c.st = .audioAcc → c.rep1 = .opn ∨ c.rep2 = .opn → c.detaching = false →
        ∃ t, exec (.tccDebounceExpiry p) s = .next t ∧ ((t.port p).cc.detaching = true ∨ (t.port p).cc.st = .unattached))
    ∧ (c.st = .attachWait → c.verdict = some .sink → c.active = some .cc1 → c.rep1 = .rd → q.ef.reason = .none → c.detaching = false →
        ∃ t, exec (.tccDebounceExpiry p) s = .next t ∧ (t.port p).ef.reason = .attach)
    ∧ (c.st = .attachedSrc → c.active = some .cc1 → c.rep1 = .opn → c.rdOn = false → c.detaching = false → q.ef.tripping = none →
        q.ef.latch ≠ 5 →
        ∃ t, exec (.tpdDebounceExpiry p false) s = .next t ∧ (t.port p).pol.seq = .off ∧ (t.port p).mtr.sess = none
          ∧ (t.port p).cc.vconnOn = false ∧ ((t.port p).cc.detaching = true ∨ (t.port p).cc.st = .unattached))
    ∧ (c.st = .debugAcc → c.rep1 = .opn ∨ c.rep2 = .opn → c.detaching = false → q.ef.tripping = none → q.ef.latch ≠ 5 →
        ∃ t, exec (.tpdDebounceExpiry p false) s = .next t ∧ ((t.port p).cc.detaching = true ∨ (t.port p).cc.st = .unattached))
    ∧ (c.st = .attachedSnk → q.pol.seq ≠ .swap → c.detaching = false →
        ∃ t, exec (.tpdDebounceExpiry p true) s = .next t ∧ ((t.port p).cc.detaching = true ∨ (t.port p).cc.st = .unattached))
    ∧ (c.st ≠ .attachedSnk ∨ q.pol.seq = .swap → exec (.tpdDebounceExpiry p true) s = .next s)
    ∧ (∀ why ma, c.vconnOn = true → ∃ t, exec (.vconnFault p why ma) s = .next t ∧ (t.port p).cc.vconnOn = false
        ∧ (t.port p).cc.vconnFault = true)
    ∧ (∀ why ma, c.vconnOn = false → exec (.vconnFault p why ma) s = .next s))
  ∧ (
  ∀ (s : State) (p : PortId),
    let q := s.port p
    let c := q.cc
    (c.st = .holdoff → s.runs p .holdoff = true → q.ef.holdOn = true → q.ef.holdOt = false →
        (c.cls1 = .opn → c.cls2 = .opn → c.vHeld = false → c.rep1 = .opn → c.rep2 = .opn →
          ∃ t, exec (.holdoffExpiry p) s = .next t ∧ (t.port p).cc.st = .unattached ∧ (t.port p).ef.holdOn = false
            ∧ (t.port p).cc.rpOn = true)
        ∧ (c.cls1 = .wet → c.cls2 ≠ .foreign → ∃ t, exec (.holdoffExpiry p) s = .next t ∧ (t.port p).cc.st = .wet)
        ∧ (c.cls1 = .foreign ∨ c.cls2 = .foreign → ∃ t, exec (.holdoffExpiry p) s = .next t ∧ (t.port p).cc.st = .foreign)
        ∧ (c.cls1 = .rd → c.cls2 = .rd → c.vHeld = true → c.verdict = some .debug →
          ∃ t, exec (.holdoffExpiry p) s = .next t ∧ (t.port p).cc.st = .debugAcc)
        ∧ (c.cls1 = .ra → c.cls2 = .ra → c.vHeld = true → c.verdict = some .audio →
          ∃ t, exec (.holdoffExpiry p) s = .next t ∧ (t.port p).cc.st = .audioAcc)
        ∧ (c.cls1 = .rd → c.cls2 = .opn → c.vHeld = true → c.verdict = some .sink →
          ∃ t, exec (.holdoffExpiry p) s = .next t ∧ (t.port p).cc.st = .attachWait ∧ (t.port p).ef.reason = .holdoff))
    ∧ (c.st = .holdoff → s.runs p .holdoff = true → q.ef.holdOn = true → q.ef.holdOt = true →
        ∃ t, exec (.holdoffExpiry p) s = .next t ∧ (t.port p).cc.st = .holdoff ∧ (t.port p).ef.holdOn = false)
    ∧ (c.vconnBusy = false → exec (.vconnPinSettled p) s = .next s)
    ∧ (c.vconnBusy = true → c.vconnOn = true → q.pol.seq = .swap → q.swap.kind = .vconn → q.swap.accepted = true →
        exec (.vconnPinSettled p) s = .next ((s.modCc p fun x => { x with vconnBusy := false }).say p (q.ctrl 6)))
    ∧ (c.vconnBusy = true → c.vconnOn = false → c.detaching = true → q.ef.path = .off →
        ∃ t, exec (.vconnPinSettled p) s = .next t ∧ (t.port p).cc.st = .unattached ∧ (t.port p).cc.vconnBusy = false))

/-! ### The PD protocol layer -/

/-- 05 R117, R119 to R122, R125 to R127, R132 to R135, R139, R147, R580. A message handed over ends with detach while the layer does not
run, is refused where Table 5-2 does not allow its SOP*, and else takes its place in PDTX. On an idle channel a held message that may
go is sent, a Soft_Reset after its lane's counters are cleared, so with MessageID 0; one that may not go is refused, or ends with
retries exhausted once it has been tried. At the frame's end tReceive starts; the GoodCRC with its MessageID acknowledges the last
chunk; tReceive holds the message for another try, or past nRetryCount ends it with retries exhausted. The AMS wait and SinkTxOK release
what they hold, SinkTxNG is kept. A partner's SOP ordered set abandons a first message not yet begun, another set nothing. A bad
frame is counted while the layer runs. -/
def Obligations.PdTransmission : Prop :=
  ∀ (s : State) (p : PortId),
    let q := s.port p
    (∀ m prod, q.pdRuns = false → exec (.pdtxMessage p m prod) s = .next (s.emit (.pdOutcome p m prod .detach s.tb.count 0)))
    ∧ (∀ m prod, q.pdRuns = true → q.sendable m = false →
        exec (.pdtxMessage p m prod) s = .next (s.emit (.pdOutcome p m prod .refused s.tb.count 0)))
    ∧ (∀ m prod u, q.pdRuns = true → q.sendable m = true → (s.flow (fPdTx p)).waiters = [] →
        s.putMsg (fPdTx p) (.pd m q.cc.inst (some (prod, q.pd.ams == .idle)) 0) m = some u → exec (.pdtxMessage p m prod) s = .next (u.nextTx p))
    ∧ (∀ t : PdTx, q.pd.tx = some t →
        (t.ph = .held → q.sendable t.msg = true → t.msg.isCtrl 13 = false ∨ t.tries ≠ 0 →
            (∀ c ∈ (s.flow (fPdTx p)).headCells, c.ue = none ∧ c.ce = []) →
            exec (.channelIdle p) s = .next ((s.modPd p fun x =>
              { x with tx := some { t with ph := .wire, tries := t.tries + 1, cur := t.cur + 1 } }).emit (.frame p (q.onWire t))))
        ∧ (t.ph = .held → q.sendable t.msg = true → t.msg.isCtrl 13 = true → t.tries = 0 →
            (∀ c ∈ (s.flow (fPdTx p)).headCells, c.ue = none ∧ c.ce = []) →
            ∃ u, exec (.channelIdle p) s = .next u ∧ (u.port p).pd.lane t.msg.sopx = {} ∧ .frame p ((u.port p).onWire t) ∈ u.out
              ∧ ((u.port p).onWire t).mid = 0)
        ∧ (t.ph = .held → q.sendable t.msg = false → ∃ u, exec (.channelIdle p) s = .next u
            ∧ .pdOutcome p t.msg t.prod (if t.tries = 0 then .refused else .exhausted) s.tb.count t.tries ∈ u.out)
        ∧ (t.ph ≠ .held → exec (.channelIdle p) s = .next s)
        ∧ (t.ph = .wire → ∃ u, exec (.frameTransmitted p) s = .next u ∧ (u.port p).pd.tx = some { t with ph := .waitCrc }
            ∧ u.runs p .tReceive = true)
        ∧ (t.ph = .waitCrc → t.chunk + 1 = chunksOf t.msg →
            (∃ u, exec (.goodcrcReceived p t.msg.sopx (q.pd.lane t.msg.sopx).txId) s = .next u
              ∧ .pdOutcome p t.msg t.prod .acked s.tb.count t.tries ∈ u.out)
            ∧ (s.runs p .tReceive = true → q.pd.retries t.msg.sopx < t.cur → ∃ u, exec (.treceiveExpiry p) s = .next u
                ∧ .pdOutcome p t.msg t.prod .exhausted s.tb.count t.tries ∈ u.out))
        ∧ (t.ph = .waitCrc → s.runs p .tReceive = true → t.cur ≤ q.pd.retries t.msg.sopx →
            ∃ u, exec (.treceiveExpiry p) s = .next u ∧ (u.port p).pd.tx = some { t with ph := .held })
        ∧ (t.ph = .amsWait → s.runs p .amsWait = true → ∃ u, exec (.amsStartWaitExpiry p) s = .next u
            ∧ (u.port p).pd.tx = some { t with ph := .held })
        ∧ (t.ph = .sinkWait → q.cc.st = .attachedSnk → ∃ u, exec (.sinktxokRead ⟨p, true⟩) s = .next u
            ∧ (u.port p).pd.tx = some { t with ph := .held } ∧ (u.port p).pd.rpNg = false)
        ∧ (∀ set : OrdSet, set.sopx = some .sop → q.pdRuns = true → t.first = true → t.tries = 0 → t.ph = .held →
            ∃ u, exec (.sopOrderedSetRecognised ⟨p, set⟩) s = .next u ∧ .pdOutcome p t.msg t.prod .abandoned s.tb.count 0 ∈ u.out))
    ∧ (∀ set : OrdSet, set.sopx ≠ some .sop → exec (.sopOrderedSetRecognised ⟨p, set⟩) s = .next s)
    ∧ (q.cc.st = .attachedSnk → ∃ u, exec (.sinktxokRead ⟨p, false⟩) s = .next u ∧ (u.port p).pd.rpNg = true)
    ∧ (q.pdRuns = true → exec (.frameCrcError p) s = .next (s.modPd p fun x => { x with crcErr := satInc x.crcErr }))
    ∧ (q.pdRuns = false → exec (.frameCrcError p) s = .next s)

/-- 05 R119, R120, R122 to R124, R130, R137, R140 to R143. A message on the active pin behind a recognised set that the device accepts is
answered with a GoodCRC with its MessageID, the device's roles and the revision of its SOP*, and a duplicate is counted; one whose
length does not match its header is counted as a bad frame and nothing else; one behind no recognised set, or outside DEBUG_ACC on
another pin, is nothing. A chunk that does not come drops the assembly. Hard Reset signalling goes out once; a received Hard Reset ends
contract and transmission and starts tPSHardReset; a received Cable Reset is ignored. -/
def Obligations.PdReceipt : Prop :=
  ∀ (s : State) (p : PortId) (pin : Pin) (set : OrdSet) (m : PdMsg),
    let q := s.port p
    let sop (k : Sopx) : Bool := k == .sop
    (∀ k, set.sopx = some k → q.pdRuns = true → q.cc.st ≠ .debugAcc → q.cc.active = some pin → q.sopOk k = true → m.lenOk = true →
        ∃ t, exec (.pdMessageReceived p pin ⟨set, m⟩) s = .next t
          ∧ .goodCrc p k m.mid (sop k && q.cc.st != .attachedSnk) (sop k) false
              (if q.pd.revOf k = 0 then max 1 (min q.pd.own m.rev) else q.pd.revOf k) ∈ t.out)
    ∧ (∀ k, set.sopx = some k → q.pdRuns = true → q.cc.st ≠ .debugAcc → q.cc.active = some pin → q.sopOk k = true → m.lenOk = true →
        (q.pd.lane k).rxId = some m.mid → m.isCtrl 13 = false →
        ∃ t, exec (.pdMessageReceived p pin ⟨set, m⟩) s = .next t ∧ (t.port p).pd.dupRx = satInc q.pd.dupRx)
    ∧ (∀ k, set.sopx = some k → q.pdRuns = true → q.cc.active = some pin → m.lenOk = false →
        exec (.pdMessageReceived p pin ⟨set, m⟩) s = .next (s.modPd p fun x => { x with crcErr := satInc x.crcErr }))
    ∧ (set.sopx = none → exec (.pdMessageReceived p pin ⟨set, m⟩) s = .next s)
    ∧ (q.cc.st ≠ .debugAcc → q.cc.active ≠ some pin → exec (.pdMessageReceived p pin ⟨set, m⟩) s = .next s)
    ∧ (∀ a, s.runs p .chunk = true → q.pd.asm = some a → ∃ t, exec (.chunkTimerExpiry p) s = .next t ∧ (t.port p).pd.asm = none)
    ∧ (q.pd.hrPend = true → ∃ t, exec (.hardResetSignallingEnd p) s = .next t ∧ (t.port p).pd.hrPend = false
        ∧ .hardReset p ∈ t.out)
    ∧ (q.pd.hrPend = false → exec (.hardResetSignallingEnd p) s = .next s)
    ∧ (q.pdRuns = true → q.pd.hrPend = false → q.cc.st ≠ .debugAcc →
        ∃ t, exec (.hardResetReceived p) s = .next t ∧ (t.port p).pol.seq = .hardReset ∧ (t.port p).pol.contract = none
          ∧ (t.port p).pd.tx = none ∧ (t.port p).swap.hrStep = 2 ∧ t.runs p .psHardReset = true)
    ∧ (q.pdRuns = false → exec (.hardResetReceived p) s = .next s)
    ∧ exec (.cableResetReceived p) s = .next s

/-! ### The policy sequencer -/

/-- 06 R150, R156, R166, R167, R169, R174, R187, R189, Tables 6-1 to 6-3, 07 R199, R221, 08 R236, R242: what the expiry of each running
timer of the sequencer brings, in the states that await it. Capabilities go again; an unanswered Request wait or Soft_Reset, a
transition past its limit, a PPS contract and EPR mode without their messages go to Hard Reset; a swap's unanswered request ends it;
tSrcTransition starts the slew, or leaves the source role in a swap; CABLE_DISC asks once more or goes on to the capabilities;
discovery and fleet mode repeat or end; the cable is asked at most four more times; a message answered by Wait goes again. An expiry
of a timer that does not run does nothing. -/
def Obligations.PolicyTimers : Prop :=
  ∀ (s : State) (p : PortId),
    let q := s.port p
    let st := q.pol.seq
    let reset (c : Instr) : Prop := ∃ t, exec c s = .next t ∧ (t.port p).pd.hrPend = true ∧ (t.port p).pol.seq = .hardReset
      ∧ (t.port p).pol.contract = none
    (s.runs p .sendCap = true → st = .sendCaps → ∃ t, exec (.sendSourceCapExpiry p) s = .next t
        ∧ (t.port p).pol.capsCtr = q.pol.capsCtr + 1 ∧ (t.port p).pol.sentCaps = q.caps q.pol.grant q.pol.eprMode)
    ∧ (s.runs p .sender = true → st = .waitRequest ∨ st = .softReset → reset (.senderResponseExpiry p))
    ∧ (s.runs p .sender = true → st = .swap → q.swap.byDev = true → q.swap.accepted = false →
        exec (.senderResponseExpiry p) s = .next (((s.stop p .sender).swapFail p 0x0033).idleWork p))
    ∧ (s.runs p .sender = true → st = .ready → exec (.senderResponseExpiry p) s = .next (((s.stop p .sender).amsEnd p).idleWork p))
    ∧ (∀ c, s.runs p .srcTrans = true → st = .transition → q.pol.pendCtr = some c →
        exec (.srcTransitionExpiry p) s = .next ((s.stop p .srcTrans).setPointSlew p .sequencer c.mv))
    ∧ (s.runs p .srcTrans = true → st = .swap → q.swap.kind = .toSink → q.swap.step = 2 →
        exec (.srcTransitionExpiry p) s = .next (((s.stop p .srcTrans).leaveSource p).modSwap p fun w => { w with step := 3 }))
    ∧ (s.runs p .transLimit = true → st = .transition → reset (.transitionLimitExpiry p)
        ∧ ∃ t, exec (.transitionLimitExpiry p) s = .next t ∧ (t.port p).pol.cnt = q.pol.cnt.cntInc 2)
    ∧ (s.runs p .pps = true → st = .ready → reset (.ppsTimeoutExpiry p))
    ∧ (s.runs p .keepAlive = true → st = .ready → reset (.eprKeepAliveExpiry p)
        ∧ ∃ t, exec (.eprKeepAliveExpiry p) s = .next t ∧ (t.port p).pol.eprMode = false)
    ∧ (s.runs p .cableDisc = true → st = .cableDisc → ∃ t, exec (.cableDiscTimeout p) s = .next t ∧ (t.port p).pol.seq = .sendCaps)
    ∧ (s.runs p .vdmBusy = true → st = .cableDisc → q.pol.cableReq < 2 → q.sopOk .sopp = true →
        ∃ t, exec (.vdmBusyExpiry p) s = .next t ∧ (t.port p).pol.seq = .cableDisc ∧ (t.port p).pol.cableReq = q.pol.cableReq + 1)
    ∧ (s.runs p .vdmBusy = true → st ≠ .cableDisc → (s.stop p .vdmBusy).discDue p = true →
        exec (.vdmBusyExpiry p) s = .next ((s.stop p .vdmBusy).discSend p))
    ∧ (s.runs p .vdmResp = true → st = .cableDisc → 2 ≤ q.pol.cableReq → ∃ t, exec (.vdmResponseTimeout p) s = .next t
        ∧ (t.port p).pol.seq = .sendCaps)
    ∧ (s.runs p .vdmResp = true → st = .cableDisc → q.pol.cableReq < 2 → q.sopOk .sopp = true →
        ∃ t, exec (.vdmResponseTimeout p) s = .next t ∧ (t.port p).pol.seq = .cableDisc ∧ (t.port p).pol.cableReq = q.pol.cableReq + 1)
    ∧ (s.runs p .vdmResp = true → st = .ready → q.pol.cableBusy = false → q.pod.discOn = true →
        exec (.vdmResponseTimeout p) s = .next ((s.stop p .vdmResp).discSilent p))
    ∧ (s.runs p .vdmResp = true → st = .ready → q.pol.cableBusy = false → q.pod.discOn = false → q.pod.fleetCmd ≠ 0 →
        exec (.vdmResponseTimeout p) s = .next ((s.stop p .vdmResp).fleetFail p 3))
    ∧ (s.runs p .cableAgain = true → q.pol.cable = none → q.pol.cableLate < 4 → q.sopOk .sopp = true → q.readyIdle = true →
        ∃ t, exec (.cableRediscovery p) s = .next t ∧ (t.port p).pol.cableLate = q.pol.cableLate + 1 ∧ t.runs p .cableAgain = true)
    ∧ (s.runs p .cableAgain = true → q.pol.cable ≠ none ∨ 4 ≤ q.pol.cableLate →
        exec (.cableRediscovery p) s = .next (s.stop p .cableAgain))
    ∧ (s.runs p .waitSpacing = true → q.baseIdle = true →
        let u := s.stop p .waitSpacing
        (q.pol.waitMsg = some .vconnSwap → s.tb.fallback = false → exec (.waitSpacingExpiry p) s = .next (u.swapAsk p .vconn)
          ∧ ((u.swapAsk p .vconn).port p).swap.kind = .vconn)
        ∧ (q.pol.waitMsg = some .prSwap → s.tb.fallback = false →
          exec (.waitSpacingExpiry p) s = .next (u.swapAsk p (if q.cc.st = .attachedSnk then .toSource else .toSink)))
        ∧ (q.pol.waitMsg = some .request → exec (.waitSpacingExpiry p) s = .next
          ((u.modSwap p fun w => { w with snkAsk := true }).say p (q.dataMsg .sop 2 (leBytes 4 q.swap.snkRdo.toNat)) true)))
    ∧ (s.runs p .sendCap = false → exec (.sendSourceCapExpiry p) s = .next s)
    ∧ (s.runs p .sender = false → exec (.senderResponseExpiry p) s = .next s)
    ∧ (s.runs p .srcTrans = false → exec (.srcTransitionExpiry p) s = .next s)
    ∧ (s.runs p .transLimit = false → exec (.transitionLimitExpiry p) s = .next s)
    ∧ (s.runs p .pps = false → exec (.ppsTimeoutExpiry p) s = .next s)
    ∧ (s.runs p .keepAlive = false → exec (.eprKeepAliveExpiry p) s = .next s)
    ∧ (s.runs p .cableDisc = false → exec (.cableDiscTimeout p) s = .next s)
    ∧ (s.runs p .vdmBusy = false → exec (.vdmBusyExpiry p) s = .next s)
    ∧ (s.runs p .vdmResp = false → exec (.vdmResponseTimeout p) s = .next s)
    ∧ (s.runs p .cableAgain = false → exec (.cableRediscovery p) s = .next s)
    ∧ (s.runs p .waitSpacing = false → exec (.waitSpacingExpiry p) s = .next s)

/-- 06 R181 to R187, R156: an allocation round sets each port's target from the demands; a latched renegotiation sends capabilities from
READY; lowered budget sheds the worst port; the connector temperature is kept with its maximum.
06 Table 6-2, R152, 10 R299, 07 Table 7-8: VBUS at vSafe5V takes STARTUP on to the cable or the capabilities, and the fourth Hard
Reset's ramp to NO_PD. -/
def Obligations.BudgetCommands : Prop :=
  (
  ∀ (s : State),
    (∃ t, exec .allocationRound s = .next t ∧ t.bud.ran = true ∧ t.bud.cfg = s.bud.cfg
        ∧ ∀ p, (t.port p).pol.target = ((s.targets s.demandOf).lookup p).getD 0)
    ∧ (∀ p, (s.port p).pol.reneg = true → (s.port p).readyIdle = true → (s.port p).pol.firstDone = true →
        ∃ t, exec (.renegotiationCaps p) s = .next t ∧ (t.port p).pol.seq = .sendCaps ∧ (t.port p).pol.reneg = false)
    ∧ (∀ p, (s.port p).pol.reneg = false → exec (.renegotiationCaps p) s = .next s)
    ∧ (s.bud.lowered = true → s.committed ≤ s.limit →
        exec .budgetHardResetExpiry s = .next { s with bud := { s.bud with lowered := false } })
    ∧ (∀ p, s.bud.lowered = true → s.limit < s.committed → s.worstExcess = some p →
        ∃ t, exec .budgetHardResetExpiry s = .next t ∧ t.bud.lowered = false ∧ (t.port p).pd.hrPend = true)
    ∧ (s.bud.lowered = false → exec .budgetHardResetExpiry s = .next s)
    ∧ (∀ p (d : Int), ∃ t, exec (.connectorTempRead p d) s = .next t ∧ (t.port p).pol.tempDeciC = some d
        ∧ (t.port p).mtr.tMax = some (max ((s.port p).mtr.tMax.getD (d / 10)) (d / 10)) ∧ ∀ r, r ≠ p → t.port r = s.port r))
  ∧ (
  ∀ (s : State) (p : PortId) (mv : Nat), 4750 ≤ (mv : Int) - (s.port p).harnessMv (s.port p).ef.shuntMa →
    (mv : Int) - (s.port p).harnessMv (s.port p).ef.shuntMa ≤ 5500 →
    let q := s.port p
    (q.pol.seq = .startup → q.ef.path = .on → q.cc.vconnOn = true → q.pd.cfgNow.getLsbD 1 = true →
        ∃ t, exec (.vbusInBand p mv) s = .next t ∧ (t.port p).pol.seq = .cableDisc ∧ (t.port p).pol.cableReq = 1
          ∧ t.runs p .cableDisc = true)
    ∧ (q.pol.seq = .startup → q.ef.path = .on → q.cc.vconnOn = false →
        ∃ t, exec (.vbusInBand p mv) s = .next t ∧ (t.port p).pol.seq = .sendCaps)
    ∧ (q.pol.seq = .hardReset → q.swap.hrStep = 6 →
        ∃ t, exec (.vbusInBand p mv) s = .next t ∧ (t.port p).pol.seq = .noPd ∧ (t.port p).swap.hrStep = 0)
    ∧ (q.ef.softStart = true → q.ef.path = .on →
        ∃ t, exec (.vbusInBand p mv) s = .next t ∧ (t.port p).ef.softStart = false))

/-! ### Role swaps and cabinet hold-up -/

/-- 07 Tables 7-2 to 7-8, R213, R214, R217 to R219. A PR_Swap or VCONN_Swap whose PS_RDY does not come, a sink without VBUS or without
capabilities, and a donor whose back-feed is not commanded closed in time go to Hard Reset, the donor to hold there; a sink under
hold-up sends Soft_Reset, or asks for capabilities again, instead; a fast role swap without its message or PS_RDY ends in SINK. H2 ends
in H3, and H4 in H5 unless the port waits for the return criterion.
01 R25 to R27, 07 R195, R208, R209, R212 to R216, 10 R319 to R321. Donor selection; F3 once VBUS is low; the message wait after the
signal; the back-feed switch commanded closed where something asks for it, at its on level, opened by a condition of Table 10-7, and
closed again after 1 s; the return criterion, the end of ACTIVE, and the retry of an automatic return; Get_Sink_Cap. -/
def Obligations.SwapTimers : Prop :=
  (
  ∀ (s : State) (p : PortId),
    let q := s.port p
    let w := q.swap
    let reset (c : Instr) : Prop := ∃ t, exec c s = .next t ∧ (t.port p).pd.hrPend = true ∧ (t.port p).pol.seq = .hardReset
    let soft (c : Instr) : Prop := ∃ t, exec c s = .next t ∧ (t.port p).swap.snkSoft = true ∧ (t.port p).pol.seq = .sink
      ∧ (t.port p).swap.kind = .idle
    let sink (c : Instr) : Prop := ∃ t, exec c s = .next t ∧ (t.port p).cc.st = .attachedSnk ∧ (t.port p).pol.seq = .sink
      ∧ (t.port p).cc.rdOn = true ∧ (t.port p).swap.kind = .idle
    let spared := q.cc.st = .attachedSnk ∧ s.hu.active = true
    (s.runs p .psSourceOn = true → w.kind = .toSink → reset (.psSourceOnExpiry p))
    ∧ (s.runs p .psSourceOn = true → w.kind = .fr → w.returning = false → sink (.psSourceOnExpiry p))
    ∧ (s.runs p .frsWait = true → w.kind = .fr → w.returning = false → sink (.frSwapWaitExpiry p))
    ∧ (s.runs p .psSourceOff = true → w.kind = .toSource → reset (.psSourceOffExpiry p))
    ∧ (s.runs p .vconnSource = true → w.kind = .vconn → ¬ spared → reset (.vconnSourceTimeoutExpiry p))
    ∧ (s.runs p .vconnSource = true → w.kind = .vconn → spared → soft (.vconnSourceTimeoutExpiry p))
    ∧ (s.runs p .takeover = true → reset (.takeoverLimitExpiry p)
        ∧ ∃ t, exec (.takeoverLimitExpiry p) s = .next t ∧ (t.port p).swap.hrHold = true ∧ (t.port p).ef.bfCmd = false
          ∧ (t.port p).ef.bfWhy = 0)
    ∧ (s.runs p .psTransition = true → q.pol.seq = .sink → ¬ spared → reset (.psTransitionExpiry p))
    ∧ (s.runs p .psTransition = true → q.pol.seq = .sink → spared → soft (.psTransitionExpiry p))
    ∧ (s.runs p .sinkWaitCap = true → q.pol.seq = .sink → s.hu.active = false → reset (.sinkWaitCapExpiry p))
    ∧ (s.runs p .sinkWaitCap = true → q.pol.seq = .sink → s.hu.active = true →
        exec (.sinkWaitCapExpiry p) s = .next (((s.stop p .sinkWaitCap).say p (q.ctrl 7) true).start p .sinkWaitCap))
    ∧ (s.runs p .psHardReset = true → w.hrStep = 2 → ∃ t, exec (.psHardResetExpiry p) s = .next t ∧ (t.port p).swap.hrStep = 3
        ∧ (t.port p).cc.rpOn = true ∧ (t.port p).cc.rdOn = false ∧ (t.port p).cc.vconnOn = false ∧ (t.port p).ef.gateOn = false
        ∧ (t.port p).ef.bfCmd = false ∧ (t.port p).cnv.run = false)
    ∧ (s.runs p .srcRecover = true → w.hrStep = 4 → (w.hrHold = false ∧ s.hu.active = false) ∨ w.returnMet = true →
        ∃ t, exec (.srcRecoverExpiry p) s = .next t ∧ (t.port p).swap.hrStep = 5 ∧ (t.port p).ef.reason = .hardReset)
    ∧ (s.runs p .srcRecover = true → w.hrStep = 4 → w.hrHold = true ∨ s.hu.active = true → w.returnMet = false →
        exec (.srcRecoverExpiry p) s = .next (s.stop p .srcRecover)))
  ∧ (
  ∀ (s : State) (p : PortId),
    let q := s.port p
    let w := q.swap
    (∃ t, exec .armedSetRecompute s = .next t ∧ ∀ r, (t.port r).swap.elig = s.eligible r
        ∧ (t.port r).swap.armed = (if s.hu.active then (s.port r).swap.armed else s.eligible r && decide (s.before r < s.hu.cfg.toNat % 32))
        ∧ (t.port r).wm.holdupSel = (t.port r).swap.armed)
    ∧ (w.kind = .fr → w.step ≤ 2 → exec (.holdupVbusLow p) s = .next (s.frF3 p))
    ∧ (w.kind = .fr → w.step ≤ 2 → w.accepted = false → ∃ t, exec (.holdupVbusLow p) s = .next t ∧ (t.port p).swap.step = 3
        ∧ t.runs p .takeover = true ∧ (t.port p).pol.contract = none ∧ (t.port p).mtr.sess = none ∧ (t.port p).cnv.run = false)
    ∧ (w.kind ≠ .fr ∨ 2 < w.step → exec (.holdupVbusLow p) s = .next s)
    ∧ (w.kind = .fr → w.accepted = false → w.byDev = false → exec (.frSwapSignalEnd p) s = .next (s.start p .frsWait))
    ∧ (w.kind ≠ .fr ∨ w.accepted = true ∨ w.byDev = true → exec (.frSwapSignalEnd p) s = .next s)
    ∧ (let on := if q.ef.bfWhy = 4 then w.cfg.getLsbD 4 else w.cfgNow.getLsbD 4
       let may := q.ef.bfWhy ≠ 0 ∧ (q.ef.path = .off ∨ q.ef.path = .opening) ∧ q.ef.bfCmd = false ∧ on = true
         ∧ (q.cc.st = .attachedSnk ∨ (w.kind = .fr ∧ 3 ≤ w.step))
       (may → ∃ t, exec (.backfeedClose p) s = .next t ∧ (t.port p).ef.path = .backfeed ∧ (t.port p).ef.bfCmd = true
          ∧ (t.port p).ef.gateOn = false ∧ t.runs p .takeover = false ∧ (w.kind = .fr → 4 ≤ (t.port p).swap.step))
       ∧ (¬ may → exec (.backfeedClose p) s = .next s))
    ∧ (q.ef.bfCmd = true → q.ef.bfOn = false → ∃ t, exec (.bfeedOnLevelReached p) s = .next t ∧ (t.port p).ef.bfOn = true
        ∧ (t.port p).ef.bfWhy = 0)
    ∧ (q.ef.bfCmd = false ∨ q.ef.bfOn = true → exec (.bfeedOnLevelReached p) s = .next s)
    ∧ (∀ c, c ≠ .host → q.ef.path = .backfeed → w.kind ≠ .fr → ∃ t, exec (.backfeedOpened p c) s = .next t
        ∧ (t.port p).ef.path = .off ∧ (t.port p).ef.bfCmd = false ∧ (t.port p).ef.bfOn = false ∧ (t.port p).ef.bfWhy = 0
        ∧ (q.cc.st = .attachedSnk → q.ef.bfReclosed.toNat < q.ef.now.bf.toNat / 256 % 4 → t.runs p .bfReclose = true))
    ∧ (∀ c, c ≠ .host → q.ef.path = .backfeed → w.kind = .fr → ∃ t, exec (.backfeedOpened p c) s = .next t
        ∧ (t.port p).ef.bfCmd = false ∧ (t.port p).ef.bfOn = false ∧ (t.port p).pd.hrPend = true ∧ (t.port p).swap.hrHold = true)
    ∧ (∀ c, q.ef.path ≠ .backfeed → exec (.backfeedOpened p c) s = .next s)
    ∧ (s.runs p .bfReclose = true → q.cc.st = .attachedSnk → w.cfgNow.getLsbD 4 = true → ∃ t, exec (.backfeedReclose p) s = .next t
        ∧ (t.port p).ef.bfReclosed = q.ef.bfReclosed + 1 ∧ (t.port p).ef.bfWhy = 3)
    ∧ (q.businOk = true → ∃ t, exec (.returnCriterion p) s = .next t ∧ (t.port p).swap.returnMet = true
        ∧ ((∀ r, r ≠ p → (s.port r).cc.st = .disabled ∨ (s.port r).swap.returnMet = true) → t.hu.active = false))
    ∧ (q.businOk = false → exec (.returnCriterion p) s = .next s)
    ∧ (s.runs p .returnRetry = true → w.returning = true → q.pol.seq = .sink → q.baseIdle = true → w.cfg.getLsbD 5 = true →
        q.pol.waitMsg = none → s.tb.fallback = false → ∃ t, exec (.holdupReturnRetry p) s = .next t ∧ (t.port p).pol.seq = .swap
          ∧ (t.port p).swap.kind = .toSource ∧ (t.port p).swap.byDev = true)
    ∧ (q.drpBit = true → q.readyIdle = true → q.pol.firstDone = true → q.pod.discDone = true → q.pod.lookPend = none →
        q.pod.auth ≠ 1 → w.snkAsked = false →
        exec (.getSinkCapStart p) s = .next ((s.modSwap p fun x => { x with snkAsked := true }).say p (q.ctrl 8) true))
    ∧ (q.drpBit = false ∨ q.readyIdle = false ∨ w.snkAsked = true → exec (.getSinkCapStart p) s = .next s))

/-! ### The Pod Table and the partner's identity -/

/-- 08 R227, R229, R232 to R236, R242, R248, R249: from the identity's digest, never 0, over the lookup's hit or miss to an
authentication's result or timeout, lookups in the order asked; discovery and fleet mode start where their conditions hold.
08 R240, R241, R244, R245: the item at the head of VDMTX: dropped when it names another attach instance, refused when a core may not
send it, handed to the layer when it may go and the sequencer is idle in READY, and as the awaited answer taken or refused; an answer
that does not come ends the wait. -/
def Obligations.PartnerIdentity : Prop :=
  (
  ∀ (s : State) (p : PortId),
    let q := s.port p
    let x := q.pod
    (∀ v, x.ackSop = some v → x.lookPend = none → s.pod.cfg.getLsbD 0 = true → ∃ t, exec (.identityDigest p false) s = .next t
        ∧ (t.port p).pod.digest = idDigest .sop v ∧ (t.port p).pod.digest ≠ 0 ∧ (t.port p).pod.idValid = true
        ∧ (t.port p).pod.lookPend = some .sop ∧ (t.port p).pod.ackSop = none)
    ∧ (∀ v, x.ackCable = some v → x.lookPend = none → ∃ t, exec (.identityDigest p true) s = .next t ∧ (t.port p).pod.cableDig = idDigest .sopp v
        ∧ (t.port p).pod.ackCable = none ∧ (s.pod.cfg.getLsbD 4 = true → (t.port p).pod.lookPend = some .cable))
    ∧ (x.lookPend = none → exec (.podLookup p) s = .next s)
    ∧ ((∃ k, (s.port k).pod.lookPend ≠ none ∧ (s.port k).pod.lookAt < x.lookAt) → exec (.podLookup p) s = .next s)
    ∧ ((∀ k, (s.port k).pod.lookPend = none ∨ x.lookAt ≤ (s.port k).pod.lookAt) →
      (∀ k e, x.lookPend = some .sop → s.pod.cfg.getLsbD 0 = true → s.pod.find x.digest.toNat = some (k, e) → e.kind ≠ 2 →
        e.deny = false → e.authReq = false → ∃ t, exec (.podLookup p) s = .next t ∧ (t.port p).pod.src = 2
          ∧ (t.port p).pod.copy = some e ∧ (t.port p).pod.slot = BitVec.ofNat 12 k ∧ (t.port p).pod.lookPend = none)
      ∧ (∀ k e, x.lookPend = some .sop → s.pod.cfg.getLsbD 0 = true → s.pod.find x.digest.toNat = some (k, e) → e.kind ≠ 2 →
        e.deny = true → ∃ t, exec (.podLookup p) s = .next t ∧ (t.port p).pod.src = 3 ∧ (t.port p).pod.copy = none)
      ∧ (x.lookPend = some .sop → s.pod.find x.digest.toNat = none → ∃ t, exec (.podLookup p) s = .next t
        ∧ (t.port p).pod.src = (if s.pod.cfg.getLsbD 1 then 3 else 1) ∧ (t.port p).pod.copy = none ∧ (t.port p).pod.slot = 0)
      ∧ (∀ k e, x.lookPend = some .cable → s.pod.find x.cableDig.toNat = some (k, e) → e.kind = 2 →
        ∃ t, exec (.podLookup p) s = .next t ∧ (t.port p).pod.cableHit = true ∧ (t.port p).pod.cableEntry = some e))
    ∧ (∀ b e, s.vdmHead p = some b → (∀ c ∈ (s.flow (fVdmTx p)).headCells, c.ue = none ∧ c.ce = []) → getLE b 0 1 = 2 →
        getLE b 4 2 = q.cc.inst.toNat → getLE b 6 1 = 2 → x.oldJob = false → x.pendCopy = some e →
        ∃ t, exec (.authResult p) s = .next t ∧ (t.port p).pod.src = 2 ∧ (t.port p).pod.copy = some e ∧ (t.port p).pod.auth = 2
          ∧ (t.port p).pod.authPassed = true ∧ (t.port p).pod.pendCopy = none)
    ∧ (∀ e, s.runs p .auth = true → x.pendCopy = some e → ∃ t, exec (.authTimeout p) s = .next t ∧ (t.port p).pod.auth = 6
        ∧ (t.port p).pod.copy = none ∧ (t.port p).pod.pendCopy = none ∧ (t.port p).pod.src = (if s.pod.cfg.getLsbD 2 then 3 else 1))
    ∧ (s.discDue p = true → exec (.discoverIdentityStart p) s = .next (s.discSend p))
    ∧ (s.discDue p = false → exec (.discoverIdentityStart p) s = .next s)
    ∧ (s.fleetLegal p = none → q.readyIdle = true → x.fleetCmd = 0 → exec (.fleetModeEntry p) s = .next (s.fleetSend p 1 0))
    ∧ (s.runs p .fleetEnter = true → x.fleetCmd = 3 → ∃ t, exec (.fleetEnterModeTimeout p) s = .next t
        ∧ (t.port p).pod.fleetCmd = 0 ∧ (t.port p).pd.ams = .idle))
  ∧ (
  ∀ (s : State) (p : PortId),
    let q := s.port p
    (s.vdmHead p = none → exec (.vdmtxItem p) s = .next s)
    ∧ ((∀ c ∈ (s.flow (fVdmTx p)).headCells, c.ue = none ∧ c.ce = []) →
      (∀ b, s.vdmHead p = some b → getLE b 4 2 ≠ q.cc.inst.toNat → exec (.vdmtxItem p) s = .next (s.vdmPop p))
      ∧ (∀ b, s.vdmHead p = some b → getLE b 4 2 = q.cc.inst.toNat → getLE b 0 1 = 1 →
        (s.coreMay (itemMsg b) = false →
          exec (.vdmtxItem p) s = .next ((s.vdmPop p).emit (.pdOutcome p (itemMsg b) .core .refused s.tb.count 0)))
        ∧ (s.coreMay (itemMsg b) = true → q.readyIdle = true →
          exec (.vdmtxItem p) s = .next ((s.vdmPop p).pdSend p (q.versioned (itemMsg b)) .core true)))
      ∧ (∀ b, s.vdmHead p = some b → getLE b 4 2 = q.cc.inst.toNat → getLE b 0 1 = 3 → q.pod.vdmAwait = true →
        (q.pod.answers (itemMsg b) = true →
          ∃ t, exec (.vdmtxItem p) s = .next t ∧ (t.port p).pod.vdmAwait = false ∧ t.runs p .vdmAnswer = false)
        ∧ (q.pod.answers (itemMsg b) = false →
          exec (.vdmtxItem p) s = .next ((s.vdmPop p).emit (.pdOutcome p (itemMsg b) .core .refused s.tb.count 0)))))
    ∧ (s.runs p .vdmAnswer = true → q.pod.vdmAwait = true → ∃ t, exec (.vdmAnswerTimeout p) s = .next t
        ∧ (t.port p).pod.vdmAwait = false ∧ t.runs p .vdmAnswer = false))

/-! ### The path guard -/

/-- 10 R295 to R305, R315, 04 R101: the path's way from PROVING over CLOSING to ON, its openings and latching faults, and the end of
the good-service time. -/
def Obligations.PathGuard : Prop :=
  ∀ (s : State) (p : PortId),
    let q := s.port p
    let e := q.ef
    let u := s.modEf p fun x => { x with vbusMv := min x.vbusMv 800, provenWait := false }
    (e.path = .proving → q.wm.legsDone = true → exec (.vsafe0vProven p) s = .next ((u.pathTo p .closing).armedActs p))
    ∧ (e.path = .proving → q.wm.legsDone = false → exec (.vsafe0vProven p) s = .next u)
    ∧ (e.path = .opening →
        exec (.vsafe0vProven p) s = .next (((u.pathTo p .off).modEf p fun x => { x with tripping := none }).atSafe0 p))
    ∧ (e.path = .closing → e.reason = .attach → ∃ t, exec (.gateRiseComplete p) s = .next t ∧ (t.port p).ef.path = .on
        ∧ (t.port p).ef.gateOn = true ∧ (t.port p).ef.reason = .none ∧ (t.port p).cc.st = .attachedSrc
        ∧ (t.port p).pol.seq = .startup ∧ (t.port p).pol.hrCtr = 0 ∧ (t.port p).cnv.run = true ∧ (t.port p).cnv.setMv = 5000)
    ∧ (e.path = .closing → e.reason = .hardReset → q.pol.hrCtr ≤ 2 → ∃ t, exec (.gateRiseComplete p) s = .next t
        ∧ (t.port p).ef.path = .on ∧ (t.port p).pol.seq = .startup ∧ (t.port p).swap.hrStep = 0)
    ∧ (e.path = .closing → e.reason = .hardReset → 2 < q.pol.hrCtr → ∃ t, exec (.gateRiseComplete p) s = .next t
        ∧ (t.port p).ef.path = .on ∧ (t.port p).swap.hrStep = 6)
    ∧ (e.path ≠ .closing → exec (.gateRiseComplete p) s = .next s)
    ∧ (∀ mv, e.path = .closing → ∃ t, exec (.gateRiseTimeout p mv) s = .next t ∧ (t.port p).ef.latch = 2
        ∧ (t.port p).ef.path = .opening ∧ (t.port p).ef.gateOn = false ∧ (t.port p).cnv.run = false)
    ∧ (e.path = .closing → e.tripping = none → ∃ t, exec (.inrushTimeout p) s = .next t ∧ (t.port p).ef.path = .opening
        ∧ (t.port p).ef.retryCnt = e.retryCnt + 1 ∧ (t.port p).cnv.run = false)
    ∧ (e.softStart = true → e.path = .on → e.tripping = none → ∃ t, exec (.softstartTimeout p) s = .next t
        ∧ (t.port p).ef.path = .opening ∧ (t.port p).ef.gateOn = false ∧ (t.port p).ef.retryCnt = e.retryCnt + 1)
    ∧ (e.dsch = true → e.unexpSeen = false → exec (.vbusUnexpected p) s = .next
        ((s.modEf p fun x => { x with unexpSeen := true }).eventP 0x0604 p e.path.code e.vbusMv))
    ∧ (e.dsch = true → e.gateOn = false → e.tripping = none → ∃ t, exec (.passFetShorted p) s = .next t ∧ (t.port p).ef.latch = 4)
    ∧ (e.dsch = false → exec (.passFetShorted p) s = .next s)
    ∧ (s.runs p .goodService = true → e.path = .on → ∃ t, exec (.goodServiceExpiry p) s = .next t ∧ (t.port p).ef.retryCnt = 0
        ∧ (t.port p).ef.fdValid = false ∧ (t.port p).ef.path = .on)

/-! ### The converter -/

/-- 09 R259 to R262, R285: a control update takes in the measurements, and the voltage loop never asks for more than the loop limit, nor
for less than -1 A a phase; a converter at rest only measures. In IDLE and DOZE nothing is measured. -/
def Obligations.ControlUpdate : Prop :=
  ∀ (s : State) (p : PortId) (m : CnvMeas),
    let q := s.port p
    let n : Rat := (max 1 q.cnv.activePh.length : Nat)
    (s.pwr.st = .idle ∨ s.pwr.st = .doze ∨ s.pwr.st = .hibernate → exec (.controlUpdate p m) s = .next s)
    ∧ (s.pwr.st = .run → ∃ t, exec (.controlUpdate p m) s = .next t
        ∧ (t.port p).cnv.voutRaw = min m.vout 57600 ∧ (t.port p).cnv.voutMv = min m.vout 57600 * (4000 + q.cnv.divCorr) / 4000
        ∧ (t.port p).ef.shuntMa = m.shunt ∧ q.ef.peak.toNat ≤ (t.port p).ef.peak.toNat
        ∧ (q.cnv.run = true → q.cnv.swarmOn = false → (t.port p).cnv.share * n ≤ (q.iSlow : Rat)
            ∧ -1000 ≤ (t.port p).cnv.share))

/-- 09 R257, R264, R272 to R275, R285 to R287, R269: a lightly loaded converter sheds its third phase; Swarm, where it is due, sends every
working phase High, and at its end the accumulator starts from the measured total; an overcurrent in High ends the level outside Swarm;
the divider correction stays within ±3 %; the compensation moves at most 10 mV; a trim past its limit sends Hard Reset.
09 R279 to R283: sixteen suspect periods fail a phase, which stops switching, and the shunt takes the current's role; the isolation
check holds the phases one after another, and names a phase, or the path. -/
def Obligations.ConverterEvents : Prop :=
  (
  ∀ (s : State) (p : PortId),
    let q := s.port p
    let c := q.cnv
    (c.run = true → c.eff.cfg.getLsbD 11 = true → c.slewing = false → c.continuous = false → c.a.next = true → c.b.next = true →
        c.c.next = true → c.a.shed = false → c.b.shed = false → c.c.shed = false →
        c.totMa < 50 * (c.eff.ilim.toNat / 256 % 256 : Nat) → exec (.phaseShed p) s = .next (s.modCnv p fun c =>
          { c with c := { c.c with shed := true, next := false, offset := true } }))
    ∧ (c.run = false → ∃ t, exec (.phaseShed p) s = .next t ∧ ∀ r, t.port r = s.port r)
    ∧ (∀ vout fall, q.swarmOk = true → c.swarmDue vout fall = true → ∃ t, exec (.swarmFire ⟨p, vout, fall⟩) s = .next t ∧ (t.port p).cnv.swarmOn = true
        ∧ ∀ x : Ph, (c.ph x).failed = false → ((t.port p).cnv.ph x).active = true ∧ ((t.port p).cnv.ph x).pwm = .high)
    ∧ (∀ vout fall, q.swarmOk = false ∨ c.swarmDue vout fall = false → exec (.swarmFire ⟨p, vout, fall⟩) s = .next s)
    ∧ (c.swarmOn = true → ∃ t, exec (.swarmEnd p) s = .next t ∧ (t.port p).cnv.swarmOn = false ∧ (t.port p).cnv.swarmHold = 4
        ∧ (t.port p).cnv.acc = (c.totMa : Rat))
    ∧ (∀ (x : Ph) (mv : Nat), (c.ph x).pwm = .high → 50 * (c.eff.ilim.toNat % 256 : Int) < imonMa (c.imcal x) (1000 * (mv : Int)) →
        ∃ t, exec (.peakLimit p x mv) s = .next t ∧ ((t.port p).cnv.ph x).pwm = (if c.swarmOn then .high else .low)
          ∧ (t.port p).cnv.cnt = (if c.swarmOn then c.cnt else c.cnt.cntInc 1))
    ∧ (∀ vout vsns : Int, 0 < vout → q.ef.path = .on → q.ef.shuntMa.natAbs < 50 → ∃ t, exec (.dividerCorrection p vout vsns) s = .next t
        ∧ -120 ≤ (t.port p).cnv.divCorr ∧ (t.port p).cnv.divCorr ≤ 120
        ∧ (t.port p).cnv.voutMv = vout * (4000 + (t.port p).cnv.divCorr) / 4000)
    ∧ (∀ vout vsns ma : Int, c.eff.cfg.getLsbD 14 = true → ∃ t, exec (.compensationSample p vout vsns ma) s = .next t
        ∧ (t.port p).cnv.compMv ≤ c.compMv + 10 ∧ c.compMv ≤ (t.port p).cnv.compMv + 10)
    ∧ (s.runs p .trimLimit = true → c.trim ≠ none → ∃ t, exec (.txslewLimitExpiry p) s = .next t ∧ (t.port p).cnv.trim = none
        ∧ (t.port p).pd.hrPend = true))
  ∧ (
  ∀ (s : State) (p : PortId) (x : Ph),
    let q := s.port p
    let y := q.cnv.ph x
    (y.failed = false → y.active = true → 16 ≤ y.railRun → ∃ t, exec (.phaseFailureDeclared p x .rail) s = .next t
        ∧ ((t.port p).cnv.ph x).failed = true ∧ ((t.port p).cnv.ph x).sense = true ∧ ((t.port p).cnv.ph x).active = false
        ∧ (t.port p).cnv.shuntTotal = true ∧ ((∃ z, (q.cnv.ph z).failed = true) → (t.port p).ef.latch = 5))
    ∧ (y.failed = false → y.active = true → y.railRun < 16 → exec (.phaseFailureDeclared p x .rail) s = .next s)
    ∧ (y.failed = true ∨ y.active = false → ∀ r, exec (.phaseFailureDeclared p x r) s = .next s)
    ∧ (∀ m : IsoMeas, q.cnv.isoPending = true → q.cnv.swarmOn = false → q.cnv.isoWait = 0 →
        let ok : Prop := (m.sum - m.shunt).natAbs * 10 ≤ m.shunt.natAbs + 1500
        (q.cnv.isoHold = none → q.cnv.a.active = true → q.cnv.b.active = true → q.cnv.c.active = true →
          ∃ t, exec (.isolationCheck p m) s = .next t ∧ (t.port p).cnv.a.held = true ∧ (t.port p).cnv.isoHold = some .a)
        ∧ (q.cnv.isoHold = some .a → ∃ t, exec (.isolationCheck p m) s = .next t ∧ (t.port p).cnv.a.held = false
            ∧ (t.port p).cnv.b.held = true ∧ (t.port p).cnv.isoHold = some .b
            ∧ (ok → (t.port p).cnv.isoOk = q.cnv.isoOk ++ [.a]) ∧ (¬ ok → (t.port p).cnv.isoOk = q.cnv.isoOk))
        ∧ (q.cnv.isoHold = some .c → ∀ x : Ph, (¬ ok ∧ q.cnv.isoOk = [x] ∨ ok ∧ q.cnv.isoOk = [] ∧ x = .c) →
            ∃ t, exec (.isolationCheck p m) s = .next t ∧ ((t.port p).cnv.ph x).failed = true ∧ ((t.port p).cnv.ph x).sense = true)
        ∧ (q.cnv.isoHold = some .c → ¬ ok → q.cnv.isoOk = [] → ∃ t, exec (.isolationCheck p m) s = .next t
            ∧ (t.port p).cnv.pathFail = true ∧ (t.port p).ef.latch = 5))
    ∧ (∀ m : IsoMeas, q.cnv.isoPending = false → exec (.isolationCheck p m) s = .next s))

/-! ### The window monitors -/

/-- 11 R334, R336, R339 to R343, 07 R211, R212: a crossing by an enabled edge is latched, counted and kept with its code; the short-circuit
monitor opens a path that is ON; the bus monitor starts hold-up, and on a selected donor the fast role swap at 5 V. -/
def Obligations.MonitorCrossings : Prop :=
  ∀ (s : State) (p : PortId) (m : Fin 32) (e : Edge) (code : BitVec 10), s.pwr.st = .run → (s.wm p m).edgeOn e = true →
    (s.wm p m).isOut = false → (if e = .lower then code.toNat < (s.wm p m).lt else (s.wm p m).ut < code.toNat) →
    let q := s.port p
    (m.val ≠ 8 ∨ e = .upper ∨ q.wm8Held = false → ∃ t, exec (.monitorCrossing p m e code) s = .next t ∧ (t.wm p m).outOf e = true
        ∧ (t.wm p m).cnt = satInc (s.wm p m).cnt ∧ (t.wm p m).last = code
        ∧ (if e = .lower then (t.wm p m).latLo = true else (t.wm p m).latHi = true))
    ∧ (m.val = 0 → q.ef.path = .on → q.wm.mode ≠ .test → q.ef.tripping = none →
        ∃ t, exec (.monitorCrossing p m e code) s = .next t ∧ (t.port p).ef.path = .opening ∧ (t.port p).ef.gateOn = false
          ∧ (t.port p).ef.retryCnt = q.ef.retryCnt + 1 ∧ (t.port p).wm.ffActive = true)
    ∧ (m.val = 5 → q.ef.path = .on → q.wm.mode ≠ .test → q.wm.holdupSel = true → q.swap.kind ≠ .fr →
        ∃ t, exec (.monitorCrossing p m e code) s = .next t ∧ t.hu.active = true ∧ (t.port p).swap.kind = .fr
          ∧ (t.port p).swap.step = 2 ∧ (t.port p).cnv.setMv = 5000 ∧ .frSignal p ∈ t.out ∧ (t.port p).ef.path = .on)

/-- 11 R325, R331, R332, R346 to R350: a return clears the edge; a loaded threshold takes effect in one step; a standby leg passes and
becomes the active one, or fails, and with the second leg gone the FULL action is forced and FAULT_N driven low (21 R554); a
general-class check; a frame's end. -/
def Obligations.MonitorUpkeep : Prop :=
  ∀ (s : State) (p : PortId),
    (∀ m e (code : BitVec 10), s.pwr.st = .run → (s.wm p m).outOf e = true →
        (if e = .lower then (s.wm p m).lt + (s.wm p m).hyst < code.toNat else code.toNat + (s.wm p m).hyst < (s.wm p m).ut) →
        ∃ t, exec (.monitorReturn p m ⟨e, code⟩) s = .next t ∧ (t.wm p m).outOf e = false
        ∧ (t.wm p m).latLo = (s.wm p m).latLo ∧ (t.wm p m).latHi = (s.wm p m).latHi)
    ∧ (∀ m e code, (s.wm p m).outOf e = false → exec (.monitorReturn p m ⟨e, code⟩) s = .next s)
    ∧ (∀ m w, (s.wm p m).loading = some w → ∃ t, exec (.thresholdSettled p m) s = .next t ∧ (t.wm p m).thr = w
        ∧ (t.wm p m).loading = none
        ∧ (t.wm p m).actLeg1 = (if m.val < 8 ∧ (s.wm p m).leg0 = false ∧ (s.wm p m).leg1 = false then !(s.wm p m).actLeg1
            else (s.wm p m).actLeg1)
        ∧ ∀ n, n ≠ m → t.wm p n = s.wm p n)
    ∧ (∀ m : Fin 8, let k : Fin 32 := ⟨m.val, by omega⟩
        let w := s.wm p k
        s.pwr.st = .run → w.loading = none → w.leg1 = false → w.actLeg1 = false →
        (w.leg0 = false → ∃ t, exec (.legCheck p m none) s = .next t ∧ (t.wm p k).passed = w.passed ||| 2 ∧ (t.wm p k).actLeg1 = true)
        ∧ (∀ c err, ∃ t, exec (.legCheck p m (some (c, err))) s = .next t ∧ (t.wm p k).leg1 = true ∧ (t.wm p k).actLeg1 = false
            ∧ (w.leg0 = true → (t.wm p k).forced = true ∧ t.faultN = .low)))
    ∧ (∀ m : Fin 32, 8 ≤ m.val → exec (.generalMonitorCheck p m none) s = .next s)
    ∧ (∀ (m : Fin 32) (err : Int), 8 ≤ m.val → ∃ t, exec (.generalMonitorCheck p m (some (.readback, err))) s = .next t
        ∧ (t.wm p m).chkFail = true)
    ∧ (∀ (f : CapFrame) (samples : List Byte), (s.port p).wm.frame = some f → ∃ t, exec (.captureFrameEnd p samples) s = .next t
        ∧ (t.port p).wm.frame = none
        ∧ (f.cells = 1 → (s.flow (fWave p)).cells ≠ [] →
            (t.flow (fWave p)).cells.getLast?.map Cell.pay = some [.bytes (getBytes (capHeader f ++ samples) 0 256)]))

/-! ### Metering, sessions and the journal -/

/-- 12 R357 to R361, R368, 10 R307: a sample adds its energy by its sign and nothing to the other accumulator; an I²t model at its limit
opens the path; an interval leaves the fractions of a µWh; the context follows.
12 R371 to R377: the first waiting entry is written after the entries that stay, or tried again, the fourth failure being a fault; a
snapshot queues one entry for each open session and the counters; the scan at boot ends with RECOVERY_DONE. -/
def Obligations.MeteringAndJournal : Prop :=
  (
  ∀ (s : State) (p : PortId),
    let q := s.port p
    (∀ uv ua : Int, s.pwr.st = .run →
      let i := q.mtr.amps ua
      let v := q.meterV (q.mtr.volts uv) i
      ∃ t, exec (.meteringSample p uv ua) s = .next t
        ∧ (0 ≤ v * i → (t.port p).mtr.life = q.mtr.life + (v * i).natAbs ∧ (t.port p).mtr.hold = q.mtr.hold)
        ∧ (v * i < 0 → (t.port p).mtr.hold = q.mtr.hold + (v * i).natAbs ∧ (t.port p).mtr.life = q.mtr.life)
        ∧ ((q.ef.i2tStep i).i2tOver = true → q.ef.path = .on → q.ef.tripping = none → (t.port p).ef.path = .opening))
    ∧ (∀ uv ua : Int, s.pwr.st = .idle ∨ s.pwr.st = .doze → exec (.meteringSample p uv ua) s = .next s)
    ∧ (q.ef.path = .off → exec (.meteringInterval p) s = .next s)
    ∧ (q.ef.path ≠ .off → ∃ t, exec (.meteringInterval p) s = .next t ∧ (t.port p).mtr.ivN = 0
        ∧ (t.port p).mtr.ivEfwd = q.mtr.ivEfwd % energyUnit ∧ (t.port p).mtr.ivErev = q.mtr.ivErev % energyUnit
        ∧ (t.port p).mtr.now = q.mtr.cfg ∧ (t.port p).mtr.life = q.mtr.life)
    ∧ (q.mtr.now.getLsbD 0 = true → exec (.sessionContextUpdate p) s = .next s)
    ∧ (q.mtr.now.getLsbD 0 = false → exec (.sessionContextUpdate p) s = .next (s.sesMeter p)))
  ∧ (
  ∀ (s : State),
    (∀ x r, s.w0Runs = true → s.ses.pend = x :: r → (s.passCell fFls).isSome = true →
        ∀ l, makeRoom s.jrnArea (unitsOf (s.entryBytes x)) (s.jrnArea / 64) s.ses.units = some l →
        (s.ses.jrnFault = false → ∃ t, exec (.journalWrite true) s = .next t ∧ t.ses.units = l ++ [s.entryBytes x]
            ∧ t.ses.pend = r ∧ t.ses.jrnCount = s.ses.jrnCount + 1 ∧ t.ses.tries = 0)
        ∧ (s.ses.jrnFault = true → ∃ t, exec (.journalRetry true) s = .next t ∧ t.ses.pend = r ∧ t.ses.jrnFault = false)
        ∧ (s.ses.jrnFault = false → ∃ t, exec (.journalWrite false) s = .next t ∧ t.ses.pend = s.ses.pend
            ∧ t.ses.units = s.ses.units ∧ t.ses.tries = s.ses.tries + 1 ∧ t.ses.jrnFault = decide (3 ≤ s.ses.tries)))
    ∧ (s.w0Runs = false → exec (.journalWrite true) s = .next s ∧ exec (.journalRetry true) s = .next s)
    ∧ (∃ t, exec .snapshot s = .next t ∧ t.ses.pend.getLast? = some (.counters s.counterBytes)
        ∧ t.ses.pend.length = s.ses.pend.length + ((List.finRange 16).filter fun p => (s.port p).mtr.sess.isSome).length + 1)
    ∧ (s.ses.recovDone = false → s.rst.booted = true → ∃ t, exec .journalScan s = .next t ∧ t.ses.recovDone = true)
    ∧ (s.ses.recovDone = true → exec .journalScan s = .next s))

/-! ### The two-wire target and controllers -/

/-- 17 R471 to R482: the target answers no address that is not its own; a read clocks out the register's bytes, a write of a register that
the supervisor may not write is refused; the event window gives the lowest-numbered record; alert, request and timeout.
17 R483 to R490: an item of a core's that runs to its end leaves the controller idle; a lost arbitration is tried again while retries
are left; a stretch past the limit calls for recovery; recovery ends in quarantine while a line stays low, and quarantine ends when
neither does; a request heard at the listen address is recorded. -/
def Obligations.TwoWireCommands : Prop :=
  (
  ∀ (s : State) (a : BitVec 7), s.twi.tverNext = none →
    (s.twtWin a.toNat = none →
        (∀ b, exec (.twtRegisterWrite a b) s = .next (s.emit .nack)) ∧ (∀ b n, exec (.twtRegisterRead a b n) s = .next (s.emit .nack))
        ∧ (∀ n, exec (.twtEventRead a n) s = .next (s.emit .nack)) ∧ ∀ n, exec (.twtTimeout a n) s = .next s)
    ∧ (∀ ptr : BitVec 16, s.twtWin a.toNat = some (.regs 0 0x10000) → s.pecOn = false → ptr.toNat % 4 = 0 →
        s.twtMay ptr.toNat = none → ∀ x xs, exec (.twtRegisterWrite a (leBytes 2 ptr.toNat ++ x :: xs)) s
          = .next (({ s with twi := { s.twi with wrRefused := true } } : State).emit .nack))
    ∧ (s.twtWin a.toNat = some (.regs 0 0x10000) → s.pecOn = false → 1 ≤ s.twi.tver.toNat → ∃ t, exec (.twtRegisterRead a [0, 0] 4) s = .next t
        ∧ t.out = s.out ++ [.windowBytes (leBytes 4 (s.readReg .twt 0).toNat)])
    ∧ (s.twtWin a.toNat = some .events → s.twi.tver = 1 → (∀ c < 3, ∀ x ∈ (s.flow (fEvs c)).cells, x.ue = none ∧ x.ce = []) →
        (s.window = [] → ∃ t, exec (.twtEventRead a 32) s = .next t ∧ t.out = s.out ++ [.windowBytes (List.replicate 32 0)])
        ∧ (∀ x, s.window.head? = some x → ∃ t, exec (.twtEventRead a 32) s = .next t ∧ t.out = s.out ++ [.windowBytes (recBytesOf x)]
            ∧ (t.flow x.1).records = (s.flow x.1).records.erase x.2 ∧ ∀ y ∈ s.window, x.2.seqNo ≤ y.2.seqNo))
    ∧ (s.twi.tcfg.getLsbD 4 = true → s.twi.alert = true → s.pwr.st ≠ .hibernate → ∃ t, exec .alertResponse s = .next t
        ∧ t.twi.alert = false ∧ t.twi.alertAt = s.tb.seqLast ∧ t.out = s.out ++ [.windowBytes [BitVec.ofNat 8 (2 * s.eventAddr)]])
    ∧ (s.twi.alert = false → exec .alertResponse s = .next (s.emit .nack))
    ∧ (s.twi.ibrPend = true → s.twi.tcfg.getLsbD 9 = true → s.pwr.st ≠ .hibernate → ∃ t, exec .inBandRequest s = .next t
        ∧ t.twi.ibrPend = false ∧ t.twi.ibrHeld = s.window.length
        ∧ t.out = s.out ++ [.twiRequest (s.twi.tibr.toNat % 128) (2 * s.eventAddr) (satN 8 s.window.length)])
    ∧ (0 < s.twi.ibrHeld → s.twi.tcfg.getLsbD 9 = true → s.pwr.st ≠ .hibernate → ∃ t, exec .ibrResendExpiry s = .next t
        ∧ t.out = s.out ++ [.twiRequest (s.twi.tibr.toNat % 128) (2 * s.eventAddr) (satN 8 s.window.length)])
    ∧ (s.twi.ibrHeld = 0 → exec .ibrResendExpiry s = .next s)
    ∧ (s.twi.tcfg.getLsbD 2 = true → s.twtWin a.toNat ≠ none → ∀ n, ∃ t, exec (.twtTimeout a n) s = .next t ∧ t.twi.tout = true))
  ∧ (
  ∀ (s : State) (n : Fin 4),
    let c := s.twi.c[n.val]
    (∀ x k data, s.pwr.entry = 0 → s.pwr.st = .run → c.item = none → s.twNext n = some x → x.core = some k → x.bad = false → c.st = .idle →
        c.needRecovery = false → ∃ t, exec (.twcItem n (.done data)) s = .next t ∧ t.twi.c[n.val].item = none
          ∧ t.twi.c[n.val].cnt = c.cnt ∧ .twiStart n x ∈ t.out)
    ∧ (c.item ≠ none → ∀ r, exec (.twcItem n r) s = .next s)
    ∧ (∀ x byte bit phase moved, c.item = some x → c.retryDue = true → c.needRecovery = false → c.retries < c.cfg.toNat / 16 % 8 →
        ∃ t, exec (.arbRetry n (.arbLost byte bit phase moved)) s = .next t ∧ t.twi.c[n.val].item = some x
          ∧ t.twi.c[n.val].retries = c.retries + 1 ∧ t.twi.c[n.val].retryDue = true)
    ∧ (c.item = none → ∀ r, exec (.arbRetry n r) s = .next s)
    ∧ (∀ x moved, c.item = some x → c.retryDue = false → ∃ t, exec (.stretchTimeout n moved) s = .next t
        ∧ t.twi.c[n.val].item = none ∧ t.twi.c[n.val].needRecovery = true)
    ∧ (∀ pulses, c.needRecovery = true → c.st = .idle → c.item = none → ∃ t, exec (.busRecovery n false false pulses) s = .next t
        ∧ t.twi.c[n.val].needRecovery = false ∧ t.twi.c[n.val].st = .idle)
    ∧ (∀ sda scl pulses, c.needRecovery = true → c.st = .idle → c.item = none → sda = true ∨ scl = true →
        ∃ t, exec (.busRecovery n sda scl pulses) s = .next t ∧ t.twi.c[n.val].st = .quarantined ∧ t.twi.c[n.val].quarFrom = s.tb.count
          ∧ t.twi.c[n.val].sdaLow = sda ∧ t.twi.c[n.val].sclLow = scl)
    ∧ (∀ pulses, c.st = .quarantined → c.cfg.getLsbD 2 = true → ∃ t, exec (.quarantineRetry n false false pulses) s = .next t
        ∧ t.twi.c[n.val].st = .idle)
    ∧ (∀ pulses, c.st = .quarantined → ∃ t, exec (.quarantineRetry n true false pulses) s = .next t
        ∧ t.twi.c[n.val].st = .quarantined ∧ t.twi.c[n.val].attempts = c.attempts + 1)
    ∧ (∀ b : List Byte, c.ibr.getLsbD 7 = true → b ≠ [] → s.pwr.st = .run → c.st = .idle → ∃ t, exec (.twcInband n b) s = .next t
        ∧ t.twi.c = s.twi.c)
    ∧ (∀ b : List Byte, c.ibr.getLsbD 7 = false → exec (.twcInband n b) s = .next s))

/-! ### Power states, wakes, the calendar, start-up and trials -/

/-- 19 R515, R519 to R524: IDLE once every path is off; the timers enter DOZE and HIBERNATE where Table 19-2 allows; entry is committed
when the device is quiet, judged again at that point, and abandoned by the limit or by a condition that no longer holds.
19 R520, R521, R525 to R528, 17 R491: an enabled wake source sets the latch with its bit, and WAKE_OUT_N falls with one in HIBERNATE;
DOZE is left for RUN, and CORE_EN rises out of HIBERNATE. -/
def Obligations.SleepAndWake : Prop :=
  (
  ∀ (s : State),
    let pathsOff := ∀ p, (s.port p).ef.path = .off ∧ (s.port p).ef.bfOn = false
    (s.pwr.st = .run → s.pwr.entry = 0 → s.pwr.cfg.getLsbD 0 = true → pathsOff → ∃ t, exec .idleEntry s = .next t ∧ t.pwr.st = .idle)
    ∧ (s.pwr.st ≠ .run ∨ s.pwr.entry ≠ 0 ∨ s.pwr.cfg.getLsbD 0 = false ∨ ¬ pathsOff → exec .idleEntry s = .next s)
    ∧ (s.pwr.st = .run ∨ s.pwr.st = .idle → s.pwr.entry = 0 → s.pwr.cfg.toNat / 65536 % 256 ≠ 0 → s.entryRow 2 = none →
        ∃ t, exec .dozeTimerExpiry s = .next t ∧ t.pwr.target = 2 ∧ t.pwr.reqBy = 2 ∧ t.pwr.st = s.pwr.st
          ∧ (s.pwr.wakeEn = 0 → t.pwr.entry = 1))
    ∧ (s.pwr.cfg.toNat / 65536 % 256 = 0 ∨ s.entryRow 2 ≠ none → exec .dozeTimerExpiry s = .next s)
    ∧ (s.pwr.st = .doze → s.pwr.entry = 2 → s.pwr.wakeLatch = false → s.pwr.cfg.toNat / 2 ^ 24 ≠ 0 → s.entryRow 3 = none →
        ∃ t, exec .hibernateTimerExpiry s = .next t ∧ t.pwr.target = 3 ∧ t.pwr.reqBy = 3 ∧ (s.pwr.wakeEn = 0 → t.pwr.entry = 1))
    ∧ (s.pwr.st ≠ .doze → exec .hibernateTimerExpiry s = .next s)
    ∧ (s.pwr.entry = 1 → s.quiesced = true → s.entryRow s.pwr.target.toNat = none → ∃ t, exec .quiesceComplete s = .next t
        ∧ t.pwr.entry = 2 ∧ t.pwr.sleepFrom = s.bkp.cal ∧ t.pwr.st = (if s.pwr.target = 2 then .doze else .hibernate)
        ∧ (s.pwr.target ≠ 2 → t.pwr.coreEn = false ∧ t.hif = ({} : State).hif))
    ∧ (∀ r, s.pwr.entry = 1 → s.quiesced = true → s.entryRow s.pwr.target.toNat = some r → ∃ t, exec .quiesceComplete s = .next t
        ∧ t.pwr.st = s.pwr.st ∧ t.pwr.lastAbandon = 1 ∧ t.pwr.entry = if s.pwr.st = .doze then 2 else 0)
    ∧ (s.pwr.entry = 1 → ∃ t, exec .quiesceTimeout s = .next t ∧ t.pwr.st = s.pwr.st ∧ t.pwr.lastAbandon = 2
        ∧ t.pwr.entry = if s.pwr.st = .doze then 2 else 0)
    ∧ (s.pwr.entry ≠ 1 → exec .quiesceComplete s = .next s ∧ exec .quiesceTimeout s = .next s))
  ∧ (
  ∀ (s : State),
    (s.pwr.st = .doze → s.pwr.wakeLatch = true → ∃ t, exec .wakeFromDoze s = .next t ∧ t.pwr.st = .run ∧ t.pwr.entry = 0
        ∧ t.pwr.wakeLatch = false ∧ t.pwr.lastWake = s.pwr.wakeSrc)
    ∧ (s.pwr.st ≠ .doze ∨ s.pwr.wakeLatch = false → exec .wakeFromDoze s = .next s)
    ∧ (s.pwr.st = .hibernate → s.pwr.wakeLatch = true →
        exec .wakeFromHibernate s = .next { s with pwr := { s.pwr with coreEn := true } })
    ∧ (s.pwr.st ≠ .hibernate ∨ s.pwr.wakeLatch = false → exec .wakeFromHibernate s = .next s)
    ∧ (∀ p, s.pwr.st = .hibernate → s.pwr.entry = 2 → s.pwr.wakePort.getLsbD p.val = true → s.pwr.wakeEn.getLsbD 1 = true →
        ∃ t, exec (.hibernateCcWake p) s = .next t ∧ t.pwr.wakeLatch = true ∧ t.pwr.wakeSrc = s.pwr.wakeSrc ||| 2
          ∧ t.pwr.wakeOut = true ∧ (s.pwr.wakePortNo = 0xFF → t.pwr.wakePortNo = BitVec.ofNat 8 p.val))
    ∧ (∀ p : PortId, s.pwr.st ≠ .hibernate ∨ s.pwr.wakePort.getLsbD p.val = false → exec (.hibernateCcWake p) s = .next s)
    ∧ (s.pwr.st = .hibernate → s.pwr.entry = 2 → s.pwr.wakeEn.getLsbD 4 = true → ∃ t, exec .perstRise s = .next t
        ∧ t.pwr.wakeLatch = true ∧ t.pwr.wakeSrc = s.pwr.wakeSrc ||| 16)
    ∧ (s.pwr.st ≠ .hibernate → exec .perstRise s = .next s)
    ∧ (s.pwr.st = .hibernate ∨ s.pwr.st = .doze → s.pwr.entry = 2 → s.pwr.wakeEn.getLsbD 7 = true → ∃ t, exec .businRiseWake s = .next t
        ∧ t.pwr.wakeLatch = true ∧ t.pwr.wakeSrc = s.pwr.wakeSrc ||| 128)
    ∧ (s.pwr.wakeEn.getLsbD 7 = false → exec .businRiseWake s = .next s)
    ∧ (∀ (a : BitVec 8) n, s.wakeAddress a.toNat = some n → s.pwr.st = .hibernate → s.pwr.entry = 2 → s.pwr.wakeLatch = false →
        s.pwr.wakeEn.getLsbD 3 = true → ∃ t, exec (.addressMatchWake a) s = .next t ∧ t.pwr.wakeLatch = true
          ∧ t.pwr.wakeSrc = s.pwr.wakeSrc ||| 8 ∧ t.pwr.twWake = some (BitVec.ofNat 16 (a.toNat + 256 * n)))
    ∧ (∀ a : BitVec 8, s.wakeAddress a.toNat = none → exec (.addressMatchWake a) s = .next s))

/-- 19 R529 to R535: the trim moves a calendar that runs by TRIM units; without its oscillator the calendar stops and is not valid; the
alarm fires once; an enabled tamper input is latched, counted, stamped on its first event, and erases what it must; VBAT; the supply. -/
def Obligations.CalendarAndBackup : Prop :=
  ∀ (s : State),
    let b := s.bkp
    let at_ := b.alarmLo.toNat + 2 ^ 32 * (b.alarmHi.toNat % 65536)
    let due := b.alarmHi.getLsbD 16 = true ∧ b.valid = true ∧ at_ ≤ b.cal.toNat / 65536
    (b.oscStopped = false →
        exec .calendarTrim s = .next { s with bkp := { b with cal := b.cal + (b.trim.setWidth 8).signExtend 64 } })
    ∧ (b.oscStopped = true → exec .calendarTrim s = .next s ∧ exec .calendarOscFail s = .next s)
    ∧ (b.oscStopped = false → ∃ t, exec .calendarOscFail s = .next t ∧ t.bkp.oscStopped = true ∧ t.bkp.valid = false
        ∧ t.bkp.oscFail = true ∧ t.bkp.cal = b.cal ∧ t.ses.unknown = true)
    ∧ (exec .calendarOscReturn s = .next { s with bkp := { b with oscStopped := false } })
    ∧ ((due → ∃ t, exec .calAlarm s = .next t ∧ t.bkp.alarmFlag = true ∧ t.bkp.alarmHi.getLsbD 16 = false ∧ t.bkp.cal = b.cal)
        ∧ (¬ due → exec .calAlarm s = .next s))
    ∧ (∀ i : Fin 2, ∃ t, exec (.tamper ⟨i, false⟩) s = .next t ∧ t.bkp.live = b.live &&& ~~~BitVec.twoPow 2 i.val
        ∧ t.bkp.lat = b.lat ∧ t.bkp.gp = b.gp ∧ t.bkp.tcnt0 = b.tcnt0 ∧ t.bkp.tcnt1 = b.tcnt1)
    ∧ (∀ i : Fin 2, b.tampCfg.getLsbD (8 * i.val) = false ∨ b.live.getLsbD i.val = true → exec (.tamper ⟨i, true⟩) s = .next s)
    ∧ (∀ i : Fin 2, b.tampCfg.getLsbD (8 * i.val) = true → b.live.getLsbD i.val = false → ∃ t, exec (.tamper ⟨i, true⟩) s = .next t
        ∧ t.bkp.lat = b.lat ||| BitVec.twoPow 2 i.val
        ∧ t.bkp.gp = (if b.tampCfg.getLsbD (8 * i.val + 2) then Vector.replicate 8 0 else b.gp)
        ∧ t.bkp.tcnt0 = (if i = 0 then satInc b.tcnt0 else b.tcnt0) ∧ t.bkp.tcnt1 = (if i = 1 then satInc b.tcnt1 else b.tcnt1)
        ∧ t.bkp.ts0 = (if i = 0 ∧ b.lat.getLsbD 0 = false then s.cal else b.ts0)
        ∧ t.bkp.ts1 = if i = 1 ∧ b.lat.getLsbD 1 = false then s.cal else b.ts1)
    ∧ (∀ mv, s.pwr.st = .run ∨ s.pwr.st = .idle → ∃ t, exec (.vbatMeasure mv) s = .next t ∧ t.bkp.vbatMv = mv
        ∧ t.bkp.vbatLow = decide (mv < 2000))
    ∧ (∀ mv, s.pwr.st = .doze ∨ s.pwr.st = .hibernate → exec (.vbatMeasure mv) s = .next s)
    ∧ (∀ v, exec (.backupSupplySwitch v) s = .next { s with bkp := { b with onVbat := v } })

/-- 20 R537, R540 to R543, 18 R503 to R506: a power-on reset waits for the crystal or runs the boot to READY, on the ring oscillator
where the crystal does not start; the cores of an activation become ready from 3 to 0; the health window ends in a fallback. -/
def Obligations.BootsAndTrials : Prop :=
  ∀ (s : State),
    (∀ (c : Fin 8) boot, c.val = 1 ∨ c.val = 3 ∨ (c.val = 2 ∧ s.pwr.coreEn = true) → ∃ t, exec (.powerOnReset c boot) s = .next t
        ∧ (boot.crystal = true → t.hif.ready = true ∧ t.tb.running = true ∧ t.tb.calDone = true)
        ∧ (boot.crystal = false → t.rst.boot = some boot ∧ t.rst.last = BitVec.ofNat 3 c.val ∧ t.hif = ({} : State).hif
            ∧ t.ports = ({} : State).ports ∧ t.img.flash = s.img.flash
            ∧ (boot.backupLost = false → t.bkp.gp = s.bkp.gp ∧ t.bkp.cal = s.bkp.cal)))
    ∧ (∀ (c : Fin 8) boot, c.val = 0 ∨ 4 < c.val ∨ (c.val = 4 ∧ s.pwr.st ≠ .hibernate) → exec (.powerOnReset c boot) s = .next s)
    ∧ (∀ i, s.rst.boot = some i → ∃ t, exec .crystalStartTimeout s = .next t ∧ t.tb.fallback = true ∧ t.hif.ready = true)
    ∧ (s.rst.boot = none → exec .crystalStartTimeout s = .next s)
    ∧ (∀ n ok, s.img.actStep = 0 ∨ s.img.actStep % 4 ≠ n.val → exec (.coreReady n ok) s = .next s)
    ∧ (∀ n : Fin 4, s.img.actStep = n.val → n ≠ 0 → s.img.falling = 0 → ∃ t, exec (.coreReady n true) s = .next t
        ∧ t.img.actStep = (if n = 1 then 4 else n.val - 1))
    ∧ (s.img.actStep = 4 → s.img.falling = 0 → ∃ t, exec (.coreReady 0 true) s = .next t ∧ t.img.actStep = 0 ∧ t.img.trial = 2)
    ∧ (s.img.actStep = 4 → s.img.falling ≠ 0 → ∃ t, exec (.coreReady 0 true) s = .next t ∧ t.img.actStep = 0 ∧ t.img.trial = 0
        ∧ t.img.cand = {})
    ∧ (s.img.actStep = 3 → s.img.falling = 0 → s.img.inTrial = true → s.img.candOf 0 = 2 → ∃ t, exec (.coreReady 3 false) s = .next t
        ∧ t.img.falling = 6 ∧ t.img.actStep = 3)
    ∧ (s.img.trial = 2 → s.img.quiet = true → s.img.inTrial = true → s.img.candOf 0 ≠ 2 → ∃ t, exec .healthWindowExpiry s = .next t
        ∧ t.img.trial = 0 ∧ t.img.cand = {})
    ∧ (s.img.trial ≠ 2 → exec .healthWindowExpiry s = .next s)

/-! ### The machine as a whole -/

/-- A step takes the command at the front of the queue and runs it with the queue's rest. -/
def Obligations.StepTakesFront : Prop :=
  ∀ (s : State) (c : Instr) (rest : List Instr), s.pending = c :: rest → step s = exec c { s with pending := rest }

/-- The model's choice (notes/assumptions/1): with no command waiting a microsecond passes. The Timebase count advances while the crystal
or the ring oscillator runs and the calendar, unless its oscillator has stopped, by 1,024 of the 15,625 parts of its unit; where no core
executes, the ports, the store, the rings, the cores, the images, the sessions and what was sent stay as they are. -/
def Obligations.IdleStep : Prop :=
  ∀ (s : State), s.pending = [] →
    ((∀ c : Fin 4, s.executes c = false) → ∃ t, step s = .next t
        ∧ t.tb.count = (if s.tb.running ∨ s.tb.fallback then s.tb.count + 1 else s.tb.count)
        ∧ (s.bkp.oscStopped = false → s.bkp.frac < 15625 →
            t.bkp.cal.toNat * 15625 + t.bkp.frac = (s.bkp.cal.toNat * 15625 + s.bkp.frac + 1024) % (15625 * 2 ^ 64))
        ∧ (s.bkp.oscStopped = true → t.bkp = s.bkp)
        ∧ t.ports = s.ports ∧ t.sto = s.sto ∧ t.hif = s.hif ∧ t.wvl = s.wvl ∧ t.img = s.img ∧ t.ses = s.ses ∧ t.out = s.out)

/-- The reset values of registers of every group, from their register tables (03 R89, 04 R116, 05 R148, 06 R190, R191, 07 R223, 09 R292,
10 R324, 12 R382, 13 R418, 16 R468, 17 R494, 19 R536, 22 R569), as either interface reads them, and a block at rest: no path closed, nothing
pending, nothing sent. -/
def Obligations.ResetValues : Prop :=
  (∀ i : Iface, ∀ x ∈ [(0x1000, 0x00000303), (0x1020, 0), (0x2000, 0x000F0F00), (0x2010, 0x00053002), (0x204C, 0), (0x206C, 0),
      (0xD000, 0), (0xE000, 0x00001E01),
      (0x0010, 0x00001432), (0xC018, 1)], State.reset.readReg i x.1 = BitVec.ofNat 32 x.2)
  ∧ (∀ (i : Iface) (p : PortId), ∀ x ∈ [(0x040, 0x0F960406), (0x04C, 0x00000C01), (0x060, 3), (0x080, 0x030A17FF), (0x0A0, 0x3C0A0031),
      (0x100, 0x00005DF4), (0x140, 0x00320528), (0x1C0, 0x00000A02)],
      State.reset.readReg i (0x4000 + 0x400 * p.val + x.1) = BitVec.ofNat 32 x.2)
  ∧ (∀ p, (State.reset.port p).cc.st = .disabled ∧ (State.reset.port p).ef.path = .off ∧ (State.reset.port p).ef.gateOn = false)
  ∧ State.reset.tb.count = 0 ∧ State.reset.pending = [] ∧ State.reset.out = []

/-- 22 R569: each interface has its own copy of the three selectors, which a write through it changes for its own reads alone. -/
def Obligations.SelectorCopies : Prop :=
  (∀ i : Iface, (State.reset.lat i).flowSel = 0 ∧ (State.reset.lat i).sesSel = 0 ∧ (State.reset.lat i).flogSel = 0)
  ∧ ∀ (s : State) (i j : Iface) (v : Word), s.awake = true → j ≠ i →
      (∀ off : BitVec 20, off.toNat = 0x1020 ∨ off.toNat = 0x204C ∨ off.toNat = 0x206C →
        (i = .twt → (s.twtMay off.toNat).any (fun m => v &&& m = v) = true) →
        ((s.lat i).flowSel.toNat < 117 ∧ v.toNat < 117) → (s.lat i).sesSel.toNat < 128 →
        ∃ t, exec (.registerWrite i off v) s = .next t ∧ t.readReg i off.toNat = v
          ∧ t.lat j = s.lat j ∧ ∀ a, t.readReg j a = s.readReg j a)

/-- 05 R120: a bad frame is counted, and nothing else changes. -/
def Obligations.BadFrameIsDiscarded : Prop :=
  ∀ (s : State) (p : PortId), (s.port p).pdRuns = true →
    let counted := s.modPd p fun x => { x with crcErr := satInc x.crcErr }
    exec (.frameCrcError p) s = .next counted
    ∧ ∀ (pin : Pin) (set : OrdSet) (m : PdMsg), set.sopx ≠ none → (s.port p).cc.active = some pin →
      m.lenOk = false → exec (.pdMessageReceived p pin ⟨set, m⟩) s = .next counted

/-- The commands that only one port's slice sees change that port and nothing else of the block. -/
def Obligations.SliceFrame : Prop :=
  ∀ (c : Instr) (p : PortId) (s t : State), c.ofSlice = some p → exec c s = .next t →
    t = { s with ports := t.ports } ∧ ∀ r, r ≠ p → t.port r = s.port r

/-- What happens on a port changes nothing of the image slots, the flash and the directory, the cores and their memories, the backup
domain, the read latches of the register bus, the reset state, or the queue; and of the Pod Table only the order in which lookups wait. -/
def Obligations.PortFrame : Prop :=
  ∀ (c : Instr) (s t : State), c.ofPort = true → exec c s = .next t →
    t.img = s.img ∧ t.wvl = s.wvl ∧ t.pod = { s.pod with asked := t.pod.asked, opSince := t.pod.opSince } ∧ t.bkp = s.bkp ∧ t.latB = s.latB ∧ t.latT = s.latT ∧ t.rst = s.rst
      ∧ t.pending = s.pending

/-- The commands of the rings, the two-wire ports, the records, the sleep entry and the backup domain change no port, no budget, no core,
no Pod entry, no image and no session. -/
def Obligations.DeviceFrame : Prop :=
  ∀ (c : Instr) (s t : State), c.ofDevice = true → exec c s = .next t →
    t.ports = s.ports ∧ t.bud = s.bud ∧ t.hu = s.hu ∧ t.wvl = s.wvl ∧ t.pod = s.pod ∧ t.img = s.img ∧ t.ses = s.ses ∧ t.rst = s.rst
      ∧ t.latB = s.latB ∧ t.latT = s.latT ∧ t.pending = s.pending

/-- The state after reset has its memories in canonical form, and no path's outputs at odds. -/
def Obligations.ResetKeepsInvariants : Prop := State.reset.memWf = true ∧ State.reset.pathsOk = true

/-- Every step keeps the canonical form of every memory: the RAMs and cell buffers of the cores, the shared RAM, the flash. -/
def Obligations.StepKeepsMemories : Prop := ∀ (s t : State), s.memWf = true → step s = .next t → t.memWf = true

/-- 01 R28: every step keeps a path's outputs those of its state, in which the eFuse, in CLOSING and ON, and the back-feed switch, in
BACKFEED, are never both commanded on. -/
def Obligations.NeverBothSwitches : Prop :=
  ∀ (s : State), s.pathsOk = true →
    (∀ p, ¬ (((s.port p).ef.path.live = true ∨ (s.port p).ef.gateOn = true) ∧ ((s.port p).ef.bfCmd = true ∨ (s.port p).ef.bfOn = true)))
    ∧ ∀ t, step s = .next t → t.pathsOk = true

/-- Every command is taken once: a step answers a next state whose queue is the queue's rest, whatever the command. -/
def Obligations.EveryStepAnswers : Prop := ∀ (s : State), ∃ t, step s = .next t ∧ t.pending = s.pending.tail

/-- 16 R451, Tables 16-4 to 16-8: decoding the word of an instruction, for the core that fetched it, gives the instruction back, at every
value of every field; and a word that spells an instruction is that instruction's word. -/
def Obligations.WeevilRoundTrip : Prop :=
  ∀ (w : Word) (c : Fin 4) (f : Fetch) (i : Instr), weevil c f w = some i ↔ weevilWord i = some w ∧ i.coreFetch = some (c, f)
end

