-- ==== Sys2Proof/Laws/State.lean ====
section
/-! SUPPORT. What each update of State leaves in each field. The updates of a port's unit are spelt `setPort`; the lemmas below are
what later proofs use in place of unfolding a record update. -/

namespace Sys2Proof.Machine

variable {s : State} {p q : PortId} {c n : Fin 4}

/-! ### Ports -/

@[simp] theorem State.ports_get : s.ports[p.val] = s.port p := rfl

theorem State.port_setPort (s : State) (p q : PortId) (x : Port) : (s.setPort p x).port q = if p = q then x else s.port q := by
  simp only [State.port, State.setPort, Vector.getElem_set, Fin.ext_iff]

@[simp] theorem State.port_setPort_self (x : Port) : (s.setPort p x).port p = x := by simp [State.port_setPort]

theorem State.port_setPort_ne (x : Port) (h : p ≠ q) : (s.setPort p x).port q = s.port q := by simp [State.port_setPort, h]

@[simp] theorem State.setPort_setPort (x y : Port) : (s.setPort p x).setPort p y = s.setPort p y := by
  simp [State.setPort, Vector.set_set]

@[simp] theorem State.setPort_tb (x : Port) : (s.setPort p x).tb = s.tb := rfl
@[simp] theorem State.setPort_sto (x : Port) : (s.setPort p x).sto = s.sto := rfl
@[simp] theorem State.setPort_hu (x : Port) : (s.setPort p x).hu = s.hu := rfl
@[simp] theorem State.setPort_bud (x : Port) : (s.setPort p x).bud = s.bud := rfl
@[simp] theorem State.setPort_pod (x : Port) : (s.setPort p x).pod = s.pod := rfl
@[simp] theorem State.setPort_ses (x : Port) : (s.setPort p x).ses = s.ses := rfl
@[simp] theorem State.setPort_hif (x : Port) : (s.setPort p x).hif = s.hif := rfl
@[simp] theorem State.setPort_flog (x : Port) : (s.setPort p x).flog = s.flog := rfl
@[simp] theorem State.setPort_wvl (x : Port) : (s.setPort p x).wvl = s.wvl := rfl
@[simp] theorem State.setPort_twi (x : Port) : (s.setPort p x).twi = s.twi := rfl
@[simp] theorem State.setPort_img (x : Port) : (s.setPort p x).img = s.img := rfl
@[simp] theorem State.setPort_pwr (x : Port) : (s.setPort p x).pwr = s.pwr := rfl
@[simp] theorem State.setPort_bkp (x : Port) : (s.setPort p x).bkp = s.bkp := rfl
@[simp] theorem State.setPort_rst (x : Port) : (s.setPort p x).rst = s.rst := rfl
@[simp] theorem State.setPort_latB (x : Port) : (s.setPort p x).latB = s.latB := rfl
@[simp] theorem State.setPort_latT (x : Port) : (s.setPort p x).latT = s.latT := rfl
@[simp] theorem State.setPort_out (x : Port) : (s.setPort p x).out = s.out := rfl
@[simp] theorem State.setPort_fresh (x : Port) : (s.setPort p x).fresh = s.fresh := rfl
@[simp] theorem State.setPort_pending (x : Port) : (s.setPort p x).pending = s.pending := rfl

@[simp] theorem State.modPort_eq (f : Port → Port) : s.modPort p f = s.setPort p (f (s.port p)) := rfl
@[simp] theorem State.modCc_eq (f : CcState → CcState) :
    s.modCc p f = s.setPort p { s.port p with cc := f (s.port p).cc } := rfl
@[simp] theorem State.modPd_eq (f : PdState → PdState) :
    s.modPd p f = s.setPort p { s.port p with pd := f (s.port p).pd } := rfl
@[simp] theorem State.modPol_eq (f : PolState → PolState) :
    s.modPol p f = s.setPort p { s.port p with pol := f (s.port p).pol } := rfl
@[simp] theorem State.modSwap_eq (f : SwapState → SwapState) :
    s.modSwap p f = s.setPort p { s.port p with swap := f (s.port p).swap } := rfl
@[simp] theorem State.modPod_eq (f : PodPort → PodPort) :
    s.modPod p f = s.setPort p { s.port p with pod := f (s.port p).pod } := rfl
@[simp] theorem State.modCnv_eq (f : CnvState → CnvState) :
    s.modCnv p f = s.setPort p { s.port p with cnv := f (s.port p).cnv } := rfl
@[simp] theorem State.modEf_eq (f : EfState → EfState) :
    s.modEf p f = s.setPort p { s.port p with ef := f (s.port p).ef } := rfl
@[simp] theorem State.modWm_eq (f : WmState → WmState) :
    s.modWm p f = s.setPort p { s.port p with wm := f (s.port p).wm } := rfl
@[simp] theorem State.modMtr_eq (f : MtrState → MtrState) :
    s.modMtr p f = s.setPort p { s.port p with mtr := f (s.port p).mtr } := rfl

theorem State.start_eq (t : Tmr) : s.start p t = s.setPort p { s.port p with tmr := insertNew t (s.port p).tmr } := rfl
theorem State.stop_eq (t : Tmr) : s.stop p t = s.setPort p { s.port p with tmr := dropAll t (s.port p).tmr } := rfl

/-- A timer that has been stopped does not run. -/
@[simp] theorem State.runs_stop (t : Tmr) : (s.stop p t).runs p t = false := by
  simp [State.runs, State.stop_eq, dropAll]

/-- A timer that has been started runs. -/
@[simp] theorem State.runs_start (t : Tmr) : (s.start p t).runs p t = true := by
  simp only [State.runs, State.start_eq, State.port_setPort_self, insertNew]; split <;> simp_all

/-- On expiry the timer is stopped first. -/
theorem State.onExpiry_runs (t : Tmr) (f : State → State) (h : s.runs p t = true) : s.onExpiry p t f = f (s.stop p t) := by
  simp [State.onExpiry, h]

theorem State.onExpiry_idle (t : Tmr) (f : State → State) (h : s.runs p t = false) : s.onExpiry p t f = s := by
  simp [State.onExpiry, h]

@[simp] theorem State.start_tb (t : Tmr) : (s.start p t).tb = s.tb := rfl
@[simp] theorem State.start_sto (t : Tmr) : (s.start p t).sto = s.sto := rfl
@[simp] theorem State.start_hu (t : Tmr) : (s.start p t).hu = s.hu := rfl
@[simp] theorem State.start_bud (t : Tmr) : (s.start p t).bud = s.bud := rfl
@[simp] theorem State.start_pod (t : Tmr) : (s.start p t).pod = s.pod := rfl
@[simp] theorem State.start_ses (t : Tmr) : (s.start p t).ses = s.ses := rfl
@[simp] theorem State.start_hif (t : Tmr) : (s.start p t).hif = s.hif := rfl
@[simp] theorem State.start_flog (t : Tmr) : (s.start p t).flog = s.flog := rfl
@[simp] theorem State.start_wvl (t : Tmr) : (s.start p t).wvl = s.wvl := rfl
@[simp] theorem State.start_twi (t : Tmr) : (s.start p t).twi = s.twi := rfl
@[simp] theorem State.start_img (t : Tmr) : (s.start p t).img = s.img := rfl
@[simp] theorem State.start_pwr (t : Tmr) : (s.start p t).pwr = s.pwr := rfl
@[simp] theorem State.start_bkp (t : Tmr) : (s.start p t).bkp = s.bkp := rfl
@[simp] theorem State.start_rst (t : Tmr) : (s.start p t).rst = s.rst := rfl
@[simp] theorem State.start_latB (t : Tmr) : (s.start p t).latB = s.latB := rfl
@[simp] theorem State.start_latT (t : Tmr) : (s.start p t).latT = s.latT := rfl
@[simp] theorem State.start_out (t : Tmr) : (s.start p t).out = s.out := rfl
@[simp] theorem State.start_fresh (t : Tmr) : (s.start p t).fresh = s.fresh := rfl
@[simp] theorem State.start_pending (t : Tmr) : (s.start p t).pending = s.pending := rfl
@[simp] theorem State.start_port_cc (t : Tmr) : ((s.start p t).port q).cc = (s.port q).cc := by
  simp only [State.start_eq, State.port_setPort]; split <;> simp_all
@[simp] theorem State.start_port_pd (t : Tmr) : ((s.start p t).port q).pd = (s.port q).pd := by
  simp only [State.start_eq, State.port_setPort]; split <;> simp_all
@[simp] theorem State.start_port_pol (t : Tmr) : ((s.start p t).port q).pol = (s.port q).pol := by
  simp only [State.start_eq, State.port_setPort]; split <;> simp_all
@[simp] theorem State.start_port_swap (t : Tmr) : ((s.start p t).port q).swap = (s.port q).swap := by
  simp only [State.start_eq, State.port_setPort]; split <;> simp_all
@[simp] theorem State.start_port_pod (t : Tmr) : ((s.start p t).port q).pod = (s.port q).pod := by
  simp only [State.start_eq, State.port_setPort]; split <;> simp_all
@[simp] theorem State.start_port_cnv (t : Tmr) : ((s.start p t).port q).cnv = (s.port q).cnv := by
  simp only [State.start_eq, State.port_setPort]; split <;> simp_all
@[simp] theorem State.start_port_ef (t : Tmr) : ((s.start p t).port q).ef = (s.port q).ef := by
  simp only [State.start_eq, State.port_setPort]; split <;> simp_all
@[simp] theorem State.start_port_wm (t : Tmr) : ((s.start p t).port q).wm = (s.port q).wm := by
  simp only [State.start_eq, State.port_setPort]; split <;> simp_all
@[simp] theorem State.start_port_mtr (t : Tmr) : ((s.start p t).port q).mtr = (s.port q).mtr := by
  simp only [State.start_eq, State.port_setPort]; split <;> simp_all
@[simp] theorem State.stop_tb (t : Tmr) : (s.stop p t).tb = s.tb := rfl
@[simp] theorem State.stop_sto (t : Tmr) : (s.stop p t).sto = s.sto := rfl
@[simp] theorem State.stop_hu (t : Tmr) : (s.stop p t).hu = s.hu := rfl
@[simp] theorem State.stop_bud (t : Tmr) : (s.stop p t).bud = s.bud := rfl
@[simp] theorem State.stop_pod (t : Tmr) : (s.stop p t).pod = s.pod := rfl
@[simp] theorem State.stop_ses (t : Tmr) : (s.stop p t).ses = s.ses := rfl
@[simp] theorem State.stop_hif (t : Tmr) : (s.stop p t).hif = s.hif := rfl
@[simp] theorem State.stop_flog (t : Tmr) : (s.stop p t).flog = s.flog := rfl
@[simp] theorem State.stop_wvl (t : Tmr) : (s.stop p t).wvl = s.wvl := rfl
@[simp] theorem State.stop_twi (t : Tmr) : (s.stop p t).twi = s.twi := rfl
@[simp] theorem State.stop_img (t : Tmr) : (s.stop p t).img = s.img := rfl
@[simp] theorem State.stop_pwr (t : Tmr) : (s.stop p t).pwr = s.pwr := rfl
@[simp] theorem State.stop_bkp (t : Tmr) : (s.stop p t).bkp = s.bkp := rfl
@[simp] theorem State.stop_rst (t : Tmr) : (s.stop p t).rst = s.rst := rfl
@[simp] theorem State.stop_latB (t : Tmr) : (s.stop p t).latB = s.latB := rfl
@[simp] theorem State.stop_latT (t : Tmr) : (s.stop p t).latT = s.latT := rfl
@[simp] theorem State.stop_out (t : Tmr) : (s.stop p t).out = s.out := rfl
@[simp] theorem State.stop_fresh (t : Tmr) : (s.stop p t).fresh = s.fresh := rfl
@[simp] theorem State.stop_pending (t : Tmr) : (s.stop p t).pending = s.pending := rfl
@[simp] theorem State.stop_port_cc (t : Tmr) : ((s.stop p t).port q).cc = (s.port q).cc := by
  simp only [State.stop_eq, State.port_setPort]; split <;> simp_all
@[simp] theorem State.stop_port_pd (t : Tmr) : ((s.stop p t).port q).pd = (s.port q).pd := by
  simp only [State.stop_eq, State.port_setPort]; split <;> simp_all
@[simp] theorem State.stop_port_pol (t : Tmr) : ((s.stop p t).port q).pol = (s.port q).pol := by
  simp only [State.stop_eq, State.port_setPort]; split <;> simp_all
@[simp] theorem State.stop_port_swap (t : Tmr) : ((s.stop p t).port q).swap = (s.port q).swap := by
  simp only [State.stop_eq, State.port_setPort]; split <;> simp_all
@[simp] theorem State.stop_port_pod (t : Tmr) : ((s.stop p t).port q).pod = (s.port q).pod := by
  simp only [State.stop_eq, State.port_setPort]; split <;> simp_all
@[simp] theorem State.stop_port_cnv (t : Tmr) : ((s.stop p t).port q).cnv = (s.port q).cnv := by
  simp only [State.stop_eq, State.port_setPort]; split <;> simp_all
@[simp] theorem State.stop_port_ef (t : Tmr) : ((s.stop p t).port q).ef = (s.port q).ef := by
  simp only [State.stop_eq, State.port_setPort]; split <;> simp_all
@[simp] theorem State.stop_port_wm (t : Tmr) : ((s.stop p t).port q).wm = (s.port q).wm := by
  simp only [State.stop_eq, State.port_setPort]; split <;> simp_all
@[simp] theorem State.stop_port_mtr (t : Tmr) : ((s.stop p t).port q).mtr = (s.port q).mtr := by
  simp only [State.stop_eq, State.port_setPort]; split <;> simp_all

/-! ### Cores -/

@[simp] theorem State.cores_get : s.wvl.cores[c.val] = s.core c := rfl

theorem State.core_modCore (s : State) (c n : Fin 4) (f : Core → Core) :
    (s.modCore c f).core n = if c = n then f (s.core n) else s.core n := by
  simp only [State.core, State.modCore, Vector.getElem_set, Fin.ext_iff]
  split
  · next h => simp [h]
  · rfl

@[simp] theorem State.core_modCore_self (f : Core → Core) : (s.modCore c f).core c = f (s.core c) := by simp [State.core_modCore]

theorem State.core_modCore_ne (f : Core → Core) (h : c ≠ n) : (s.modCore c f).core n = s.core n := by simp [State.core_modCore, h]

@[simp] theorem State.modCore_modCore (f g : Core → Core) : (s.modCore c f).modCore c g = s.modCore c fun k => g (f k) := by
  simp [State.modCore, Vector.set_set]

@[simp] theorem State.modCore_tb (f : Core → Core) : (s.modCore c f).tb = s.tb := rfl
@[simp] theorem State.modCore_sto (f : Core → Core) : (s.modCore c f).sto = s.sto := rfl
@[simp] theorem State.modCore_ports (f : Core → Core) : (s.modCore c f).ports = s.ports := rfl
@[simp] theorem State.modCore_hu (f : Core → Core) : (s.modCore c f).hu = s.hu := rfl
@[simp] theorem State.modCore_bud (f : Core → Core) : (s.modCore c f).bud = s.bud := rfl
@[simp] theorem State.modCore_pod (f : Core → Core) : (s.modCore c f).pod = s.pod := rfl
@[simp] theorem State.modCore_ses (f : Core → Core) : (s.modCore c f).ses = s.ses := rfl
@[simp] theorem State.modCore_hif (f : Core → Core) : (s.modCore c f).hif = s.hif := rfl
@[simp] theorem State.modCore_flog (f : Core → Core) : (s.modCore c f).flog = s.flog := rfl
@[simp] theorem State.modCore_twi (f : Core → Core) : (s.modCore c f).twi = s.twi := rfl
@[simp] theorem State.modCore_img (f : Core → Core) : (s.modCore c f).img = s.img := rfl
@[simp] theorem State.modCore_pwr (f : Core → Core) : (s.modCore c f).pwr = s.pwr := rfl
@[simp] theorem State.modCore_bkp (f : Core → Core) : (s.modCore c f).bkp = s.bkp := rfl
@[simp] theorem State.modCore_rst (f : Core → Core) : (s.modCore c f).rst = s.rst := rfl
@[simp] theorem State.modCore_latB (f : Core → Core) : (s.modCore c f).latB = s.latB := rfl
@[simp] theorem State.modCore_latT (f : Core → Core) : (s.modCore c f).latT = s.latT := rfl
@[simp] theorem State.modCore_out (f : Core → Core) : (s.modCore c f).out = s.out := rfl
@[simp] theorem State.modCore_fresh (f : Core → Core) : (s.modCore c f).fresh = s.fresh := rfl
@[simp] theorem State.modCore_pending (f : Core → Core) : (s.modCore c f).pending = s.pending := rfl
@[simp] theorem State.modCore_port (f : Core → Core) : (s.modCore c f).port p = s.port p := rfl
@[simp] theorem State.modCore_shared (f : Core → Core) : (s.modCore c f).wvl.shared = s.wvl.shared := rfl
@[simp] theorem State.core_setPort (x : Port) : (s.setPort p x).core c = s.core c := rfl

/-! ### What leaves the block, and free values -/

@[simp] theorem State.emit_tb (o : Out) : (s.emit o).tb = s.tb := rfl
@[simp] theorem State.emit_sto (o : Out) : (s.emit o).sto = s.sto := rfl
@[simp] theorem State.emit_ports (o : Out) : (s.emit o).ports = s.ports := rfl
@[simp] theorem State.emit_hu (o : Out) : (s.emit o).hu = s.hu := rfl
@[simp] theorem State.emit_bud (o : Out) : (s.emit o).bud = s.bud := rfl
@[simp] theorem State.emit_pod (o : Out) : (s.emit o).pod = s.pod := rfl
@[simp] theorem State.emit_ses (o : Out) : (s.emit o).ses = s.ses := rfl
@[simp] theorem State.emit_hif (o : Out) : (s.emit o).hif = s.hif := rfl
@[simp] theorem State.emit_flog (o : Out) : (s.emit o).flog = s.flog := rfl
@[simp] theorem State.emit_wvl (o : Out) : (s.emit o).wvl = s.wvl := rfl
@[simp] theorem State.emit_twi (o : Out) : (s.emit o).twi = s.twi := rfl
@[simp] theorem State.emit_img (o : Out) : (s.emit o).img = s.img := rfl
@[simp] theorem State.emit_pwr (o : Out) : (s.emit o).pwr = s.pwr := rfl
@[simp] theorem State.emit_bkp (o : Out) : (s.emit o).bkp = s.bkp := rfl
@[simp] theorem State.emit_rst (o : Out) : (s.emit o).rst = s.rst := rfl
@[simp] theorem State.emit_latB (o : Out) : (s.emit o).latB = s.latB := rfl
@[simp] theorem State.emit_latT (o : Out) : (s.emit o).latT = s.latT := rfl
@[simp] theorem State.emit_fresh (o : Out) : (s.emit o).fresh = s.fresh := rfl
@[simp] theorem State.emit_pending (o : Out) : (s.emit o).pending = s.pending := rfl
@[simp] theorem State.emit_out (o : Out) : (s.emit o).out = s.out ++ [o] := rfl
@[simp] theorem State.emit_port (o : Out) : (s.emit o).port p = s.port p := rfl
@[simp] theorem State.emit_core (o : Out) : (s.emit o).core c = s.core c := rfl

/-- A draw advances the counter of free values and nothing else. -/
@[simp] theorem State.draw_snd : s.draw.2 = { s with fresh := s.fresh + 1 } := rfl

/-- A fold of an operation that keeps a view of State keeps it. -/
theorem foldl_keeps {α β : Type} (v : State → β) (f : State → α → State) (h : ∀ s a, v (f s a) = v s) (l : List α) (s : State) :
    v (l.foldl f s) = v s := by
  induction l generalizing s with
  | nil => rfl
  | cons a l ih => rw [List.foldl_cons, ih, h]

/-- An operation for every port keeps what it keeps for one. -/
theorem State.forPorts_keeps {β : Type} (v : State → β) (f : State → PortId → State) (h : ∀ s p, v (f s p) = v s) (s : State) :
    v (s.forPorts f) = v s := foldl_keeps v f h _ s

end Sys2Proof.Machine
end

