-- ==== Sys2Proof/Laws/Events.lean ====
section
/-! SUPPORT. What recording and ending a command leave alone. `State.aside` is all of State but the Timebase's sequence numbers, the
store, the rings, the fault log, the two-wire alert and what has left the block: a record, a completion and a cell of the store touch
nothing of it. -/

namespace Sys2Proof.Machine

/-- The part of State that a record or a completion does not touch. -/
def State.aside (s : State) : Vector Port 16 × HoldupState × BudState × PodState × SesState × WvlState × ImgState × PwrState × BkpState
    × RstState × Latches × Latches × Nat × List Instr :=
  (s.ports, s.hu, s.bud, s.pod, s.ses, s.wvl, s.img, s.pwr, s.bkp, s.rst, s.latB, s.latT, s.fresh, s.pending)

variable {s t : State} {p : PortId} {f cause n : Nat}

/-- Equal parts aside are equal fields. -/
theorem State.aside_fields (h : t.aside = s.aside) : t.ports = s.ports ∧ t.hu = s.hu ∧ t.bud = s.bud ∧ t.pod = s.pod ∧ t.ses = s.ses
    ∧ t.wvl = s.wvl ∧ t.img = s.img ∧ t.pwr = s.pwr ∧ t.bkp = s.bkp ∧ t.rst = s.rst ∧ t.latB = s.latB ∧ t.latT = s.latT
    ∧ t.fresh = s.fresh ∧ t.pending = s.pending := by
  simpa only [State.aside, Prod.mk.injEq] using h

theorem State.port_of_aside (h : t.aside = s.aside) (p : PortId) : t.port p = s.port p := by
  unfold State.port; rw [(State.aside_fields h).1]

/-! ### The store -/

theorem State.setFlow_aside (x : Flow) : (s.setFlow f x).aside = s.aside := by unfold State.setFlow; split <;> rfl

theorem State.modFlow_aside (g : Flow → Flow) : (s.modFlow f g).aside = s.aside := State.setFlow_aside _

theorem State.noteRegain_aside : s.noteRegain.aside = s.aside :=
  foldl_keeps State.aside _ (fun t f => by
    split
    · split
      · exact State.modFlow_aside _
      · rfl
    · rfl) _ s

theorem State.freeCell_aside (i : Nat) : (s.freeCell f i).aside = s.aside := by
  have h : (s.modFlow f fun x => { x.giveBack with loose := x.loose.erase i }).aside = s.aside := State.modFlow_aside _
  unfold State.freeCell; dsimp only
  generalize (s.modFlow f fun x => { x.giveBack with loose := x.loose.erase i }) = u at h ⊢
  split
  · exact h
  · exact State.noteRegain_aside.trans h

theorem State.queueCell_aside (c : Cell) : (s.queueCell f c).aside = s.aside := State.modFlow_aside _

theorem State.takeCell_aside {i : Nat} (h : s.takeCell f = some (i, t)) : t.aside = s.aside := by
  simp only [State.takeCell] at h
  split at h
  · cases h
  · simp only [Option.some.injEq, Prod.mk.injEq] at h
    rw [← h.2]; exact State.setFlow_aside _

theorem State.putCell_aside {pay : List Payload} (h : s.putCell f pay = some t) : t.aside = s.aside := by
  simp only [State.putCell, Option.map_eq_some_iff] at h
  obtain ⟨⟨i, u⟩, h, rfl⟩ := h
  exact (State.modFlow_aside _).trans (State.takeCell_aside h)

theorem State.putRecord_aside {r : Payload} (h : s.putRecord f r = some t) : t.aside = s.aside := by
  simp only [State.putRecord] at h
  split at h
  · cases h; exact State.modFlow_aside _
  · exact State.putCell_aside h

theorem State.popCell_aside {c : Cell} (h : s.popCell f = some (c, t)) : t.aside = s.aside := by
  simp only [State.popCell] at h
  split at h
  · cases h
  · simp only [Option.some.injEq, Prod.mk.injEq] at h
    rw [← h.2]; exact (State.freeCell_aside _).trans (State.modFlow_aside _)

theorem State.readRecord_aside (q : Payload → Bool) : (s.readRecord f q).aside = s.aside :=
  (foldl_keeps State.aside _ (fun t i => by
    split
    · rfl
    · exact State.freeCell_aside _) _ _).trans (State.setFlow_aside _)

/-! ### Records -/

theorem State.number_aside : s.number.2.aside = s.aside := rfl

theorem State.logFault_aside (e : EvRec) : (s.logFault e).aside = s.aside := by
  unfold State.logFault; dsimp only; split <;> rfl

theorem State.markOoc_aside : (s.markOoc f).aside = s.aside := by
  unfold State.markOoc; split
  · exact State.modFlow_aside _
  · rfl

theorem State.enterFlow_aside (e : EvRec) : (s.enterFlow f e).aside = s.aside := by
  have h : ((s.putRecord f (.ev e)).getD s).aside = s.aside := by
    cases g : s.putRecord f (.ev e) with
    | none => rfl
    | some t => exact State.putRecord_aside g
  have k : (((s.putRecord f (.ev e)).getD s).markOoc f).aside = s.aside := State.markOoc_aside.trans h
  unfold State.enterFlow; dsimp only
  generalize ((s.putRecord f (.ev e)).getD s).markOoc f = u at k ⊢
  split <;> split <;> exact k

theorem State.countIn_aside (e : EvRec) : (s.countIn e f).aside = s.aside := State.setFlow_aside _

theorem State.enter_aside (e : EvRec) (fs : List Nat) : (s.enter e fs).aside = s.aside := by
  unfold State.enter; dsimp only; split
  · exact (State.logFault_aside _).trans (foldl_keeps State.aside _ (fun _ _ => State.countIn_aside _) _ _)
  · exact (State.logFault_aside _).trans ((foldl_keeps State.aside _ (fun _ _ => State.countIn_aside _) _ _).trans
      (foldl_keeps State.aside _ (fun _ _ => State.enterFlow_aside _) _ _))

theorem State.rollEra_aside : s.rollEra.aside = s.aside := by
  unfold State.rollEra; split
  · dsimp only; split
    · rfl
    · exact State.enter_aside _ _
  · rfl

theorem State.enterOne_aside (e : EvRec) : (s.enterOne f e).aside = s.aside :=
  (State.enterFlow_aside _).trans State.rollEra_aside

theorem State.flushCtrs_aside (f n : Nat) (s : State) : (State.flushCtrs f n s).aside = s.aside := by
  induction n generalizing s with
  | zero => rfl
  | succ n ih =>
    unfold State.flushCtrs; split
    · rfl
    · split
      · rfl
      · exact (ih _).trans ((State.enterOne_aside _).trans (State.modFlow_aside _))

theorem State.flush_aside : (s.flush f).aside = s.aside := by
  unfold State.flush; split
  · rfl
  · split
    · rfl
    · dsimp only; split
      · exact State.flushCtrs_aside _ _ _
      · split
        · exact State.markOoc_aside.trans ((State.setFlow_aside _).trans (State.flushCtrs_aside _ _ _))
        · exact (State.logFault_aside _).trans ((State.enterFlow_aside _).trans
            (State.rollEra_aside.trans ((State.setFlow_aside _).trans (State.flushCtrs_aside _ _ _))))

theorem State.offer_aside (e : EvRec) : (s.offer e).aside = s.aside := by
  have h : ((s.evFlows e.cls).foldl State.flush s).aside = s.aside := foldl_keeps State.aside _ (fun _ _ => State.flush_aside) _ _
  unfold State.offer; dsimp only
  refine (State.enter_aside _ _).trans ?_
  split
  · exact State.rollEra_aside.trans h
  · exact h

/-- An occurrence of a cause touches nothing aside, whatever the cause. -/
theorem State.event_aside (port : Nat) (d : Quad) : (s.event cause port d).aside = s.aside := State.offer_aside _
theorem State.eventP_aside (sub v : Nat) : (s.eventP cause p sub v).aside = s.aside := State.offer_aside _
theorem State.eventD_aside (fs : List (Nat × Nat × Nat)) : (s.eventD cause fs).aside = s.aside := State.offer_aside _
theorem State.eventO_aside (fs : List (Nat × Nat × Nat)) : (s.eventO cause p fs).aside = s.aside := State.offer_aside _

@[simp] theorem State.event_port (port : Nat) (d : Quad) (r : PortId) : (s.event cause port d).port r = s.port r :=
  State.port_of_aside (State.event_aside _ _) r
@[simp] theorem State.eventP_port (sub v : Nat) (r : PortId) : (s.eventP cause p sub v).port r = s.port r :=
  State.port_of_aside (State.eventP_aside _ _) r
@[simp] theorem State.eventD_port (fs : List (Nat × Nat × Nat)) (r : PortId) : (s.eventD cause fs).port r = s.port r :=
  State.port_of_aside (State.eventD_aside _) r
@[simp] theorem State.eventO_port (fs : List (Nat × Nat × Nat)) (r : PortId) : (s.eventO cause p fs).port r = s.port r :=
  State.port_of_aside (State.eventO_aside _) r

/-! ### The ends of commands -/

theorem State.modOut_aside (sq : Fin 16) (slot : BitVec 12) (g : OutDesc → OutDesc) : (s.modOut sq slot g).aside = s.aside := rfl

theorem State.putReserved_aside {r : Payload} (h : s.putReserved f r = some t) : t.aside = s.aside := by
  simp only [State.putReserved, Option.map_eq_some_iff] at h
  obtain ⟨u, h, rfl⟩ := h
  refine (State.modFlow_aside _).trans ?_
  split at h
  · exact State.putRecord_aside h
  · split at h
    · cases h; exact State.queueCell_aside _
    · exact State.putCell_aside h

theorem State.reserve_aside (h : s.reserve f = some t) : t.aside = s.aside := by
  simp only [State.reserve] at h
  split at h
  · cases h; exact State.modFlow_aside _
  · simp only [Option.map_eq_some_iff] at h
    obtain ⟨⟨i, u⟩, h, rfl⟩ := h
    exact (State.modFlow_aside _).trans (State.takeCell_aside h)

theorem State.drainSq_aside (sq : Fin 16) (n : Nat) (s : State) : (State.drainSq sq n s).aside = s.aside := by
  induction n generalizing s with
  | zero => rfl
  | succ n ih =>
    unfold State.drainSq; split
    · rfl
    · dsimp only; split
      · rfl
      · refine (ih _).trans (Eq.trans ?_ State.rollEra_aside)
        generalize s.rollEra = u
        cases g : u.number.2.putReserved _ _ with
        | none => rfl
        | some t =>
          have k : t.aside = u.number.2.aside := State.putReserved_aside g
          exact k.trans State.number_aside

theorem State.drain_aside (sq : Fin 16) : (s.drain sq).aside = s.aside := State.drainSq_aside _ _ _

/-- A descriptor's end touches nothing aside. -/
theorem State.finish_aside (d : Desc) (status : Nat) (r : Quad) : (s.finish d status r).aside = s.aside := State.drain_aside _

theorem State.dropCmd_aside (d : Desc) : (s.dropCmd d).aside = s.aside := State.readRecord_aside _

theorem State.enterTable_aside {d : Desc} {data : List Byte} (h : s.enterTable d data = some t) : t.aside = s.aside := by
  simp only [State.enterTable, Option.map_eq_some_iff, Option.bind_eq_some_iff] at h
  obtain ⟨u, ⟨v, h, g⟩, rfl⟩ := h
  exact (State.reserve_aside g).trans (State.putRecord_aside h)

theorem State.endWhere_aside (q : OutDesc → Bool) (status : Nat) : (s.endWhere q status).aside = s.aside :=
  (foldl_keeps State.aside _ (fun _ _ => State.drain_aside _) _ _).trans
    (foldl_keeps State.aside _ (fun _ _ => State.dropCmd_aside _) _ s)

theorem State.endPort_aside (status : Nat) (but : List Nat) : (s.endPort p status but).aside = s.aside := State.endWhere_aside _ _

theorem State.finishAll_aside (op : Nat) (status : Nat) (r : Quad) : (s.finishAll op p status r).aside = s.aside :=
  foldl_keeps State.aside _ (fun _ _ => State.finish_aside _ _ _) _ _

theorem State.setAux_aside (d : Desc) (v : Nat) : (s.setAux d v).aside = s.aside := rfl

@[simp] theorem State.finish_port (d : Desc) (status : Nat) (r : Quad) (q : PortId) : (s.finish d status r).port q = s.port q :=
  State.port_of_aside (State.finish_aside _ _ _) q
@[simp] theorem State.finishAll_port (op : Nat) (status : Nat) (r : Quad) (q : PortId) :
    (s.finishAll op p status r).port q = s.port q := State.port_of_aside (State.finishAll_aside _ _ _) q
@[simp] theorem State.endPort_port (status : Nat) (but : List Nat) (q : PortId) : (s.endPort p status but).port q = s.port q :=
  State.port_of_aside (State.endPort_aside _ _) q
@[simp] theorem State.endWhere_port (g : OutDesc → Bool) (status : Nat) (q : PortId) : (s.endWhere g status).port q = s.port q :=
  State.port_of_aside (State.endWhere_aside _ _) q

end Sys2Proof.Machine
end

