-- ==== Sys2Proof/Laws/Mem.lean ====
section
/-! SUPPORT. The byte memories: every write keeps the canonical form, a read finds what was written, and a write leaves the other
addresses alone. -/

namespace Sys2Proof.Machine

/-- Every listed address lies above a bound. -/
theorem Mem.wf_cons (d : Byte) (k : Nat) (v : Byte) (m : Mem) :
    Mem.wf d ((k, v) :: m) = true ↔ v ≠ d ∧ (∀ x ∈ m.head?, k < x.1) ∧ Mem.wf d m = true := by
  cases m with
  | nil => simp [Mem.wf]
  | cons x m => obtain ⟨k', v'⟩ := x; simp [Mem.wf, and_assoc]

/-- The head of a written memory is its old head or the address written. -/
theorem Mem.head_write (d : Byte) (m : Mem) (a : Nat) (v : Byte) (b : Nat) (hm : Mem.wf d m = true) (ha : b < a)
    (h : ∀ x ∈ m.head?, b < x.1) : ∀ x ∈ (m.write d a v).head?, b < x.1 := by
  cases m with
  | nil => simp only [Mem.write]; split <;> simp [ha]
  | cons y m =>
    obtain ⟨k, w⟩ := y
    have hk : b < k := h (k, w) (by simp)
    simp only [Mem.write]
    split
    · split <;> simp [hk, ha]
    · split
      · split
        · have := (Mem.wf_cons d k w m).1 hm
          intro x hx; exact Nat.lt_trans hk (this.2.1 x hx)
        · simp [ha]
      · simp [hk]

/-- A write keeps the canonical form. -/
theorem Mem.write_wf (d : Byte) (m : Mem) (a : Nat) (v : Byte) (hm : Mem.wf d m = true) : Mem.wf d (m.write d a v) = true := by
  induction m with
  | nil => simp only [Mem.write]; split <;> simp_all [Mem.wf]
  | cons y m ih =>
    obtain ⟨k, w⟩ := y
    have h := (Mem.wf_cons d k w m).1 hm
    simp only [Mem.write]
    split
    · split
      · exact hm
      · exact (Mem.wf_cons d a v _).2 ⟨by assumption, by simpa using by assumption, hm⟩
    · split
      · split
        · exact h.2.2
        · subst_vars; exact (Mem.wf_cons d _ v m).2 ⟨by assumption, h.2.1, h.2.2⟩
      · refine (Mem.wf_cons d k w _).2 ⟨h.1, ?_, ih h.2.2⟩
        exact Mem.head_write d m a v k h.2.2 (by omega) h.2.1

/-- A byte string written keeps the canonical form. -/
theorem Mem.writeN_wf (d : Byte) (bs : List Byte) (m : Mem) (a : Nat) (hm : Mem.wf d m = true) :
    Mem.wf d (m.writeN d a bs) = true := by
  induction bs generalizing m a with
  | nil => exact hm
  | cons b bs ih => exact ih _ _ (Mem.write_wf d m a b hm)

/-- An address below every listed one reads as unlisted. -/
theorem Mem.read_below (d : Byte) (m : Mem) (a : Nat) (h : ∀ x ∈ m.head?, a < x.1) : m.read d a = d := by
  cases m with
  | nil => rfl
  | cons y m => obtain ⟨k, w⟩ := y; have : a < k := h (k, w) (by simp); simp [Mem.read, this]; omega

/-- The byte written is read back, and every other byte reads as before. -/
theorem Mem.read_write (d : Byte) (m : Mem) (a b : Nat) (v : Byte) (hm : Mem.wf d m = true) :
    (m.write d a v).read d b = if b = a then v else m.read d b := by
  induction m with
  | nil =>
    by_cases hb : b = a
    · subst hb; by_cases hv : v = d <;> simp [Mem.write, Mem.read, hv]
    · by_cases hv : v = d <;> simp [Mem.write, Mem.read, hv, hb, Ne.symm hb]
  | cons y m ih =>
    obtain ⟨k, w⟩ := y
    have h := (Mem.wf_cons d k w m).1 hm
    have tail : ∀ c, c ≤ k → Mem.read d m c = d := fun c hc =>
      Mem.read_below d m c fun x hx => Nat.lt_of_le_of_lt hc (h.2.1 x hx)
    simp only [Mem.write]
    by_cases h1 : a < k
    · by_cases hv : v = d
      · by_cases hb : b = a
        · subst hb; simp [h1, hv, Mem.read]; omega
        · simp [h1, hv, hb]
      · by_cases hb : b = a
        · subst hb; simp [h1, hv, Mem.read]
        · simp only [h1, hv, if_true, if_false, Mem.read, hb, Ne.symm hb]
          split <;> split <;> simp_all <;> omega
    · by_cases h2 : k = a
      · subst h2
        by_cases hv : v = d
        · by_cases hb : b = k
          · subst hb; simp [hv, tail]
          · simp only [hv, if_true, lt_irrefl, if_false, hb, Mem.read, Ne.symm hb]
            split
            · exact tail b (by omega)
            · rfl
        · by_cases hb : b = k
          · subst hb; simp [hv, Mem.read]
          · simp [hv, Mem.read, hb, Ne.symm hb]
      · simp only [h1, h2, if_false, Mem.read, ih h.2.2]
        by_cases hb : b = a
        · subst hb; simp [h2, h1]
        · simp [hb]

/-- A byte string is read back byte by byte; outside it memory reads as before. -/
theorem Mem.read_writeN (d : Byte) (bs : List Byte) (m : Mem) (a b : Nat) (hm : Mem.wf d m = true) :
    (m.writeN d a bs).read d b = if a ≤ b ∧ b < a + bs.length then bs.getD (b - a) d else m.read d b := by
  induction bs generalizing m a with
  | nil => simp [Mem.writeN]
  | cons x bs ih =>
    rw [Mem.writeN, ih _ _ (Mem.write_wf d m a x hm), Mem.read_write d m a b x hm]
    by_cases h1 : b = a
    · subst h1; simp
    · by_cases h2 : a + 1 ≤ b ∧ b < a + 1 + bs.length
      · have : b - a = (b - (a + 1)) + 1 := by omega
        simp only [h2, and_self, if_true, List.length_cons, this, List.getD_cons_succ]
        rw [if_pos (by omega)]
      · rw [if_neg h2, if_neg h1, if_neg (by simp only [List.length_cons]; omega)]

/-- The length of a byte string read. -/
theorem Mem.readN_length (d : Byte) (m : Mem) (a n : Nat) : (m.readN d a n).length = n := by
  induction n generalizing a with
  | zero => rfl
  | succ n ih => simp [Mem.readN, ih]

end Sys2Proof.Machine
end

