-- ==== Sys2Proof/Laws/Invariants.lean ====
section
/-! SUPPORT. The two invariants, memories in canonical form and paths whose outputs are those of their state, by the fields they rest
on, and under the operations that write those fields. -/

namespace Sys2Proof.Machine

variable {s t : State} {p : PortId}

/-! ### Paths -/

theorem State.pathsOk_iff : s.pathsOk = true ↔ ∀ p, (s.port p).ef.pathOk = true := by
  simp [State.pathsOk]

/-- The invariant rests on the ports alone. -/
theorem State.pathsOk_of_ports (h : t.ports = s.ports) : t.pathsOk = s.pathsOk := by
  unfold State.pathsOk State.port; rw [h]

theorem State.pathsOk_of_aside (h : t.aside = s.aside) : t.pathsOk = s.pathsOk := State.pathsOk_of_ports (State.aside_fields h).1

/-- A port may be replaced by one whose path is in order. -/
theorem State.pathsOk_setPort {x : Port} (h : s.pathsOk = true) (hx : x.ef.pathOk = true) : (s.setPort p x).pathsOk = true := by
  rw [State.pathsOk_iff] at h ⊢
  intro q
  rw [State.port_setPort]
  split
  · exact hx
  · exact h q

/-- A change that keeps a port's path state and its three outputs keeps the invariant. -/
theorem EfState.pathOk_congr {e e' : EfState} (h1 : e'.path = e.path) (h2 : e'.gateOn = e.gateOn) (h3 : e'.bfCmd = e.bfCmd)
    (h4 : e'.bfOn = e.bfOn) : e'.pathOk = e.pathOk := by
  unfold EfState.pathOk; rw [h1, h2, h3, h4]

/-- Entering any path state leaves its own outputs. -/
theorem EfState.pathOk_enter (e : EfState) (st : PathSt) : (e.enter st).pathOk = true := by
  cases st <;> simp [EfState.pathOk, EfState.enter]

/-- With no output on, every path state is in order. -/
theorem EfState.pathOk_off {e : EfState} (h1 : e.gateOn = false) (h2 : e.bfCmd = false) (h3 : e.bfOn = false) : e.pathOk = true := by
  unfold EfState.pathOk; rw [h1, h2, h3]; rfl

/-- An invariant path never has both switches commanded on. -/
theorem EfState.pathOk_exclusive {e : EfState} (h : e.pathOk = true) (hf : e.path.live = true ∨ e.gateOn = true) :
    e.bfCmd = false ∧ e.bfOn = false := by
  unfold EfState.pathOk PathSt.live at *
  revert h hf
  cases e.path <;> cases e.gateOn <;> cases e.bfCmd <;> cases e.bfOn <;> simp

/-! ### Memories -/

/-- The invariant rests on the cores, the shared RAM and the flash alone. -/
theorem State.memWf_of_fields (h1 : t.wvl.cores = s.wvl.cores) (h2 : t.wvl.shared = s.wvl.shared) (h3 : t.img.flash = s.img.flash) :
    t.memWf = s.memWf := by
  unfold State.memWf; rw [h1, h2, h3]

theorem State.memWf_of_aside (h : t.aside = s.aside) : t.memWf = s.memWf := by
  obtain ⟨-, -, -, -, -, hw, hi, -⟩ := State.aside_fields h
  exact State.memWf_of_fields (by rw [hw]) (by rw [hw]) (by rw [hi])

theorem State.memWf_iff : s.memWf = true ↔ (∀ c, (s.core c).memWf = true) ∧ Mem.wf 0 s.wvl.shared = true
    ∧ Mem.wf 0xFF s.img.flash = true := by
  simp only [State.memWf, Bool.and_eq_true, List.all_eq_true, State.core, and_assoc]
  constructor
  · rintro ⟨h, h2, h3⟩
    exact ⟨fun c => h _ (Vector.mem_toList_iff.mpr (Vector.getElem_mem c.isLt)), h2, h3⟩
  · rintro ⟨h, h2, h3⟩
    refine ⟨fun k hk => ?_, h2, h3⟩
    obtain ⟨i, hi, rfl⟩ := Vector.mem_iff_getElem.mp (Vector.mem_toList_iff.mp hk)
    exact h ⟨i, hi⟩

/-- A core may be replaced by one whose memories are canonical. -/
theorem State.memWf_modCore {c : Fin 4} {f : Core → Core} (h : s.memWf = true) (hf : (f (s.core c)).memWf = true) :
    (s.modCore c f).memWf = true := by
  rw [State.memWf_iff] at h ⊢
  refine ⟨fun d => ?_, h.2.1, h.2.2⟩
  rw [State.core_modCore]
  split
  · next e => exact e ▸ hf
  · exact h.1 d

end Sys2Proof.Machine
end

