-- ==== Sys2Proof/WellFormed.lean ====
section
/-! DEFINITION. The well-formed commands: operands of the shapes and ranges that the spec gives them. The meanings are total all the
same; a command that is not well-formed is one the outside of the block cannot send. -/

namespace Sys2Proof

/-- A descriptor carries 52 parameter bytes (13 Table 13-4). -/
def Desc.wf (d : Desc) : Bool := d.params.length == 52

/-- A message's data objects, or its extended header and data, fill at most 262 bytes (05 R137). -/
def PdMsg.wf (m : PdMsg) : Bool := decide (m.data.length ≤ 262)

/-- What a two-wire transaction reports is in range (17 Table 17-5). -/
def TwcRes.wf : TwcRes → Bool
  | .arbLost _ bit phase _ => decide (bit ≤ 8 ∧ 1 ≤ phase ∧ phase ≤ 4)
  | .nack _ phase _ | .busError _ phase _ => decide (1 ≤ phase ∧ phase ≤ 4)
  | _ => true

/-- The operands of a command are as the spec gives them. -/
def Instr.wf : Instr → Bool
  | .nop d | .portEnable d | .portDisable d | .portReset d | .clearFault d | .hardReset d | .renegotiate d | .setpointTrim d
  | .roleSwap d | .vconnSwap d | .vconnSet d | .backfeedSet d | .phaseClear d | .sessionRead d | .sessionAck d | .calSet d
  | .podRelookup d | .authenticate d | .fleetMode d | .faultLogRead d | .imgActivate d | .imgConfirm d | .powerState d
  | .bufferDescriptor d => d.wf
  | .podWrite d block => d.wf && block.length % 64 == 0
  | .monitorTest d _ _ => d.wf
  | .twiXfer d wdata => d.wf && decide (wdata.length ≤ 224)
  | .imgBlock d block _ => d.wf && decide (block.length ≤ 65536)
  | .descriptorFetch _ bytes => bytes.length == 64
  | .hostFetchError _ why => decide (1 ≤ why ∧ why ≤ 3)
  | .eventOccurrence _ port _ => decide (port < 16 ∨ port = 0xFF)
  | .eventFlowFlush flow => decide (0x60 ≤ flow ∧ flow ≤ 0x65)
  | .creditReturn flow => decide (flow < 117)
  | .scrubRead cell _ _ | .cellRewriteCheck cell _ => decide (cell < 16384)
  | .calibrationCycle _ steps => steps.length == 16
  | .pdMessageReceived _ _ f => f.msg.wf
  | .pdtxMessage _ m _ => m.wf
  | .twcItem _ r | .arbRetry _ r => r.wf
  | .busRecovery _ _ _ pulses | .quarantineRetry _ _ _ pulses => decide (pulses ≤ 9)
  | .twcInband _ bytes => decide (1 ≤ bytes.length ∧ bytes.length ≤ 6)
  | _ => true

/-- The descriptor that a command carries. -/
def Instr.desc? : Instr → Option Desc
  | .nop d | .portEnable d | .portDisable d | .portReset d | .clearFault d | .hardReset d | .renegotiate d | .setpointTrim d
  | .roleSwap d | .vconnSwap d | .vconnSet d | .backfeedSet d | .phaseClear d | .sessionRead d | .sessionAck d | .calSet d
  | .podRelookup d | .authenticate d | .fleetMode d | .faultLogRead d | .imgActivate d | .imgConfirm d | .powerState d
  | .bufferDescriptor d | .podWrite d _ | .monitorTest d _ _ | .twiXfer d _ | .imgBlock d _ _ => some d
  | _ => none

end Sys2Proof
end

