-- ==== Sys2Proof/Laws/PerInstr.lean ====
section
/-! SUPPORT. One lemma per command: a well-formed command that carries a descriptor carries its 52 parameter bytes (13 Table 13-4). -/

set_option linter.unusedVariables false

namespace Sys2Proof.Laws.DescShape

/-- The descriptor of a well-formed command, if it carries one, has all its parameter bytes. -/
def Statement (i : Instr) : Prop := i.wf = true → ∀ d, i.desc? = some d → d.params.length = 52

/-- A command without a descriptor. -/
theorem of_none {i : Instr} (h : i.desc? = none) : Statement i := fun _ d hd => by rw [h] at hd; cases hd

/-- A command whose well-formedness takes in its descriptor's. -/
theorem of_desc {i : Instr} {d : Desc} (h : i.desc? = some d) (hw : i.wf = true → d.wf = true) : Statement i := fun w e he => by
  rw [h] at he
  cases he
  exact eq_of_beq (hw w)

theorem nop (d : Desc) : Statement (.nop d) := of_desc rfl id
theorem portEnable (d : Desc) : Statement (.portEnable d) := of_desc rfl id
theorem portDisable (d : Desc) : Statement (.portDisable d) := of_desc rfl id
theorem portReset (d : Desc) : Statement (.portReset d) := of_desc rfl id
theorem clearFault (d : Desc) : Statement (.clearFault d) := of_desc rfl id
theorem hardReset (d : Desc) : Statement (.hardReset d) := of_desc rfl id
theorem renegotiate (d : Desc) : Statement (.renegotiate d) := of_desc rfl id
theorem setpointTrim (d : Desc) : Statement (.setpointTrim d) := of_desc rfl id
theorem roleSwap (d : Desc) : Statement (.roleSwap d) := of_desc rfl id
theorem vconnSwap (d : Desc) : Statement (.vconnSwap d) := of_desc rfl id
theorem vconnSet (d : Desc) : Statement (.vconnSet d) := of_desc rfl id
theorem backfeedSet (d : Desc) : Statement (.backfeedSet d) := of_desc rfl id
theorem phaseClear (d : Desc) : Statement (.phaseClear d) := of_desc rfl id
theorem sessionRead (d : Desc) : Statement (.sessionRead d) := of_desc rfl id
theorem sessionAck (d : Desc) : Statement (.sessionAck d) := of_desc rfl id
theorem calSet (d : Desc) : Statement (.calSet d) := of_desc rfl id
theorem podWrite (d : Desc) (block : List Byte) : Statement (.podWrite d block) := of_desc rfl fun h => (Bool.and_eq_true_iff.mp h).1
theorem podRelookup (d : Desc) : Statement (.podRelookup d) := of_desc rfl id
theorem authenticate (d : Desc) : Statement (.authenticate d) := of_desc rfl id
theorem fleetMode (d : Desc) : Statement (.fleetMode d) := of_desc rfl id
theorem monitorTest (d : Desc) (leg0 : Option Nat) (leg1 : Option Nat) : Statement (.monitorTest d leg0 leg1) := of_desc rfl id
theorem twiXfer (d : Desc) (wdata : List Byte) : Statement (.twiXfer d wdata) := of_desc rfl fun h => (Bool.and_eq_true_iff.mp h).1
theorem faultLogRead (d : Desc) : Statement (.faultLogRead d) := of_desc rfl id
theorem imgBlock (d : Desc) (block : List Byte) (fails : Nat) : Statement (.imgBlock d block fails) := of_desc rfl fun h => (Bool.and_eq_true_iff.mp h).1
theorem imgActivate (d : Desc) : Statement (.imgActivate d) := of_desc rfl id
theorem imgConfirm (d : Desc) : Statement (.imgConfirm d) := of_desc rfl id
theorem powerState (d : Desc) : Statement (.powerState d) := of_desc rfl id
theorem bufferDescriptor (d : Desc) : Statement (.bufferDescriptor d) := of_desc rfl id
theorem deferredStart (sq : Fin 16) (slot : BitVec 12) : Statement (.deferredStart sq slot) := of_none rfl
theorem deferTimeout (sq : Fin 16) (slot : BitVec 12) : Statement (.deferTimeout sq slot) := of_none rfl
theorem sqTailDoorbell (sq : Fin 16) (v : Word) : Statement (.sqTailDoorbell sq v) := of_none rfl
theorem cqHeadDoorbell (cq : Fin 16) (v : Word) : Statement (.cqHeadDoorbell cq v) := of_none rfl
theorem eqHeadDoorbell (v : Word) : Statement (.eqHeadDoorbell v) := of_none rfl
theorem descriptorFetch (sq : Fin 16) (bytes : List Byte) : Statement (.descriptorFetch sq bytes) := of_none rfl
theorem hostFetchError (sq : Fin 16) (why : Nat) : Statement (.hostFetchError sq why) := of_none rfl
theorem hostRecordWrite : Statement (.hostRecordWrite) := of_none rfl
theorem moderationTimerExpiry (q : Option (Fin 16)) (sev : Fin 4) : Statement (.moderationTimerExpiry q sev) := of_none rfl
theorem msixUnmask (vec : Fin 32) : Statement (.msixUnmask vec) := of_none rfl
theorem streamFlushExpiry (meter : Bool) : Statement (.streamFlushExpiry meter) := of_none rfl
theorem queueCreate : Statement (.queueCreate) := of_none rfl
theorem queueDelete : Statement (.queueDelete) := of_none rfl
theorem discardOrphans : Statement (.discardOrphans) := of_none rfl
theorem ringSelWrite (v : Word) : Statement (.ringSelWrite v) := of_none rfl
theorem functionLevelReset (k : FlrKind) : Statement (.functionLevelReset k) := of_none rfl
theorem pciPmStateChange (d3 : Bool) (bme : Bool) : Statement (.pciPmStateChange d3 bme) := of_none rfl
theorem l1EntryRequest : Statement (.l1EntryRequest) := of_none rfl
theorem registerWrite (i : Iface) (off : BitVec 20) (v : Word) : Statement (.registerWrite i off v) := of_none rfl
theorem rcRead (i : Iface) (off : BitVec 20) : Statement (.rcRead i off) := of_none rfl
theorem loLatchRead (i : Iface) (off : BitVec 20) : Statement (.loLatchRead i off) := of_none rfl
theorem limitWrite (i : Iface) (v : Word) : Statement (.limitWrite i v) := of_none rfl
theorem lockSet (i : Iface) (v : Word) : Statement (.lockSet i v) := of_none rfl
theorem flogData0Read (i : Iface) : Statement (.flogData0Read i) := of_none rfl
theorem flogData7LastRead (i : Iface) : Statement (.flogData7LastRead i) := of_none rfl
theorem podReadSlot : Statement (.podReadSlot) := of_none rfl
theorem podWriteSlot : Statement (.podWriteSlot) := of_none rfl
theorem podDeleteSlot : Statement (.podDeleteSlot) := of_none rfl
theorem warmReset (i : Iface) (v : Word) : Statement (.warmReset i v) := of_none rfl
theorem warmResetProceed : Statement (.warmResetProceed) := of_none rfl
theorem bkpSet (v : Word) : Statement (.bkpSet v) := of_none rfl
theorem tamperLatchClear (v : Word) : Statement (.tamperLatchClear v) := of_none rfl
theorem coreHold (n : Fin 4) (hold : Bool) : Statement (.coreHold n hold) := of_none rfl
theorem coreHalt (n : Fin 4) (halt : Bool) : Statement (.coreHalt n halt) := of_none rfl
theorem coreRestart (n : Fin 4) : Statement (.coreRestart n) := of_none rfl
theorem twtMapSelWrite (v : Byte) : Statement (.twtMapSelWrite v) := of_none rfl
theorem eventOccurrence (cause : Nat) (port : Nat) (data : Quad) : Statement (.eventOccurrence cause port data) := of_none rfl
theorem eventFlowFlush (flow : Nat) : Statement (.eventFlowFlush flow) := of_none rfl
theorem creditReturn (flow : Nat) : Statement (.creditReturn flow) := of_none rfl
theorem scrubRead (cell : Nat) (word : Fin 32) (r : EccRes) : Statement (.scrubRead cell word r) := of_none rfl
theorem cellRewriteCheck (cell : Nat) (bad : Bool) : Statement (.cellRewriteCheck cell bad) := of_none rfl
theorem timebaseLost (noEdge : Bool) : Statement (.timebaseLost noEdge) := of_none rfl
theorem timebaseRestored : Statement (.timebaseRestored) := of_none rfl
theorem calibrationCycle (us : Nat) (steps : List Nat) : Statement (.calibrationCycle us steps) := of_none rfl
theorem eraWriteRetry (ok : Bool) : Statement (.eraWriteRetry ok) := of_none rfl
theorem ccAttachDetected (p : PortId) : Statement (.ccAttachDetected p) := of_none rfl
theorem probeSample (p : PortId) (r1 : Option Nat) (r2 : Option Nat) : Statement (.probeSample p r1 r2) := of_none rfl
theorem reprobeExpiry (p : PortId) : Statement (.reprobeExpiry p) := of_none rfl
theorem tccDebounceExpiry (p : PortId) : Statement (.tccDebounceExpiry p) := of_none rfl
theorem tpdDebounceExpiry (p : PortId) (onVbus : Bool) : Statement (.tpdDebounceExpiry p onVbus) := of_none rfl
theorem vconnFault (p : PortId) (why : Nat) (ma : Nat) : Statement (.vconnFault p why ma) := of_none rfl
theorem holdoffExpiry (p : PortId) : Statement (.holdoffExpiry p) := of_none rfl
theorem pdMessageReceived (p : PortId) (pin : Pin) (m : PdFrame) : Statement (.pdMessageReceived p pin m) := of_none rfl
theorem goodcrcReceived (p : PortId) (sopx : Sopx) (id : BitVec 3) : Statement (.goodcrcReceived p sopx id) := of_none rfl
theorem frameCrcError (p : PortId) : Statement (.frameCrcError p) := of_none rfl
theorem treceiveExpiry (p : PortId) : Statement (.treceiveExpiry p) := of_none rfl
theorem channelIdle (p : PortId) : Statement (.channelIdle p) := of_none rfl
theorem pdtxMessage (p : PortId) (m : PdMsg) (prod : PdProd) : Statement (.pdtxMessage p m prod) := of_none rfl
theorem hardResetReceived (p : PortId) : Statement (.hardResetReceived p) := of_none rfl
theorem hardResetSignallingEnd (p : PortId) : Statement (.hardResetSignallingEnd p) := of_none rfl
theorem cableResetReceived (p : PortId) : Statement (.cableResetReceived p) := of_none rfl
theorem chunkTimerExpiry (p : PortId) : Statement (.chunkTimerExpiry p) := of_none rfl
theorem amsStartWaitExpiry (p : PortId) : Statement (.amsStartWaitExpiry p) := of_none rfl
theorem sinktxokRead (r : RpRead) : Statement (.sinktxokRead r) := of_none rfl
theorem sendSourceCapExpiry (p : PortId) : Statement (.sendSourceCapExpiry p) := of_none rfl
theorem senderResponseExpiry (p : PortId) : Statement (.senderResponseExpiry p) := of_none rfl
theorem srcTransitionExpiry (p : PortId) : Statement (.srcTransitionExpiry p) := of_none rfl
theorem transitionLimitExpiry (p : PortId) : Statement (.transitionLimitExpiry p) := of_none rfl
theorem ppsTimeoutExpiry (p : PortId) : Statement (.ppsTimeoutExpiry p) := of_none rfl
theorem eprKeepAliveExpiry (p : PortId) : Statement (.eprKeepAliveExpiry p) := of_none rfl
theorem cableDiscTimeout (p : PortId) : Statement (.cableDiscTimeout p) := of_none rfl
theorem vdmBusyExpiry (p : PortId) : Statement (.vdmBusyExpiry p) := of_none rfl
theorem vdmResponseTimeout (p : PortId) : Statement (.vdmResponseTimeout p) := of_none rfl
theorem vbusInBand (p : PortId) (mv : Nat) : Statement (.vbusInBand p mv) := of_none rfl
theorem allocationRound : Statement (.allocationRound) := of_none rfl
theorem renegotiationCaps (p : PortId) : Statement (.renegotiationCaps p) := of_none rfl
theorem budgetHardResetExpiry : Statement (.budgetHardResetExpiry) := of_none rfl
theorem connectorTempRead (p : PortId) (deciC : Int) : Statement (.connectorTempRead p deciC) := of_none rfl
theorem cableRediscovery (p : PortId) : Statement (.cableRediscovery p) := of_none rfl
theorem waitSpacingExpiry (p : PortId) : Statement (.waitSpacingExpiry p) := of_none rfl
theorem psHardResetExpiry (p : PortId) : Statement (.psHardResetExpiry p) := of_none rfl
theorem srcRecoverExpiry (p : PortId) : Statement (.srcRecoverExpiry p) := of_none rfl
theorem psSourceOnExpiry (p : PortId) : Statement (.psSourceOnExpiry p) := of_none rfl
theorem psSourceOffExpiry (p : PortId) : Statement (.psSourceOffExpiry p) := of_none rfl
theorem psTransitionExpiry (p : PortId) : Statement (.psTransitionExpiry p) := of_none rfl
theorem sinkWaitCapExpiry (p : PortId) : Statement (.sinkWaitCapExpiry p) := of_none rfl
theorem vconnSourceTimeoutExpiry (p : PortId) : Statement (.vconnSourceTimeoutExpiry p) := of_none rfl
theorem frSwapWaitExpiry (p : PortId) : Statement (.frSwapWaitExpiry p) := of_none rfl
theorem takeoverLimitExpiry (p : PortId) : Statement (.takeoverLimitExpiry p) := of_none rfl
theorem holdupVbusLow (p : PortId) : Statement (.holdupVbusLow p) := of_none rfl
theorem backfeedClose (p : PortId) : Statement (.backfeedClose p) := of_none rfl
theorem returnCriterion (p : PortId) : Statement (.returnCriterion p) := of_none rfl
theorem holdupReturnRetry (p : PortId) : Statement (.holdupReturnRetry p) := of_none rfl
theorem armedSetRecompute : Statement (.armedSetRecompute) := of_none rfl
theorem getSinkCapStart (p : PortId) : Statement (.getSinkCapStart p) := of_none rfl
theorem discoverIdentityStart (p : PortId) : Statement (.discoverIdentityStart p) := of_none rfl
theorem fleetModeEntry (p : PortId) : Statement (.fleetModeEntry p) := of_none rfl
theorem fleetEnterModeTimeout (p : PortId) : Statement (.fleetEnterModeTimeout p) := of_none rfl
theorem identityDigest (p : PortId) (cable : Bool) : Statement (.identityDigest p cable) := of_none rfl
theorem podLookup (p : PortId) : Statement (.podLookup p) := of_none rfl
theorem authResult (p : PortId) : Statement (.authResult p) := of_none rfl
theorem authTimeout (p : PortId) : Statement (.authTimeout p) := of_none rfl
theorem vdmtxItem (p : PortId) : Statement (.vdmtxItem p) := of_none rfl
theorem vdmAnswerTimeout (p : PortId) : Statement (.vdmAnswerTimeout p) := of_none rfl
theorem controlUpdate (p : PortId) (meas : CnvMeas) : Statement (.controlUpdate p meas) := of_none rfl
theorem phaseShed (p : PortId) : Statement (.phaseShed p) := of_none rfl
theorem swarmFire (dip : SwarmDip) : Statement (.swarmFire dip) := of_none rfl
theorem swarmEnd (p : PortId) : Statement (.swarmEnd p) := of_none rfl
theorem peakLimit (p : PortId) (ph : Ph) (mv : Nat) : Statement (.peakLimit p ph mv) := of_none rfl
theorem phaseFailureDeclared (p : PortId) (ph : Ph) (rule : FailRule) : Statement (.phaseFailureDeclared p ph rule) := of_none rfl
theorem isolationCheck (p : PortId) (m : IsoMeas) : Statement (.isolationCheck p m) := of_none rfl
theorem dividerCorrection (p : PortId) (vout : Int) (vsns : Int) : Statement (.dividerCorrection p vout vsns) := of_none rfl
theorem compensationSample (p : PortId) (vout : Int) (vsns : Int) (ma : Int) : Statement (.compensationSample p vout vsns ma) := of_none rfl
theorem txslewLimitExpiry (p : PortId) : Statement (.txslewLimitExpiry p) := of_none rfl
theorem vsafe0vProven (p : PortId) : Statement (.vsafe0vProven p) := of_none rfl
theorem gateRiseComplete (p : PortId) : Statement (.gateRiseComplete p) := of_none rfl
theorem gateRiseTimeout (p : PortId) (mv : Nat) : Statement (.gateRiseTimeout p mv) := of_none rfl
theorem inrushTimeout (p : PortId) : Statement (.inrushTimeout p) := of_none rfl
theorem softstartTimeout (p : PortId) : Statement (.softstartTimeout p) := of_none rfl
theorem vbusUnexpected (p : PortId) : Statement (.vbusUnexpected p) := of_none rfl
theorem passFetShorted (p : PortId) : Statement (.passFetShorted p) := of_none rfl
theorem goodServiceExpiry (p : PortId) : Statement (.goodServiceExpiry p) := of_none rfl
theorem backfeedOpened (p : PortId) (cause : BfCause) : Statement (.backfeedOpened p cause) := of_none rfl
theorem backfeedReclose (p : PortId) : Statement (.backfeedReclose p) := of_none rfl
theorem monitorCrossing (p : PortId) (m : Fin 32) (e : Edge) (code : BitVec 10) : Statement (.monitorCrossing p m e code) := of_none rfl
theorem monitorReturn (p : PortId) (m : Fin 32) (r : MonReturn) : Statement (.monitorReturn p m r) := of_none rfl
theorem thresholdSettled (p : PortId) (m : Fin 32) : Statement (.thresholdSettled p m) := of_none rfl
theorem legCheck (p : PortId) (m : Fin 8) (fail : Option (LegChk × Int)) : Statement (.legCheck p m fail) := of_none rfl
theorem generalMonitorCheck (p : PortId) (m : Fin 32) (fail : Option (LegChk × Int)) : Statement (.generalMonitorCheck p m fail) := of_none rfl
theorem meteringSample (p : PortId) (uv : Int) (ua : Int) : Statement (.meteringSample p uv ua) := of_none rfl
theorem meteringInterval (p : PortId) : Statement (.meteringInterval p) := of_none rfl
theorem sessionContextUpdate (p : PortId) : Statement (.sessionContextUpdate p) := of_none rfl
theorem snapshot : Statement (.snapshot) := of_none rfl
theorem journalWrite (ok : Bool) : Statement (.journalWrite ok) := of_none rfl
theorem journalRetry (ok : Bool) : Statement (.journalRetry ok) := of_none rfl
theorem journalScan : Statement (.journalScan) := of_none rfl
theorem add (c : Fin 4) (f : Fetch) (i : InsR) : Statement (.add c f i) := of_none rfl
theorem sub (c : Fin 4) (f : Fetch) (i : InsR) : Statement (.sub c f i) := of_none rfl
theorem adc (c : Fin 4) (f : Fetch) (i : InsR) : Statement (.adc c f i) := of_none rfl
theorem sbc (c : Fin 4) (f : Fetch) (i : InsR) : Statement (.sbc c f i) := of_none rfl
theorem and (c : Fin 4) (f : Fetch) (i : InsR) : Statement (.and c f i) := of_none rfl
theorem or (c : Fin 4) (f : Fetch) (i : InsR) : Statement (.or c f i) := of_none rfl
theorem xor (c : Fin 4) (f : Fetch) (i : InsR) : Statement (.xor c f i) := of_none rfl
theorem andn (c : Fin 4) (f : Fetch) (i : InsR) : Statement (.andn c f i) := of_none rfl
theorem sll (c : Fin 4) (f : Fetch) (i : InsR) : Statement (.sll c f i) := of_none rfl
theorem srl (c : Fin 4) (f : Fetch) (i : InsR) : Statement (.srl c f i) := of_none rfl
theorem sra (c : Fin 4) (f : Fetch) (i : InsR) : Statement (.sra c f i) := of_none rfl
theorem ror (c : Fin 4) (f : Fetch) (i : InsR) : Statement (.ror c f i) := of_none rfl
theorem slli (c : Fin 4) (f : Fetch) (i : InsR) : Statement (.slli c f i) := of_none rfl
theorem srli (c : Fin 4) (f : Fetch) (i : InsR) : Statement (.srli c f i) := of_none rfl
theorem srai (c : Fin 4) (f : Fetch) (i : InsR) : Statement (.srai c f i) := of_none rfl
theorem rori (c : Fin 4) (f : Fetch) (i : InsR) : Statement (.rori c f i) := of_none rfl
theorem mul (c : Fin 4) (f : Fetch) (i : InsR) : Statement (.mul c f i) := of_none rfl
theorem mulhu (c : Fin 4) (f : Fetch) (i : InsR) : Statement (.mulhu c f i) := of_none rfl
theorem mulhs (c : Fin 4) (f : Fetch) (i : InsR) : Statement (.mulhs c f i) := of_none rfl
theorem divu (c : Fin 4) (f : Fetch) (i : InsR) : Statement (.divu c f i) := of_none rfl
theorem divs (c : Fin 4) (f : Fetch) (i : InsR) : Statement (.divs c f i) := of_none rfl
theorem remu (c : Fin 4) (f : Fetch) (i : InsR) : Statement (.remu c f i) := of_none rfl
theorem rems (c : Fin 4) (f : Fetch) (i : InsR) : Statement (.rems c f i) := of_none rfl
theorem cmp (c : Fin 4) (f : Fetch) (i : InsR) : Statement (.cmp c f i) := of_none rfl
theorem tst (c : Fin 4) (f : Fetch) (i : InsR) : Statement (.tst c f i) := of_none rfl
theorem min (c : Fin 4) (f : Fetch) (i : InsR) : Statement (.min c f i) := of_none rfl
theorem max (c : Fin 4) (f : Fetch) (i : InsR) : Statement (.max c f i) := of_none rfl
theorem minu (c : Fin 4) (f : Fetch) (i : InsR) : Statement (.minu c f i) := of_none rfl
theorem maxu (c : Fin 4) (f : Fetch) (i : InsR) : Statement (.maxu c f i) := of_none rfl
theorem clz (c : Fin 4) (f : Fetch) (i : InsR) : Statement (.clz c f i) := of_none rfl
theorem rev (c : Fin 4) (f : Fetch) (i : InsR) : Statement (.rev c f i) := of_none rfl
theorem sextb (c : Fin 4) (f : Fetch) (i : InsR) : Statement (.sextb c f i) := of_none rfl
theorem sexth (c : Fin 4) (f : Fetch) (i : InsR) : Statement (.sexth c f i) := of_none rfl
theorem addi (c : Fin 4) (f : Fetch) (i : InsI) : Statement (.addi c f i) := of_none rfl
theorem andi (c : Fin 4) (f : Fetch) (i : InsI) : Statement (.andi c f i) := of_none rfl
theorem ori (c : Fin 4) (f : Fetch) (i : InsI) : Statement (.ori c f i) := of_none rfl
theorem xori (c : Fin 4) (f : Fetch) (i : InsI) : Statement (.xori c f i) := of_none rfl
theorem cmpi (c : Fin 4) (f : Fetch) (i : InsI) : Statement (.cmpi c f i) := of_none rfl
theorem tsti (c : Fin 4) (f : Fetch) (i : InsI) : Statement (.tsti c f i) := of_none rfl
theorem lui (c : Fin 4) (f : Fetch) (i : InsI) : Statement (.lui c f i) := of_none rfl
theorem addpc (c : Fin 4) (f : Fetch) (i : InsI) : Statement (.addpc c f i) := of_none rfl
theorem lb (c : Fin 4) (f : Fetch) (i : InsM) : Statement (.lb c f i) := of_none rfl
theorem lbu (c : Fin 4) (f : Fetch) (i : InsM) : Statement (.lbu c f i) := of_none rfl
theorem lh (c : Fin 4) (f : Fetch) (i : InsM) : Statement (.lh c f i) := of_none rfl
theorem lhu (c : Fin 4) (f : Fetch) (i : InsM) : Statement (.lhu c f i) := of_none rfl
theorem lw (c : Fin 4) (f : Fetch) (i : InsM) : Statement (.lw c f i) := of_none rfl
theorem sb (c : Fin 4) (f : Fetch) (i : InsM) : Statement (.sb c f i) := of_none rfl
theorem sh (c : Fin 4) (f : Fetch) (i : InsM) : Statement (.sh c f i) := of_none rfl
theorem sw (c : Fin 4) (f : Fetch) (i : InsM) : Statement (.sw c f i) := of_none rfl
theorem bcc (c : Fin 4) (f : Fetch) (cond : BitVec 4) (off : BitVec 22) : Statement (.bcc c f cond off) := of_none rfl
theorem bl (c : Fin 4) (f : Fetch) (off : BitVec 26) : Statement (.bl c f off) := of_none rfl
theorem jalr (c : Fin 4) (f : Fetch) (rd : Reg) (ra : Reg) (z : BitVec 18) : Statement (.jalr c f rd ra z) := of_none rfl
theorem amo (c : Fin 4) (f : Fetch) (rd : Reg) (ra : Reg) (rb : Reg) (op : BitVec 2) (z : BitVec 12) : Statement (.amo c f rd ra rb op z) := of_none rfl
theorem trap (c : Fin 4) (f : Fetch) (i : InsS) : Statement (.trap c f i) := of_none rfl
theorem rfe (c : Fin 4) (f : Fetch) (i : InsS) : Statement (.rfe c f i) := of_none rfl
theorem wait (c : Fin 4) (f : Fetch) (i : InsS) : Statement (.wait c f i) := of_none rfl
theorem fence (c : Fin 4) (f : Fetch) (i : InsS) : Statement (.fence c f i) := of_none rfl
theorem crr (c : Fin 4) (f : Fetch) (i : InsS) : Statement (.crr c f i) := of_none rfl
theorem crw (c : Fin 4) (f : Fetch) (i : InsS) : Statement (.crw c f i) := of_none rfl
theorem brk (c : Fin 4) (f : Fetch) (i : InsS) : Statement (.brk c f i) := of_none rfl
theorem waitResume (c : Fin 4) : Statement (.waitResume c) := of_none rfl
theorem interruptTaken (c : Fin 4) : Statement (.interruptTaken c) := of_none rfl
theorem tcmpMatch (c : Fin 4) : Statement (.tcmpMatch c) := of_none rfl
theorem watchdogExpiry (c : Fin 4) : Statement (.watchdogExpiry c) := of_none rfl
theorem coreAutoRestart (c : Fin 4) : Statement (.coreAutoRestart c) := of_none rfl
theorem wdkick (c : Fin 4) (v : Word) : Statement (.wdkick c v) := of_none rfl
theorem sigSend (c : Fin 4) (v : Word) : Statement (.sigSend c v) := of_none rfl
theorem portmapApplied (p : PortId) : Statement (.portmapApplied p) := of_none rfl
theorem bind (c : Fin 4) (fp : Fin 16) (v : Word) : Statement (.bind c fp v) := of_none rfl
theorem take (c : Fin 4) (fp : Fin 16) : Statement (.take c fp) := of_none rfl
theorem release (c : Fin 4) (fp : Fin 16) : Statement (.release c fp) := of_none rfl
theorem alloc (c : Fin 4) (fp : Fin 16) : Statement (.alloc c fp) := of_none rfl
theorem commit (c : Fin 4) (fp : Fin 16) : Statement (.commit c fp) := of_none rfl
theorem abandon (c : Fin 4) (fp : Fin 16) : Statement (.abandon c fp) := of_none rfl
theorem cancel (c : Fin 4) (fp : Fin 16) : Statement (.cancel c fp) := of_none rfl
theorem flowPortWaitDone (c : Fin 4) (fp : Fin 16) : Statement (.flowPortWaitDone c fp) := of_none rfl
theorem ppRead (c : Fin 4) : Statement (.ppRead c) := of_none rfl
theorem ppWrite (c : Fin 4) : Statement (.ppWrite c) := of_none rfl
theorem ppDelete (c : Fin 4) : Statement (.ppDelete c) := of_none rfl
theorem sha256 (c : Fin 4) (cont : Bool) (final : Bool) : Statement (.sha256 c cont final) := of_none rfl
theorem ecdsaVerify (c : Fin 4) (slot : BitVec 3) : Statement (.ecdsaVerify c slot) := of_none rfl
theorem ecdsaSign (c : Fin 4) (slot : BitVec 3) : Statement (.ecdsaSign c slot) := of_none rfl
theorem aesCtr (c : Fin 4) (slot : BitVec 3) : Statement (.aesCtr c slot) := of_none rfl
theorem aesCbcEncrypt (c : Fin 4) (slot : BitVec 3) : Statement (.aesCbcEncrypt c slot) := of_none rfl
theorem aesCbcDecrypt (c : Fin 4) (slot : BitVec 3) : Statement (.aesCbcDecrypt c slot) := of_none rfl
theorem random (c : Fin 4) : Statement (.random c) := of_none rfl
theorem cryptoJobDone (err : Bool) : Statement (.cryptoJobDone err) := of_none rfl
theorem twtRegisterWrite (addr : BitVec 7) (bytes : List Byte) : Statement (.twtRegisterWrite addr bytes) := of_none rfl
theorem twtRegisterRead (addr : BitVec 7) (bytes : List Byte) (n : Nat) : Statement (.twtRegisterRead addr bytes n) := of_none rfl
theorem twtEventRead (addr : BitVec 7) (n : Nat) : Statement (.twtEventRead addr n) := of_none rfl
theorem alertResponse : Statement (.alertResponse) := of_none rfl
theorem inBandRequest : Statement (.inBandRequest) := of_none rfl
theorem ibrResendExpiry : Statement (.ibrResendExpiry) := of_none rfl
theorem twtTimeout (addr : BitVec 7) (n : Nat) : Statement (.twtTimeout addr n) := of_none rfl
theorem twcItem (b : Fin 4) (r : TwcRes) : Statement (.twcItem b r) := of_none rfl
theorem arbRetry (b : Fin 4) (r : TwcRes) : Statement (.arbRetry b r) := of_none rfl
theorem stretchTimeout (b : Fin 4) (n : Nat) : Statement (.stretchTimeout b n) := of_none rfl
theorem busRecovery (b : Fin 4) (sda : Bool) (scl : Bool) (pulses : Nat) : Statement (.busRecovery b sda scl pulses) := of_none rfl
theorem quarantineRetry (b : Fin 4) (sda : Bool) (scl : Bool) (pulses : Nat) : Statement (.quarantineRetry b sda scl pulses) := of_none rfl
theorem twcInband (b : Fin 4) (bytes : List Byte) : Statement (.twcInband b bytes) := of_none rfl
theorem coreReady (n : Fin 4) (ok : Bool) : Statement (.coreReady n ok) := of_none rfl
theorem healthWindowExpiry : Statement (.healthWindowExpiry) := of_none rfl
theorem idleEntry : Statement (.idleEntry) := of_none rfl
theorem quiesceComplete : Statement (.quiesceComplete) := of_none rfl
theorem quiesceTimeout : Statement (.quiesceTimeout) := of_none rfl
theorem dozeTimerExpiry : Statement (.dozeTimerExpiry) := of_none rfl
theorem hibernateTimerExpiry : Statement (.hibernateTimerExpiry) := of_none rfl
theorem wakeFromDoze : Statement (.wakeFromDoze) := of_none rfl
theorem wakeFromHibernate : Statement (.wakeFromHibernate) := of_none rfl
theorem hibernateCcWake (p : PortId) : Statement (.hibernateCcWake p) := of_none rfl
theorem addressMatchWake (addr : BitVec 8) : Statement (.addressMatchWake addr) := of_none rfl
theorem perstRise : Statement (.perstRise) := of_none rfl
theorem businRiseWake : Statement (.businRiseWake) := of_none rfl
theorem calendarTrim : Statement (.calendarTrim) := of_none rfl
theorem calendarOscFail : Statement (.calendarOscFail) := of_none rfl
theorem calAlarm : Statement (.calAlarm) := of_none rfl
theorem tamper (x : TamperLevel) : Statement (.tamper x) := of_none rfl
theorem vbatMeasure (mv : Nat) : Statement (.vbatMeasure mv) := of_none rfl
theorem backupSupplySwitch (onVbat : Bool) : Statement (.backupSupplySwitch onVbat) := of_none rfl
theorem powerOnReset (cause : Fin 8) (boot : BootIn) : Statement (.powerOnReset cause boot) := of_none rfl
theorem crystalStartTimeout : Statement (.crystalStartTimeout) := of_none rfl
theorem ccReportChange (p : PortId) (pin : Pin) (r : CcReport) : Statement (.ccReportChange p pin r) :=
  of_none rfl
theorem sopOrderedSetRecognised (x : SopSeen) : Statement (.sopOrderedSetRecognised x) := of_none rfl
theorem frSwapSignalEnd (p : PortId) : Statement (.frSwapSignalEnd p) := of_none rfl
theorem frameTransmitted (p : PortId) : Statement (.frameTransmitted p) := of_none rfl
theorem vconnPinSettled (p : PortId) : Statement (.vconnPinSettled p) := of_none rfl
theorem bfeedOnLevelReached (p : PortId) : Statement (.bfeedOnLevelReached p) := of_none rfl
theorem commandTimeLimitExpiry (sq : Fin 16) (slot : BitVec 12) : Statement (.commandTimeLimitExpiry sq slot) := of_none rfl
theorem configSpaceWrite (w : CfgSpace) : Statement (.configSpaceWrite w) := of_none rfl
theorem linkTrained (rate : BitVec 2) : Statement (.linkTrained rate) := of_none rfl
theorem calendarOscReturn : Statement (.calendarOscReturn) := of_none rfl
theorem captureFrameEnd (p : PortId) (samples : List Byte) : Statement (.captureFrameEnd p samples) := of_none rfl

end Sys2Proof.Laws.DescShape
end

