-- ==== Sys2Proof/Laws/Weevil.lean ====
section
/-! SUPPORT. What the shared operations of the Weevil cores do: one bit of a register put, an instruction that meets no fault or one
that is not legal, and the registers. -/

namespace Sys2Proof

/-- One bit put into a word. -/
theorem Word.put_bit (w : Word) (i : Nat) (hi : i < 32) (b : Bool) (j : Nat) :
    (w.put i i (b2n b)).getLsbD j = if j = i then b else w.getLsbD j := by
  have h1 : i + 1 - i = 1 := by omega
  by_cases hj : j < 32
  · simp only [Word.put, h1, BitVec.getLsbD_or, BitVec.getLsbD_and, BitVec.getLsbD_not, BitVec.getLsbD_ofNat, hj, decide_true,
      Bool.true_and, Nat.testBit_shiftLeft, show (2 : Nat) ^ 1 - 1 = 1 from rfl]
    by_cases e : j = i
    · subst e; cases b <;> simp [b2n]
    · by_cases g : i ≤ j
      · obtain ⟨k, rfl⟩ := Nat.exists_eq_add_of_lt (Nat.lt_of_le_of_ne g (Ne.symm e))
        have : i + k + 1 - i = k + 1 := by omega
        cases b <;> simp [b2n, this, Nat.testBit_succ, e]
      · simp [g, e]
  · have : w.getLsbD j = false := BitVec.getLsbD_of_ge _ _ (by omega)
    rw [if_neg (by omega), this]; exact BitVec.getLsbD_of_ge _ _ (by omega)

end Sys2Proof

namespace Sys2Proof.Machine

/-- Two changes that agree on the core's present contents are one. -/
theorem State.modCore_congr {s : State} {c : Fin 4} {f g : Core → Core} (h : f (s.core c) = g (s.core c)) :
    s.modCore c f = s.modCore c g := by
  simp only [State.modCore]; rw [show f s.wvl.cores[c.val] = g s.wvl.cores[c.val] from h]

/-- A legal instruction that is fetched without an error does what its body does. -/
theorem State.instr_ok {s : State} {c : Fin 4} {f : Fetch} (body : State → State) (h : s.canFetch c = true)
    (hf : fetchClean f = true) : s.instr c f true body = body s := by
  simp only [State.canFetch, Bool.and_eq_true] at h
  obtain ⟨⟨h1, h2⟩, h3⟩ := h
  cases f <;> simp_all [State.instr, fetchClean]

/-- An instruction that is not legal takes cause 1, or ends in a double fault. -/
theorem State.instr_illegal {s : State} {c : Fin 4} {f : Fetch} (body : State → State) (h : s.canFetch c = true)
    (hf : fetchClean f = true) : s.instr c f false body = s.sync c 1 0 (s.core c).pc 0 := by
  simp only [State.canFetch, Bool.and_eq_true] at h
  obtain ⟨⟨h1, h2⟩, h3⟩ := h
  cases f <;> simp_all [State.instr, fetchClean]

theorem State.onCore_ok {s : State} {c : Fin 4} {f : Fetch} (g : Core → Core) (h : s.canFetch c = true)
    (hf : fetchClean f = true) : s.onCore c f true g = s.modCore c g := State.instr_ok _ h hf

/-- An exception with EXL at 0 changes its core alone (R455). -/
theorem State.sync_first {s : State} {c : Fin 4} (cause detail : Nat) (epc eaddr : Word) (kind : Nat)
    (h : (s.core c).status.getLsbD 2 = false) :
    s.sync c cause detail epc eaddr kind = s.modCore c fun k => k.except cause detail epc eaddr := by
  unfold State.sync Core.exl Word.bit; simp only [h]; rfl

/-- A general register after a write; g0 reads 0 (16 section Programming model). -/
theorem Core.reg_setReg (k : Core) (r q : Reg) (v : Word) :
    (k.setReg r v).reg q = if q = 0 then 0 else if r = q then v else k.reg q := by
  unfold Core.reg
  by_cases hq : q = 0
  · rw [if_pos hq, if_pos hq]
  rw [if_neg hq, if_neg hq, if_neg hq]
  unfold Core.setReg
  by_cases hr : r = 0
  · rw [if_pos hr, if_neg (fun e => hq (e.symm.trans hr))]
  rw [if_neg hr]
  by_cases e : r = q
  · subst e; rw [if_pos rfl]; exact Vector.getElem_set_self ..
  · rw [if_neg e]; exact Vector.getElem_set_ne r.isLt q.isLt fun h => e (BitVec.eq_of_toNat_eq h)

/-- STATUS after an exception, bit by bit (R455). -/
theorem enterStatus_bit (st : Word) (n : Nat) : (enterStatus st).getLsbD n =
    (if n = 0 then false else if n = 1 then false else if n = 2 then true else if n = 3 then st.getLsbD 0
     else if n = 4 then st.getLsbD 1 else st.getLsbD n) := by
  have z : ∀ (w : Word) (i : Nat), w.put i i 0 = w.put i i (b2n false) := fun _ _ => rfl
  have o : ∀ (w : Word) (i : Nat), w.put i i 1 = w.put i i (b2n true) := fun _ _ => rfl
  simp only [enterStatus, z, o, Word.put_bit _ 2 (by omega), Word.put_bit _ 1 (by omega), Word.put_bit _ 0 (by omega),
    Word.put_bit _ 3 (by omega), Word.put_bit _ 4 (by omega), Word.bit]
  by_cases h0 : n = 0 <;> by_cases h1 : n = 1 <;> by_cases h2 : n = 2 <;> by_cases h3 : n = 3 <;> by_cases h4 : n = 4 <;>
    simp_all

end Sys2Proof.Machine
end

