-- ==== Sys2Proof/Tests/Slice0.lean ====
section
/-! SUPPORT. Tests: an ill-formed command for each check of WellFormed, words written out from the encodings, single steps and single
functions against values worked out from the spec, and, for each obligation that has hypotheses, states and operands that meet them. -/

set_option linter.unusedVariables false

namespace Sys2Proof.Machine

set_option Elab.async false

/-! ### Well-formed commands -/

theorem test_wf_nop : (Instr.nop {}).wf = true := by decide
theorem test_wf_params : (Instr.nop { params := List.replicate 51 0 }).wf = false := by decide
theorem test_wf_podWrite : (Instr.podWrite {} (List.replicate 63 0)).wf = false := by decide
theorem test_wf_monitorTest : (Instr.monitorTest { params := [] } none none).wf = false := by decide
theorem test_wf_twiXfer : (Instr.twiXfer {} (List.replicate 225 0)).wf = false := by decide +kernel
theorem test_wf_imgBlock : (Instr.imgBlock { params := [] } [] 0).wf = false := by decide
theorem test_wf_imgBlock_length (b : Byte) (l : List Byte) (h : l.length = 65536) : (Instr.imgBlock {} (b :: l) 0).wf = false := by
  simp [Instr.wf, h]
theorem test_wf_descriptorFetch : (Instr.descriptorFetch 0 []).wf = false := by decide
theorem test_wf_hostFetchError : (Instr.hostFetchError 0 4).wf = false := by decide
theorem test_wf_eventOccurrence : (Instr.eventOccurrence 0x0601 16 0).wf = false := by decide
theorem test_wf_eventFlowFlush : (Instr.eventFlowFlush 0x66).wf = false := by decide
theorem test_wf_creditReturn : (Instr.creditReturn 117).wf = false := by decide
theorem test_wf_scrubRead : (Instr.scrubRead 16384 0 .clean).wf = false := by decide
theorem test_wf_cellRewriteCheck : (Instr.cellRewriteCheck 16384 true).wf = false := by decide
theorem test_wf_calibrationCycle : (Instr.calibrationCycle 175 [1, 2, 3]).wf = false := by decide
theorem test_wf_pdMessage : (Instr.pdMessageReceived 0 .cc1 { msg := { data := List.replicate 263 0 } }).wf = false := by decide +kernel
theorem test_wf_twcItem_bit : (Instr.twcItem 0 (.arbLost 0 9 1 0)).wf = false := by decide
theorem test_wf_twcItem_phase : (Instr.twcItem 0 (.nack 0 5 0)).wf = false := by decide
theorem test_wf_arbRetry : (Instr.arbRetry 0 (.busError 0 0 0)).wf = false := by decide
theorem test_wf_busRecovery : (Instr.busRecovery 0 true true 10).wf = false := by decide
theorem test_wf_quarantineRetry : (Instr.quarantineRetry 0 true true 10).wf = false := by decide
theorem test_wf_twcInband_none : (Instr.twcInband 0 []).wf = false := by decide
theorem test_wf_twcInband_long : (Instr.twcInband 0 (List.replicate 7 0)).wf = false := by decide

/-! ### Words of the Weevil cores: the worked example of 16, and one word of each format -/

/-- 16, worked example: LUI g2, 0x4100. -/
theorem test_word_lui : weevil 2 .ok 0x58804100 = some (.lui 2 .ok { rd := 2, imm := 0x4100 }) := by decide
/-- 16, worked example: LW g5, [g2]+. -/
theorem test_word_lw : weevil 2 .ok 0xA2A40000 = some (.lw 2 .ok { mode := 1, rt := 5, rb := 2, x := 0 }) := by decide
/-- 16, worked example: SW g5, [g3]+. -/
theorem test_word_sw : weevil 2 .ok 0xBAA60000 = some (.sw 2 .ok { mode := 1, rt := 5, rb := 3, x := 0 }) := by decide
/-- 16, worked example: ADDI g4, g4, -1 with S. -/
theorem test_word_addi : weevil 2 .ok 0x4112FFFF = some (.addi 2 .ok { rd := 4, ra := 4, s := true, imm := 0xFFFF }) := by decide
/-- 16, worked example: BNZ, three words back. -/
theorem test_word_bnz : weevil 2 .ok 0xC0BFFFFD = some (.bcc 2 .ok 2 0x3FFFFD) := by decide
/-- FN 0x01 << 24, RD 1 << 20, RA 2 << 16, RB 3 << 12, S << 11 (16 Table 16-4). -/
theorem test_word_sub : weevil 0 .ok 0x01123800 = some (.sub 0 .ok { rd := 1, ra := 2, rb := 3, s := true }) := by decide
/-- FN 0x0E << 24, RD 4 << 20, RA 5 << 16, SHAMT 31 << 6. -/
theorem test_word_srai : weevil 0 .ok 0x0E4507C0 = some (.srai 0 .ok { rd := 4, ra := 5, sh := 31 }) := by decide
/-- OP 15 << 26, SUB 4 << 22, REG 6 << 18, SPECIAL 2 (16 Table 16-8). -/
theorem test_word_crr : weevil 1 .ok 0xFD180002 = some (.crr 1 .ok { reg := 6, imm := 2 }) := by decide
/-- OP 3 << 26, RD 1 << 22, RA 2 << 18, RB 3 << 14, AMO operation 1 << 12. -/
theorem test_word_amo : weevil 3 .ok 0xCC48D000 = some (.amo 3 .ok 1 2 3 1 0) := by decide
/-- The encoder writes the worked example's words. -/
theorem test_word_encode : weevilWord (.bcc 2 .ok 2 0x3FFFFD) = some 0xC0BFFFFD
    ∧ weevilWord (.lw 2 .ok { mode := 1, rt := 5, rb := 2, x := 0 }) = some 0xA2A40000 := by decide
/-- No row of the opcode table has bits, so no word spells a command. -/
theorem test_decodeTableWord : decodeTableWord 32 0 = none := rfl

/-! ### Single functions and steps -/

/-- IEEE 802.3: the check value of the nine digits (08 Table 8-4, 12 R378). -/
theorem test_crc32 : crc32 [0x31, 0x32, 0x33, 0x34, 0x35, 0x36, 0x37, 0x38, 0x39] = 0xCBF43926 := by decide +kernel
/-- SMBus: the check value of the nine digits (17 R480). -/
theorem test_crc8 : crc8 [0x31, 0x32, 0x33, 0x34, 0x35, 0x36, 0x37, 0x38, 0x39] = 0xF4 := by decide +kernel
/-- FIPS 180-4: the digest of "abc" begins BA7816BF and ends F20015AD (16 Table 16-20). -/
theorem test_sha256 : (sha256 [0x61, 0x62, 0x63]).take 4 = [0xBA, 0x78, 0x16, 0xBF]
    ∧ (sha256 [0x61, 0x62, 0x63]).drop 28 = [0xF2, 0x00, 0x15, 0xAD] := by decide +kernel
/-- FIPS 197, appendix C.1 (16 Table 16-20). -/
theorem test_aes : aesEncrypt ((List.range 16).map (BitVec.ofNat 8)) ((List.range 16).map fun i => BitVec.ofNat 8 (17 * i)) =
    [0x69, 0xC4, 0xE0, 0xD8, 0x6A, 0x7B, 0x04, 0x30, 0xD8, 0xCD, 0xB7, 0x80, 0x70, 0xB4, 0xC5, 0x5A] := by decide +kernel
/-- 16 Table 16-5: a divisor of 0, and the most negative dividend by -1. -/
theorem test_divide : divS 7 0 = 0xFFFFFFFF ∧ remS 7 0 = 7 ∧ divS 0x80000000 0xFFFFFFFF = 0x80000000
    ∧ remS 0x80000000 0xFFFFFFFF = 0 := by decide
/-- 16 Table 16-3: 0x7FFFFFFF + 1 overflows and does not carry; 0xFFFFFFFF + 1 carries and is zero. -/
theorem test_flags : setFlags 0 (addC 0x7FFFFFFF 1 false) = 0x90000000 ∧ setFlags 0 (addC 0xFFFFFFFF 1 false) = 0x60000000 := by decide

/-- The state in which core W2 is at word 0 of its code RAM. -/
def running : State := State.reset.modCore 2 fun k => { k with st := .run, pc := 0 }

/-- What a core is after a command. -/
def coreAfter (c : Instr) (s : State) : Option Core := match exec c s with | .next t => some (t.core 2) | _ => none

/-- 16, worked example: LUI leaves 0x4100_0000 in g2, and the next word follows. -/
theorem test_lui : (coreAfter (.lui 2 .ok { rd := 2, imm := 0x4100 }) running).map (fun k => (k.reg 2, k.pc)) = some (0x41000000, 4) := by
  decide +kernel

/-- 08, worked example: the digest's buckets are 755 (slots 3,020 to 3,023) and 301 (slots 1,204 to 1,207). -/
theorem test_pod_bucket :
    let e : PodEntry := { bytes := [0xF3, 0xB6, 0x04, 0x9D, 0xE2, 0x51, 0x7C, 0x3A] }
    (({ State.reset.pod with slots := [(3021, e)] } : PodState).find 0x3A7C51E29D04B6F3).map (·.1) = some 3021
      ∧ (({ State.reset.pod with slots := [(1207, e)] } : PodState).find 0x3A7C51E29D04B6F3).map (·.1) = some 1207
      ∧ ({ State.reset.pod with slots := [(1208, e)] } : PodState).find 0x3A7C51E29D04B6F3 = none := by decide +kernel

/-- What a register reads after a command. -/
def readAfter (off : Nat) (c : Instr) (s : State) : Option Word := match exec c s with | .next t => some (t.readReg .bar0 off) | _ => none

/-- 22, worked example: with LOCK at 1 L_PH keeps 30 and KD takes 0x0180; VIOLATION is set. -/
theorem test_locked_write :
    let s : State := { State.reset with hif := { State.reset.hif with lock := true } }
    readAfter 0x4D0C (.registerWrite .bar0 0x4D0C 0x00200180) s = some 0x001E0180 := by decide +kernel

/-- 22: PRT_CNV_VLOOP1 of P9 stands at 0x650C, and 22 Table 22-5 gives its reset value. -/
theorem test_vloop1 : State.reset.readReg .bar0 0x650C = 0x001E0000 := by decide +kernel

/-! ### The hypotheses of the obligations can be met -/

theorem wit_StepTakesFront : ({ State.reset with pending := [.snapshot] } : State).pending = .snapshot :: [] := rfl

theorem wit_IdleStep : State.reset.pending = [] ∧ (∀ c : Fin 4, State.reset.executes c = false)
    ∧ State.reset.bkp.oscStopped = false ∧ State.reset.bkp.frac < 15625 := by decide +kernel

theorem wit_IdleStep_stopped : ({ State.reset with bkp := { State.reset.bkp with oscStopped := true } } : State).bkp.oscStopped = true := rfl

theorem wit_SelectorCopies : State.reset.awake = true ∧ (Iface.twt ≠ .bar0) ∧ ((0x1020#20).toNat = 0x1020)
    ∧ (State.reset.lat .bar0).flowSel.toNat < 117 ∧ (77#32).toNat < 117 ∧ (State.reset.lat .bar0).sesSel.toNat < 128 := by decide +kernel

theorem wit_SelectorCopies_twt :
    let s : State := { State.reset with twi := { State.reset.twi with tver := 2, tcfg := 0x3FF } }
    s.awake = true ∧ (Iface.bar0 ≠ .twt) ∧ ((0x204C#20).toNat = 0x204C) ∧ s.twtMay 0x204C = some 0xFFFFFFFF
      ∧ (100#32 &&& 0xFFFFFFFF = 100) ∧ (s.lat .twt).flowSel.toNat < 117 ∧ (100#32).toNat < 117 ∧ (s.lat .twt).sesSel.toNat < 128 := by
  decide +kernel

theorem wit_SliceFrame : (Instr.frameCrcError 3).ofSlice = some 3 ∧ ∃ t, exec (.frameCrcError 3) State.reset = .next t :=
  ⟨rfl, _, rfl⟩

theorem wit_PortFrame : (Instr.vbusUnexpected 3).ofPort = true ∧ ∃ t, exec (.vbusUnexpected 3) State.reset = .next t := ⟨rfl, _, rfl⟩

theorem wit_DeviceFrame : Instr.calendarTrim.ofDevice = true ∧ ∃ t, exec .calendarTrim State.reset = .next t := ⟨rfl, _, rfl⟩

theorem wit_StepKeepsMemories : State.reset.memWf = true ∧ ∃ t, step State.reset = .next t := ⟨by decide +kernel, _, rfl⟩

theorem wit_NeverBothSwitches : State.reset.pathsOk = true ∧ ∃ t, step State.reset = .next t := ⟨by decide +kernel, _, rfl⟩

theorem wit_WeevilAddSubtract :
    (let c : Fin 4 := 1
    let f : Fetch := .ok
    let i : InsR := { rd := 3, ra := 1, rb := 2, s := true }
    let i := { i with sh := 0 }
    let i := { i with z := 0 }
    let i := { i with rd := 0 }
    let s := State.reset.modCore c fun k => { k with st := .run, g := #v[0, 0x80000001, 5, 7, 0x10000010, 0x20000020, 0, 0, 0, 0, 0, 0, 0, 0, 0, 0] }
    s.canFetch c = true ∧ fetchClean f = true ∧ i.sh = 0 ∧ i.z = 0 ∧ i.rd = 0)
    ∧ (let c : Fin 4 := 1
    let f : Fetch := .ok
    let i : InsI := { rd := 3, ra := 1, s := true, imm := 0xFFFE }
    let i := { i with z := false }
    let i := { i with rd := 0 }
    let s := State.reset.modCore c fun k => { k with st := .run, g := #v[0, 0x80000001, 5, 7, 0x10000010, 0x20000020, 0, 0, 0, 0, 0, 0, 0, 0, 0, 0] }
    s.canFetch c = true ∧ fetchClean f = true ∧ i.z = false ∧ i.rd = 0) := by
  refine ⟨?_, ?_⟩ <;> decide +kernel

theorem wit_WeevilLogic :
    (let c : Fin 4 := 1
    let f : Fetch := .ok
    let i : InsR := { rd := 3, ra := 1, rb := 2, s := true }
    let i := { i with sh := 0 }
    let i := { i with z := 0 }
    let i := { i with rd := 0 }
    let s := State.reset.modCore c fun k => { k with st := .run, g := #v[0, 0x80000001, 5, 7, 0x10000010, 0x20000020, 0, 0, 0, 0, 0, 0, 0, 0, 0, 0] }
    s.canFetch c = true ∧ fetchClean f = true ∧ i.sh = 0 ∧ i.z = 0 ∧ i.rd = 0)
    ∧ (let c : Fin 4 := 1
    let f : Fetch := .ok
    let i : InsI := { rd := 3, ra := 1, s := true, imm := 0xFFFE }
    let i := { i with z := false }
    let i := { i with rd := 0 }
    let s := State.reset.modCore c fun k => { k with st := .run, g := #v[0, 0x80000001, 5, 7, 0x10000010, 0x20000020, 0, 0, 0, 0, 0, 0, 0, 0, 0, 0] }
    s.canFetch c = true ∧ fetchClean f = true ∧ i.z = false ∧ i.rd = 0)
    ∧ (let c : Fin 4 := 1
    let f : Fetch := .ok
    let i : InsI := { rd := 3, ra := 1, s := true, imm := 0xFFFE }
    let i := { i with z := false }
    let i := { i with ra := 0 }
    let i := { i with s := false }
    let s := State.reset.modCore c fun k => { k with st := .run, g := #v[0, 0x80000001, 5, 7, 0x10000010, 0x20000020, 0, 0, 0, 0, 0, 0, 0, 0, 0, 0] }
    s.canFetch c = true ∧ fetchClean f = true ∧ i.z = false ∧ i.ra = 0 ∧ i.s = false)
    ∧ (let c : Fin 4 := 1
    let f : Fetch := .ok
    let i : InsR := { rd := 3, ra := 1, rb := 2, s := true }
    let n : Nat := 0
    let i := { i with sh := 0 }
    let i := { i with z := 0 }
    let i := { i with rb := 0 }
    let s := State.reset.modCore c fun k => { k with st := .run, g := #v[0, 0x80000001, 5, 7, 0x10000010, 0x20000020, 0, 0, 0, 0, 0, 0, 0, 0, 0, 0] }
    let a := (s.core c).reg i.ra
    s.canFetch c = true ∧ fetchClean f = true ∧ i.sh = 0 ∧ i.z = 0 ∧ i.rb = 0 ∧ n ≤ 32 ∧ a.toNat < 2 ^ (32 - n) ∧ ((n = 32 ∨ 2 ^ (31 - n) ≤ a.toNat))) := by
  refine ⟨?_, ?_, ?_, ?_⟩ <;> decide +kernel

theorem wit_WeevilShifts :
    (let c : Fin 4 := 1
    let f : Fetch := .ok
    let i : InsR := { rd := 3, ra := 1, rb := 2, s := true }
    let i := { i with z := 0 }
    let i := { i with sh := 0 }
    let s := State.reset.modCore c fun k => { k with st := .run, g := #v[0, 0x80000001, 5, 7, 0x10000010, 0x20000020, 0, 0, 0, 0, 0, 0, 0, 0, 0, 0] }
    s.canFetch c = true ∧ fetchClean f = true ∧ i.z = 0 ∧ i.sh = 0)
    ∧ (let c : Fin 4 := 1
    let f : Fetch := .ok
    let i : InsR := { rd := 3, ra := 1, rb := 2, s := true }
    let i := { i with z := 0 }
    let i := { i with rb := 0 }
    let s := State.reset.modCore c fun k => { k with st := .run, g := #v[0, 0x80000001, 5, 7, 0x10000010, 0x20000020, 0, 0, 0, 0, 0, 0, 0, 0, 0, 0] }
    s.canFetch c = true ∧ fetchClean f = true ∧ i.z = 0 ∧ i.rb = 0) := by
  refine ⟨?_, ?_⟩ <;> decide +kernel

theorem wit_WeevilMultiplyDivide :
    (let c : Fin 4 := 1
    let f : Fetch := .ok
    let i : InsR := { rd := 3, ra := 1, rb := 2, s := true }
    let i := { i with sh := 0 }
    let i := { i with z := 0 }
    let s := State.reset.modCore c fun k => { k with st := .run, g := #v[0, 0x80000001, 5, 7, 0x10000010, 0x20000020, 0, 0, 0, 0, 0, 0, 0, 0, 0, 0] }
    s.canFetch c = true ∧ fetchClean f = true ∧ i.sh = 0 ∧ i.z = 0) := by
  decide +kernel

theorem wit_WeevilLoads :
    (let c : Fin 4 := 1
    let f : Fetch := .ok
    let i : InsM := { mode := 0, rt := 3, rb := 2, x := 8 }
    let s := State.reset.modCore c fun k => { k with st := .run, g := #v[0, 0x80000001, 5, 7, 0x10000010, 0x20000020, 0, 0, 0, 0, 0, 0, 0, 0, 0, 0] }
    let b := (s.core c).reg i.rb
    let adr (n : Nat) : Word := if i.mode = 0 then b + (i.x.extractLsb' 0 12).signExtend 32 else if i.mode = 1 then b else if i.mode = 2 then b - BitVec.ofNat 32 n else b + ((s.core c).reg (i.x.extractLsb' 13 4) <<< (i.x.extractLsb' 11 2).toNat)
    s.canFetch c = true ∧ fetchClean f = true ∧ i.ok true = true ∧ s.dataFault c f (adr 1) 1 true false = none)
    ∧ (let c : Fin 4 := 1
    let f : Fetch := .ok
    let i : InsM := { mode := 0, rt := 3, rb := 4, x := 0 }
    let s := State.reset.modCore c fun k => { k with st := .run, g := #v[0, 0x80000001, 5, 7, 0x10000010, 0x20000020, 0, 0, 0, 0, 0, 0, 0, 0, 0, 0] }
    let b := (s.core c).reg i.rb
    let adr (n : Nat) : Word := if i.mode = 0 then b + (i.x.extractLsb' 0 12).signExtend 32 else if i.mode = 1 then b else if i.mode = 2 then b - BitVec.ofNat 32 n else b + ((s.core c).reg (i.x.extractLsb' 13 4) <<< (i.x.extractLsb' 11 2).toNat)
    s.canFetch c = true ∧ fetchClean f = true ∧ i.ok true = true ∧ s.dataFault c f (adr 2) 2 true false = none)
    ∧ (let c : Fin 4 := 1
    let f : Fetch := .ok
    let i : InsM := { mode := 0, rt := 3, rb := 4, x := 0 }
    let s := State.reset.modCore c fun k => { k with st := .run, g := #v[0, 0x80000001, 5, 7, 0x10000010, 0x20000020, 0, 0, 0, 0, 0, 0, 0, 0, 0, 0] }
    let b := (s.core c).reg i.rb
    let adr (n : Nat) : Word := if i.mode = 0 then b + (i.x.extractLsb' 0 12).signExtend 32 else if i.mode = 1 then b else if i.mode = 2 then b - BitVec.ofNat 32 n else b + ((s.core c).reg (i.x.extractLsb' 13 4) <<< (i.x.extractLsb' 11 2).toNat)
    s.canFetch c = true ∧ fetchClean f = true ∧ i.ok true = true ∧ s.dataFault c f (adr 4) 4 true false = none) := by
  refine ⟨?_, ?_, ?_⟩ <;> decide +kernel

theorem wit_WeevilStores :
    (let c : Fin 4 := 1
    let f : Fetch := .ok
    let i : InsM := { mode := 0, rt := 3, rb := 2, x := 8 }
    let s := State.reset.modCore c fun k => { k with st := .run, g := #v[0, 0x80000001, 5, 7, 0x10000010, 0x20000020, 0, 0, 0, 0, 0, 0, 0, 0, 0, 0] }
    let b := (s.core c).reg i.rb
    let adr (n : Nat) : Word := if i.mode = 0 then b + (i.x.extractLsb' 0 12).signExtend 32 else if i.mode = 1 then b else if i.mode = 2 then b - BitVec.ofNat 32 n else b + ((s.core c).reg (i.x.extractLsb' 13 4) <<< (i.x.extractLsb' 11 2).toNat)
    s.canFetch c = true ∧ fetchClean f = true ∧ i.ok false = true ∧ s.dataFault c f (adr 1) 1 false true = none)
    ∧ (let c : Fin 4 := 1
    let f : Fetch := .ok
    let i : InsM := { mode := 0, rt := 3, rb := 4, x := 0 }
    let s := State.reset.modCore c fun k => { k with st := .run, g := #v[0, 0x80000001, 5, 7, 0x10000010, 0x20000020, 0, 0, 0, 0, 0, 0, 0, 0, 0, 0] }
    let b := (s.core c).reg i.rb
    let adr (n : Nat) : Word := if i.mode = 0 then b + (i.x.extractLsb' 0 12).signExtend 32 else if i.mode = 1 then b else if i.mode = 2 then b - BitVec.ofNat 32 n else b + ((s.core c).reg (i.x.extractLsb' 13 4) <<< (i.x.extractLsb' 11 2).toNat)
    s.canFetch c = true ∧ fetchClean f = true ∧ i.ok false = true ∧ s.dataFault c f (adr 2) 2 false true = none)
    ∧ (let c : Fin 4 := 1
    let f : Fetch := .ok
    let i : InsM := { mode := 0, rt := 3, rb := 4, x := 0 }
    let s := State.reset.modCore c fun k => { k with st := .run, g := #v[0, 0x80000001, 5, 7, 0x10000010, 0x20000020, 0, 0, 0, 0, 0, 0, 0, 0, 0, 0] }
    let b := (s.core c).reg i.rb
    let adr (n : Nat) : Word := if i.mode = 0 then b + (i.x.extractLsb' 0 12).signExtend 32 else if i.mode = 1 then b else if i.mode = 2 then b - BitVec.ofNat 32 n else b + ((s.core c).reg (i.x.extractLsb' 13 4) <<< (i.x.extractLsb' 11 2).toNat)
    s.canFetch c = true ∧ fetchClean f = true ∧ i.ok false = true ∧ s.dataFault c f (adr 4) 4 false true = none)
    ∧ (let c : Fin 4 := 1
    let f : Fetch := .ok
    let ra : Reg := 5
    let s := State.reset.modCore c fun k => { k with st := .run, g := #v[0, 0x80000001, 5, 7, 0x10000010, 0x20000020, 0, 0, 0, 0, 0, 0, 0, 0, 0, 0] }
    let a := (s.core c).reg ra
    s.canFetch c = true ∧ fetchClean f = true ∧ s.range c a.toNat = .shared ∧ s.dataFault c f a 4 true true = none)
    ∧ (let c : Fin 4 := 1
    let i : InsM := { mode := 0, rt := 3, rb := 4, x := 0 }
    let j : InsM := { mode := 0, rt := 2, rb := 4, x := 0 }
    let s := State.reset.modCore c fun k => { k with st := .run, g := #v[0, 0x80000001, 5, 7, 0x10000010, 0x20000020, 0, 0, 0, 0, 0, 0, 0, 0, 0, 0] }
    let t : State := Res.st (Sys2Proof.Machine.execSw c .ok i s) s
    (s.core c).memWf = true ∧ s.canFetch c = true ∧ i.ok false = true ∧ j.ok true = true ∧ i.mode = 0 ∧ j.mode = 0 ∧ i.rb = j.rb ∧ i.x = j.x ∧ ((let a := (s.core c).reg i.rb + (i.x.extractLsb' 0 12).signExtend 32;      0x10000000 ≤ a.toNat ∧ a.toNat < 0x10010000 ∧ s.dataFault c .ok a 4 true true = none)) ∧ true = true ∧ t.canFetch c = true) := by
  refine ⟨?_, ?_, ?_, ?_, ?_⟩ <;> decide +kernel

theorem wit_WeevilBranches :
    (let c : Fin 4 := 1
    let f : Fetch := .ok
    let cond : BitVec 4 := 3
    let s := State.reset.modCore c fun k => { k with st := .run, g := #v[0, 0x80000001, 5, 7, 0x10000010, 0x20000020, 0, 0, 0, 0, 0, 0, 0, 0, 0, 0] }
    s.canFetch c = true ∧ fetchClean f = true ∧ cond ≠ 15)
    ∧ (let c : Fin 4 := 1
    let f : Fetch := .ok
    let ra : Reg := 4
    let s := State.reset.modCore c fun k => { k with st := .run, g := #v[0, 0x80000001, 5, 7, 0x10000010, 0x20000020, 0, 0, 0, 0, 0, 0, 0, 0, 0, 0] }
    s.canFetch c = true ∧ fetchClean f = true ∧ (s.core c).reg ra &&& 3 = 0) := by
  refine ⟨?_, ?_⟩ <;> decide +kernel

theorem wit_WeevilSystem :
    (let c : Fin 4 := 1
    let f : Fetch := .ok
    let i : InsS := { reg := 0, z := 0, imm := 0 }
    let i := { i with z := 0 }
    let i := { i with reg := 0 }
    let s := State.reset.modCore c fun k_ => { k_ with status := ((State.reset.core c).status &&& ~~~(BitVec.twoPow _ 2)) }
    let s := s.modCore c fun k => { k with st := .run, g := #v[0, 0x80000001, 5, 7, 0x10000010, 0x20000020, 0, 0, 0, 0, 0, 0, 0, 0, 0, 0] }
    let s := s.modCore c fun k => { k with status := 0x10000019#32 }
    s.canFetch c = true ∧ fetchClean f = true ∧ (s.core c).status.getLsbD 2 = false ∧ i.z = 0 ∧ i.reg = 0 ∧ i.imm.toNat < 256)
    ∧ (let c : Fin 4 := 1
    let f : Fetch := .ok
    let i : InsS := { reg := 0, z := 0, imm := 0 }
    let i := { i with z := 0 }
    let i := { i with reg := 0 }
    let i := { i with imm := 0 }
    let s := State.reset.modCore c fun k_ => { k_ with status := ((State.reset.core c).status &&& ~~~(BitVec.twoPow _ 2)) }
    let s := s.modCore c fun k => { k with st := .run, g := #v[0, 0x80000001, 5, 7, 0x10000010, 0x20000020, 0, 0, 0, 0, 0, 0, 0, 0, 0, 0] }
    let s := s.modCore c fun k => { k with status := 0x10000019#32 }
    s.canFetch c = true ∧ fetchClean f = true ∧ (s.core c).status.getLsbD 2 = false ∧ i.z = 0 ∧ i.reg = 0 ∧ i.imm = 0)
    ∧ (let c : Fin 4 := 1
    let f : Fetch := .ok
    let s := State.reset.modCore c fun k_ => { k_ with status := ((State.reset.core c).status &&& ~~~(BitVec.twoPow _ 1)) }
    let s := s.modCore c fun k => { k with st := .run, g := #v[0, 0x80000001, 5, 7, 0x10000010, 0x20000020, 0, 0, 0, 0, 0, 0, 0, 0, 0, 0] }
    let s := s.modCore c fun k => { k with status := 0x10000019#32 }
    let k := s.core c
    s.canFetch c = true ∧ fetchClean f = true ∧ k.status.getLsbD 1 = false)
    ∧ (let c : Fin 4 := 1
    let f : Fetch := .ok
    let s := State.reset.modCore c fun k => { k with st := .run, g := #v[0, 0x80000001, 5, 7, 0x10000010, 0x20000020, 0, 0, 0, 0, 0, 0, 0, 0, 0, 0] }
    let s := s.modCore c fun k => { k with status := 0x10000019#32 }
    let k := s.core c
    s.canFetch c = true ∧ fetchClean f = true ∧ s.irqPend c &&& k.irqMask = 0)
    ∧ (let c : Fin 4 := 1
    let f : Fetch := .ok
    let s := State.reset.modCore c fun k => { k with st := .run, g := #v[0, 0x80000001, 5, 7, 0x10000010, 0x20000020, 0, 0, 0, 0, 0, 0, 0, 0, 0, 0] }
    let s := s.modCore c fun k => { k with sigSrc := 2, irqMask := 0xFFFFFFFF }
    let k := s.core c
    s.canFetch c = true ∧ fetchClean f = true ∧ s.irqPend c &&& k.irqMask ≠ 0) := by
  refine ⟨?_, ?_, ?_, ?_, ?_⟩ <;> decide +kernel

theorem wit_WeevilControlRegisters :
    (let c : Fin 4 := 1
    let f : Fetch := .ok
    let i : InsS := { reg := 2, z := 0, imm := 4 }
    let i := { i with z := 0 }
    let s := State.reset.modCore c fun k_ => { k_ with status := ((State.reset.core c).status &&& ~~~(BitVec.twoPow _ 1)) }
    let s := s.modCore c fun k => { k with st := .run, g := #v[0, 0x80000001, 5, 7, 0x10000010, 0x20000020, 0, 0, 0, 0, 0, 0, 0, 0, 0, 0] }
    let k := s.core c
    let v := k.reg i.reg
    s.canFetch c = true ∧ fetchClean f = true ∧ i.z = 0 ∧ (s.core c).status.getLsbD 1 = false ∧ v.toNat < 0x20000)
    ∧ (let c : Fin 4 := 1
    let f : Fetch := .ok
    let i : InsS := { reg := 2, z := 0, imm := 20 }
    let j : Fin 8 := 2
    let i := { i with z := 0 }
    let s := State.reset.modCore c fun k_ => { k_ with status := ((State.reset.core c).status &&& ~~~(BitVec.twoPow _ 1)) }
    let s := s.modCore c fun k => { k with st := .run, g := #v[0, 0x80000001, 5, 7, 0x10000010, 0x20000020, 0, 0, 0, 0, 0, 0, 0, 0, 0, 0] }
    let s := s.modCore c fun k => { k with rattr := k.rattr.set 2 8 }
    let k := s.core c
    s.canFetch c = true ∧ fetchClean f = true ∧ i.z = 0 ∧ (s.core c).status.getLsbD 1 = false ∧ k.rattr[j.val].getLsbD 3 = true)
    ∧ (let c : Fin 4 := 1
    let f : Fetch := .ok
    let i : InsS := { reg := 6, z := 0, imm := 20 }
    let j : Fin 8 := 2
    let i := { i with z := 0 }
    let s := State.reset.modCore c fun k_ => { k_ with status := ((State.reset.core c).status &&& ~~~(BitVec.twoPow _ 1)) }
    let s := s.modCore c fun k => { k with st := .run, g := #v[0, 0x80000001, 5, 7, 0x10000010, 0x20000020, 0, 0, 0, 0, 0, 0, 0, 0, 0, 0] }
    let s := s.modCore c fun k => { k with g := k.g.set 6 0x10000008 }
    let k := s.core c
    let v := k.reg i.reg
    s.canFetch c = true ∧ fetchClean f = true ∧ i.z = 0 ∧ (s.core c).status.getLsbD 1 = false ∧ k.rattr[j.val].getLsbD 3 = false ∧ 8 ≤ (v &&& 0x1F).toNat)
    ∧ (let c : Fin 4 := 1
    let f : Fetch := .ok
    let i : InsS := { reg := 2, z := 0, imm := 20 }
    let j : Fin 8 := 2
    let i := { i with z := 0 }
    let s := State.reset.modCore c fun k_ => { k_ with status := ((State.reset.core c).status &&& ~~~(BitVec.twoPow _ 1)) }
    let s := s.modCore c fun k => { k with st := .run, g := #v[0, 0x80000001, 5, 7, 0x10000010, 0x20000020, 0, 0, 0, 0, 0, 0, 0, 0, 0, 0] }
    let k := s.core c
    let v := k.reg i.reg
    s.canFetch c = true ∧ fetchClean f = true ∧ i.z = 0 ∧ (s.core c).status.getLsbD 1 = false ∧ k.rattr[j.val].getLsbD 3 = false ∧ (v &&& 0x1F).toNat < 8) := by
  refine ⟨?_, ?_, ?_, ?_⟩ <;> decide +kernel

theorem wit_WeevilExceptions :
    (let c : Fin 4 := 1
    let f : Fetch := .ok
    let i : Instr := .add c f { rd := 3, ra := 1, rb := 2, s := true }
    let s := State.reset.modCore c fun k => { k with st := .run, g := #v[0, 0x80000001, 5, 7, 0x10000010, 0x20000020, 0, 0, 0, 0, 0, 0, 0, 0, 0, 0] }
    let s := s.modCore c fun k => { k with status := 2 }
    let k := s.core c
    i.coreFetch = some (c, f) ∧ s.executes c = true ∧ (s.core c).status.getLsbD 2 = false ∧ k.mayDo k.pc.toNat 2 = false)
    ∧ (let c : Fin 4 := 1
    let f : Fetch := .ok
    let i : Instr := .add c f { rd := 3, ra := 1, rb := 2, s := true }
    let s := State.reset.modCore c fun k => { k with st := .run, g := #v[0, 0x80000001, 5, 7, 0x10000010, 0x20000020, 0, 0, 0, 0, 0, 0, 0, 0, 0, 0] }
    let s := s.modCore c fun k => { k with pc := 0x30000000 }
    let k := s.core c
    i.coreFetch = some (c, f) ∧ s.executes c = true ∧ (s.core c).status.getLsbD 2 = false ∧ k.mayDo k.pc.toNat 2 = true ∧ (s.range c k.pc.toNat).fetches = false)
    ∧ (let c : Fin 4 := 1
    let f : Fetch := .ok
    let i : Instr := .add c f { rd := 3, ra := 1, rb := 2, s := true, z := 1 }
    let s := State.reset.modCore c fun k => { k with st := .run, g := #v[0, 0x80000001, 5, 7, 0x10000010, 0x20000020, 0, 0, 0, 0, 0, 0, 0, 0, 0, 0] }
    i.coreFetch = some (c, f) ∧ s.executes c = true ∧ (s.core c).status.getLsbD 2 = false ∧ s.canFetch c = true ∧ fetchClean f = true ∧ legalFields i = false)
    ∧ (let c : Fin 4 := 1
    let f : Fetch := .ok
    let i : Instr := .rfe c f {}
    let j : InsS := {}
    let s := State.reset.modCore c fun k => { k with st := .run, g := #v[0, 0x80000001, 5, 7, 0x10000010, 0x20000020, 0, 0, 0, 0, 0, 0, 0, 0, 0, 0] }
    let s := s.modCore c fun k => { k with status := 2, rattr := Vector.replicate 8 5, rbase := Vector.replicate 8 24 }
    let k := s.core c
    i.coreFetch = some (c, f) ∧ s.executes c = true ∧ (s.core c).status.getLsbD 2 = false ∧ s.canFetch c = true ∧ fetchClean f = true ∧ k.status.getLsbD 1 = true ∧ (i = .rfe c f j ∨ i = .crw c f j ∨ (i = .crr c f j ∧ j.imm ≠ 0 ∧ j.imm ≠ 5)))
    ∧ (let c : Fin 4 := 1
    let w : Word := 0
    let i : Instr := .add c .fetchCe {}
    let j : Instr := .add c .ok {}
    let s := State.reset.modCore c fun k => { k with st := .run, g := #v[0, 0x80000001, 5, 7, 0x10000010, 0x20000020, 0, 0, 0, 0, 0, 0, 0, 0, 0, 0] }
    s.canFetch c = true ∧ s.range c (s.core c).pc.toNat = .code ∧ weevil c .fetchCe w = some i ∧ weevil c .ok w = some j)
    ∧ (let c : Fin 4 := 1
    let w : Word := 0
    let i : Instr := .add c .fetchUe {}
    let s := State.reset.modCore c fun k_ => { k_ with status := ((State.reset.core c).status &&& ~~~(BitVec.twoPow _ 2)) }
    let s := s.modCore c fun k => { k with st := .run, g := #v[0, 0x80000001, 5, 7, 0x10000010, 0x20000020, 0, 0, 0, 0, 0, 0, 0, 0, 0, 0] }
    s.canFetch c = true ∧ s.range c (s.core c).pc.toNat = .code ∧ weevil c .fetchUe w = some i ∧ (s.core c).status.getLsbD 2 = false)
    ∧ (let c : Fin 4 := 1
    let f : Fetch := .ok
    let i : InsM := { mode := 0, rt := 3, rb := 2, x := 8 }
    let s := State.reset.modCore c fun k_ => { k_ with status := ((State.reset.core c).status &&& ~~~(BitVec.twoPow _ 2)) }
    let s := s.modCore c fun k => { k with st := .run, g := #v[0, 0x80000001, 5, 7, 0x10000010, 0x20000020, 0, 0, 0, 0, 0, 0, 0, 0, 0, 0] }
    let k := s.core c
    let a := ((k.addr i 4).1)
    s.canFetch c = true ∧ fetchClean f = true ∧ (s.core c).status.getLsbD 2 = false ∧ i.ok true = true ∧ a.toNat % 4 ≠ 0)
    ∧ (let c : Fin 4 := 1
    let f : Fetch := .ok
    let i : InsM := { mode := 0, rt := 3, rb := 2, x := 8 }
    let s := State.reset.modCore c fun k_ => { k_ with status := ((State.reset.core c).status &&& ~~~(BitVec.twoPow _ 2)) }
    let s := s.modCore c fun k => { k with st := .run, g := #v[0, 0x80000001, 5, 7, 0x10000010, 0x20000020, 0, 0, 0, 0, 0, 0, 0, 0, 0, 0] }
    let k := s.core c
    let half := (k.addr i 2).1
    s.canFetch c = true ∧ fetchClean f = true ∧ (s.core c).status.getLsbD 2 = false ∧ i.ok true = true ∧ half.toNat % 2 ≠ 0)
    ∧ (let c : Fin 4 := 1
    let f : Fetch := .ok
    let i : InsM := { mode := 0, rt := 3, rb := 4, x := 0 }
    let s := State.reset.modCore c fun k_ => { k_ with status := ((State.reset.core c).status &&& ~~~(BitVec.twoPow _ 2)) }
    let s := s.modCore c fun k => { k with st := .run, g := #v[0, 0x80000001, 5, 7, 0x10000010, 0x20000020, 0, 0, 0, 0, 0, 0, 0, 0, 0, 0] }
    let s := s.modCore c fun k => { k with status := 2, rattr := (Vector.replicate 8 0).set 0 5, rbase := Vector.replicate 8 24 }
    let k := s.core c
    let a := ((k.addr i 4).1)
    s.canFetch c = true ∧ fetchClean f = true ∧ (s.core c).status.getLsbD 2 = false ∧ i.ok true = true ∧ a.toNat % 4 = 0 ∧ k.mayDo a.toNat 0 = false)
    ∧ (let c : Fin 4 := 1
    let f : Fetch := .ok
    let i : InsM := { mode := 0, rt := 3, rb := 4, x := 0 }
    let s := State.reset.modCore c fun k_ => { k_ with status := ((State.reset.core c).status &&& ~~~(BitVec.twoPow _ 2)) }
    let s := s.modCore c fun k => { k with st := .run, g := #v[0, 0x80000001, 5, 7, 0x10000010, 0x20000020, 0, 0, 0, 0, 0, 0, 0, 0, 0, 0] }
    let s := s.modCore c fun k => { k with g := k.g.set 4 (0x50000000#32) }
    let k := s.core c
    let a := ((k.addr i 4).1)
    s.canFetch c = true ∧ fetchClean f = true ∧ (s.core c).status.getLsbD 2 = false ∧ i.ok true = true ∧ a.toNat % 4 = 0 ∧ k.mayDo a.toNat 0 = true ∧ s.range c a.toNat = .none)
    ∧ (let c : Fin 4 := 1
    let f : Fetch := .dataUe
    let i : InsM := { mode := 0, rt := 3, rb := 4, x := 0 }
    let s := State.reset.modCore c fun k => { k with st := .run, g := #v[0, 0x80000001, 5, 7, 0x10000010, 0x20000020, 0, 0, 0, 0, 0, 0, 0, 0, 0, 0] }
    let k := s.core c
    let a := ((k.addr i 4).1)
    s.canFetch c = true ∧ fetchClean f = true ∧ (s.core c).status.getLsbD 2 = false ∧ i.ok true = true ∧ a.toNat % 4 = 0 ∧ k.mayDo a.toNat 0 = true ∧ s.range c a.toNat = .data ∧ f = .dataUe)
    ∧ (let c : Fin 4 := 1
    let f : Fetch := .ok
    let i : InsM := { mode := 0, rt := 3, rb := 2, x := 8 }
    let s := State.reset.modCore c fun k_ => { k_ with status := ((State.reset.core c).status &&& ~~~(BitVec.twoPow _ 2)) }
    let s := s.modCore c fun k => { k with st := .run, g := #v[0, 0x80000001, 5, 7, 0x10000010, 0x20000020, 0, 0, 0, 0, 0, 0, 0, 0, 0, 0] }
    let k := s.core c
    let a := ((k.addr i 4).1)
    s.canFetch c = true ∧ fetchClean f = true ∧ (s.core c).status.getLsbD 2 = false ∧ i.ok false = true ∧ a.toNat % 4 ≠ 0)
    ∧ (let c : Fin 4 := 1
    let f : Fetch := .ok
    let i : InsM := { mode := 0, rt := 3, rb := 4, x := 0 }
    let s := State.reset.modCore c fun k_ => { k_ with status := ((State.reset.core c).status &&& ~~~(BitVec.twoPow _ 2)) }
    let s := s.modCore c fun k => { k with st := .run, g := #v[0, 0x80000001, 5, 7, 0x10000010, 0x20000020, 0, 0, 0, 0, 0, 0, 0, 0, 0, 0] }
    let s := s.modCore c fun k => { k with status := 2, rattr := (Vector.replicate 8 0).set 0 5, rbase := Vector.replicate 8 24 }
    let k := s.core c
    let a := ((k.addr i 4).1)
    s.canFetch c = true ∧ fetchClean f = true ∧ (s.core c).status.getLsbD 2 = false ∧ i.ok false = true ∧ a.toNat % 4 = 0 ∧ k.mayDo a.toNat 1 = false)
    ∧ (let c : Fin 4 := 0
    let f : Fetch := .ok
    let i : InsM := { mode := 0, rt := 3, rb := 4, x := 0 }
    let s := State.reset.modCore c fun k_ => { k_ with status := ((State.reset.core c).status &&& ~~~(BitVec.twoPow _ 2)) }
    let s := s.modCore c fun k => { k with st := .run, g := #v[0, 0x80000001, 5, 7, 0x10000010, 0x20000020, 0, 0, 0, 0, 0, 0, 0, 0, 0, 0] }
    let s := s.modCore c fun k => { k with g := k.g.set 4 (0xF0000000#32) }
    let k := s.core c
    let a := ((k.addr i 4).1)
    s.canFetch c = true ∧ fetchClean f = true ∧ (s.core c).status.getLsbD 2 = false ∧ i.ok false = true ∧ a.toNat % 4 = 0 ∧ k.mayDo a.toNat 1 = true ∧ s.range c a.toNat = .rom) := by
  refine ⟨?_, ?_, ?_, ?_, ?_, ?_, ?_, ?_, ?_, ?_, ?_, ?_, ?_, ?_⟩ <;> decide +kernel

theorem wit_CoreBoundaries :
    (let c : Fin 4 := 1
    let l : Nat := 16
    let s := State.reset.modCore c fun k_ => { k_ with st := .run }
    let s := s.modCore c fun k_ => { k_ with status := ((s.core c).status ||| BitVec.twoPow _ 0) }
    let s := s.modCore c fun k_ => { k_ with status := ((s.core c).status &&& ~~~(BitVec.twoPow _ 2)) }
    let s := s.modCore c fun k => { k with sigSrc := 2, irqMask := 0xFFFFFFFF }
    let k := s.core c
    let live := s.irqPend c &&& k.irqMask
    l < 20 ∧ live.getLsbD l = true ∧ ((∀ m, m < l → live.getLsbD m = false)) ∧ (k.st = .run ∨ k.st = .wait) ∧ s.pwr.st ≠ .doze ∧ s.pwr.st ≠ .hibernate ∧ k.status.getLsbD 0 = true ∧ k.status.getLsbD 2 = false)
    ∧ (let c : Fin 4 := 1
    let s := State.reset.modCore c fun k_ => { k_ with st := .wait }
    let s := s.modCore c fun k => { k with sigSrc := 2, irqMask := 0xFFFFFFFF }
    let k := s.core c
    let live := s.irqPend c &&& k.irqMask
    k.st = .wait ∧ ((∃ l : Fin 20, live.getLsbD l.val = true)))
    ∧ (let c : Fin 4 := 1
    let s := State.reset.modCore c fun k_ => { k_ with st := .wait }
    let s := s.modCore c fun k_ => { k_ with tcmp := s.now }
    let s := s.modCore c fun k_ => { k_ with irqMask := ((s.core c).irqMask ||| BitVec.twoPow _ 17) }
    let k := s.core c
    k.st = .wait ∧ k.tcmp ≤ s.now ∧ k.irqMask.getLsbD 17 = true)
    ∧ (let c : Fin 4 := 1
    let s := State.reset.modCore c fun k_ => { k_ with st := .run }
    let s := s.modCore c fun k_ => { k_ with wdKicked := true }
    let s := s.modCore c fun k_ => { k_ with status := ((s.core c).status &&& ~~~(BitVec.twoPow _ 2)) }
    let k := s.core c
    (k.st = .run ∨ k.st = .wait) ∧ k.wdKicked = true ∧ k.status.getLsbD 2 = false)
    ∧ (let c : Fin 4 := 1
    let s := State.reset.modCore c fun k_ => { k_ with st := .run }
    let s := s.modCore c fun k_ => { k_ with wdKicked := false }
    let k := s.core c
    (k.st = .run ∨ k.st = .wait) ∧ k.wdKicked = false ∧ s.img.inTrial = false)
    ∧ (let c : Fin 4 := 1
    let f : Fetch := .ok
    let s := State.reset.modCore c fun k_ => { k_ with status := ((State.reset.core c).status ||| BitVec.twoPow _ 2) }
    let s := s.modCore c fun k => { k with st := .run }
    s.canFetch c = true ∧ fetchClean f = true ∧ (s.core c).status.getLsbD 2 = true ∧ s.img.inTrial = false) := by
  refine ⟨?_, ?_, ?_, ?_, ?_, ?_⟩ <;> decide +kernel

theorem wit_CoreControl :
    (let c : Fin 4 := 1
    let s : State := { State.reset with hif.lock := false }
    let s := s.modCore c fun k_ => { k_ with hold := false }
    let k := s.core c
    s.hif.lock = false ∧ c ≠ 0 ∧ k.hold = false)
    ∧ (let c : Fin 4 := 1
    let s : State := { State.reset with hif.lock := false }
    let s := s.modCore c fun k_ => { k_ with hold := true }
    let k := s.core c
    s.hif.lock = false ∧ c ≠ 0 ∧ k.hold = true)
    ∧ (let c : Fin 4 := 1
    let s : State := { State.reset with hif.lock := false }
    let s := s.modCore c fun k_ => { k_ with st := .run }
    let k := s.core c
    s.hif.lock = false ∧ k.st = .run)
    ∧ (let c : Fin 4 := 1
    let s : State := { State.reset with hif.lock := false }
    let s := s.modCore c fun k_ => { k_ with st := .wait }
    let k := s.core c
    s.hif.lock = false ∧ k.st = .wait)
    ∧ (let c : Fin 4 := 1
    let s : State := { State.reset with hif.lock := false }
    let s := s.modCore c fun k_ => { k_ with st := .halted }
    let k := s.core c
    s.hif.lock = false ∧ k.st = .halted)
    ∧ (let c : Fin 4 := 1
    let s := State.reset.modCore c fun k_ => { k_ with st := .fault }
    let s := s.modCore c fun k_ => { k_ with autoRst := true }
    let s := s.modCore c fun k_ => { k_ with hold := false }
    let k := s.core c
    k.st = .fault ∧ k.autoRst = true ∧ k.hold = false) := by
  refine ⟨?_, ?_, ?_, ?_, ?_, ?_⟩ <;> decide +kernel

theorem wit_CorePorts :
    (let c : Fin 4 := 1
    let s := State.reset.modCore c fun k_ => { k_ with st := .run }
    s.executes c = true ∧ c ≠ 0)
    ∧ (let c : Fin 4 := 0
    let s := State.reset.modCore c fun k_ => { k_ with st := .run }
    let s := s.modCore c fun k => { k with ppSlot := 5, ppData := (Vector.range 64).map fun n => ([1, 0, 0, 0, 0, 0, 0, 0, 1, 1, 1, 0, 100, 0, 44, 1, 200, 0, 0, 0, 0, 0, 0, 0, 0, 0, 10, 0, 0, 0, 0, 0, 0, 0, 0, 0, 0, 0, 0, 0, 0, 0, 0, 0, 0, 0, 0, 0, 0, 0, 0, 0, 0, 0, 0, 0, 0, 0, 0, 0, 184, 90, 221, 230] : List Byte).getD n 0 }
    s.executes c = true ∧ c = 0 ∧ s.pod.check ((s.core c).ppSlot.toNat % 4096) { bytes := (s.core c).ppData.toList } = 0)
    ∧ (let p : PortId := 3
    let s : State := { State.reset with wvl.portmap := State.reset.wvl.portmap ^^^ 0x40 }
    let field (w : Word) := w.toNat / 4 ^ p.val % 4
    (s.flow (fVdmRx p)).held = 0 ∧ (s.flow (fVdmTx p)).held = 0 ∧ field s.wvl.portmap ≠ s.assigned p)
    ∧ (let v : Word := 0x170
    v.getLsbD 9 = false)
    ∧ (let v : Word := 0x270
    v.getLsbD 9 = true ∧ v.toNat % 256 = 0x70)
    ∧ (let c : Fin 4 := 1
    let x : Fin 16 := 2
    let s := State.reset.modFp c x fun y => { y with busy := false }
    let s := s.modFp c x fun y => { y with bound := false }
    let y := s.fp c x
    y.busy = false ∧ y.bound = false)
    ∧ (let c : Fin 4 := 1
    let x : Fin 16 := 2
    let s := State.reset.modFp c x fun y => { y with busy := false }
    let s := s.modFp c x fun y => { y with bound := true }
    let s := s.modFp c x fun y => { y with held := none }
    let s := s.modFp c x fun y => { y with bind := 0x270, bound := true }
    let y := s.fp c x
    y.busy = false ∧ y.bound = true ∧ y.flowNo = fWmsg ∧ y.producer = false ∧ y.held = none ∧ s.waitingFor c fWmsg = [])
    ∧ (let c : Fin 4 := 1
    let x : Fin 16 := 2
    let cell : Cell := { idx := 5, pay := [.bytes [1, 2, 3]] }
    let r : List Cell := []
    let cell := { cell with ue := none }
    let s := State.reset.modFp c x fun y => { y with busy := false }
    let s := s.modFp c x fun y => { y with bound := true }
    let s := s.modFp c x fun y => { y with held := none }
    let s := s.modFp c x fun y => { y with bind := 0x270, bound := true }
    let s := s.modFlow fWmsg fun y => { y with cells := [cell] }
    let y := s.fp c x
    y.busy = false ∧ y.bound = true ∧ y.flowNo = fWmsg ∧ y.producer = false ∧ y.held = none ∧ s.waitingFor c fWmsg = cell :: r ∧ cell.ue = none)
    ∧ (let c : Fin 4 := 1
    let x : Fin 16 := 2
    let cell : Cell := { idx := 5, pay := [.bytes [1, 2, 3]] }
    let s := State.reset.modFp c x fun y => { y with busy := false }
    let s := s.modFp c x fun y => { y with bound := true }
    let s := s.modFp c x fun y => { y with held := some cell }
    let s := s.modFp c x fun y => { y with bind := 0x270, bound := true }
    let y := s.fp c x
    y.busy = false ∧ y.bound = true ∧ y.flowNo = fWmsg ∧ y.producer = false ∧ y.held = some cell)
    ∧ (let c : Fin 4 := 1
    let x : Fin 16 := 2
    let s := State.reset.modFp c x fun y => { y with busy := false }
    let s := s.modFp c x fun y => { y with bound := true }
    let s := s.modFp c x fun y => { y with held := none }
    let s := s.modFlow fWmsg fun y => { y with waiters := [] }
    let s := s.modFp c x fun y => { y with bind := 0x370, bound := true }
    let y := s.fp c x
    y.busy = false ∧ y.bound = true ∧ y.flowNo = fWmsg ∧ y.producer = true ∧ y.held = none ∧ (s.flow fWmsg).waiters = [] ∧ 0 < s.credit fWmsg)
    ∧ (let c : Fin 4 := 1
    let x : Fin 16 := 2
    let cell : Cell := { idx := 5, pay := [.bytes [1, 2, 3]] }
    let s := State.reset.modFp c x fun y => { y with busy := false }
    let s := s.modFp c x fun y => { y with bound := true }
    let s := s.modFp c x fun y => { y with held := some cell }
    let s := s.modFp c x fun y => { y with bind := 0x370, bound := true }
    let y := s.fp c x
    y.busy = false ∧ y.bound = true ∧ y.flowNo = fWmsg ∧ y.producer = true ∧ y.held = some cell ∧ y.buf.readN 0 0 1 = [0])
    ∧ (let c : Fin 4 := 1
    let x : Fin 16 := 2
    let s := State.reset.modFp c x fun y => { y with wait := some 1, busy := true }
    let y := s.fp c x
    y.wait.isSome = true)
    ∧ (let c : Fin 4 := 1
    let x : Fin 16 := 2
    let cell : Cell := { idx := 5, pay := [.bytes [1, 2, 3]] }
    let r : List Cell := []
    let cell := { cell with ue := none }
    let s := State.reset.modFp c x fun y => { y with wait := some 1 }
    let s := s.modFp c x fun y => { y with bind := 0x270, bound := true }
    let s := s.modFlow fWmsg fun y => { y with cells := [cell] }
    let y := s.fp c x
    y.wait = some 1 ∧ y.flowNo = fWmsg ∧ s.waitingFor c fWmsg = cell :: r ∧ cell.ue = none) := by
  refine ⟨?_, ?_, ?_, ?_, ?_, ?_, ?_, ?_, ?_, ?_, ?_, ?_, ?_⟩ <;> decide +kernel

theorem wit_CryptoJobs :
    (let c : Fin 4 := 1
    let d : Fin 4 := 1
    let j : CxJob := {}
    let s := State.reset.modCore c fun k_ => { k_ with st := .run }
    let s := s.modCore c fun k_ => { k_ with cx.busy := false }
    let s : State := { s with wvl.engine := some d }
    let s := s.modCore d fun k_ => { k_ with cx.job := some j }
    (s.core c).st = .run ∧ (s.core c).cx.busy = false ∧ s.wvl.engine = some d ∧ (s.core d).cx.job = some j ∧ s.cxBad j = true)
    ∧ (let c : Fin 4 := 1
    let d : Fin 4 := 1
    let j : CxJob := { op := 5#32, src := 0x20000000, len := 16, dst := 0x20000040, aux := 0x20000080 }
    let s := State.reset.modCore c fun k_ => { k_ with st := .run }
    let s := s.modCore c fun k_ => { k_ with cx.busy := false }
    let s : State := { s with wvl.engine := some d }
    let s := s.modCore d fun k_ => { k_ with cx.job := some j }
    let s : State := { s with wvl.keys := s.wvl.keys.set 0 (some 77) }
    (s.core c).st = .run ∧ (s.core c).cx.busy = false ∧ s.wvl.engine = some d ∧ (s.core d).cx.job = some j ∧ s.cxBad j = false ∧ j.kind = 5) := by
  refine ⟨?_, ?_⟩ <;> decide +kernel

theorem wit_PortCommands :
    (let d : Desc := { port := 3, tag := 5, op := 0x01 }
    let s : State := { State.reset with hif.table := [({ d := d } : OutDesc)] }
    d.onlyAt [] = true ∧ s.firstUp d 0x01 = true)
    ∧ (let d : Desc := { port := 3, tag := 5, op := 0x02 }
    let p := d.pid
    let s : State := { State.reset with hif.table := [({ d := d } : OutDesc)] }
    let s := s.modPort p fun q => { q with cc.st := .disabled }
    let s : State := { s with tb.fallback := false }
    let p := d.pid
    let q := s.port p
    d.onlyAt [] = true ∧ s.firstUp d 0x02 = true ∧ q.cc.st = .disabled ∧ s.tb.fallback = false ∧ s.rpFits p 0 = true)
    ∧ (let d : Desc := { port := 3, tag := 5, op := 0x02 }
    let p := d.pid
    let s : State := { State.reset with hif.table := [({ d := d } : OutDesc)] }
    let s := s.modPort p fun q => { q with cc.st := .disabled }
    let s : State := { s with tb.fallback := false, bud.cfg := 0 }
    let p := d.pid
    let q := s.port p
    d.onlyAt [] = true ∧ s.firstUp d 0x02 = true ∧ q.cc.st = .disabled ∧ s.tb.fallback = false ∧ s.rpFits p 0 = false)
    ∧ (let d : Desc := { port := 3, tag := 5, op := 0x02 }
    let p := d.pid
    let s : State := { State.reset with hif.table := [({ d := d } : OutDesc)] }
    let s := s.modPort p fun q => { q with cc.st := .unattached }
    let p := d.pid
    let q := s.port p
    d.onlyAt [] = true ∧ s.firstUp d 0x02 = true ∧ q.cc.st ≠ .disabled ∧ d.defer = false)
    ∧ (let d : Desc := { port := 3, tag := 5, op := 0x02 }
    let d := { d with flags := 1 }
    let p := d.pid
    let s : State := { State.reset with hif.table := [({ d := d } : OutDesc)] }
    let s := s.modPort p fun q => { q with cc.st := .unattached }
    let p := d.pid
    let q := s.port p
    d.onlyAt [] = true ∧ s.firstUp d 0x02 = true ∧ q.cc.st ≠ .disabled ∧ d.defer = true)
    ∧ (let d : Desc := { port := 3, tag := 5, op := 0x03 }
    let p := d.pid
    let s : State := { State.reset with hif.table := [({ d := d } : OutDesc)] }
    let s := s.modPort p fun q => { q with cc.st := .unattached }
    let p := d.pid
    let q := s.port p
    d.onlyAt [] = true ∧ s.firstUp d 0x03 = true ∧ q.cc.st ≠ .disabled ∧ q.cc.st.isHold = false ∧ q.latching = false)
    ∧ (let d : Desc := { port := 3, tag := 5, op := 0x05 }
    let p := d.pid
    let s : State := { State.reset with hif.table := [({ d := d } : OutDesc)] }
    let s := s.modPort p fun q => { q with cc.st := .holdoff }
    let p := d.pid
    let q := s.port p
    d.onlyAt [] = true ∧ s.firstUp d 0x05 = true ∧ q.cc.st.isHold = true)
    ∧ (let d : Desc := { port := 3, tag := 5, op := 0x06 }
    let p := d.pid
    let s : State := { State.reset with hif.table := [({ d := d } : OutDesc)] }
    let s := s.modPort p fun q => { q with cc.st := .attachedSrc, pol.seq := .ready }
    let p := d.pid
    let q := s.port p
    d.onlyAt [] = true ∧ s.firstUp d 0x06 = true ∧ q.cc.st = .attachedSrc ∧ q.pol.seq = .ready)
    ∧ (let d : Desc := { port := 3, tag := 5, op := 0x07 }
    let p := d.pid
    let s : State := { State.reset with hif.table := [({ d := d } : OutDesc)] }
    let s := s.modPort p fun q => { q with cc.st := .attachedSrc, pol.seq := .ready }
    let p := d.pid
    let q := s.port p
    d.onlyAt [] = true ∧ s.firstUp d 0x07 = true ∧ q.cc.st = .attachedSrc ∧ q.pol.seq = .ready)
    ∧ (let d : Desc := { port := 3, tag := 5, op := 0x04 }
    let s : State := { State.reset with hif.table := [({ d := d } : OutDesc)] }
    s.firstUp d 0x04 = true ∧ d.onlyAt [] = true) := by
  refine ⟨?_, ?_, ?_, ?_, ?_, ?_, ?_, ?_, ?_, ?_⟩ <;> decide +kernel

theorem wit_ExclusionGroupCommands :
    (let d : Desc := { port := 3, tag := 5, params := List.replicate 52 0 }
    let c : Contract := { mv := 9000 }
    let d := { d with op := 0x08 }
    let p := d.pid
    let s : State := { State.reset with hif.table := [({ d := d } : OutDesc)] }
    let s := s.modPort p fun q => { q with cc.st := .attachedSrc, pol.seq := .ready, pol.contract := some c }
    let p := d.pid
    let q := s.port p
    s.firstUp d 0x08 = true ∧ d.onlyAt [(8, 2)] = true ∧ q.cc.st = .attachedSrc ∧ q.pol.seq = .ready ∧ q.pol.contract = some c ∧ c.kind ≠ .pps ∧ (trimUnits d).natAbs ≤ c.mv * 3 / 100 / 20)
    ∧ (let d : Desc := { port := 3, tag := 5, op := 0x09 }
    let d := { d with params := putLE d.params 0 1 (1) }
    let p := d.pid
    let s : State := { State.reset with hif.table := [({ d := d } : OutDesc)] }
    let s := s.modPort p fun q => { q with cc.st := .attachedSrc, pol.seq := .ready, pol.contract := some {}, swap.cfg := 1, swap.snkValid := false }
    let p := d.pid
    s.firstUp d 0x09 = true ∧ d.onlyAt [(8, 1)] = true ∧ d.le 8 1 = 1 ∧ s.roleSwapLegal p false = none)
    ∧ (let d : Desc := { port := 3, tag := 5, op := 0x09 }
    let d := { d with params := putLE d.params 0 1 (0) }
    let p := d.pid
    let s : State := { State.reset with hif.table := [({ d := d } : OutDesc)] }
    let s := s.modPort p fun q => { q with cc.st := .attachedSnk, pol.seq := .sink, swap.cfg := 1 }
    let p := d.pid
    s.firstUp d 0x09 = true ∧ d.onlyAt [(8, 1)] = true ∧ d.le 8 1 = 0 ∧ s.roleSwapLegal p true = none)
    ∧ (let d : Desc := { port := 3, tag := 5, op := 0x0A }
    let d := { d with params := putLE d.params 0 1 (1) }
    let p := d.pid
    let s : State := { State.reset with hif.table := [({ d := d } : OutDesc)] }
    let s := s.modPort p fun q => { q with cc.st := .attachedSrc, pol.seq := .ready }
    let s := s.modPort p fun q => { q with cc.active := some .cc1, cc.cls2 := .ra, cc.vcfg := q.cc.vcfg ||| 1, ef.gateOn := true }
    let p := d.pid
    s.firstUp d 0x0A = true ∧ d.onlyAt [(8, 1)] = true ∧ d.le 8 1 ≤ 1 ∧ s.vconnSwapLegal p (d.le 8 1 == 1) = none)
    ∧ (let d : Desc := { port := 3, tag := 5, op := 0x0B }
    let d := { d with params := putLE d.params 0 1 (1) }
    let p := d.pid
    let s : State := { State.reset with hif.table := [({ d := d } : OutDesc)] }
    let s := s.modPort p fun q => { q with cc.st := .attachedSrc, pol.seq := .ready }
    let s := s.modPort p fun q => { q with cc.vcfg := ((s.port p).cc.vcfg ||| BitVec.twoPow _ 0), cc.vconnOn := false }
    let s := s.modPort p fun q => { q with cc.active := some .cc1, cc.cls2 := .ra, cc.vcfg := q.cc.vcfg ||| 1, ef.gateOn := true }
    let p := d.pid
    let q := s.port p
    s.firstUp d 0x0B = true ∧ d.onlyAt [(8, 1)] = true ∧ d.le 8 1 = 1 ∧ q.cc.st = .attachedSrc ∧ q.pol.seq = .ready ∧ q.cc.vcfg.getLsbD 0 = true ∧ q.cc.vconnOn = false ∧ q.vconnMay = true)
    ∧ (let d : Desc := { port := 3, tag := 5, op := 0x0B }
    let d := { d with params := putLE d.params 0 1 (0) }
    let p := d.pid
    let s : State := { State.reset with hif.table := [({ d := d } : OutDesc)] }
    let s := s.modPort p fun q => { q with cc.st := .attachedSrc, pol.seq := .ready, swap.vconnSrc := true, pol.eprMode := false, cc.vconnOn := true }
    let p := d.pid
    let q := s.port p
    s.firstUp d 0x0B = true ∧ d.onlyAt [(8, 1)] = true ∧ d.le 8 1 = 0 ∧ q.cc.st = .attachedSrc ∧ q.pol.seq = .ready ∧ q.swap.vconnSrc = true ∧ q.pol.eprMode = false ∧ q.cc.vconnOn = true)
    ∧ (let d : Desc := { port := 3, tag := 5, op := 0x0C }
    let d := { d with params := putLE d.params 0 1 (1) }
    let p := d.pid
    let s : State := { State.reset with hif.table := [({ d := d } : OutDesc)] }
    let s := s.modPort p fun q => { q with cc.st := .attachedSnk }
    let s := s.modPort p fun q => { q with swap.cfg := ((s.port p).swap.cfg ||| BitVec.twoPow _ 4), ef.bfCmd := false, ef.vbusMv := 4750 }
    let s := s.modPort p fun q => { q with ef.vbusMv := 5500 }
    let p := d.pid
    let q := s.port p
    s.firstUp d 0x0C = true ∧ d.onlyAt [(8, 1)] = true ∧ d.le 8 1 = 1 ∧ q.cc.st = .attachedSnk ∧ q.swap.cfg.getLsbD 4 = true ∧ q.ef.bfCmd = false ∧ 4750 ≤ q.ef.vbusMv ∧ q.ef.vbusMv ≤ 5500)
    ∧ (let d : Desc := { port := 3, tag := 5, op := 0x0C }
    let d := { d with params := putLE d.params 0 1 (0) }
    let p := d.pid
    let s : State := { State.reset with hif.table := [({ d := d } : OutDesc)] }
    let s := s.modPort p fun q => { q with cc.st := .attachedSnk, ef.bfCmd := true }
    let p := d.pid
    let q := s.port p
    s.firstUp d 0x0C = true ∧ d.onlyAt [(8, 1)] = true ∧ d.le 8 1 = 0 ∧ q.cc.st = .attachedSnk ∧ q.ef.bfCmd = true ∧ q.swap.kind ≠ .fr) := by
  refine ⟨?_, ?_, ?_, ?_, ?_, ?_, ?_, ?_⟩ <;> decide +kernel

theorem wit_RecordCommands :
    (let d : Desc := { port := 3, tag := 5, op := 0x0D }
    let d := { d with params := putLE d.params 0 1 (7) }
    let p := d.pid
    let s : State := { State.reset with hif.table := [({ d := d } : OutDesc)] }
    let s := s.modPort p fun q => { q with pol.seq := .ready }
    let p := d.pid
    s.firstUp d 0x0D = true ∧ d.onlyAt [(8, 1)] = true ∧ d.le 8 1 = 7 ∧ (s.port p).pol.seq = .ready)
    ∧ (let d : Desc := { port := 3, tag := 5, op := 0x10 }
    let s : State := { State.reset with hif.table := [({ d := d } : OutDesc)], ses.recovDone := true }
    let s : State := { s with ses.ctxs := s.ses.ctxs.set 0 (putLE (putLE (List.replicate 256 0) 1 1 3) 8 8 77) }
    s.firstUp d 0x10 = true ∧ d.onlyAt [(8, 1), (16, 8)] = true ∧ d.le 8 1 < 128 ∧ d.le 16 8 % 64 = 0 ∧ s.ses.recovDone = true ∧ s.ctxState (d.le 8 1) ≠ 0)
    ∧ (let d : Desc := { port := 3, tag := 5, op := 0x11 }
    let d := { d with params := putLE d.params 8 8 77 }
    let s : State := { State.reset with hif.table := [({ d := d } : OutDesc)] }
    let s : State := { s with ses.ctxs := s.ses.ctxs.set 0 (putLE (putLE (List.replicate 256 0) 1 1 3) 8 8 77) }
    s.firstUp d 0x11 = true ∧ d.onlyAt [(8, 1), (16, 8)] = true ∧ d.le 8 1 < 128 ∧ s.ctxState (d.le 8 1) = 3 ∧ s.ctxId (d.le 8 1) = d.le 16 8)
    ∧ (let d : Desc := { port := 3, tag := 5, op := 0x12 }
    let d := { d with params := putLE d.params 0 8 (631152000 * 65536) }
    let s : State := { State.reset with hif.table := [({ d := d } : OutDesc)] }
    s.firstUp d 0x12 = true ∧ d.onlyAt [(8, 8)] = true ∧ calMin ≤ d.le 8 8 / 65536)
    ∧ (let d : Desc := { port := 3, tag := 5, op := 0x38 }
    let d := { d with params := putLE d.params 12 2 (1) }
    let d := { d with params := putLE d.params 12 2 (256) }
    let d := { d with params := putLE d.params 14 1 (1) }
    let s : State := { State.reset with hif.table := [({ d := d } : OutDesc)], rst.booted := true }
    s.firstUp d 0x38 = true ∧ d.onlyAt [(8, 15)] = true ∧ d.le 8 8 % 32 = 0 ∧ 1 ≤ d.le 20 2 ∧ d.le 20 2 ≤ 256 ∧ d.le 22 1 = 1 ∧ s.rst.booted = true ∧ s.tb.seqCount + s.hif.table.length < 2 ^ 40) := by
  refine ⟨?_, ?_, ?_, ?_, ?_⟩ <;> decide +kernel

theorem wit_PodCommands :
    (let d : Desc := { port := 3, tag := 5, params := List.replicate 52 0 }
    let block : List Byte := List.replicate 64 0
    let d := { d with op := 0x20 }
    let d := { d with params := putLE d.params 12 8 (0) }
    let d := { d with params := putLE d.params 10 2 (1) }
    let s : State := { State.reset with hif.table := [({ d := d } : OutDesc)], rst.booted := true }
    s.firstUp d 0x20 = true ∧ d.onlyAt [(8, 8), (16, 2), (18, 2), (20, 8)] = true ∧ d.le 8 8 % 64 = 0 ∧ d.le 20 8 = 0 ∧ d.le 18 2 = 1 ∧ d.le 16 2 < 4096 ∧ s.rst.booted = true ∧ block.length = 64 ∧ block.all (· == 0) = true)
    ∧ (let d : Desc := { port := 3, tag := 5, params := List.replicate 52 0 }
    let block : List Byte := [1, 0, 0, 0, 0, 0, 0, 0, 1, 1, 1, 0, 100, 0, 44, 1, 200, 0, 0, 0, 0, 0, 0, 0, 0, 0, 10, 0, 0, 0, 0, 0, 0, 0, 0, 0, 0, 0, 0, 0, 0, 0, 0, 0, 0, 0, 0, 0, 0, 0, 0, 0, 0, 0, 0, 0, 0, 0, 0, 0, 184, 90, 221, 230]
    let d := { d with op := 0x20 }
    let d := { d with params := putLE d.params 12 8 (0) }
    let d := { d with params := putLE d.params 10 2 (1) }
    let d := { d with params := putLE d.params 8 2 5 }
    let s : State := { State.reset with hif.table := [({ d := d } : OutDesc)], rst.booted := true }
    s.firstUp d 0x20 = true ∧ d.onlyAt [(8, 8), (16, 2), (18, 2), (20, 8)] = true ∧ d.le 8 8 % 64 = 0 ∧ d.le 20 8 = 0 ∧ d.le 18 2 = 1 ∧ d.le 16 2 < 4096 ∧ s.rst.booted = true ∧ block.length = 64 ∧ block.all (· == 0) = false ∧ s.pod.check (d.le 16 2) { bytes := block } = 0)
    ∧ (let d : Desc := { port := 3, tag := 5, op := 0x21 }
    let p := d.pid
    let s : State := { State.reset with hif.table := [({ d := d } : OutDesc)] }
    let s := s.modPort p fun q => { q with cc.st := .attachedSrc, pol.seq := .ready, pod.idValid := true, pd.revSop := 2 }
    let p := d.pid
    let q := s.port p
    s.firstUp d 0x21 = true ∧ d.onlyAt [] = true ∧ q.podLegal = none)
    ∧ (let d : Desc := { port := 3, tag := 5, params := List.replicate 52 0 }
    let e : PodEntry := { bytes := [1, 0, 0, 0, 0, 0, 0, 0, 1, 1, 1, 0, 100, 0, 44, 1, 200, 0, 0, 0, 0, 0, 0, 0, 0, 0, 10, 0, 0, 0, 0, 0, 0, 0, 0, 0, 0, 0, 0, 0, 0, 0, 0, 0, 0, 0, 0, 0, 0, 0, 0, 0, 0, 0, 0, 0, 0, 0, 0, 0, 184, 90, 221, 230] }
    let d := { d with op := 0x22 }
    let p := d.pid
    let s : State := { State.reset with hif.table := [({ d := d } : OutDesc)] }
    let s := s.modPort p fun q => { q with pd.revSop := 2, pod.copy := some e, pod.src := 2, cc.st := .attachedSrc, pol.seq := .ready }
    let s := s.modPort p fun q => { q with pod.idValid := true, pd.revSop := 2, pod.stale := true }
    let p := d.pid
    let q := s.port p
    s.firstUp d 0x22 = true ∧ d.onlyAt [] = true ∧ q.podLegal = none ∧ q.rev3 = true ∧ q.pod.copy = some e ∧ q.pod.src = 2 ∧ ((e.authReq = true ∨ q.pod.stale = true)))
    ∧ (let d : Desc := { port := 3, tag := 5, op := 0x23 }
    let d := { d with params := putLE d.params 0 1 (1) }
    let p := d.pid
    let s : State := { State.reset with hif.table := [({ d := d } : OutDesc)] }
    let s := s.modPort p fun q => { q with cc.st := .attachedSrc, pol.seq := .ready, pod.idValid := true, pd.revSop := 2, pod.src := 2, pod.copy := some { bytes := [1, 0, 0, 0, 0, 0, 0, 0, 1, 0x41, 1] ++ List.replicate 53 0 } }
    let s : State := { s with pod.cfg := s.pod.cfg ||| 0x00010008, pod.fleet := 0x1234 }
    let p := d.pid
    s.firstUp d 0x23 = true ∧ d.onlyAt [(8, 1)] = true ∧ d.le 8 1 = 1 ∧ s.fleetLegal p = none)
    ∧ (let d : Desc := { port := 3, tag := 5, op := 0x23 }
    let d := { d with params := putLE d.params 0 1 (0) }
    let p := d.pid
    let s : State := { State.reset with hif.table := [({ d := d } : OutDesc)] }
    let s := s.modPort p fun q => { q with cc.st := .attachedSrc, pod.fleet := true }
    let p := d.pid
    let q := s.port p
    s.firstUp d 0x23 = true ∧ d.onlyAt [(8, 1)] = true ∧ d.le 8 1 = 0 ∧ q.cc.st = .attachedSrc ∧ q.pod.fleet = true)
    ∧ (let x : PodEntry := { bytes := [1, 0, 0, 0, 0, 0, 0, 0, 1, 1, 1, 0, 100, 0, 44, 1, 200, 0, 0, 0, 0, 0, 0, 0, 0, 0, 10, 0, 0, 0, 0, 0, 0, 0, 0, 0, 0, 0, 0, 0, 0, 0, 0, 0, 0, 0, 0, 0, 0, 0, 0, 0, 0, 0, 0, 0, 0, 0, 0, 0, 184, 90, 221, 230] }
    let s : State := { State.reset with pod.slots := [(State.reset.pod.slotNo, x)] }
    let k := s.pod.slotNo
    podGet s.pod.slots k = some x)
    ∧ (let s : State := State.reset
    let k := s.pod.slotNo
    podGet s.pod.slots k = none)
    ∧ (let s : State := { State.reset with pod.slotSel := 5, pod.data := (Vector.range 16).map fun n => BitVec.ofNat 32 (getLE ([1, 0, 0, 0, 0, 0, 0, 0, 1, 1, 1, 0, 100, 0, 44, 1, 200, 0, 0, 0, 0, 0, 0, 0, 0, 0, 10, 0, 0, 0, 0, 0, 0, 0, 0, 0, 0, 0, 0, 0, 0, 0, 0, 0, 0, 0, 0, 0, 0, 0, 0, 0, 0, 0, 0, 0, 0, 0, 0, 0, 184, 90, 221, 230] : List Byte) (4 * n) 4) }
    let k := s.pod.slotNo
    let e : PodEntry := { bytes := s.pod.data.toList.flatMap fun w => leBytes 4 w.toNat }
    s.pod.check k e = 0)
    ∧ (let s : State := State.reset
    let k := s.pod.slotNo
    let e : PodEntry := { bytes := s.pod.data.toList.flatMap fun w => leBytes 4 w.toNat }
    s.pod.check k e ≠ 0) := by
  refine ⟨?_, ?_, ?_, ?_, ?_, ?_, ?_, ?_, ?_, ?_⟩ <;> decide +kernel

theorem wit_DeviceCommands :
    (let d : Desc := { op := 0x28, port := 3, tag := 5, params := List.replicate 52 0 }
    let d := { d with params := putLE d.params 0 1 1 }
    let d := { d with params := putLE d.params 1 1 0 }
    let d := { d with params := putLE d.params 2 1 0 }
    let p := d.pid
    let leg0 : Option Nat := some 35000
    let leg1 : Option Nat := none
    let s : State := { State.reset with hif.table := [({ d := d } : OutDesc)], tb.fallback := false }
    let s := s.modPort p fun q => { q with cc.st := .disabled }
    let s := s.modMon p 9 fun w => { w with route := 0x8000 }
    s.firstUp d 0x28 = true ∧ d.onlyAt [(8, 3)] = true ∧ d.le 8 1 ≤ 31 ∧ d.le 9 1 ≤ 1
      ∧ ((d.le 8 1 < 8 ∧ d.le 10 1 ≤ 2) ∨ (8 ≤ d.le 8 1 ∧ d.le 10 1 = 2 ∧ (s.wm p (Fin.ofNat 32 (d.le 8 1))).route.getLsbD 15 = true))
      ∧ (s.port p).cc.st = .disabled ∧ s.tb.fallback = false ∧ (d.le 10 1 ≠ 1 → leg0.any (fun t => t ≤ 35000) = true) ∧ (d.le 8 1 < 8 → d.le 10 1 ≠ 0 → leg1.any (fun t => t ≤ 35000) = true))
    ∧ (let d : Desc := { op := 0x28, port := 3, tag := 5, params := List.replicate 52 0 }
    let d := { d with params := putLE d.params 0 1 7 }
    let d := { d with params := putLE d.params 1 1 1 }
    let d := { d with params := putLE d.params 2 1 1 }
    let p := d.pid
    let leg0 : Option Nat := none
    let leg1 : Option Nat := some 20000
    let s : State := { State.reset with hif.table := [({ d := d } : OutDesc)], tb.fallback := false }
    let s := s.modPort p fun q => { q with cc.st := .disabled }
    let s := s.modMon p 9 fun w => { w with route := 0x8000 }
    s.firstUp d 0x28 = true ∧ d.onlyAt [(8, 3)] = true ∧ d.le 8 1 ≤ 31 ∧ d.le 9 1 ≤ 1
      ∧ ((d.le 8 1 < 8 ∧ d.le 10 1 ≤ 2) ∨ (8 ≤ d.le 8 1 ∧ d.le 10 1 = 2 ∧ (s.wm p (Fin.ofNat 32 (d.le 8 1))).route.getLsbD 15 = true))
      ∧ (s.port p).cc.st = .disabled ∧ s.tb.fallback = false ∧ (d.le 10 1 ≠ 1 → leg0.any (fun t => t ≤ 35000) = true) ∧ (d.le 8 1 < 8 → d.le 10 1 ≠ 0 → leg1.any (fun t => t ≤ 35000) = true))
    ∧ (let d : Desc := { op := 0x28, port := 3, tag := 5, params := List.replicate 52 0 }
    let d := { d with params := putLE d.params 0 1 2 }
    let d := { d with params := putLE d.params 1 1 1 }
    let d := { d with params := putLE d.params 2 1 2 }
    let p := d.pid
    let leg0 : Option Nat := some 100
    let leg1 : Option Nat := some 35001
    let s : State := { State.reset with hif.table := [({ d := d } : OutDesc)], tb.fallback := false }
    let s := s.modPort p fun q => { q with cc.st := .disabled }
    let s := s.modMon p 9 fun w => { w with route := 0x8000 }
    s.firstUp d 0x28 = true ∧ d.onlyAt [(8, 3)] = true ∧ d.le 8 1 ≤ 31 ∧ d.le 9 1 ≤ 1
      ∧ ((d.le 8 1 < 8 ∧ d.le 10 1 ≤ 2) ∨ (8 ≤ d.le 8 1 ∧ d.le 10 1 = 2 ∧ (s.wm p (Fin.ofNat 32 (d.le 8 1))).route.getLsbD 15 = true))
      ∧ (s.port p).cc.st = .disabled ∧ s.tb.fallback = false ∧ ((d.le 10 1 ≠ 1 ∧ leg0.any (fun t => t ≤ 35000) = false) ∨ ((d.le 8 1 < 8 ∧ d.le 10 1 ≠ 0) ∧ leg1.any (fun t => t ≤ 35000) = false)))
    ∧ (let d : Desc := { op := 0x28, port := 3, tag := 5, params := List.replicate 52 0 }
    let d := { d with params := putLE d.params 0 1 9 }
    let d := { d with params := putLE d.params 1 1 0 }
    let d := { d with params := putLE d.params 2 1 2 }
    let p := d.pid
    let leg0 : Option Nat := some 7
    let leg1 : Option Nat := none
    let s : State := { State.reset with hif.table := [({ d := d } : OutDesc)], tb.fallback := false }
    let s := s.modPort p fun q => { q with cc.st := .disabled }
    let s := s.modMon p 9 fun w => { w with route := 0x8000 }
    s.firstUp d 0x28 = true ∧ d.onlyAt [(8, 3)] = true ∧ d.le 8 1 ≤ 31 ∧ d.le 9 1 ≤ 1
      ∧ ((d.le 8 1 < 8 ∧ d.le 10 1 ≤ 2) ∨ (8 ≤ d.le 8 1 ∧ d.le 10 1 = 2 ∧ (s.wm p (Fin.ofNat 32 (d.le 8 1))).route.getLsbD 15 = true))
      ∧ (s.port p).cc.st = .disabled ∧ s.tb.fallback = false ∧ (d.le 10 1 ≠ 1 → leg0.any (fun t => t ≤ 35000) = true) ∧ (d.le 8 1 < 8 → d.le 10 1 ≠ 0 → leg1.any (fun t => t ≤ 35000) = true))
    ∧ (let d : Desc := { op := 0x28, port := 3, tag := 5, params := List.replicate 52 0 }
    let d := { d with params := putLE d.params 0 1 9 }
    let d := { d with params := putLE d.params 1 1 0 }
    let d := { d with params := putLE d.params 2 1 2 }
    let p := d.pid
    let leg0 : Option Nat := none
    let leg1 : Option Nat := none
    let s : State := { State.reset with hif.table := [({ d := d } : OutDesc)], tb.fallback := false }
    let s := s.modPort p fun q => { q with cc.st := .disabled }
    let s := s.modMon p 9 fun w => { w with route := 0x8000 }
    s.firstUp d 0x28 = true ∧ d.onlyAt [(8, 3)] = true ∧ d.le 8 1 ≤ 31 ∧ d.le 9 1 ≤ 1
      ∧ ((d.le 8 1 < 8 ∧ d.le 10 1 ≤ 2) ∨ (8 ≤ d.le 8 1 ∧ d.le 10 1 = 2 ∧ (s.wm p (Fin.ofNat 32 (d.le 8 1))).route.getLsbD 15 = true))
      ∧ (s.port p).cc.st = .disabled ∧ s.tb.fallback = false ∧ ((d.le 10 1 ≠ 1 ∧ leg0.any (fun t => t ≤ 35000) = false) ∨ ((d.le 8 1 < 8 ∧ d.le 10 1 ≠ 0) ∧ leg1.any (fun t => t ≤ 35000) = false)))
    ∧ (let d : Desc := { op := 0x30, port := 3, tag := 5, params := List.replicate 52 0 }
    let w : List Byte := [1, 2]
    let d := { d with params := putLE d.params 0 1 1 }
    let d := { d with params := putLE d.params 2 2 32 }
    let d := { d with params := putLE d.params 4 2 2 }
    let d := { d with params := putLE d.params 6 2 4 }
    let d := { d with params := putLE d.params 8 8 256 }
    let d := { d with params := putLE d.params 16 8 512 }
    let s : State := { State.reset with hif.table := [({ d := d } : OutDesc)] }
    let s : State := { s with twi.c := s.twi.c.set 1 { s.twi.c[1] with cfg := 4 } }
    s.firstUp d 0x30 = true ∧ d.onlyAt [(8, 24)] = true ∧ twiOk (d.le 8 1) (d.le 9 1) (d.le 10 2) (d.le 12 2) (d.le 14 2) = true
      ∧ (d.le 12 2 = 0 → d.le 16 8 = 0) ∧ (d.le 14 2 = 0 → d.le 24 8 = 0) ∧ s.twi.c[(Fin.ofNat 4 (d.le 8 1)).val].cfg.getLsbD 2 = true ∧ w ≠ [])
    ∧ (let d : Desc := { op := 0x30, port := 3, tag := 5, params := List.replicate 52 0 }
    let w : List Byte := List.replicate 224 7
    let d := { d with params := putLE d.params 0 1 3 }
    let d := { d with params := putLE d.params 2 2 80 }
    let d := { d with params := putLE d.params 4 2 224 }
    let d := { d with params := putLE d.params 6 2 0 }
    let d := { d with params := putLE d.params 8 8 256 }
    let d := { d with params := putLE d.params 16 8 0 }
    let s : State := { State.reset with hif.table := [({ d := d } : OutDesc)] }
    let s : State := { s with twi.c := s.twi.c.set 3 { s.twi.c[3] with cfg := 4 } }
    s.firstUp d 0x30 = true ∧ d.onlyAt [(8, 24)] = true ∧ twiOk (d.le 8 1) (d.le 9 1) (d.le 10 2) (d.le 12 2) (d.le 14 2) = true
      ∧ (d.le 12 2 = 0 → d.le 16 8 = 0) ∧ (d.le 14 2 = 0 → d.le 24 8 = 0) ∧ s.twi.c[(Fin.ofNat 4 (d.le 8 1)).val].cfg.getLsbD 2 = true ∧ w ≠ [])
    ∧ (let d : Desc := { op := 0x30, port := 3, tag := 5, params := List.replicate 52 0 }
    let w : List Byte := []
    let d := { d with params := putLE d.params 0 1 0 }
    let d := { d with params := putLE d.params 2 2 127 }
    let d := { d with params := putLE d.params 4 2 0 }
    let d := { d with params := putLE d.params 6 2 208 }
    let d := { d with params := putLE d.params 8 8 0 }
    let d := { d with params := putLE d.params 16 8 512 }
    let s : State := { State.reset with hif.table := [({ d := d } : OutDesc)] }
    let s : State := { s with twi.c := s.twi.c.set 0 { s.twi.c[0] with cfg := 4 } }
    s.firstUp d 0x30 = true ∧ d.onlyAt [(8, 24)] = true ∧ twiOk (d.le 8 1) (d.le 9 1) (d.le 10 2) (d.le 12 2) (d.le 14 2) = true
      ∧ (d.le 12 2 = 0 → d.le 16 8 = 0) ∧ (d.le 14 2 = 0 → d.le 24 8 = 0) ∧ s.twi.c[(Fin.ofNat 4 (d.le 8 1)).val].cfg.getLsbD 2 = true)
    ∧ (let d : Desc := { port := 3, tag := 5, op := 0x48 }
    let d := { d with params := putLE d.params 0 1 1 }
    let s : State := { State.reset with hif.table := [({ d := d, ph := .fetched } : OutDesc)], pwr.entry := 0, pwr.wakeEn := 0, ses.recovDone := true }
    let s := (List.finRange 16).foldl (fun s p => s.modPort p fun q => { q with cc.st := .disabled, ef.path := .off }) s
    s.firstUp d 0x48 = true ∧ d.onlyAt [(8, 1)] = true ∧ (d.le 8 1 = 1 ∨ d.le 8 1 = 2) ∧ s.pwr.entry = 0
      ∧ (s.modHif fun h => { h with table := h.table.filter fun o => !(o.d.sq == d.sq && o.d.slot == d.slot) }).entryRow (d.le 8 1 + 1) = none)
    ∧ (let d : Desc := { port := 3, tag := 5, op := 0x48 }
    let d := { d with params := putLE d.params 0 1 2 }
    let s : State := { State.reset with hif.table := [({ d := d, ph := .fetched } : OutDesc)], pwr.entry := 0, pwr.wakeEn := 0, ses.recovDone := true }
    let s := (List.finRange 16).foldl (fun s p => s.modPort p fun q => { q with cc.st := .disabled, ef.path := .off }) s
    s.firstUp d 0x48 = true ∧ d.onlyAt [(8, 1)] = true ∧ (d.le 8 1 = 1 ∨ d.le 8 1 = 2) ∧ s.pwr.entry = 0
      ∧ (s.modHif fun h => { h with table := h.table.filter fun o => !(o.d.sq == d.sq && o.d.slot == d.slot) }).entryRow (d.le 8 1 + 1) = none ∧ s.pwr.wakeEn = 0)
    ∧ (let d : Desc := { port := 3, tag := 5, op := 0x00 }
    let d := { d with params := putLE d.params 8 4 4096 }
    let d := { d with params := putLE d.params 12 4 100 }
    let s : State := { State.reset with hif.table := [({ d := d } : OutDesc)] }
    let s : State := { s with hif.sq := s.hif.sq.set 0 { st := .deleting, cfg := 0x104 } }
    let q := s.hif.sq[d.sq.val]
    s.firstUp d 0x00 = true ∧ bufferOk (q.cfg.fld 9 8) d = true ∧ q.st = .deleting)
    ∧ (let d : Desc := { port := 3, tag := 5, op := 0x00 }
    let d := { d with params := putLE d.params 8 4 256 }
    let d := { d with params := putLE d.params 12 4 100 }
    let s : State := { State.reset with hif.table := [({ d := d } : OutDesc)] }
    let s : State := { s with hif.sq := s.hif.sq.set 0 { st := .live, cfg := 0x104 } }
    let q := s.hif.sq[d.sq.val]
    s.firstUp d 0x00 = true ∧ bufferOk (q.cfg.fld 9 8) d = true ∧ q.st ≠ .deleting)
    ∧ (let d : Desc := { port := 3, tag := 5, op := 0x00 }
    let d := { d with params := putLE d.params 8 4 2048 }
    let d := { d with params := putLE d.params 12 4 100 }
    let s : State := { State.reset with hif.table := [({ d := d } : OutDesc)] }
    let s : State := { s with hif.sq := s.hif.sq.set 0 { st := .live, cfg := 0x204 } }
    let q := s.hif.sq[d.sq.val]
    s.firstUp d 0x00 = true ∧ bufferOk (q.cfg.fld 9 8) d = true ∧ q.st ≠ .deleting)
    ∧ (let d : Desc := { port := 3, tag := 5, op := 0x00 }
    let d := { d with params := putLE d.params 8 4 2047 }
    let d := { d with params := putLE d.params 12 4 100 }
    let s : State := { State.reset with hif.table := [({ d := d } : OutDesc)] }
    let s : State := { s with hif.sq := s.hif.sq.set 0 { st := .live, cfg := 0x204 } }
    let q := s.hif.sq[d.sq.val]
    s.firstUp d 0x00 = true ∧ bufferOk (q.cfg.fld 9 8) d = false)
    ∧ (let o : OutDesc := { d := { op := 0x21, port := 3, flags := 1, deferMs := 9 }, ph := .waiting }
    let p : PortId := 3
    let s : State := { State.reset with rst.rescue := false, hif.table := [o] }
    let s := s.modPort p fun q => { q with cc.st := .unattached }
    s.outDesc o.d.sq o.d.slot = some o ∧ o.ph = .waiting ∧ s.waitCond o.d = some (1, 0))
    ∧ (let o : OutDesc := { d := { op := 0x21, port := 3, flags := 1, deferMs := 9 }, ph := .waiting }
    let p : PortId := 3
    let s : State := { State.reset with rst.rescue := false, hif.table := [o] }
    let s := s.modPort p fun q => { q with cc.st := .attachedSrc, pol.seq := .ready, pod.idValid := true }
    s.outDesc o.d.sq o.d.slot = some o ∧ o.ph = .waiting ∧ o.d.op ≠ 0x28 ∧ (specOf none none o.d.op.toNat).map (fun k => (k.params s.draw.2 o.d, k.cond s.draw.2 o.d)) = some (none, none))
    ∧ (let o : OutDesc := { d := { op := 0x02, port := 3, flags := 1, deferMs := 9 }, ph := .waiting }
    let p : PortId := 3
    let s : State := { State.reset with rst.rescue := false, hif.table := [o] }
    let s := s.modPort p fun q => { q with cc.st := .attachedSrc }
    s.outDesc o.d.sq o.d.slot = some o ∧ o.ph = .waiting ∧ o.d.op ≠ 0x28 ∧ o.d.defer = true ∧ (specOf none none o.d.op.toNat).map (fun k => (k.params s.draw.2 o.d, k.cond s.draw.2 o.d)) = some (none, some 1))
    ∧ (let o : OutDesc := { d := { op := 0x02, port := 3, flags := 1, deferMs := 9 }, ph := .fetched }
    let p : PortId := 3
    let s : State := { State.reset with rst.rescue := false, hif.table := [o] }
    let s := s.modPort p fun q => q
    s.outDesc o.d.sq o.d.slot = some o ∧ o.ph = .fetched ∧ o.ph ≠ .waiting)
    ∧ (let o : OutDesc := { d := { op := 0x0C, port := 3, flags := 1, deferMs := 9 }, ph := .running }
    let p : PortId := 3
    let s : State := { State.reset with rst.rescue := false, hif.table := [o] }
    let s := s.modPort p fun q => q
    s.outDesc o.d.sq o.d.slot = some o ∧ o.ph = .running ∧ o.d.op = 0x0C)
    ∧ (let o : OutDesc := { d := { op := 0x04, port := 3, flags := 1, deferMs := 9 }, ph := .running }
    let p : PortId := 3
    let s : State := { State.reset with rst.rescue := false, hif.table := [o] }
    let s := s.modPort p fun q => q
    s.outDesc o.d.sq o.d.slot = some o ∧ o.ph = .running ∧ o.d.op = 0x04 ∧ s.running 0x04 o.d.pid = some o ∧ (s.hif.table.filter fun x => x.ph == .running && x.d.op.toNat == 0x04 && x.d.port.toNat == o.d.pid.val) = [o])
    ∧ (let o : OutDesc := { d := { op := 0x09, port := 3, flags := 1, deferMs := 9 }, ph := .running }
    let p : PortId := 3
    let s : State := { State.reset with rst.rescue := false, hif.table := [o] }
    let s := s.modPort p fun q => q
    s.outDesc o.d.sq o.d.slot = some o ∧ o.ph = .running ∧ o.d.op ≠ 0x0C ∧ o.d.op ≠ 0x04) := by
  refine ⟨?_, ?_, ?_, ?_, ?_, ?_, ?_, ?_, ?_, ?_, ?_, ?_, ?_, ?_, ?_, ?_, ?_, ?_, ?_, ?_, ?_⟩ <;> decide +kernel

theorem wit_ImageCommands :
    (let d : Desc := { port := 0xFF, cls := 2, tag := 5, op := 0x40 }
    let d := { d with params := putLE d.params 8 4 4096 }
    let d := { d with params := putLE d.params 12 4 64 }
    let d := { d with params := putLE d.params 16 4 7 }
    let w : List Byte := List.replicate 64 0
    let fails : Nat := 0
    let s : State := { State.reset with hif.table := [({ d := d } : OutDesc)], img.xfer := none }
    let s := s.modCore 0 fun k => { k with st := .reset }
    let off := d.le 16 4
    let id : Word := BitVec.ofNat 32 (d.le 24 4)
    s.firstUp d 0x40 = true ∧ d.onlyAt [(8, 20)] = true ∧ d.le 8 8 % 256 = 0 ∧ off % 4096 = 0 ∧ 1 ≤ d.le 20 4 ∧ d.le 20 4 ≤ 65536
      ∧ d.le 24 4 ≠ 0 ∧ (off = 0 → 512 ≤ d.le 20 4) ∧ s.img.inTrial = false ∧ s.img.quiet = true ∧ w.length = d.le 20 4
      ∧ s.w0Runs = false)
    ∧ (let d : Desc := { port := 0xFF, cls := 2, tag := 5, op := 0x40 }
    let d := { d with params := putLE d.params 8 4 4096 }
    let d := { d with params := putLE d.params 12 4 64 }
    let d := { d with params := putLE d.params 16 4 7 }
    let w : List Byte := List.replicate 64 0
    let fails : Nat := 0
    let s : State := { State.reset with hif.table := [({ d := d } : OutDesc)], img.xfer := none }
    let s := s.modCore 0 fun k => { k with st := .run }
    let off := d.le 16 4
    let id : Word := BitVec.ofNat 32 (d.le 24 4)
    s.firstUp d 0x40 = true ∧ d.onlyAt [(8, 20)] = true ∧ d.le 8 8 % 256 = 0 ∧ off % 4096 = 0 ∧ 1 ≤ d.le 20 4 ∧ d.le 20 4 ≤ 65536
      ∧ d.le 24 4 ≠ 0 ∧ (off = 0 → 512 ≤ d.le 20 4) ∧ s.img.inTrial = false ∧ s.img.quiet = true ∧ w.length = d.le 20 4
      ∧ s.w0Runs = true ∧ (s.flow fImg).cells = [] ∧ (s.flow fImg).waiters = [] ∧ 0 < (s.begun d w).credit fImg
      ∧ s.img.xfer = none ∧ off ≠ 0)
    ∧ (let d : Desc := { port := 0xFF, cls := 2, tag := 5, op := 0x40 }
    let d := { d with params := putLE d.params 8 4 4096 }
    let d := { d with params := putLE d.params 12 4 64 }
    let d := { d with params := putLE d.params 16 4 7 }
    let w : List Byte := List.replicate 64 0
    let fails : Nat := 0
    let s : State := { State.reset with hif.table := [({ d := d } : OutDesc)], img.xfer := some { id := 8, len := 9000 } }
    let s := s.modCore 0 fun k => { k with st := .run }
    let off := d.le 16 4
    let id : Word := BitVec.ofNat 32 (d.le 24 4)
    s.firstUp d 0x40 = true ∧ d.onlyAt [(8, 20)] = true ∧ d.le 8 8 % 256 = 0 ∧ off % 4096 = 0 ∧ 1 ≤ d.le 20 4 ∧ d.le 20 4 ≤ 65536
      ∧ d.le 24 4 ≠ 0 ∧ (off = 0 → 512 ≤ d.le 20 4) ∧ s.img.inTrial = false ∧ s.img.quiet = true ∧ w.length = d.le 20 4
      ∧ s.w0Runs = true ∧ (s.flow fImg).cells = [] ∧ (s.flow fImg).waiters = [] ∧ 0 < (s.begun d w).credit fImg
      ∧ s.img.xfer = some { id := 8, len := 9000 } ∧ (8 : Word) ≠ id ∧ off ≠ 0)
    ∧ (let d : Desc := { port := 0xFF, cls := 2, tag := 5, op := 0x40 }
    let d := { d with params := putLE d.params 8 4 4096 }
    let d := { d with params := putLE d.params 12 4 64 }
    let d := { d with params := putLE d.params 16 4 7 }
    let w : List Byte := List.replicate 64 0
    let fails : Nat := 0
    let s : State := { State.reset with hif.table := [({ d := d } : OutDesc)], img.xfer := some { id := 7, len := 4100 } }
    let s := s.modCore 0 fun k => { k with st := .run }
    let off := d.le 16 4
    let id : Word := BitVec.ofNat 32 (d.le 24 4)
    let x : XferState := { id := 7, len := 4100 }
    let y : XferState := { x with held := x.held.writeN 0 off w, tries := fails, pages := (pagesOf off w.length).foldl (fun l k => insertNew k l) x.pages }
    s.firstUp d 0x40 = true ∧ d.onlyAt [(8, 20)] = true ∧ d.le 8 8 % 256 = 0 ∧ off % 4096 = 0 ∧ 1 ≤ d.le 20 4 ∧ d.le 20 4 ≤ 65536
      ∧ d.le 24 4 ≠ 0 ∧ (off = 0 → 512 ≤ d.le 20 4) ∧ s.img.inTrial = false ∧ s.img.quiet = true ∧ w.length = d.le 20 4
      ∧ s.w0Runs = true ∧ (s.flow fImg).cells = [] ∧ (s.flow fImg).waiters = [] ∧ 0 < (s.begun d w).credit fImg
      ∧ s.img.xfer = some x ∧ x.id = id ∧ x.len < off + w.length)
    ∧ (let d : Desc := { port := 0xFF, cls := 2, tag := 5, op := 0x40 }
    let d := { d with params := putLE d.params 8 4 4096 }
    let d := { d with params := putLE d.params 12 4 64 }
    let d := { d with params := putLE d.params 16 4 7 }
    let w : List Byte := List.replicate 64 0
    let fails : Nat := 0
    let s : State := { State.reset with hif.table := [({ d := d } : OutDesc)], img.xfer := some { id := 7, len := 4160, pages := [1], held := [(4100, 1)] } }
    let s := s.modCore 0 fun k => { k with st := .run }
    let off := d.le 16 4
    let id : Word := BitVec.ofNat 32 (d.le 24 4)
    let x : XferState := { id := 7, len := 4160, pages := [1], held := [(4100, 1)] }
    let y : XferState := { x with held := x.held.writeN 0 off w, tries := fails, pages := (pagesOf off w.length).foldl (fun l k => insertNew k l) x.pages }
    s.firstUp d 0x40 = true ∧ d.onlyAt [(8, 20)] = true ∧ d.le 8 8 % 256 = 0 ∧ off % 4096 = 0 ∧ 1 ≤ d.le 20 4 ∧ d.le 20 4 ≤ 65536
      ∧ d.le 24 4 ≠ 0 ∧ (off = 0 → 512 ≤ d.le 20 4) ∧ s.img.inTrial = false ∧ s.img.quiet = true ∧ w.length = d.le 20 4
      ∧ s.w0Runs = true ∧ (s.flow fImg).cells = [] ∧ (s.flow fImg).waiters = [] ∧ 0 < (s.begun d w).credit fImg
      ∧ s.img.xfer = some x ∧ x.id = id ∧ (off + w.length ≤ x.len ∧ (w.length % 4096 = 0 ∨ off + w.length = x.len)) ∧ x.agrees off w = false)
    ∧ (let d : Desc := { port := 0xFF, cls := 2, tag := 5, op := 0x40 }
    let d := { d with params := putLE d.params 8 4 4096 }
    let d := { d with params := putLE d.params 12 4 64 }
    let d := { d with params := putLE d.params 16 4 7 }
    let w : List Byte := List.replicate 64 0
    let fails : Nat := 0
    let s : State := { State.reset with hif.table := [({ d := d } : OutDesc)], img.xfer := some { id := 7, len := 4160, pages := [1] } }
    let s := s.modCore 0 fun k => { k with st := .run }
    let off := d.le 16 4
    let id : Word := BitVec.ofNat 32 (d.le 24 4)
    let x : XferState := { id := 7, len := 4160, pages := [1] }
    let y : XferState := { x with held := x.held.writeN 0 off w, tries := fails, pages := (pagesOf off w.length).foldl (fun l k => insertNew k l) x.pages }
    s.firstUp d 0x40 = true ∧ d.onlyAt [(8, 20)] = true ∧ d.le 8 8 % 256 = 0 ∧ off % 4096 = 0 ∧ 1 ≤ d.le 20 4 ∧ d.le 20 4 ≤ 65536
      ∧ d.le 24 4 ≠ 0 ∧ (off = 0 → 512 ≤ d.le 20 4) ∧ s.img.inTrial = false ∧ s.img.quiet = true ∧ w.length = d.le 20 4
      ∧ s.w0Runs = true ∧ (s.flow fImg).cells = [] ∧ (s.flow fImg).waiters = [] ∧ 0 < (s.begun d w).credit fImg
      ∧ s.img.xfer = some x ∧ x.id = id ∧ (off + w.length ≤ x.len ∧ (w.length % 4096 = 0 ∨ off + w.length = x.len)) ∧ x.agrees off w = true ∧ ¬ ∃ k ∈ pagesOf off w.length, k ∉ x.pages)
    ∧ (let d : Desc := { port := 0xFF, cls := 2, tag := 5, op := 0x40 }
    let d := { d with params := putLE d.params 8 4 4096 }
    let d := { d with params := putLE d.params 12 4 64 }
    let d := { d with params := putLE d.params 16 4 7 }
    let w : List Byte := List.replicate 64 0
    let fails : Nat := 3
    let s : State := { State.reset with hif.table := [({ d := d } : OutDesc)], img.xfer := some { id := 7, len := 4160 } }
    let s := s.modCore 0 fun k => { k with st := .run }
    let off := d.le 16 4
    let id : Word := BitVec.ofNat 32 (d.le 24 4)
    let x : XferState := { id := 7, len := 4160 }
    let y : XferState := { x with held := x.held.writeN 0 off w, tries := fails, pages := (pagesOf off w.length).foldl (fun l k => insertNew k l) x.pages }
    s.firstUp d 0x40 = true ∧ d.onlyAt [(8, 20)] = true ∧ d.le 8 8 % 256 = 0 ∧ off % 4096 = 0 ∧ 1 ≤ d.le 20 4 ∧ d.le 20 4 ≤ 65536
      ∧ d.le 24 4 ≠ 0 ∧ (off = 0 → 512 ≤ d.le 20 4) ∧ s.img.inTrial = false ∧ s.img.quiet = true ∧ w.length = d.le 20 4
      ∧ s.w0Runs = true ∧ (s.flow fImg).cells = [] ∧ (s.flow fImg).waiters = [] ∧ 0 < (s.begun d w).credit fImg
      ∧ s.img.xfer = some x ∧ x.id = id ∧ (off + w.length ≤ x.len ∧ (w.length % 4096 = 0 ∨ off + w.length = x.len)) ∧ x.agrees off w = true ∧ (∃ k ∈ pagesOf off w.length, k ∉ x.pages) ∧ 3 ≤ fails)
    ∧ (let d : Desc := { port := 0xFF, cls := 2, tag := 5, op := 0x40 }
    let d := { d with params := putLE d.params 8 4 4096 }
    let d := { d with params := putLE d.params 12 4 64 }
    let d := { d with params := putLE d.params 16 4 7 }
    let w : List Byte := List.replicate 64 0
    let fails : Nat := 2
    let s : State := { State.reset with hif.table := [({ d := d } : OutDesc)], img.xfer := some { id := 7, len := 4160 } }
    let s := s.modCore 0 fun k => { k with st := .run }
    let off := d.le 16 4
    let id : Word := BitVec.ofNat 32 (d.le 24 4)
    let x : XferState := { id := 7, len := 4160 }
    let y : XferState := { x with held := x.held.writeN 0 off w, tries := fails, pages := (pagesOf off w.length).foldl (fun l k => insertNew k l) x.pages }
    s.firstUp d 0x40 = true ∧ d.onlyAt [(8, 20)] = true ∧ d.le 8 8 % 256 = 0 ∧ off % 4096 = 0 ∧ 1 ≤ d.le 20 4 ∧ d.le 20 4 ≤ 65536
      ∧ d.le 24 4 ≠ 0 ∧ (off = 0 → 512 ≤ d.le 20 4) ∧ s.img.inTrial = false ∧ s.img.quiet = true ∧ w.length = d.le 20 4
      ∧ s.w0Runs = true ∧ (s.flow fImg).cells = [] ∧ (s.flow fImg).waiters = [] ∧ 0 < (s.begun d w).credit fImg
      ∧ s.img.xfer = some x ∧ x.id = id ∧ (off + w.length ≤ x.len ∧ (w.length % 4096 = 0 ∨ off + w.length = x.len)) ∧ x.agrees off w = true ∧ (∃ k ∈ pagesOf off w.length, k ∉ x.pages) ∧ fails < 3 ∧ y.received < x.len)
    ∧ (let d : Desc := { port := 0xFF, cls := 2, tag := 5, op := 0x40 }
    let d := { d with params := putLE d.params 8 4 4096 }
    let d := { d with params := putLE d.params 12 4 64 }
    let d := { d with params := putLE d.params 16 4 7 }
    let w : List Byte := List.replicate 64 0
    let fails : Nat := 0
    let s : State := { State.reset with hif.table := [({ d := d } : OutDesc)], img.xfer := some { id := 7, len := 4160, pages := [0] } }
    let s := s.modCore 0 fun k => { k with st := .run }
    let off := d.le 16 4
    let id : Word := BitVec.ofNat 32 (d.le 24 4)
    let x : XferState := { id := 7, len := 4160, pages := [0] }
    let y : XferState := { x with held := x.held.writeN 0 off w, tries := fails, pages := (pagesOf off w.length).foldl (fun l k => insertNew k l) x.pages }
    s.firstUp d 0x40 = true ∧ d.onlyAt [(8, 20)] = true ∧ d.le 8 8 % 256 = 0 ∧ off % 4096 = 0 ∧ 1 ≤ d.le 20 4 ∧ d.le 20 4 ≤ 65536
      ∧ d.le 24 4 ≠ 0 ∧ (off = 0 → 512 ≤ d.le 20 4) ∧ s.img.inTrial = false ∧ s.img.quiet = true ∧ w.length = d.le 20 4
      ∧ s.w0Runs = true ∧ (s.flow fImg).cells = [] ∧ (s.flow fImg).waiters = [] ∧ 0 < (s.begun d w).credit fImg
      ∧ s.img.xfer = some x ∧ x.id = id ∧ (off + w.length ≤ x.len ∧ (w.length % 4096 = 0 ∨ off + w.length = x.len)) ∧ x.agrees off w = true ∧ (∃ k ∈ pagesOf off w.length, k ∉ x.pages) ∧ fails < 3 ∧ y.received = x.len
        ∧ manifestOk (getBytes (y.held.readN 0 0 x.len) 0 512) = false)
    ∧ (let d : Desc := { port := 0xFF, cls := 2, tag := 5, op := 0x40 }
    let d := { d with params := putLE d.params 8 4 0 }
    let d := { d with params := putLE d.params 12 4 4096 }
    let d := { d with params := putLE d.params 16 4 7 }
    let w : List Byte := List.replicate 5 0 ++ [5] ++ List.replicate 16 0 ++ [1] ++ List.replicate 4073 0
    let fails : Nat := 2
    let s : State := { State.reset with hif.table := [({ d := d } : OutDesc)], img.xfer := some { id := 8, len := 9000 } }
    let s := s.modCore 0 fun k => { k with st := .run }
    let off := d.le 16 4
    let id : Word := BitVec.ofNat 32 (d.le 24 4)
    s.firstUp d 0x40 = true ∧ d.onlyAt [(8, 20)] = true ∧ d.le 8 8 % 256 = 0 ∧ off % 4096 = 0 ∧ 1 ≤ d.le 20 4 ∧ d.le 20 4 ≤ 65536
      ∧ d.le 24 4 ≠ 0 ∧ (off = 0 → 512 ≤ d.le 20 4) ∧ s.img.inTrial = false ∧ s.img.quiet = true ∧ w.length = d.le 20 4
      ∧ s.w0Runs = true ∧ (s.flow fImg).cells = [] ∧ (s.flow fImg).waiters = [] ∧ 0 < (s.begun d w).credit fImg
      ∧ off = 0 ∧ s.img.xfer.map XferState.id ≠ some id ∧ w.length < mLen (getBytes w 0 512) ∧ w.length % 4096 = 0 ∧ fails < 3)
    ∧ (let d : Desc := { port := 0xFF, cls := 1, tag := 5, op := 0x41 }
    let d := { d with params := putLE d.params 0 1 4 }
    let d := { d with params := putLE d.params 4 4 0 }
    let s : State := { State.reset with hif.table := [({ d := d } : OutDesc)], tb.fallback := false, img.cand.sett := 1, img.mans := Vector.replicate 3 (List.replicate 26 0 ++ [9, 9]) }
    let n := d.le 8 1
    s.firstUp d 0x41 = true ∧ d.onlyAt [(8, 1), (12, 4)] = true ∧ 1 ≤ n ∧ n ≤ 7 ∧ (d.le 12 4 = 0 ∨ (30 ≤ d.le 12 4 ∧ d.le 12 4 ≤ 3600))
      ∧ s.img.inTrial = false ∧ s.img.quiet = true ∧ s.tb.fallback = false ∧ (∀ k : Fin 3, n.testBit k = true → s.img.candOf k = 1)
      ∧ (∀ o ∈ s.hif.table, o.ph = .running → o.d.op ≠ 0x41) ∧ s.activationRow n ≠ none)
    ∧ (let d : Desc := { port := 0xFF, cls := 1, tag := 5, op := 0x41 }
    let d := { d with params := putLE d.params 0 1 4 }
    let d := { d with params := putLE d.params 4 4 30 }
    let s : State := { State.reset with hif.table := [({ d := d } : OutDesc)], tb.fallback := false, img.cand.sett := 1, twi.tver := 0 }
    let n := d.le 8 1
    s.firstUp d 0x41 = true ∧ d.onlyAt [(8, 1), (12, 4)] = true ∧ 1 ≤ n ∧ n ≤ 7 ∧ (d.le 12 4 = 0 ∨ (30 ≤ d.le 12 4 ∧ d.le 12 4 ≤ 3600))
      ∧ s.img.inTrial = false ∧ s.img.quiet = true ∧ s.tb.fallback = false ∧ (∀ k : Fin 3, n.testBit k = true → s.img.candOf k = 1)
      ∧ (∀ o ∈ s.hif.table, o.ph = .running → o.d.op ≠ 0x41) ∧ s.activationRow n = none ∧ n.testBit 0 = false)
    ∧ (let d : Desc := { port := 0xFF, cls := 1, tag := 5, op := 0x41 }
    let d := { d with params := putLE d.params 0 1 1 }
    let d := { d with params := putLE d.params 4 4 3600 }
    let s : State := { State.reset with hif.table := [({ d := d } : OutDesc)], tb.fallback := false, img.cand.code := 1, twi.tver := 0 }
    let n := d.le 8 1
    s.firstUp d 0x41 = true ∧ d.onlyAt [(8, 1), (12, 4)] = true ∧ 1 ≤ n ∧ n ≤ 7 ∧ (d.le 12 4 = 0 ∨ (30 ≤ d.le 12 4 ∧ d.le 12 4 ≤ 3600))
      ∧ s.img.inTrial = false ∧ s.img.quiet = true ∧ s.tb.fallback = false ∧ (∀ k : Fin 3, n.testBit k = true → s.img.candOf k = 1)
      ∧ (∀ o ∈ s.hif.table, o.ph = .running → o.d.op ≠ 0x41) ∧ s.activationRow n = none ∧ n.testBit 0 = true)
    ∧ (let d : Desc := { port := 0xFF, cls := 1, tag := 5, op := 0x41 }
    let d := { d with params := putLE d.params 0 1 5 }
    let d := { d with params := putLE d.params 4 4 0 }
    let s : State := { State.reset with hif.table := [({ d := d } : OutDesc)], tb.fallback := false, img.cand.code := 1, img.cand.sett := 1, twi.tver := 0 }
    let n := d.le 8 1
    s.firstUp d 0x41 = true ∧ d.onlyAt [(8, 1), (12, 4)] = true ∧ 1 ≤ n ∧ n ≤ 7 ∧ (d.le 12 4 = 0 ∨ (30 ≤ d.le 12 4 ∧ d.le 12 4 ≤ 3600))
      ∧ s.img.inTrial = false ∧ s.img.quiet = true ∧ s.tb.fallback = false ∧ (∀ k : Fin 3, n.testBit k = true → s.img.candOf k = 1)
      ∧ (∀ o ∈ s.hif.table, o.ph = .running → o.d.op ≠ 0x41) ∧ s.activationRow n = none ∧ n.testBit 0 = true)
    ∧ (let d : Desc := { port := 0xFF, cls := 1, tag := 5, op := 0x42 }
    let d := { d with params := putLE d.params 0 1 0 }
    let s : State := { State.reset with hif.table := [({ d := d } : OutDesc)], img.cand.sett := 2 }
    s.firstUp d 0x42 = true ∧ d.onlyAt [(8, 1)] = true ∧ d.le 8 1 = 0 ∧ s.img.inTrial = true ∧ s.img.quiet = true
      ∧ (∀ o ∈ s.hif.table, o.ph = .running → o.d.op ≠ 0x42 ∧ o.d.op ≠ 0x41) ∧ True)
    ∧ (let d : Desc := { port := 0xFF, cls := 1, tag := 5, op := 0x42 }
    let d := { d with params := putLE d.params 0 1 1 }
    let s : State := { State.reset with hif.table := [({ d := d } : OutDesc)], img.cand.code := 2, img.trial := 2 }
    s.firstUp d 0x42 = true ∧ d.onlyAt [(8, 1)] = true ∧ d.le 8 1 = 1 ∧ s.img.inTrial = true ∧ s.img.quiet = true
      ∧ (∀ o ∈ s.hif.table, o.ph = .running → o.d.op ≠ 0x42 ∧ o.d.op ≠ 0x41) ∧ s.img.candOf 0 = 2)
    ∧ (let d : Desc := { port := 0xFF, cls := 1, tag := 5, op := 0x42 }
    let d := { d with params := putLE d.params 0 1 1 }
    let s : State := { State.reset with hif.table := [({ d := d } : OutDesc)], img.cand.sett := 2, img.trial := 2 }
    s.firstUp d 0x42 = true ∧ d.onlyAt [(8, 1)] = true ∧ d.le 8 1 = 1 ∧ s.img.inTrial = true ∧ s.img.quiet = true
      ∧ (∀ o ∈ s.hif.table, o.ph = .running → o.d.op ≠ 0x42 ∧ o.d.op ≠ 0x41) ∧ s.img.candOf 0 ≠ 2) := by
  refine ⟨?_, ?_, ?_, ?_, ?_, ?_, ?_, ?_, ?_, ?_, ?_, ?_, ?_, ?_, ?_, ?_, ?_⟩ <;> decide +kernel

theorem wit_HostDoorbells :
    (let k : Fin 16 := 2
    let s : State := State.reset
    let q := s.hif.sq[k.val]
    s.awake = true ∧ q.st = .absent)
    ∧ (let k : Fin 16 := 2
    let v : Word := 0x12345678
    let s : State := { State.reset with hif.sq := State.reset.hif.sq.set 2 { st := .live }, hif.cq := State.reset.hif.cq.set 2 { st := .live, tail := 5, head := 2 }, hif.eq := { st := .live, tail := 5, head := 2 } }
    let i := v.toNat % 4096
    let q := s.hif.sq[k.val]
    s.awake = true ∧ q.st ≠ .absent ∧ qDepth q.cfg ≤ i)
    ∧ (let k : Fin 16 := 2
    let v : Word := 4
    let s : State := { State.reset with hif.sq := State.reset.hif.sq.set 2 { st := .live }, hif.cq := State.reset.hif.cq.set 2 { st := .live, tail := 5, head := 2 }, hif.eq := { st := .live, tail := 5, head := 2 } }
    let i := v.toNat % 4096
    let q := s.hif.sq[k.val]
    s.awake = true ∧ q.st ≠ .absent ∧ i < qDepth q.cfg)
    ∧ (let k : Fin 16 := 2
    let s : State := State.reset
    let c := s.hif.cq[k.val]
    s.awake = true ∧ c.st = .absent)
    ∧ (let k : Fin 16 := 2
    let v : Word := 0x12345678
    let s : State := { State.reset with hif.sq := State.reset.hif.sq.set 2 { st := .live }, hif.cq := State.reset.hif.cq.set 2 { st := .live, tail := 5, head := 2 }, hif.eq := { st := .live, tail := 5, head := 2 } }
    let i := v.toNat % 4096
    let c := s.hif.cq[k.val]
    s.awake = true ∧ c.st ≠ .absent ∧ qDepth c.cfg ≤ i)
    ∧ (let k : Fin 16 := 2
    let v : Word := 7
    let s : State := { State.reset with hif.sq := State.reset.hif.sq.set 2 { st := .live }, hif.cq := State.reset.hif.cq.set 2 { st := .live, tail := 5, head := 2 }, hif.eq := { st := .live, tail := 5, head := 2 } }
    let i := v.toNat % 4096
    let c := s.hif.cq[k.val]
    let used (c : CqState) : Nat := (c.tail + qDepth c.cfg - c.head) % qDepth c.cfg
    let moved (c : CqState) : Nat := (i + qDepth c.cfg - c.head) % qDepth c.cfg
    s.awake = true ∧ c.st ≠ .absent ∧ i < qDepth c.cfg ∧ used c < moved c)
    ∧ (let k : Fin 16 := 2
    let v : Word := 4
    let s : State := { State.reset with hif.sq := State.reset.hif.sq.set 2 { st := .live }, hif.cq := State.reset.hif.cq.set 2 { st := .live, tail := 5, head := 2 }, hif.eq := { st := .live, tail := 5, head := 2 } }
    let i := v.toNat % 4096
    let c := s.hif.cq[k.val]
    let used (c : CqState) : Nat := (c.tail + qDepth c.cfg - c.head) % qDepth c.cfg
    let moved (c : CqState) : Nat := (i + qDepth c.cfg - c.head) % qDepth c.cfg
    s.awake = true ∧ c.st ≠ .absent ∧ i < qDepth c.cfg ∧ moved c ≤ used c)
    ∧ (let s : State := { State.reset with hif.eq.st := .absent }
    let e := s.hif.eq
    s.awake = true ∧ e.st = .absent)
    ∧ (let k : Fin 16 := 2
    let v : Word := 4
    let s : State := { State.reset with hif.eq.st := .live }
    let s : State := { s with hif.sq := s.hif.sq.set 2 { st := .live }, hif.cq := s.hif.cq.set 2 { st := .live, tail := 5, head := 2 }, hif.eq := { st := .live, tail := 5, head := 2 } }
    let i := v.toNat % 4096
    let c := s.hif.cq[k.val]
    let e := s.hif.eq
    let used (c : CqState) : Nat := (c.tail + qDepth c.cfg - c.head) % qDepth c.cfg
    let moved (c : CqState) : Nat := (i + qDepth c.cfg - c.head) % qDepth c.cfg
    s.awake = true ∧ e.st ≠ .absent ∧ i < qDepth e.cfg ∧ moved e ≤ used e) := by
  refine ⟨?_, ?_, ?_, ?_, ?_, ?_, ?_, ?_, ?_⟩ <;> decide +kernel

theorem wit_HostFetch :
    (let k : Fin 16 := 2
    let b : List Byte := [1, 0, 0xFF, 0] ++ List.replicate 60 0
    let s : State := { State.reset with hif.ready := true, hif.bme := true, hif.link := some 1 }
    let s : State := { s with hif.sq := s.hif.sq.set 2 { st := .live, cfg := 4, tail := 5, fetch := 2 } }
    let q := s.hif.sq[k.val]
    let d := descOf s.hif.ringSel.toNat k q.fetch b
    s.fetchOpen k = true ∧ s.hasRoom (fCmd (d.cls.toNat % 3)) = true ∧ s.hasRoom (fCpl (d.cls.toNat % 3)) = true ∧ s.fetchStatus d = none)
    ∧ (let k : Fin 16 := 2
    let b : List Byte := [0x77, 0, 0xFF, 0] ++ List.replicate 60 0
    let s : State := { State.reset with hif.ready := true, hif.bme := true, hif.link := some 1 }
    let s : State := { s with hif.sq := s.hif.sq.set 2 { st := .live, cfg := 4, tail := 5, fetch := 2 } }
    let q := s.hif.sq[k.val]
    let d := descOf s.hif.ringSel.toNat k q.fetch b
    s.fetchOpen k = true ∧ s.hasRoom (fCmd (d.cls.toNat % 3)) = true ∧ s.hasRoom (fCpl (d.cls.toNat % 3)) = true ∧ q.cfg.toNat / 256 % 4 = 0 ∧ opTable.lookup d.op.toNat = none)
    ∧ (let k : Fin 16 := 2
    let why : Nat := 2
    let s : State := { State.reset with hif.ready := true, hif.bme := true, hif.link := some 1 }
    let s : State := { s with hif.sq := s.hif.sq.set 2 { st := .live, cfg := 4, tail := 5, fetch := 2 } }
    s.fetchOpen k = true ∧ 1 ≤ why ∧ why ≤ 3) := by
  refine ⟨?_, ?_, ?_⟩ <;> decide +kernel

theorem wit_HostWrites :
    (let f : Nat := fEvh 1
    let x : EvRec := { cause := 5, seq := 9 }
    let r : Payload := .ev x
    let s : State := { State.reset with hif.ready := true, hif.bme := true, hif.link := some 1, hif.eq := { st := .live } }
    let s := s.modFlow (fEvh 1) fun y => { y with cells := [({ idx := 5, pay := [.ev x, .ev { x with seq := 10 }] } : Cell)] }
    s.hostOn = true ∧ (∀ g ∈ ringFlows, ∀ c ∈ (s.flow g).cells, c.ue = none ∧ c.ce = []) ∧ f ∈ ringFlows
      ∧ r ∈ (s.flow f).records ∧ s.ringOpen r = true
      ∧ (∀ g ∈ ringFlows, ∀ y ∈ (s.flow g).records, s.ringOpen y = true → g ≠ f ∨ y ≠ r → r.seqNo < y.seqNo))
    ∧ (let f : Nat := fCpl 2
    let x : CplRec := { cq := 3, seq := 4, tag := 8 }
    let r : Payload := .cpl x
    let s : State := { State.reset with hif.ready := true, hif.bme := true, hif.link := some 1, hif.eq := { st := .live } }
    let s : State := { s with hif.cq := s.hif.cq.set 3 { st := .live, tail := 1, cfg := 3 } }
    let s := s.modFlow (fEvh 1) fun y => { y with cells := [({ idx := 5, pay := [.ev { seq := 9 }] } : Cell)] }
    let s := s.modFlow (fCpl 2) fun y => { y with cells := [({ idx := 6, pay := [.cpl x] } : Cell)] }
    s.hostOn = true ∧ (∀ g ∈ ringFlows, ∀ c ∈ (s.flow g).cells, c.ue = none ∧ c.ce = []) ∧ f ∈ ringFlows
      ∧ r ∈ (s.flow f).records ∧ s.ringOpen r = true
      ∧ (∀ g ∈ ringFlows, ∀ y ∈ (s.flow g).records, s.ringOpen y = true → g ≠ f ∨ y ≠ r → r.seqNo < y.seqNo))
    ∧ (let k : Fin 16 := 2
    let s : State := { State.reset with hif.cq := State.reset.hif.cq.set 2 { st := .live, unsig := 2, irqNow := 0x100 } }
    let c := s.hif.cq[k.val]
    0 < c.unsig ∧ 0 < c.irqNow.toNat / 256 % 256)
    ∧ (let sev : Fin 4 := 1
    let s : State := { State.reset with hif.eq := { st := .live, unsigSev := #v[0, 2, 0, 0], irqNow := 0x100 } }
    0 < s.hif.eq.unsigSev[sev.val] ∧ 0 < s.hif.eq.irqNow.toNat / 256 % 256)
    ∧ (let v : Fin 32 := 3
    let s : State := { State.reset with hif.msixEn := true, hif.msixFmask := false, hif.bme := true, hif.d3hot := false, hif.link := some 1 }
    let s : State := { s with hif.pba := (s.hif.pba ||| BitVec.twoPow _ v.val) }
    s.hif.msixEn = true ∧ s.hif.msixFmask = false ∧ s.hif.bme = true ∧ s.hif.d3hot = false ∧ s.hif.link.isSome = true
      ∧ s.hif.pba.getLsbD v.val = true)
    ∧ (let v : Fin 32 := 31
    let s : State := { State.reset with hif.msixEn := true, hif.bme := true, hif.link := none, hif.pba := 0x80000000 }
    s.hif.link.isSome = false ∧ s.hif.pba.getLsbD v.val = true)
    ∧ (let b : StreamBuf := { d := { op := 0, port := 0xFF, cls := 2, params := putLE (List.replicate 52 0) 12 4 50 }, used := 7, items := 1, firstT := some 3 }
    let r : List StreamBuf := []
    let s : State := { State.reset with hif.mtrBufs := b :: r, hif.table := [({ d := b.d, ph := .running } : OutDesc)] }
    b.firstT.isSome = true ∧ b.d.le 20 4 ≠ 0 ∧ ((s.outDesc b.d.sq b.d.slot).any (fun o => o.d == b.d && o.ph == .running) = true) ∧ s.hif.mtrBufs = b :: r)
    ∧ (let b : StreamBuf := { d := { op := 0, port := 0xFF, cls := 2, params := putLE (List.replicate 52 0) 12 4 50 }, used := 7, items := 1, firstT := some 3 }
    let r : List StreamBuf := []
    let s : State := { State.reset with hif.wavBufs := b :: r, hif.table := [({ d := b.d, ph := .running } : OutDesc)] }
    b.firstT.isSome = true ∧ b.d.le 20 4 ≠ 0 ∧ ((s.outDesc b.d.sq b.d.slot).any (fun o => o.d == b.d && o.ph == .running) = true) ∧ s.hif.wavBufs = b :: r) := by
  refine ⟨?_, ?_, ?_, ?_, ?_, ?_, ?_, ?_⟩ <;> decide +kernel

theorem wit_HostQueues :
    (let s : State := State.reset
    let h := s.hif
    h.createCheck ≠ 0)
    ∧ (let s : State := { State.reset with hif.ready := true, hif.bme := true, hif.link := some 1, hif.qsel := 0 }
    let s : State := { s with hif.cq := s.hif.cq.set 0 { st := .live } }
    let h := s.hif
    h.createCheck = 0 ∧ h.selKind = 0)
    ∧ (let s : State := { State.reset with hif.ready := true, hif.bme := true, hif.link := some 1, hif.qsel := 16, hif.eq := {} }
    let h := s.hif
    h.createCheck = 0 ∧ h.selKind = 1)
    ∧ (let s : State := { State.reset with hif.ready := true, hif.bme := true, hif.link := some 1, hif.qsel := 32, hif.eq := {} }
    let h := s.hif
    h.createCheck = 0 ∧ 2 ≤ h.selKind)
    ∧ (let s : State := State.reset
    let h := s.hif
    (h.selSt = .absent ∨ h.selSt = .deleting))
    ∧ (let s : State := { State.reset with hif.qsel := 32, hif.eq := { st := .live } }
    let h := s.hif
    2 ≤ h.selKind ∧ h.selSt = .live)
    ∧ (let s : State := { State.reset with hif.sq := State.reset.hif.sq.set 0 { st := .live } }
    let h := s.hif
    h.selKind = 0 ∧ h.selSt = .live)
    ∧ (let s : State := { State.reset with hif.qsel := 0x12, hif.cq := State.reset.hif.cq.set 2 { st := .live }, hif.sq := State.reset.hif.sq.set 5 { st := .live, cfg := 0x24 } }
    let h := s.hif
    h.selKind = 1 ∧ h.selSt = .live ∧ (∃ k : Fin 16, s.hif.sq[k.val].st ≠ .absent ∧ s.hif.sq[k.val].cfg.toNat / 16 % 16 = h.selIx.val))
    ∧ (let s : State := { State.reset with hif.qsel := 0x13, hif.cq := State.reset.hif.cq.set 3 { st := .live } }
    let h := s.hif
    h.selKind = 1 ∧ h.selSt = .live ∧ ¬ ∃ k : Fin 16, s.hif.sq[k.val].st ≠ .absent ∧ s.hif.sq[k.val].cfg.toNat / 16 % 16 = h.selIx.val)
    ∧ (let s : State := State.reset
    let h := s.hif
    h.selKind ≠ 1)
    ∧ (let v : Word := 0x20000
    let s : State := State.reset
    let h := s.hif
    s.awake = true ∧ h.anyQueue = false ∧ (v.toNat / 2 ^ 16 % 256 = 1 ∨ v.toNat / 2 ^ 16 % 256 = 2))
    ∧ (let s : State := { State.reset with hif.eq := { st := .live } }
    let h := s.hif
    s.awake = true ∧ h.anyQueue = true)
    ∧ (let v : Word := 0x30000
    let s : State := State.reset
    s.awake = true ∧ 2 < v.toNat / 2 ^ 16 % 256)
    ∧ (let s : State := { State.reset with hif.aspmL1 := true, hif.l1 := false, hif.link := some 1 }
    s.hif.aspmL1 = true ∧ s.hif.link.isSome = true ∧ s.hif.l1 = false)
    ∧ (let rate : BitVec 2 := 1
    rate ≠ 3)
    ∧ (let s : State := { State.reset with hif.aspmL1 := false }
    (s.hif.aspmL1 = false ∨ s.hif.link = none ∨ s.hif.l1 = true))
    ∧ (let s : State := { State.reset with hif.qsel := 0x10 }
    s.hif.selKind = 1) := by
  refine ⟨?_, ?_, ?_, ?_, ?_, ?_, ?_, ?_, ?_, ?_, ?_, ?_, ?_, ?_, ?_, ?_, ?_⟩ <;> decide +kernel

theorem wit_RegisterWrites :
    (let off : BitVec 20 := 0x1021
    off.toNat % 4 ≠ 0)
    ∧ (let off : BitVec 20 := 0x1020
    let s : State := State.reset
    off.toNat % 4 = 0 ∧ s.twtMay off.toNat = none)
    ∧ (let off : BitVec 20 := 0xD048
    let k : Fin 8 := 2
    let s : State := { State.reset with twi.tver := 2 }
    let s : State := { s with twi.tcfg := (s.twi.tcfg ||| BitVec.twoPow _ 5) }
    off.toNat = 0xD040 + 4 * k.val ∧ s.twi.tver.toNat = 2 ∧ s.twi.tcfg.getLsbD 5 = true)
    ∧ (let off : BitVec 20 := 0x1020
    let s : State := State.reset
    s.awake = true ∧ off.toNat % 4 = 0 ∧ (regSpec .bar0 off.toNat).isSome = true) := by
  refine ⟨?_, ?_, ?_, ?_⟩ <;> decide +kernel

theorem wit_LimitLockResetWrites :
    (let v : Word := 0x50F00
    let s : State := { State.reset with hif.lock := false }
    let n : Word := (s.bud.cfg &&& 0xFFF0F000) ||| (v &&& 0x000F0FFF)
    let u : State := { s with bud := { s.bud with cfg := n } }
    let inRange := 24 ≤ v.toNat % 4096 ∧ v.toNat % 4096 ≤ 3840 ∧ 5 ≤ v.toNat / 65536 % 16
    s.awake = true ∧ s.hif.lock = false ∧ inRange ∧ u.floorSum ≤ u.limit)
    ∧ (let v : Word := 0x50018
    let s : State := { State.reset with hif.lock := false }
    let s := (List.finRange 16).foldl (fun s p => s.modPort p fun q => { q with cc.st := .unattached, cc.rpLevel := 2, cc.rpOn := true }) s
    let n : Word := (s.bud.cfg &&& 0xFFF0F000) ||| (v &&& 0x000F0FFF)
    let u : State := { s with bud := { s.bud with cfg := n } }
    let inRange := 24 ≤ v.toNat % 4096 ∧ v.toNat % 4096 ≤ 3840 ∧ 5 ≤ v.toNat / 65536 % 16
    s.awake = true ∧ s.hif.lock = false ∧ inRange ∧ u.limit < u.floorSum)
    ∧ (let v : Word := 0x12345678
    let s : State := { State.reset with hif.lock := false }
    let inRange := 24 ≤ v.toNat % 4096 ∧ v.toNat % 4096 ≤ 3840 ∧ 5 ≤ v.toNat / 65536 % 16
    s.awake = true ∧ s.hif.lock = false ∧ (¬ inRange))
    ∧ (let v : Word := 0x12345678
    let s : State := State.reset
    s.awake = true ∧ v.toNat % 65536 ≠ 0x5752)
    ∧ (let v : Word := 0x15752
    let s : State := { State.reset with rst.warmPend := false, rst.booted := true, hu.active := false }
    s.awake = true ∧ v.toNat % 65536 = 0x5752 ∧ v.getLsbD 16 = true ∧ s.rst.warmPend = false ∧ s.rst.booted = true ∧ (s.hu.active = false ∨ v.getLsbD 17 = true))
    ∧ (let v : Word := 0x15752
    let s : State := { State.reset with hu.active := true, rst.warmForce := false, rst.warmPend := false }
    s.awake = true ∧ v.toNat % 65536 = 0x5752 ∧ v.getLsbD 16 = true ∧ s.hu.active = true ∧ v.getLsbD 17 = false ∧ s.rst.warmForce = false ∧ s.rst.warmPend = false)
    ∧ (let s : State := { State.reset with rst.warmPend := true, rst.booted := true, hu.active := false }
    s.rst.warmPend = true ∧ s.warmMay = true)
    ∧ (let s : State := { State.reset with rst.warmPend := false }
    (s.rst.warmPend = false ∨ s.warmMay = false))
    ∧ (let v : Word := 1
    let s : State := { State.reset with bkp.setHi := 40000000 }
    let q := s.bkp.setLo.toNat + 2 ^ 32 * s.bkp.setHi.toNat
    s.awake = true ∧ v.getLsbD 0 = true ∧ 631152000 ≤ q / 65536)
    ∧ (let v : Word := 1
    let s : State := State.reset
    let q := s.bkp.setLo.toNat + 2 ^ 32 * s.bkp.setHi.toNat
    s.awake = true ∧ v.getLsbD 0 = true ∧ q / 65536 < 631152000)
    ∧ (let b : Byte := 2
    let s : State := { State.reset with twi.tcfg := (State.reset.twi.tcfg ||| BitVec.twoPow _ 5) }
    s.twi.tcfg.getLsbD 5 = true ∧ (b = 1 ∨ b = 2))
    ∧ (let b : Byte := 0x5A
    let s : State := { State.reset with twi.tcfg := (State.reset.twi.tcfg ||| BitVec.twoPow _ 5) }
    s.twi.tcfg.getLsbD 5 = true ∧ b ≠ 1 ∧ b ≠ 2)
    ∧ (let s : State := { State.reset with twi.tcfg := (State.reset.twi.tcfg &&& ~~~(BitVec.twoPow _ 5)) }
    s.twi.tcfg.getLsbD 5 = false) := by
  refine ⟨?_, ?_, ?_, ?_, ?_, ?_, ?_, ?_, ?_, ?_, ?_, ?_, ?_⟩ <;> decide +kernel

theorem wit_RegisterReads :
    (let o : BitVec 20 := 0x098
    o.toNat ∈ [0x068, 0x098, 0x0A8, 0x138, 0x168, 0x16C])
    ∧ (let i : Iface := .bar0
    let x : Nat × EvRec := (4, { cause := 5 })
    let s : State := { State.reset with flog.ring := [x] }
    s.flog.ring.find? (fun y => decide ((s.lat i).flogSel.toNat ≤ y.1)) = some x)
    ∧ (let i : Iface := .bar0
    let s : State := State.reset
    ((∀ y ∈ s.flog.ring, y.1 < (s.lat i).flogSel.toNat)))
    ∧ (let i : Iface := .bar0
    let x : Nat × EvRec := (4, { cause := 5 })
    let s := State.reset.modLat i fun l => { l with flogEnt := some x }
    (s.lat i).flogEnt = some x) := by
  refine ⟨?_, ?_, ?_, ?_⟩ <;> decide +kernel

theorem wit_EventRecords :
    (let cause : Nat := 0x0102
    let cls : Nat := 1
    let sev : Nat := 2
    let s : State := { State.reset with rst.booted := true }
    let s := s.modFlow (fEvh cls) fun y => { y with ooc := none }
    catalogue.lookup cause = some (cls, sev) ∧ s.rst.booted = true ∧ s.evsOn cls = false ∧ s.tb.seqCount < 2 ^ 40 ∧ (s.flow (fEvh cls)).ooc = none)
    ∧ (let f : Nat := 0x61
    let s := State.reset.modFlow f fun y => { y with ooc := none }
    0x60 ≤ f ∧ f ≤ 0x65 ∧ (s.flow f).ooc = none)
    ∧ (let f : Nat := 0x61
    let s := State.reset.modFlow f fun y => { y with cap := 0 }
    0x60 ≤ f ∧ f ≤ 0x65 ∧ s.slots f < 2)
    ∧ (let f : Nat := 0x61
    let since : Quad := 77
    let c : CoalCtr := { cause := 0x0102, cnt := 3 }
    let s := State.reset.modFlow f fun y => { y with ooc := some since }
    let s := s.modFlow f fun y => { y with ctrs := [c] }
    let s := s.modFlow f fun y => { y with counted := (0 + 1) }
    0x60 ≤ f ∧ f ≤ 0x65 ∧ (s.flow f).ooc = some since ∧ 3 ≤ s.slots f ∧ (s.flow f).ctrs = [c] ∧ 0 < (s.flow f).counted ∧ s.tb.seqCount + 1 < 2 ^ 40) := by
  refine ⟨?_, ?_, ?_, ?_⟩ <;> decide +kernel

theorem wit_StoreAndTimebase :
    (let cell : Nat := 1
    let s : State := { State.reset with sto.cfg := State.reset.sto.cfg ||| 3, sto.suspect := [], sto.retired := [] }
    cell < 16384 ∧ s.sto.retired.contains cell = false ∧ s.sto.cfg.getLsbD 0 = true ∧ s.cellOwner cell = none ∧ s.looseOwner cell = none)
    ∧ (let cell : Nat := 1
    let s : State := { State.reset with sto.cfg := State.reset.sto.cfg ||| 3, sto.suspect := [], sto.retired := [] }
    let s := s.modFlow 0x74 fun y => { y with cells := [({ idx := 1, pay := [.bytes [7]] } : Cell)] }
    cell < 16384 ∧ s.sto.retired.contains cell = false ∧ s.sto.cfg.getLsbD 0 = true ∧ (s.cellOwner cell).isSome = true)
    ∧ (let cell : Nat := 1
    let s : State := { State.reset with sto.cfg := State.reset.sto.cfg &&& ~~~ 3#32, sto.suspect := [], sto.retired := [] }
    cell < 16384 ∧ s.sto.retired.contains cell = false ∧ s.sto.cfg.getLsbD 0 = false ∧ s.cellOwner cell = none)
    ∧ (let cell : Nat := 1
    let s : State := { State.reset with sto.cfg := State.reset.sto.cfg &&& ~~~ 3#32, sto.suspect := [], sto.retired := [] }
    let s := s.modFlow 0x74 fun y => { y with cells := [({ idx := 1, pay := [.bytes [7]] } : Cell)] }
    cell < 16384 ∧ s.sto.retired.contains cell = false ∧ s.sto.cfg.getLsbD 0 = false ∧ (s.cellOwner cell).isSome = true)
    ∧ (let cell : Nat := 1
    let s : State := { State.reset with sto.cfg := State.reset.sto.cfg, sto.suspect := [], sto.retired := [1] }
    cell < 16384 ∧ s.sto.retired.contains cell = true)
    ∧ (let cell : Nat := 1
    let s : State := { State.reset with sto.cfg := State.reset.sto.cfg, sto.suspect := [(2, 5)], sto.retired := [] }
    cell < 16384 ∧ (∀ x ∈ s.sto.suspect, x.1 ≠ cell))
    ∧ (let cell : Nat := 1
    let s : State := { State.reset with sto.cfg := State.reset.sto.cfg, sto.suspect := [(1, 5)], sto.retired := [] }
    let s := s.modFlow 0x74 fun y => { y with cells := [({ idx := 1, pay := [.bytes [7]] } : Cell)] }
    cell < 16384 ∧ (s.sto.suspect.any fun x => x.1 == cell) = true ∧ ((s.cellOwner cell).isSome = true ∨ (s.looseOwner cell).isSome = true))
    ∧ (let cell : Nat := 1
    let s : State := { State.reset with sto.cfg := State.reset.sto.cfg &&& ~~~ 3#32, sto.suspect := [(2, 5), (1, 9)], sto.retired := [] }
    cell < 16384 ∧ (s.sto.suspect.any fun x => x.1 == cell) = true ∧ s.cellOwner cell = none ∧ s.looseOwner cell = none ∧ s.sto.cfg.getLsbD 1 = false)
    ∧ (let cell : Nat := 1
    let s : State := { State.reset with sto.cfg := State.reset.sto.cfg ||| 3, sto.suspect := [(1, 9)], sto.retired := [] }
    let s : State := { s with sto := { s.sto with c2cap := 4096 } }
    cell < 16384 ∧ (s.sto.suspect.any fun x => x.1 == cell) = true ∧ s.cellOwner cell = none ∧ s.looseOwner cell = none ∧ s.sto.cfg.getLsbD 1 = true ∧ s.sto.c2Cap ≤ 4096)
    ∧ (let cell : Nat := 1
    let s : State := { State.reset with sto.cfg := State.reset.sto.cfg ||| 3, sto.suspect := [(1, 9)], sto.retired := [] }
    cell < 16384 ∧ (s.sto.suspect.any fun x => x.1 == cell) = true ∧ s.cellOwner cell = none ∧ s.looseOwner cell = none ∧ s.sto.cfg.getLsbD 1 = true ∧ 4096 < s.sto.c2Cap)
    ∧ (let f : Nat := 117
    let s : State := State.reset
    s.credit f = 0)
    ∧ (let f : Nat := 116
    let r : Payload := .bytes [7]
    let l : List Waiter := [.cell r]
    let s := State.reset.modFlow f fun y => { y with waiters := .cell r :: l }
    0 < s.credit f ∧ f < 117 ∧ (s.flow f).waiters = .cell r :: l ∧ 0x70 ≤ f)
    ∧ (let f : Nat := fJrn
    let r : Payload := .bytes []
    let l : List Waiter := [.cell r]
    let s := State.reset.modFlow f fun y => { y with waiters := .cell r :: l }
    0 < s.credit f ∧ f < 117 ∧ (s.flow f).waiters = .cell r :: l ∧ f = fJrn)
    ∧ (let f : Nat := 83
    let r : Payload := .bytes [3]
    let l : List Waiter := [.cell r]
    let s := State.reset.modFlow f fun y => { y with waiters := .cell r :: l }
    0 < s.credit f ∧ f < 117 ∧ (s.flow f).waiters = .cell r :: l ∧ 0x50 ≤ f ∧ f < 0x60)
    ∧ (let q : PortId := 3
    let s := State.reset.modFlow (fPdTx 3) fun y => { y with waiters := [.seq 3 {} .seq true] }
    let s := s.modPort 3 fun q => { q with mtr.merge := some {} }
    0 < s.credit (fPdTx q) ∧ 0 < s.credit (fMtr q) ∧ 0 < s.credit fPodUpd ∧ 0 < s.credit fImg)
    ∧ (let s : State := { State.reset with tb.running := false }
    s.tb.running = false)
    ∧ (let s : State := { State.reset with tb.fallback := true }
    s.tb.fallback = true)
    ∧ (let us : Nat := 175
    let steps : List Nat := List.replicate 16 3
    let s : State := { State.reset with tb.running := true }
    s.tb.running = true ∧ us < 256 ∧ steps.length = 16)
    ∧ (let ok : Bool := true
    let s : State := { State.reset with tb.eraSaved := true }
    (s.tb.eraSaved = true ∨ ok = false))
    ∧ (let s : State := { State.reset with tb.eraSaved := false }
    s.tb.eraSaved = false ∧ s.tb.seqCount < 0xFF00000000)
    ∧ (let s : State := { State.reset with tb.eraSaved := false, tb.seqCount := 0xFF00000000 }
    s.tb.eraSaved = false ∧ 0xFF00000000 ≤ s.tb.seqCount) := by
  refine ⟨?_, ?_, ?_, ?_, ?_, ?_, ?_, ?_, ?_, ?_, ?_, ?_, ?_, ?_, ?_, ?_, ?_, ?_, ?_, ?_, ?_⟩ <;> decide +kernel

theorem wit_PinClasses :
    (let p : PortId := 3
    let s : State := State.reset
    let c := (s.port p).cc
    c.win = none)
    ∧ (let p : PortId := 3
    let s := State.reset.modPort p fun q => { q with ef.vbusMv := (800 + 1), cc.win := some .attach }
    let c := (s.port p).cc
    c.win ≠ none ∧ (800 < (s.port p).ef.vbusMv ∨ (s.port p).ef.gateOn = true))
    ∧ (let p : PortId := 3
    let s := State.reset.modPort p fun q => { q with ef.vbusMv := 800, ef.gateOn := false, cc.win := some .attach, cc.smp1 := List.replicate 7 (some 1000), cc.smp2 := List.replicate 7 none }
    let c := (s.port p).cc
    c.win ≠ none ∧ (s.port p).ef.vbusMv ≤ 800 ∧ (s.port p).ef.gateOn = false ∧ c.smp1.length = 7 ∧ c.smp2.length = 7)
    ∧ (let p : PortId := 3
    let s := State.reset.modPort p fun q => { q with ef.vbusMv := 800, ef.gateOn := false, cc.win := some .attach, cc.smp1 := List.replicate 2 (some 1000), cc.smp2 := List.replicate 2 none }
    let c := (s.port p).cc
    c.win ≠ none ∧ (s.port p).ef.vbusMv ≤ 800 ∧ (s.port p).ef.gateOn = false ∧ c.smp1.length < 7 ∧ c.smp2.length < 7) := by
  refine ⟨?_, ?_, ?_, ?_⟩ <;> decide +kernel

theorem wit_CcEvents :
    (let p : PortId := 3
    let rep : CcRep := .rd
    let s : State := State.reset
    let q := s.port p
    let c := q.cc
    c.raw1 ≠ rep)
    ∧ (let p : PortId := 3
    let rep : CcRep := .rd
    let s : State := State.reset
    let q := s.port p
    let c := q.cc
    c.raw2 ≠ rep)
    ∧ (let p : PortId := 3
    let s := State.reset
    let s := s.modPort p fun q => { q with cc.rep1 := .rd, cc.rpOn := true, cc.st := .unattached }
    let q := s.port p
    let c := q.cc
    (c.rep1 = .rd ∨ c.rep2 = .rd ∨ (c.rep1 = .ra ∧ c.rep2 = .ra)) ∧ c.rpOn = true ∧ c.vconnOn = false ∧ c.vconnBusy = false ∧ c.st = .unattached)
    ∧ (let p : PortId := 3
    let s := State.reset.start p .reprobe
    let s := s.modPort p fun q => { q with cc.st := .wet, cc.win := none }
    let q := s.port p
    let c := q.cc
    s.runs p .reprobe = true ∧ (c.st = .wet ∨ c.st = .foreign) ∧ c.win = none)
    ∧ (let p : PortId := 3
    let s := State.reset.start p .reprobe
    let s := s.modPort p fun q => { q with cc.st := .unattached }
    let s := s.modPort p fun q => { q with cc.cfg := ((s.port p).cc.cfg ||| BitVec.twoPow _ 2), cc.win := none }
    let q := s.port p
    let c := q.cc
    s.runs p .reprobe = true ∧ c.st = .unattached ∧ c.cfg.getLsbD 2 = true ∧ c.win = none)
    ∧ (let p : PortId := 3
    let s := State.reset
    let s := s.modPort p fun q => { q with cc.st := .unattached, cc.rep1 := .opn, cc.rep2 := .ra }
    let q := s.port p
    let c := q.cc
    c.st = .unattached ∧ ((c.rep1 = .ra ∧ c.rep2 = .opn) ∨ (c.rep1 = .opn ∧ c.rep2 = .ra)) ∧ c.occ2Done = none ∧ c.win = none)
    ∧ (let p : PortId := 3
    let s := State.reset.modPort p fun q => { q with cc.st := .attachWait, cc.verdict := some .sink, cc.active := some .cc1, cc.rep1 := .rd, ef.reason := .none, cc.detaching := false }
    let q := s.port p
    let c := q.cc
    c.st = .attachWait ∧ c.verdict = some .sink ∧ c.active = some .cc1 ∧ c.rep1 = .rd ∧ q.ef.reason = .none ∧ c.detaching = false)
    ∧ (let p : PortId := 3
    let s := State.reset.modPort p fun q => { q with cc.st := .attachedSrc, cc.active := some .cc1, cc.rep1 := .opn, cc.rdOn := false, cc.detaching := false, ef.tripping := none }
    let q := s.port p
    let c := q.cc
    c.st = .attachedSrc ∧ c.active = some .cc1 ∧ c.rep1 = .opn ∧ c.rdOn = false ∧ c.detaching = false ∧ q.ef.tripping = none ∧ q.ef.latch ≠ 5)
    ∧ (let p : PortId := 3
    let s := State.reset.modPort p fun q => { q with cc.st := .holdoff }
    let s := s.start p .holdoff
    let s := s.modPort p fun q => { q with ef.holdOn := true, ef.holdOt := false, cc.cls1 := .opn, cc.cls2 := .opn, cc.vHeld := false, cc.rep1 := .opn, cc.rep2 := .opn }
    let q := s.port p
    let c := q.cc
    c.st = .holdoff ∧ s.runs p .holdoff = true ∧ q.ef.holdOn = true ∧ q.ef.holdOt = false ∧ c.cls1 = .opn ∧ c.cls2 = .opn ∧ c.vHeld = false ∧ c.rep1 = .opn ∧ c.rep2 = .opn)
    ∧ (let p : PortId := 3
    let s := State.reset.modPort p fun q => { q with cc.st := .holdoff }
    let s := s.start p .holdoff
    let s := s.modPort p fun q => { q with ef.holdOn := true, ef.holdOt := true }
    let q := s.port p
    let c := q.cc
    c.st = .holdoff ∧ s.runs p .holdoff = true ∧ q.ef.holdOn = true ∧ q.ef.holdOt = true)
    ∧ (let p : PortId := 3
    let s := State.reset.modPort p fun q => { q with cc.vconnBusy := false }
    let q := s.port p
    let c := q.cc
    c.vconnBusy = false)
    ∧ (let p : PortId := 3
    let s := State.reset.modPort p fun q => { q with cc.vconnBusy := true, cc.vconnOn := true, pol.seq := .swap, swap.kind := .vconn, swap.accepted := true }
    let q := s.port p
    let c := q.cc
    c.vconnBusy = true ∧ c.vconnOn = true ∧ q.pol.seq = .swap ∧ q.swap.kind = .vconn ∧ q.swap.accepted = true)
    ∧ (let p : PortId := 3
    let s := State.reset.modPort p fun q => { q with cc.vconnBusy := true, cc.vconnOn := false, cc.detaching := true, ef.path := .off }
    let q := s.port p
    let c := q.cc
    c.vconnBusy = true ∧ c.vconnOn = false ∧ c.detaching = true ∧ q.ef.path = .off)
    ∧ (let p : PortId := 3
    let s := State.reset
    let s := s.modPort p fun q => { q with cc.raw1 := .ra }
    let q := s.port p
    let c := q.cc
    (false = true ∨ CcRep.ra = (if Pin.cc1 = .cc1 then c.raw1 else c.raw2)))
    ∧ (let p : PortId := 3
    let s := State.reset
    let s := s.modPort p fun q => { q with cc.rep1 := .ra, cc.rep2 := .ra, cc.rpOn := true, cc.st := .holdoff }
    let q := s.port p
    let c := q.cc
    (c.rep1 = .rd ∨ c.rep2 = .rd ∨ (c.rep1 = .ra ∧ c.rep2 = .ra)) ∧ c.rpOn = true ∧ c.vconnOn = false ∧ c.vconnBusy = false ∧ c.st = .holdoff ∧ c.atEntry = false ∧ c.verdict = none ∧ c.win = none)
    ∧ (let p : PortId := 3
    let s := State.reset
    let s := s.modPort p fun q => { q with cc.st := .unattached, cc.rep1 := .ra, cc.rep2 := .opn, cc.occ2Done := some .cc1 }
    let q := s.port p
    let c := q.cc
    c.st = .unattached ∧ c.occ2Done ≠ none ∧ c.win = none)
    ∧ (let p : PortId := 3
    let s := State.reset
    let s := s.modPort p fun q => { q with cc.st := .attachWait, cc.verdict := some .debug, cc.rep1 := .rd, cc.rep2 := .rd }
    let q := s.port p
    let c := q.cc
    c.st = .attachWait ∧ c.verdict = some .debug ∧ c.rep1 = .rd ∧ c.rep2 = .rd)
    ∧ (let p : PortId := 3
    let s := State.reset
    let s := s.modPort p fun q => { q with cc.st := .attachWait, cc.verdict := some .audio, cc.rep1 := .ra, cc.rep2 := .ra }
    let q := s.port p
    let c := q.cc
    c.st = .attachWait ∧ c.verdict = some .audio ∧ c.rep1 = .ra ∧ c.rep2 = .ra)
    ∧ (let p : PortId := 3
    let s := State.reset
    let s := s.modPort p fun q => { q with cc.st := .audioAcc, cc.verdict := some .audio, cc.rep1 := .ra }
    let q := s.port p
    let c := q.cc
    c.st = .audioAcc ∧ (c.rep1 = .opn ∨ c.rep2 = .opn) ∧ c.detaching = false)
    ∧ (let p : PortId := 3
    let s := State.reset
    let s := s.modPort p fun q => { q with cc.st := .debugAcc, cc.verdict := some .debug, cc.rep1 := .rd }
    let q := s.port p
    let c := q.cc
    c.st = .debugAcc ∧ (c.rep1 = .opn ∨ c.rep2 = .opn) ∧ c.detaching = false ∧ q.ef.tripping = none ∧ q.ef.latch ≠ 5)
    ∧ (let p : PortId := 3
    let s := State.reset
    let s := s.modPort p fun q => { q with cc.st := .attachedSnk, pol.seq := .sink }
    let q := s.port p
    let c := q.cc
    c.st = .attachedSnk ∧ q.pol.seq ≠ .swap ∧ c.detaching = false)
    ∧ (let p : PortId := 3
    let s := State.reset
    let s := s.modPort p fun q => { q with cc.st := .attachedSnk, pol.seq := .swap }
    let q := s.port p
    let c := q.cc
    c.st ≠ .attachedSnk ∨ q.pol.seq = .swap)
    ∧ (let p : PortId := 3
    let s := State.reset
    let s := s.modPort p fun q => { q with cc.vconnOn := true }
    let q := s.port p
    let c := q.cc
    c.vconnOn = true)
    ∧ (let p : PortId := 3
    let s := State.reset.start 3 .holdoff
    let s := s.modPort p fun q => { q with cc.st := .holdoff, ef.holdOn := true, ef.holdOt := false, cc.cls1 := .wet }
    let q := s.port p
    let c := q.cc
    c.st = .holdoff ∧ s.runs p .holdoff = true ∧ q.ef.holdOn = true ∧ q.ef.holdOt = false ∧ c.cls1 = .wet ∧ c.cls2 ≠ .foreign)
    ∧ (let p : PortId := 3
    let s := State.reset.start 3 .holdoff
    let s := s.modPort p fun q => { q with cc.st := .holdoff, ef.holdOn := true, ef.holdOt := false, cc.cls1 := .opn, cc.cls2 := .foreign }
    let q := s.port p
    let c := q.cc
    c.st = .holdoff ∧ s.runs p .holdoff = true ∧ q.ef.holdOn = true ∧ q.ef.holdOt = false ∧ (c.cls1 = .foreign ∨ c.cls2 = .foreign))
    ∧ (let p : PortId := 3
    let s := State.reset.start 3 .holdoff
    let s := s.modPort p fun q => { q with cc.st := .holdoff, ef.holdOn := true, ef.holdOt := false, cc.cls1 := .rd, cc.cls2 := .rd, cc.vHeld := true, cc.verdict := some .debug }
    let q := s.port p
    let c := q.cc
    c.st = .holdoff ∧ s.runs p .holdoff = true ∧ q.ef.holdOn = true ∧ q.ef.holdOt = false ∧ c.cls1 = .rd ∧ c.cls2 = .rd ∧ c.vHeld = true ∧ c.verdict = some .debug)
    ∧ (let p : PortId := 3
    let s := State.reset.start 3 .holdoff
    let s := s.modPort p fun q => { q with cc.st := .holdoff, ef.holdOn := true, ef.holdOt := false, cc.cls1 := .ra, cc.cls2 := .ra, cc.vHeld := true, cc.verdict := some .audio }
    let q := s.port p
    let c := q.cc
    c.st = .holdoff ∧ s.runs p .holdoff = true ∧ q.ef.holdOn = true ∧ q.ef.holdOt = false ∧ c.cls1 = .ra ∧ c.cls2 = .ra ∧ c.vHeld = true ∧ c.verdict = some .audio)
    ∧ (let p : PortId := 3
    let s := State.reset.start 3 .holdoff
    let s := s.modPort p fun q => { q with cc.st := .holdoff, ef.holdOn := true, ef.holdOt := false, cc.cls1 := .rd, cc.cls2 := .opn, cc.vHeld := true, cc.verdict := some .sink }
    let q := s.port p
    let c := q.cc
    c.st = .holdoff ∧ s.runs p .holdoff = true ∧ q.ef.holdOn = true ∧ q.ef.holdOt = false ∧ c.cls1 = .rd ∧ c.cls2 = .opn ∧ c.vHeld = true ∧ c.verdict = some .sink) := by
  refine ⟨?_, ?_, ?_, ?_, ?_, ?_, ?_, ?_, ?_, ?_, ?_, ?_, ?_, ?_, ?_, ?_, ?_, ?_, ?_, ?_, ?_, ?_, ?_, ?_, ?_, ?_, ?_, ?_⟩ <;> decide +kernel

theorem wit_PdTransmission :
    (let p : PortId := 3
    let s : State := State.reset
    let q := s.port p
    q.pdRuns = false)
    ∧ (let p : PortId := 3
    let m : PdMsg := { sopx := .sopp }
    let s := State.reset.modPort p fun q => { q with cc.st := .attachedSrc }
    let q := s.port p
    q.pdRuns = true ∧ q.sendable m = false)
    ∧ (let p : PortId := 3
    let m : PdMsg := {}
    let prod : PdProd := .core
    let s := State.reset.modPort p fun q => { q with cc.st := .attachedSrc }
    let u : State := (s.putMsg (fPdTx p) (.pd m (s.port p).cc.inst (some (prod, (s.port p).pd.ams == .idle)) 0) m).getD s
    let q := s.port p
    q.pdRuns = true ∧ q.sendable m = true ∧ (s.flow (fPdTx p)).waiters = [] ∧ s.putMsg (fPdTx p) (.pd m q.cc.inst (some (prod, q.pd.ams == .idle)) 0) m = some u)
    ∧ (let p : PortId := 3
    let t : PdTx := { ph := .held }
    let s := State.reset
    let s := s.modPort p fun q => { q with cc.st := .attachedSrc, pd.tx := some t }
    let q := s.port p
    q.pd.tx = some t ∧ t.ph = .held ∧ q.sendable t.msg = true ∧ (t.msg.isCtrl 13 = false ∨ t.tries ≠ 0) ∧ (∀ c ∈ (s.flow (fPdTx p)).headCells, c.ue = none ∧ c.ce = []))
    ∧ (let p : PortId := 3
    let t : PdTx := { ph := .held, msg := { hdr := 0x000D } }
    let s := State.reset
    let s := s.modPort p fun q => { q with cc.st := .attachedSrc, pd.ams := .device, pd.tx := some t }
    let q := s.port p
    q.pd.tx = some t ∧ t.ph = .held ∧ q.sendable t.msg = true ∧ t.msg.isCtrl 13 = true ∧ t.tries = 0 ∧ (∀ c ∈ (s.flow (fPdTx p)).headCells, c.ue = none ∧ c.ce = []))
    ∧ (let p : PortId := 3
    let t : PdTx := { ph := .held, msg := { sopx := .sopp } }
    let s := State.reset
    let s := s.modPort p fun q => { q with cc.st := .attachedSrc, pd.tx := some t }
    let q := s.port p
    q.pd.tx = some t ∧ t.ph = .held ∧ q.sendable t.msg = false)
    ∧ (let p : PortId := 3
    let t : PdTx := { ph := .held, tries := 2, msg := { sopx := .sopp } }
    let s := State.reset
    let s := s.modPort p fun q => { q with cc.st := .attachedSrc, pd.tx := some t }
    let q := s.port p
    q.pd.tx = some t ∧ t.ph = .held ∧ q.sendable t.msg = false)
    ∧ (let p : PortId := 3
    let t : PdTx := { ph := .wire }
    let s := State.reset
    let s := s.modPort p fun q => { q with pd.tx := some t }
    let q := s.port p
    q.pd.tx = some t ∧ t.ph ≠ .held)
    ∧ (let p : PortId := 3
    let t : PdTx := { ph := .wire }
    let s := State.reset
    let s := s.modPort p fun q => { q with pd.tx := some t }
    let q := s.port p
    q.pd.tx = some t ∧ t.ph = .wire)
    ∧ (let p : PortId := 3
    let t : PdTx := { ph := .waitCrc }
    let s := State.reset
    let s := s.modPort p fun q => { q with pd.tx := some t }
    let q := s.port p
    q.pd.tx = some t ∧ t.ph = .waitCrc ∧ t.chunk + 1 = chunksOf t.msg)
    ∧ (let p : PortId := 3
    let t : PdTx := { ph := .waitCrc, tries := 9, cur := 9 }
    let s := State.reset.start 3 .tReceive
    let s := s.modPort p fun q => { q with pd.tx := some t }
    let q := s.port p
    q.pd.tx = some t ∧ t.ph = .waitCrc ∧ t.chunk + 1 = chunksOf t.msg ∧ s.runs p .tReceive = true ∧ q.pd.retries t.msg.sopx < t.cur)
    ∧ (let p : PortId := 3
    let t : PdTx := { ph := .waitCrc, tries := 1, cur := 1 }
    let s := State.reset.start 3 .tReceive
    let s := s.modPort p fun q => { q with pd.tx := some t }
    let q := s.port p
    q.pd.tx = some t ∧ t.ph = .waitCrc ∧ s.runs p .tReceive = true ∧ t.cur ≤ q.pd.retries t.msg.sopx)
    ∧ (let p : PortId := 3
    let t : PdTx := { ph := .amsWait }
    let s := State.reset.start 3 .amsWait
    let s := s.modPort p fun q => { q with pd.tx := some t }
    let q := s.port p
    q.pd.tx = some t ∧ t.ph = .amsWait ∧ s.runs p .amsWait = true)
    ∧ (let p : PortId := 3
    let t : PdTx := { ph := .sinkWait }
    let s := State.reset
    let s := s.modPort p fun q => { q with cc.st := .attachedSnk, pd.tx := some t }
    let q := s.port p
    q.pd.tx = some t ∧ t.ph = .sinkWait ∧ q.cc.st = .attachedSnk)
    ∧ (let p : PortId := 3
    let t : PdTx := { ph := .held, first := true }
    let s := State.reset
    let s := s.modPort p fun q => { q with cc.st := .attachedSrc, pd.tx := some t }
    let q := s.port p
    q.pd.tx = some t ∧ OrdSet.sop.sopx = some .sop ∧ q.pdRuns = true ∧ t.first = true ∧ t.tries = 0 ∧ t.ph = .held)
    ∧ (let set : OrdSet := .sopp
    let p : PortId := 3
    let s := State.reset
    set.sopx ≠ some .sop)
    ∧ (let p : PortId := 3
    let s := State.reset
    let s := s.modPort p fun q => { q with cc.st := .attachedSnk }
    let q := s.port p
    q.cc.st = .attachedSnk)
    ∧ (let p : PortId := 3
    let s := State.reset
    let s := s.modPort p fun q => { q with cc.st := .attachedSrc }
    let q := s.port p
    q.pdRuns = true) := by
  refine ⟨?_, ?_, ?_, ?_, ?_, ?_, ?_, ?_, ?_, ?_, ?_, ?_, ?_, ?_, ?_, ?_, ?_, ?_⟩ <;> decide +kernel

theorem wit_PdReceipt :
    (let p : PortId := 3
    let pin : Pin := .cc2
    let set : OrdSet := .sop
    let k : Sopx := .sop
    let m : PdMsg := {}
    let s := State.reset
    let s := s.modPort p fun q => { q with cc.st := .attachedSrc, cc.active := some pin }
    let q := s.port p
    set.sopx = some k ∧ q.pdRuns = true ∧ q.cc.st ≠ .debugAcc ∧ q.cc.active = some pin ∧ q.sopOk k = true ∧ m.lenOk = true)
    ∧ (let p : PortId := 3
    let pin : Pin := .cc2
    let set : OrdSet := .sopp
    let k : Sopx := .sopp
    let m : PdMsg := {}
    let s := State.reset
    let s := s.modPort p fun q => { q with cc.st := .attachedSrc, cc.active := some pin, cc.vconnOn := true, pd.cfgNow := 3 }
    let q := s.port p
    set.sopx = some k ∧ q.pdRuns = true ∧ q.cc.st ≠ .debugAcc ∧ q.cc.active = some pin ∧ q.sopOk k = true ∧ m.lenOk = true)
    ∧ (let p : PortId := 3
    let pin : Pin := .cc2
    let set : OrdSet := { OrdSet.sop with a := .rst1 }
    let k : Sopx := .sop
    let m : PdMsg := {}
    let s := State.reset
    let s := s.modPort p fun q => { q with cc.st := .attachedSrc, cc.active := some pin, pd.sop := { q.pd.sop with rxId := some 0 } }
    let q := s.port p
    set.sopx = some k ∧ q.pdRuns = true ∧ q.cc.st ≠ .debugAcc ∧ q.cc.active = some pin ∧ q.sopOk k = true ∧ m.lenOk = true ∧ (q.pd.lane k).rxId = some m.mid ∧ m.isCtrl 13 = false)
    ∧ (let p : PortId := 3
    let pin : Pin := .cc2
    let set : OrdSet := .sop
    let k : Sopx := .sop
    let m : PdMsg := { data := [1] }
    let s := State.reset
    let s := s.modPort p fun q => { q with cc.st := .attachedSrc, cc.active := some pin }
    let q := s.port p
    set.sopx = some k ∧ q.pdRuns = true ∧ q.cc.active = some pin ∧ m.lenOk = false)
    ∧ (let set : OrdSet := .soppDebug
    let p : PortId := 3
    let s := State.reset
    set.sopx = none)
    ∧ (let p : PortId := 3
    let s := State.reset
    let s := s.modPort p fun q => { q with pd.hrPend := false }
    let q := s.port p
    q.pd.hrPend = false)
    ∧ (let p : PortId := 3
    let pin : Pin := .cc1
    let s := State.reset
    let q := s.port p
    q.cc.st ≠ .debugAcc ∧ q.cc.active ≠ some pin)
    ∧ (let p : PortId := 3
    let a : PdAsm := {}
    let s := State.reset.start p .chunk
    let s := s.modPort p fun q => { q with pd.asm := some a }
    let q := s.port p
    s.runs p .chunk = true ∧ q.pd.asm = some a)
    ∧ (let p : PortId := 3
    let s := State.reset.modPort p fun q => { q with pd.hrPend := true }
    let q := s.port p
    q.pd.hrPend = true)
    ∧ (let p : PortId := 3
    let s := State.reset.modPort p fun q => { q with cc.st := .attachedSrc, pd.hrPend := false }
    let q := s.port p
    q.pdRuns = true ∧ q.pd.hrPend = false ∧ q.cc.st ≠ .debugAcc)
    ∧ (let p : PortId := 3
    let s : State := State.reset
    let q := s.port p
    q.pdRuns = false) := by
  refine ⟨?_, ?_, ?_, ?_, ?_, ?_, ?_, ?_, ?_, ?_, ?_⟩ <;> decide +kernel

theorem wit_PolicyTimers :
    (let p : PortId := 3
    let s := State.reset.start p .sendCap
    let s := s.modPort p fun q => { q with pol.seq := .sendCaps }
    let s : State := { s with tb.fallback := false }
    let q := s.port p
    let st := q.pol.seq
    s.runs p .sendCap = true ∧ st = .sendCaps)
    ∧ (let p : PortId := 3
    let s := State.reset.start p .sender
    let s := s.modPort p fun q => { q with pol.seq := .waitRequest }
    let s : State := { s with tb.fallback := false }
    let q := s.port p
    let st := q.pol.seq
    s.runs p .sender = true ∧ (st = .waitRequest ∨ st = .softReset))
    ∧ (let p : PortId := 3
    let s := State.reset.start p .sender
    let s := s.modPort p fun q => { q with pol.seq := .swap, swap.kind := .toSink, swap.byDev := true, swap.accepted := false }
    let s : State := { s with tb.fallback := false }
    let q := s.port p
    let st := q.pol.seq
    s.runs p .sender = true ∧ st = .swap ∧ q.swap.byDev = true ∧ q.swap.accepted = false)
    ∧ (let p : PortId := 3
    let s := State.reset.start p .sender
    let s := s.modPort p fun q => { q with pol.seq := .ready }
    let s : State := { s with tb.fallback := false }
    let q := s.port p
    let st := q.pol.seq
    s.runs p .sender = true ∧ st = .ready)
    ∧ (let c : Contract := { mv := 9000 }
    let p : PortId := 3
    let s := State.reset.start p .srcTrans
    let s := s.modPort p fun q => { q with pol.seq := .transition, pol.pendCtr := some c }
    let s : State := { s with tb.fallback := false }
    let q := s.port p
    let st := q.pol.seq
    s.runs p .srcTrans = true ∧ st = .transition ∧ q.pol.pendCtr = some c)
    ∧ (let p : PortId := 3
    let s := State.reset.start p .srcTrans
    let s := s.modPort p fun q => { q with pol.seq := .swap, swap.kind := .toSink, swap.step := 2 }
    let s : State := { s with tb.fallback := false }
    let q := s.port p
    let st := q.pol.seq
    s.runs p .srcTrans = true ∧ st = .swap ∧ q.swap.kind = .toSink ∧ q.swap.step = 2)
    ∧ (let p : PortId := 3
    let s := State.reset.start p .transLimit
    let s := s.modPort p fun q => { q with pol.seq := .transition }
    let s : State := { s with tb.fallback := false }
    let q := s.port p
    let st := q.pol.seq
    s.runs p .transLimit = true ∧ st = .transition)
    ∧ (let p : PortId := 3
    let s := State.reset.start p .pps
    let s := s.modPort p fun q => { q with pol.seq := .ready }
    let s : State := { s with tb.fallback := false }
    let q := s.port p
    let st := q.pol.seq
    s.runs p .pps = true ∧ st = .ready)
    ∧ (let p : PortId := 3
    let s := State.reset.start p .keepAlive
    let s := s.modPort p fun q => { q with pol.seq := .ready, pol.eprMode := true }
    let s : State := { s with tb.fallback := false }
    let q := s.port p
    let st := q.pol.seq
    s.runs p .keepAlive = true ∧ st = .ready)
    ∧ (let p : PortId := 3
    let s := State.reset.start p .cableDisc
    let s := s.modPort p fun q => { q with pol.seq := .cableDisc }
    let s : State := { s with tb.fallback := false }
    let q := s.port p
    let st := q.pol.seq
    s.runs p .cableDisc = true ∧ st = .cableDisc)
    ∧ (let p : PortId := 3
    let s := State.reset.start p .vdmBusy
    let s := s.modPort p fun q => { q with pol.seq := .cableDisc, pol.cableReq := 1, cc.vconnOn := true, pd.cfgNow := q.pd.cfgNow ||| 2 }
    let s : State := { s with tb.fallback := false }
    let q := s.port p
    let st := q.pol.seq
    s.runs p .vdmBusy = true ∧ st = .cableDisc ∧ q.pol.cableReq < 2 ∧ q.sopOk .sopp = true)
    ∧ (let p : PortId := 3
    let s := State.reset.start p .vdmBusy
    let s := s.modPort p fun q => { q with pol.seq := .ready, cc.st := .attachedSrc, pd.ams := .idle, pd.tx := none, pol.firstDone := true, pod.discDone := false, pod.discOn := false, pod.auth := 0 }
    let s : State := { s with tb.fallback := false }
    let q := s.port p
    let st := q.pol.seq
    s.runs p .vdmBusy = true ∧ st ≠ .cableDisc ∧ (s.stop p .vdmBusy).discDue p = true)
    ∧ (let p : PortId := 3
    let s := State.reset.start p .vdmResp
    let s := s.modPort p fun q => { q with pol.seq := .cableDisc, pol.cableReq := 2 }
    let s : State := { s with tb.fallback := false }
    let q := s.port p
    let st := q.pol.seq
    s.runs p .vdmResp = true ∧ st = .cableDisc ∧ 2 ≤ q.pol.cableReq)
    ∧ (let p : PortId := 3
    let s := State.reset.start p .vdmResp
    let s := s.modPort p fun q => { q with pol.seq := .cableDisc, pol.cableReq := 1, cc.vconnOn := true, pd.cfgNow := q.pd.cfgNow ||| 2 }
    let s : State := { s with tb.fallback := false }
    let q := s.port p
    let st := q.pol.seq
    s.runs p .vdmResp = true ∧ st = .cableDisc ∧ q.pol.cableReq < 2 ∧ q.sopOk .sopp = true)
    ∧ (let p : PortId := 3
    let s := State.reset.start p .vdmResp
    let s := s.modPort p fun q => { q with pol.seq := .ready, pol.cableBusy := false, pod.discOn := true }
    let s : State := { s with tb.fallback := false }
    let q := s.port p
    let st := q.pol.seq
    s.runs p .vdmResp = true ∧ st = .ready ∧ q.pol.cableBusy = false ∧ q.pod.discOn = true)
    ∧ (let p : PortId := 3
    let s := State.reset.start p .vdmResp
    let s := s.modPort p fun q => { q with pol.seq := .ready, pol.cableBusy := false, pod.discOn := false, pod.fleetCmd := 2 }
    let s : State := { s with tb.fallback := false }
    let q := s.port p
    let st := q.pol.seq
    s.runs p .vdmResp = true ∧ st = .ready ∧ q.pol.cableBusy = false ∧ q.pod.discOn = false ∧ q.pod.fleetCmd ≠ 0)
    ∧ (let p : PortId := 3
    let s := State.reset.start p .cableAgain
    let s := s.modPort p fun q => { q with pol.cable := none, pol.seq := .ready, cc.st := .attachedSrc, pd.ams := .idle, pd.tx := none, cc.vconnOn := true, pd.cfgNow := q.pd.cfgNow ||| 2 }
    let s : State := { s with tb.fallback := false }
    let q := s.port p
    let st := q.pol.seq
    s.runs p .cableAgain = true ∧ q.pol.cable = none ∧ q.pol.cableLate < 4 ∧ q.sopOk .sopp = true ∧ q.readyIdle = true)
    ∧ (let p : PortId := 3
    let s := State.reset.start p .cableAgain
    let s := s.modPort p fun q => { q with pol.cableLate := 4 }
    let s : State := { s with tb.fallback := false }
    let q := s.port p
    let st := q.pol.seq
    s.runs p .cableAgain = true ∧ (q.pol.cable ≠ none ∨ 4 ≤ q.pol.cableLate))
    ∧ (let p : PortId := 3
    let s := State.reset.start p .waitSpacing
    let s := s.modPort p fun q => { q with pol.seq := .ready, cc.st := .attachedSrc, pd.ams := .idle, pd.tx := none, pol.waitMsg := some .vconnSwap }
    let s : State := { s with tb.fallback := false }
    let q := s.port p
    let st := q.pol.seq
    s.runs p .waitSpacing = true ∧ q.baseIdle = true ∧ q.pol.waitMsg = some .vconnSwap ∧ s.tb.fallback = false)
    ∧ (let p : PortId := 3
    let s := State.reset.start p .waitSpacing
    let s := s.modPort p fun q => { q with pol.seq := .ready, cc.st := .attachedSrc, pd.ams := .idle, pd.tx := none, pol.waitMsg := some .prSwap }
    let s : State := { s with tb.fallback := false }
    let q := s.port p
    let st := q.pol.seq
    s.runs p .waitSpacing = true ∧ q.baseIdle = true ∧ q.pol.waitMsg = some .prSwap ∧ s.tb.fallback = false)
    ∧ (let p : PortId := 3
    let s := State.reset.start p .waitSpacing
    let s := s.modPort p fun q => { q with pol.seq := .sink, cc.st := .attachedSnk, pd.ams := .idle, pd.tx := none, pol.waitMsg := some .request }
    let s : State := { s with tb.fallback := false }
    let q := s.port p
    let st := q.pol.seq
    s.runs p .waitSpacing = true ∧ q.baseIdle = true ∧ q.pol.waitMsg = some .request)
    ∧ (let p : PortId := 3
    let s : State := State.reset
    s.runs p .sendCap = false ∧ s.runs p .sender = false ∧ s.runs p .srcTrans = false ∧ s.runs p .transLimit = false ∧ s.runs p .pps = false ∧ s.runs p .keepAlive = false ∧ s.runs p .cableDisc = false ∧ s.runs p .vdmBusy = false ∧ s.runs p .vdmResp = false ∧ s.runs p .cableAgain = false ∧ s.runs p .waitSpacing = false) := by
  refine ⟨?_, ?_, ?_, ?_, ?_, ?_, ?_, ?_, ?_, ?_, ?_, ?_, ?_, ?_, ?_, ?_, ?_, ?_, ?_, ?_, ?_, ?_⟩ <;> decide +kernel

theorem wit_BudgetCommands :
    (let p : PortId := 3
    let s := State.reset.modPort p fun q => { q with pol.reneg := true, pol.seq := .ready, pd.ams := .idle, pd.tx := none, pol.firstDone := true }
    (s.port p).pol.reneg = true ∧ (s.port p).readyIdle = true ∧ (s.port p).pol.firstDone = true)
    ∧ (let p : PortId := 3
    let s := State.reset.modPort p fun q => { q with pol.reneg := false }
    (s.port p).pol.reneg = false)
    ∧ (let s : State := { State.reset with bud.lowered := true }
    s.bud.lowered = true ∧ s.committed ≤ s.limit)
    ∧ (let p : PortId := 3
    let s : State := { State.reset with bud.lowered := true, bud.cfg := 0 }
    let s := s.modPort p fun q => { q with pol.commit := 50, pol.target := 10, pol.contract := some {}, cc.st := .attachedSrc }
    s.bud.lowered = true ∧ s.limit < s.committed ∧ s.worstExcess = some p)
    ∧ (let s : State := { State.reset with bud.lowered := false }
    s.bud.lowered = false)
    ∧ (let p : PortId := 3
    let mv : Nat := 5000
    let s := State.reset.modPort p fun q => { q with pol.seq := .startup, ef.path := .on, cc.vconnOn := true }
    let s := s.modPort p fun q => { q with pd.cfgNow := ((s.port p).pd.cfgNow ||| BitVec.twoPow _ 1) }
    let q := s.port p
    4750 ≤ mv ∧ mv ≤ 5500 ∧ q.pol.seq = .startup ∧ q.ef.path = .on ∧ q.cc.vconnOn = true ∧ q.pd.cfgNow.getLsbD 1 = true)
    ∧ (let p : PortId := 3
    let mv : Nat := 5000
    let s := State.reset.modPort p fun q => { q with pol.seq := .startup, ef.path := .on, cc.vconnOn := false }
    let q := s.port p
    4750 ≤ mv ∧ mv ≤ 5500 ∧ q.pol.seq = .startup ∧ q.ef.path = .on ∧ q.cc.vconnOn = false)
    ∧ (let p : PortId := 3
    let mv : Nat := 5000
    let s := State.reset.modPort p fun q => { q with pol.seq := .hardReset, swap.hrStep := 6 }
    let q := s.port p
    4750 ≤ mv ∧ mv ≤ 5500 ∧ q.pol.seq = .hardReset ∧ q.swap.hrStep = 6)
    ∧ (let p : PortId := 3
    let mv : Nat := 5000
    let s := State.reset.modPort p fun q => { q with ef.softStart := true, ef.path := .on }
    let q := s.port p
    4750 ≤ mv ∧ mv ≤ 5500 ∧ q.ef.softStart = true ∧ q.ef.path = .on) := by
  refine ⟨?_, ?_, ?_, ?_, ?_, ?_, ?_, ?_, ?_⟩ <;> decide +kernel

theorem wit_SwapTimers :
    (let p : PortId := 3
    let s := State.reset.start p .psSourceOn
    let s := s.modPort p fun q => { q with swap.kind := .toSink }
    let s : State := { s with tb.fallback := false, hu.active := false }
    let q := s.port p
    let w := q.swap
    s.runs p .psSourceOn = true ∧ w.kind = .toSink)
    ∧ (let p : PortId := 3
    let s := State.reset.start p .psSourceOn
    let s := s.modPort p fun q => { q with swap.kind := .fr }
    let s : State := { s with tb.fallback := false, hu.active := false }
    let q := s.port p
    let w := q.swap
    s.runs p .psSourceOn = true ∧ w.kind = .fr ∧ w.returning = false)
    ∧ (let p : PortId := 3
    let s := State.reset.start p .frsWait
    let s := s.modPort p fun q => { q with swap.kind := .fr }
    let s : State := { s with tb.fallback := false, hu.active := false }
    let q := s.port p
    let w := q.swap
    s.runs p .frsWait = true ∧ w.kind = .fr ∧ w.returning = false)
    ∧ (let p : PortId := 3
    let s := State.reset.start p .psSourceOff
    let s := s.modPort p fun q => { q with swap.kind := .toSource }
    let s : State := { s with tb.fallback := false, hu.active := false }
    let q := s.port p
    let w := q.swap
    s.runs p .psSourceOff = true ∧ w.kind = .toSource)
    ∧ (let p : PortId := 3
    let s := State.reset.start p .vconnSource
    let s := s.modPort p fun q => { q with swap.kind := .vconn, cc.st := .attachedSrc }
    let s : State := { s with tb.fallback := false, hu.active := false }
    let q := s.port p
    let w := q.swap
    s.runs p .vconnSource = true ∧ w.kind = .vconn ∧ ¬ (q.cc.st = .attachedSnk ∧ s.hu.active = true))
    ∧ (let p : PortId := 3
    let s := State.reset.start p .vconnSource
    let s := s.modPort p fun q => { q with swap.kind := .vconn, cc.st := .attachedSnk, pol.seq := .sink }
    let s : State := { s with tb.fallback := false, hu.active := true }
    let q := s.port p
    let w := q.swap
    s.runs p .vconnSource = true ∧ w.kind = .vconn ∧ (q.cc.st = .attachedSnk ∧ s.hu.active = true))
    ∧ (let p : PortId := 3
    let s := State.reset.start p .takeover
    let s := s.modPort p fun q => { q with swap.kind := .fr }
    let s : State := { s with tb.fallback := false, hu.active := false }
    let q := s.port p
    let w := q.swap
    s.runs p .takeover = true ∧ True)
    ∧ (let p : PortId := 3
    let s := State.reset.start p .psTransition
    let s := s.modPort p fun q => { q with cc.st := .attachedSnk, pol.seq := .sink }
    let s : State := { s with tb.fallback := false, hu.active := false }
    let q := s.port p
    let w := q.swap
    s.runs p .psTransition = true ∧ q.pol.seq = .sink ∧ ¬ (q.cc.st = .attachedSnk ∧ s.hu.active = true))
    ∧ (let p : PortId := 3
    let s := State.reset.start p .psTransition
    let s := s.modPort p fun q => { q with cc.st := .attachedSnk, pol.seq := .sink }
    let s : State := { s with tb.fallback := false, hu.active := true }
    let q := s.port p
    let w := q.swap
    s.runs p .psTransition = true ∧ q.pol.seq = .sink ∧ (q.cc.st = .attachedSnk ∧ s.hu.active = true))
    ∧ (let p : PortId := 3
    let s := State.reset.start p .sinkWaitCap
    let s := s.modPort p fun q => { q with cc.st := .attachedSnk, pol.seq := .sink }
    let s : State := { s with tb.fallback := false, hu.active := false }
    let q := s.port p
    let w := q.swap
    s.runs p .sinkWaitCap = true ∧ q.pol.seq = .sink ∧ s.hu.active = false)
    ∧ (let p : PortId := 3
    let s := State.reset.start p .sinkWaitCap
    let s := s.modPort p fun q => { q with cc.st := .attachedSnk, pol.seq := .sink }
    let s : State := { s with tb.fallback := false, hu.active := true }
    let q := s.port p
    let w := q.swap
    s.runs p .sinkWaitCap = true ∧ q.pol.seq = .sink ∧ s.hu.active = true)
    ∧ (let p : PortId := 3
    let s := State.reset.start p .psHardReset
    let s := s.modPort p fun q => { q with swap.hrStep := 2 }
    let s : State := { s with tb.fallback := false, hu.active := false }
    let q := s.port p
    let w := q.swap
    s.runs p .psHardReset = true ∧ w.hrStep = 2)
    ∧ (let p : PortId := 3
    let s := State.reset.start p .srcRecover
    let s := s.modPort p fun q => { q with swap.hrStep := 4, swap.hrHold := false }
    let s : State := { s with tb.fallback := false, hu.active := false }
    let q := s.port p
    let w := q.swap
    s.runs p .srcRecover = true ∧ w.hrStep = 4 ∧ ((w.hrHold = false ∧ s.hu.active = false) ∨ w.returnMet = true))
    ∧ (let p : PortId := 3
    let s := State.reset.start p .srcRecover
    let s := s.modPort p fun q => { q with swap.hrStep := 4, swap.hrHold := true, swap.returnMet := true }
    let s : State := { s with tb.fallback := false, hu.active := true }
    let q := s.port p
    let w := q.swap
    s.runs p .srcRecover = true ∧ w.hrStep = 4 ∧ ((w.hrHold = false ∧ s.hu.active = false) ∨ w.returnMet = true))
    ∧ (let p : PortId := 3
    let s := State.reset.start p .srcRecover
    let s := s.modPort p fun q => { q with swap.hrStep := 4, swap.hrHold := true, swap.returnMet := false }
    let s : State := { s with tb.fallback := false, hu.active := false }
    let q := s.port p
    let w := q.swap
    s.runs p .srcRecover = true ∧ w.hrStep = 4 ∧ (w.hrHold = true ∨ s.hu.active = true) ∧ w.returnMet = false)
    ∧ (let p : PortId := 3
    let s := State.reset
    let s := s.modPort p fun q => { q with swap.kind := .fr, swap.step := 2, swap.accepted := false }
    let s : State := { s with tb.fallback := false, hu.active := false }
    let q := s.port p
    let w := q.swap
    w.kind = .fr ∧ w.step ≤ 2 ∧ w.accepted = false)
    ∧ (let p : PortId := 3
    let s := State.reset
    let s := s.modPort p fun q => { q with swap.kind := .fr, swap.step := 3 }
    let s : State := { s with tb.fallback := false, hu.active := false }
    let q := s.port p
    let w := q.swap
    (w.kind ≠ .fr ∨ 2 < w.step))
    ∧ (let p : PortId := 3
    let s := State.reset
    let s := s.modPort p fun q => { q with swap.kind := .fr, swap.accepted := false, swap.byDev := false }
    let s : State := { s with tb.fallback := false, hu.active := false }
    let q := s.port p
    let w := q.swap
    w.kind = .fr ∧ w.accepted = false ∧ w.byDev = false)
    ∧ (let p : PortId := 3
    let s := State.reset
    let s := s.modPort p fun q => { q with swap.kind := .fr, swap.accepted := true }
    let s : State := { s with tb.fallback := false, hu.active := false }
    let q := s.port p
    let w := q.swap
    (w.kind ≠ .fr ∨ w.accepted = true ∨ w.byDev = true))
    ∧ (let p : PortId := 3
    let s := State.reset
    let s := s.modPort p fun q => { q with ef.bfWhy := 4, ef.bfCmd := false, cc.st := .attachedSnk, swap.cfg := 0x31, ef.path := .off }
    let s : State := { s with tb.fallback := false, hu.active := false }
    let q := s.port p
    let w := q.swap
    (q.ef.bfWhy ≠ 0 ∧ (q.ef.path = .off ∨ q.ef.path = .opening) ∧ q.ef.bfCmd = false
      ∧ (if q.ef.bfWhy = 4 then w.cfg.getLsbD 4 else w.cfgNow.getLsbD 4) = true ∧ (q.cc.st = .attachedSnk ∨ (w.kind = .fr ∧ 3 ≤ w.step))))
    ∧ (let p : PortId := 3
    let s := State.reset
    let s := s.modPort p fun q => { q with ef.bfWhy := 1, ef.bfCmd := false, swap.kind := .fr, swap.step := 3, swap.cfgNow := 0x10, ef.path := .opening }
    let s : State := { s with tb.fallback := false, hu.active := false }
    let q := s.port p
    let w := q.swap
    (q.ef.bfWhy ≠ 0 ∧ (q.ef.path = .off ∨ q.ef.path = .opening) ∧ q.ef.bfCmd = false
      ∧ (if q.ef.bfWhy = 4 then w.cfg.getLsbD 4 else w.cfgNow.getLsbD 4) = true ∧ (q.cc.st = .attachedSnk ∨ (w.kind = .fr ∧ 3 ≤ w.step))))
    ∧ (let p : PortId := 3
    let s := State.reset
    let s := s.modPort p fun q => { q with ef.bfWhy := 1, ef.path := .closing, cc.st := .attachedSnk }
    let s : State := { s with tb.fallback := false, hu.active := false }
    let q := s.port p
    let w := q.swap
    ¬ (q.ef.bfWhy ≠ 0 ∧ (q.ef.path = .off ∨ q.ef.path = .opening) ∧ q.ef.bfCmd = false
      ∧ (if q.ef.bfWhy = 4 then w.cfg.getLsbD 4 else w.cfgNow.getLsbD 4) = true ∧ (q.cc.st = .attachedSnk ∨ (w.kind = .fr ∧ 3 ≤ w.step))))
    ∧ (let p : PortId := 3
    let s := State.reset
    let s := s.modPort p fun q => { q with ef.bfCmd := true, ef.bfOn := false }
    let s : State := { s with tb.fallback := false, hu.active := false }
    let q := s.port p
    let w := q.swap
    q.ef.bfCmd = true ∧ q.ef.bfOn = false)
    ∧ (let p : PortId := 3
    let s := State.reset
    let s := s.modPort p fun q => { q with ef.bfCmd := false }
    let s : State := { s with tb.fallback := false, hu.active := false }
    let q := s.port p
    let w := q.swap
    (q.ef.bfCmd = false ∨ q.ef.bfOn = true))
    ∧ (let c : BfCause := .overcurrent
    let p : PortId := 3
    let s := State.reset
    let s := s.modPort p fun q => { q with ef.path := .backfeed, cc.st := .attachedSnk }
    let s : State := { s with tb.fallback := false, hu.active := false }
    let q := s.port p
    let w := q.swap
    c ≠ .host ∧ q.ef.path = .backfeed ∧ w.kind ≠ .fr ∧ q.cc.st = .attachedSnk ∧ q.ef.bfReclosed.toNat < q.ef.now.bf.toNat / 256 % 4)
    ∧ (let c : BfCause := .i2t
    let p : PortId := 3
    let s := State.reset
    let s := s.modPort p fun q => { q with ef.path := .backfeed, swap.kind := .fr }
    let s : State := { s with tb.fallback := false, hu.active := false }
    let q := s.port p
    let w := q.swap
    c ≠ .host ∧ q.ef.path = .backfeed ∧ w.kind = .fr)
    ∧ (let p : PortId := 3
    let s := State.reset
    let s := s.modPort p fun q => { q with ef.path := .off }
    let s : State := { s with tb.fallback := false, hu.active := false }
    let q := s.port p
    let w := q.swap
    q.ef.path ≠ .backfeed)
    ∧ (let p : PortId := 3
    let s := State.reset.start p .bfReclose
    let s := s.modPort p fun q => { q with cc.st := .attachedSnk, swap.cfgNow := 0x10 }
    let s : State := { s with tb.fallback := false, hu.active := false }
    let q := s.port p
    let w := q.swap
    s.runs p .bfReclose = true ∧ q.cc.st = .attachedSnk ∧ w.cfgNow.getLsbD 4 = true)
    ∧ (let p : PortId := 3
    let s := State.reset
    let s := s.modPort p fun q => { q with swap.returnMet := false }
    let s : State := { s with tb.fallback := false, hu.active := true }
    let q := s.port p
    let w := q.swap
    q.businOk = true ∧ (∀ r, r ≠ p → (s.port r).cc.st = .disabled ∨ (s.port r).swap.returnMet = true))
    ∧ (let p : PortId := 3
    let s := State.reset.modMon p 5 fun w => { w with below := true }
    let q := s.port p
    q.businOk = false)
    ∧ (let p : PortId := 3
    let s := State.reset.start p .returnRetry
    let s := s.modPort p fun q => { q with swap.returning := true, pol.seq := .sink, pd.ams := .idle, pd.tx := none, swap.cfg := 0x20, pol.waitMsg := none }
    let s : State := { s with tb.fallback := false, hu.active := false }
    let q := s.port p
    let w := q.swap
    s.runs p .returnRetry = true ∧ w.returning = true ∧ q.pol.seq = .sink ∧ q.baseIdle = true ∧ w.cfg.getLsbD 5 = true ∧ q.pol.waitMsg = none ∧ s.tb.fallback = false)
    ∧ (let p : PortId := 3
    let s := State.reset
    let s := s.modPort p fun q => { q with swap.cfg := q.swap.cfg ||| 1, swap.drp := true, pol.seq := .ready, pd.ams := .idle, pd.tx := none, pol.firstDone := true, pod.discDone := true, pod.lookPend := none, swap.snkAsked := false }
    let s : State := { s with tb.fallback := false, hu.active := false }
    let q := s.port p
    let w := q.swap
    q.drpBit = true ∧ q.readyIdle = true ∧ q.pol.firstDone = true ∧ q.pod.discDone = true ∧ q.pod.lookPend = none ∧ q.pod.auth ≠ 1 ∧ w.snkAsked = false)
    ∧ (let p : PortId := 3
    let s := State.reset
    let s := s.modPort p fun q => { q with swap.snkAsked := true }
    let s : State := { s with tb.fallback := false, hu.active := false }
    let q := s.port p
    let w := q.swap
    (q.drpBit = false ∨ q.readyIdle = false ∨ w.snkAsked = true)) := by
  refine ⟨?_, ?_, ?_, ?_, ?_, ?_, ?_, ?_, ?_, ?_, ?_, ?_, ?_, ?_, ?_, ?_, ?_, ?_, ?_, ?_, ?_, ?_, ?_, ?_, ?_, ?_, ?_, ?_, ?_, ?_, ?_, ?_, ?_⟩ <;> decide +kernel

theorem wit_PartnerIdentity :
    (let p : PortId := 3
    let v : List Byte := List.replicate 12 7
    let s := State.reset.modPort p fun q => { q with pod.ackSop := some v, pod.lookPend := none }
    let s : State := { s with pod.cfg := (s.pod.cfg ||| BitVec.twoPow _ 0) }
    let q := s.port p
    let x := q.pod
    x.ackSop = some v ∧ x.lookPend = none ∧ s.pod.cfg.getLsbD 0 = true)
    ∧ (let p : PortId := 3
    let v : List Byte := List.replicate 12 7
    let s := State.reset.modPort p fun q => { q with pod.ackCable := some v }
    let q := s.port p
    let x := q.pod
    x.ackCable = some v ∧ x.lookPend = none)
    ∧ (let p : PortId := 3
    let k : Nat := 4
    let e : PodEntry := { bytes := [1, 0, 0, 0, 0, 0, 0, 0, 1, 1, 1, 0, 100, 0, 44, 1, 200, 0, 0, 0, 0, 0, 0, 0, 0, 0, 10, 0, 0, 0, 0, 0, 0, 0, 0, 0, 0, 0, 0, 0, 0, 0, 0, 0, 0, 0, 0, 0, 0, 0, 0, 0, 0, 0, 0, 0, 0, 0, 0, 0, 184, 90, 221, 230] }
    let s := State.reset.modPort p fun q => { q with pod.lookPend := some .sop }
    let s : State := { s with pod.cfg := (s.pod.cfg ||| BitVec.twoPow _ 0) }
    let s := s.modPort p fun q => { q with pod.digest := 1 }
    let s : State := { s with pod.slots := [(4, e)] }
    let q := s.port p
    let x := q.pod
    (∀ k, (s.port k).pod.lookPend = none ∨ x.lookAt ≤ (s.port k).pod.lookAt) ∧ x.lookPend = some .sop ∧ s.pod.cfg.getLsbD 0 = true ∧ s.pod.find x.digest.toNat = some (k, e) ∧ e.kind ≠ 2 ∧ e.deny = false ∧ e.authReq = false)
    ∧ (let p : PortId := 3
    let k : Nat := 4
    let e : PodEntry := { bytes := [1, 0, 0, 0, 0, 0, 0, 0, 1, 0x81, 1] ++ List.replicate 53 0 }
    let s := State.reset.modPort p fun q => { q with pod.lookPend := some .sop }
    let s : State := { s with pod.cfg := (s.pod.cfg ||| BitVec.twoPow _ 0) }
    let s := s.modPort p fun q => { q with pod.digest := 1 }
    let s : State := { s with pod.slots := [(4, e)] }
    let q := s.port p
    let x := q.pod
    (∀ k, (s.port k).pod.lookPend = none ∨ x.lookAt ≤ (s.port k).pod.lookAt) ∧ x.lookPend = some .sop ∧ s.pod.cfg.getLsbD 0 = true ∧ s.pod.find x.digest.toNat = some (k, e) ∧ e.kind ≠ 2 ∧ e.deny = true)
    ∧ (let p : PortId := 3
    let s := State.reset.modPort p fun q => { q with pod.lookPend := some .sop }
    let q := s.port p
    let x := q.pod
    (∀ k, (s.port k).pod.lookPend = none ∨ x.lookAt ≤ (s.port k).pod.lookAt) ∧ x.lookPend = some .sop ∧ s.pod.find x.digest.toNat = none)
    ∧ (let p : PortId := 3
    let k : Nat := 4
    let e : PodEntry := { bytes := [1, 0, 0, 0, 0, 0, 0, 0, 1, 2, 1] ++ List.replicate 53 0 }
    let s := State.reset.modPort p fun q => { q with pod.lookPend := some .cable, pod.cableDig := 1 }
    let s : State := { s with pod.slots := [(4, e)] }
    let q := s.port p
    let x := q.pod
    (∀ k, (s.port k).pod.lookPend = none ∨ x.lookAt ≤ (s.port k).pod.lookAt) ∧ x.lookPend = some .cable ∧ s.pod.find x.cableDig.toNat = some (k, e) ∧ e.kind = 2)
    ∧ (let p : PortId := 3
    let b : List Byte := [2, 0, 0, 0, 0, 0, 2] ++ List.replicate 30 0
    let e : PodEntry := { bytes := [1, 0, 0, 0, 0, 0, 0, 0, 1, 1, 1, 0, 100, 0, 44, 1, 200, 0, 0, 0, 0, 0, 0, 0, 0, 0, 10, 0, 0, 0, 0, 0, 0, 0, 0, 0, 0, 0, 0, 0, 0, 0, 0, 0, 0, 0, 0, 0, 0, 0, 0, 0, 0, 0, 0, 0, 0, 0, 0, 0, 184, 90, 221, 230] }
    let s := State.reset.modPort p fun q => { q with cc.inst := getLE b 4 2, pod.pendCopy := some e }
    let s := s.modFlow (fVdmTx p) fun y => { y with cells := [({ idx := 5, pay := [.bytes b] } : Cell)] }
    let q := s.port p
    let x := q.pod
    s.vdmHead p = some b ∧ (∀ c ∈ (s.flow (fVdmTx p)).headCells, c.ue = none ∧ c.ce = []) ∧  getLE b 0 1 = 2 ∧ getLE b 4 2 = q.cc.inst.toNat ∧ getLE b 6 1 = 2 ∧ x.oldJob = false ∧ x.pendCopy = some e)
    ∧ (let p : PortId := 3
    let e : PodEntry := { bytes := [1, 0, 0, 0, 0, 0, 0, 0, 1, 1, 1, 0, 100, 0, 44, 1, 200, 0, 0, 0, 0, 0, 0, 0, 0, 0, 10, 0, 0, 0, 0, 0, 0, 0, 0, 0, 0, 0, 0, 0, 0, 0, 0, 0, 0, 0, 0, 0, 0, 0, 0, 0, 0, 0, 0, 0, 0, 0, 0, 0, 184, 90, 221, 230] }
    let s := State.reset.start p .auth
    let s := s.modPort p fun q => { q with pod.pendCopy := some e }
    let q := s.port p
    let x := q.pod
    s.runs p .auth = true ∧ x.pendCopy = some e)
    ∧ (let p : PortId := 3
    let s := State.reset.modPort p fun q => { q with pol.seq := .ready, pol.firstDone := true }
    s.discDue p = true)
    ∧ (let p : PortId := 3
    let s : State := State.reset
    s.discDue p = false)
    ∧ (let p : PortId := 3
    let s := State.reset.modPort p fun q => { q with pol.seq := .ready, pd.ams := .idle, pd.tx := none, pod.fleetCmd := 0 }
    let s := s.modPort p fun q => { q with cc.st := .attachedSrc, pol.seq := .ready, pod.idValid := true, pd.revSop := 2, pod.src := 2, pod.copy := some { bytes := [1, 0, 0, 0, 0, 0, 0, 0, 1, 0x41, 1] ++ List.replicate 53 0 } }
    let s : State := { s with pod.cfg := s.pod.cfg ||| 0x00010008, pod.fleet := 0x1234 }
    let q := s.port p
    let x := q.pod
    s.fleetLegal p = none ∧ q.readyIdle = true ∧ x.fleetCmd = 0)
    ∧ (let p : PortId := 3
    let s := State.reset.start p .fleetEnter
    let s := s.modPort p fun q => { q with pod.fleetCmd := 3 }
    let q := s.port p
    let x := q.pod
    s.runs p .fleetEnter = true ∧ x.fleetCmd = 3)
    ∧ (let p : PortId := 3
    let s : State := State.reset
    s.vdmHead p = none)
    ∧ (let p : PortId := 3
    let b : List Byte := [1, 0, 0, 0, 5] ++ List.replicate 30 0
    let s := State.reset.modFlow (fVdmTx p) fun y => { y with cells := [({ idx := 5, pay := [.bytes b] } : Cell)] }
    let q := s.port p
    (∀ c ∈ (s.flow (fVdmTx p)).headCells, c.ue = none ∧ c.ce = []) ∧ s.vdmHead p = some b ∧ getLE b 4 2 ≠ q.cc.inst.toNat)
    ∧ (let p : PortId := 3
    let b : List Byte := [1, 0, 8, 0, 0] ++ List.replicate 40 0
    let s := State.reset.modPort p fun q => { q with cc.inst := getLE b 4 2 }
    let s := s.modFlow (fVdmTx p) fun y => { y with cells := [({ idx := 5, pay := [.bytes b] } : Cell)] }
    let q := s.port p
    (∀ c ∈ (s.flow (fVdmTx p)).headCells, c.ue = none ∧ c.ce = []) ∧ s.vdmHead p = some b ∧ getLE b 4 2 = q.cc.inst.toNat ∧ getLE b 0 1 = 1 ∧ s.coreMay (itemMsg b) = false)
    ∧ (let p : PortId := 3
    let b : List Byte := [3, 0, 8, 0, 0] ++ List.replicate 40 0
    let s := State.reset.modPort p fun q => { q with cc.inst := getLE b 4 2, pod.vdmAwait := true }
    let s := s.modFlow (fVdmTx p) fun y => { y with cells := [({ idx := 5, pay := [.bytes b] } : Cell)] }
    let q := s.port p
    (∀ c ∈ (s.flow (fVdmTx p)).headCells, c.ue = none ∧ c.ce = []) ∧ s.vdmHead p = some b ∧ getLE b 4 2 = q.cc.inst.toNat ∧ getLE b 0 1 = 3 ∧ q.pod.vdmAwait = true ∧ q.pod.answers (itemMsg b) = false)
    ∧ (let p : PortId := 3
    let s := State.reset.start p .vdmAnswer
    let s := s.modPort p fun q => { q with pod.vdmAwait := true }
    let q := s.port p
    s.runs p .vdmAnswer = true ∧ q.pod.vdmAwait = true)
    ∧ (let p : PortId := 3
    let b : List Byte := [1, 0, 6, 0, 0, 0] ++ List.replicate 26 0 ++ [0x0F, 0x10, 0, 0, 0x34, 0x12] ++ List.replicate 20 0
    let s := State.reset.modPort p fun q => { q with cc.inst := 0, cc.st := .attachedSrc, pol.seq := .ready }
    let s : State := { s with pod.fleet := 0x1234 }
    let s := s.modFlow (fVdmTx p) fun y => { y with cells := [({ idx := 5, pay := [.bytes b] } : Cell)] }
    let q := s.port p
    (∀ c ∈ (s.flow (fVdmTx p)).headCells, c.ue = none ∧ c.ce = []) ∧ s.vdmHead p = some b ∧ getLE b 4 2 = q.cc.inst.toNat ∧ getLE b 0 1 = 1 ∧ s.coreMay (itemMsg b) = true ∧ q.readyIdle = true)
    ∧ (let p : PortId := 3
    let b : List Byte := [3, 0, 6, 0, 0, 0] ++ List.replicate 26 0 ++ [0x0F, 0x10, 0x50, 0x80, 0x34, 0x12] ++ List.replicate 20 0
    let s := State.reset.modPort p fun q => { q with cc.inst := 0, cc.st := .attachedSrc, pol.seq := .ready, pod.vdmAwait := true, pod.vdmAsk := 0x12348010 }
    let s := s.modFlow (fVdmTx p) fun y => { y with cells := [({ idx := 5, pay := [.bytes b] } : Cell)] }
    let q := s.port p
    (∀ c ∈ (s.flow (fVdmTx p)).headCells, c.ue = none ∧ c.ce = []) ∧ s.vdmHead p = some b ∧ getLE b 4 2 = q.cc.inst.toNat ∧ getLE b 0 1 = 3 ∧ q.pod.vdmAwait = true ∧ q.pod.answers (itemMsg b) = true)
    ∧ (let p : PortId := 3
    let s := (State.reset.modPort p fun q => { q with pod.lookPend := some .sop, pod.lookAt := 2 }).modPort 4 fun q => { q with pod.lookPend := some .cable, pod.lookAt := 1 }
    let x := (s.port p).pod
    ∃ k, (s.port k).pod.lookPend ≠ none ∧ (s.port k).pod.lookAt < x.lookAt) := by
  refine ⟨?_, ?_, ?_, ?_, ?_, ?_, ?_, ?_, ?_, ?_, ?_, ?_, ?_, ?_, ?_, ?_, ?_, ?_, ?_, ?_⟩ <;> decide +kernel

theorem wit_PathGuard :
    (let p : PortId := 3
    let s := State.reset.modPort p fun q => { q with ef.path := .proving }
    let s := s.modPort p fun q => { q with wm.m := q.wm.m.map fun x => { x with passed := 3 } }
    let q := s.port p
    let e := q.ef
    e.path = .proving ∧ q.wm.legsDone = true)
    ∧ (let p : PortId := 3
    let s := State.reset.modPort p fun q => { q with ef.path := .proving }
    let q := s.port p
    let e := q.ef
    e.path = .proving ∧ q.wm.legsDone = false)
    ∧ (let p : PortId := 3
    let s := State.reset.modPort p fun q => { q with ef.path := .opening }
    let q := s.port p
    let e := q.ef
    e.path = .opening)
    ∧ (let p : PortId := 3
    let s := State.reset.modPort p fun q => { q with ef.path := .closing, ef.reason := .attach }
    let q := s.port p
    let e := q.ef
    e.path = .closing ∧ e.reason = .attach)
    ∧ (let p : PortId := 3
    let s := State.reset.modPort p fun q => { q with ef.path := .closing, ef.reason := .hardReset, pol.hrCtr := 2 }
    let q := s.port p
    let e := q.ef
    e.path = .closing ∧ e.reason = .hardReset ∧ q.pol.hrCtr ≤ 2)
    ∧ (let p : PortId := 3
    let s := State.reset.modPort p fun q => { q with ef.path := .closing, ef.reason := .hardReset, pol.hrCtr := (2 + 1) }
    let q := s.port p
    let e := q.ef
    e.path = .closing ∧ e.reason = .hardReset ∧ 2 < q.pol.hrCtr)
    ∧ (let p : PortId := 3
    let s : State := State.reset
    let q := s.port p
    let e := q.ef
    e.path ≠ .closing)
    ∧ (let p : PortId := 3
    let s := State.reset.modPort p fun q => { q with ef.path := .closing, ef.tripping := none }
    let q := s.port p
    let e := q.ef
    e.path = .closing ∧ e.tripping = none)
    ∧ (let p : PortId := 3
    let s := State.reset.modPort p fun q => { q with ef.softStart := true, ef.path := .on, ef.tripping := none }
    let q := s.port p
    let e := q.ef
    e.softStart = true ∧ e.path = .on ∧ e.tripping = none)
    ∧ (let p : PortId := 3
    let s := State.reset.modPort p fun q => { q with ef.dsch := true, ef.unexpSeen := false }
    let q := s.port p
    let e := q.ef
    e.dsch = true ∧ e.unexpSeen = false)
    ∧ (let p : PortId := 3
    let s := State.reset.modPort p fun q => { q with ef.dsch := true, ef.gateOn := false, ef.tripping := none }
    let q := s.port p
    let e := q.ef
    e.dsch = true ∧ e.gateOn = false ∧ e.tripping = none)
    ∧ (let p : PortId := 3
    let s := State.reset.modPort p fun q => { q with ef.dsch := false }
    let q := s.port p
    let e := q.ef
    e.dsch = false)
    ∧ (let p : PortId := 3
    let s := State.reset.start p .goodService
    let s := s.modPort p fun q => { q with ef.path := .on }
    let q := s.port p
    let e := q.ef
    s.runs p .goodService = true ∧ e.path = .on) := by
  refine ⟨?_, ?_, ?_, ?_, ?_, ?_, ?_, ?_, ?_, ?_, ?_, ?_, ?_⟩ <;> decide +kernel

theorem wit_ControlUpdate :
    (let s : State := { State.reset with pwr.st := .idle }
    (s.pwr.st = .idle ∨ s.pwr.st = .doze ∨ s.pwr.st = .hibernate))
    ∧ (let s : State := { State.reset with pwr.st := .run }
    s.pwr.st = .run) := by
  refine ⟨?_, ?_⟩ <;> decide +kernel

theorem wit_ConverterEvents :
    (let p : PortId := 3
    let s := State.reset
    let s := s.modPort p fun q => { q with cnv.run := true, cnv.cfg := q.cnv.cfg ||| 0x800, cnv.eff.cfg := q.cnv.cfg ||| 0x800, cnv.a.next := true, cnv.b.next := true, cnv.c.next := true }
    let q := s.port p
    let c := q.cnv
    c.run = true ∧ c.eff.cfg.getLsbD 11 = true ∧ c.slewing = false ∧ c.continuous = false ∧ c.a.next = true ∧ c.b.next = true ∧ c.c.next = true ∧ c.a.shed = false ∧ c.b.shed = false ∧ c.c.shed = false ∧ c.totMa < 50 * (c.eff.ilim.toNat / 256 % 256 : Nat))
    ∧ (let p : PortId := 3
    let s := State.reset
    let s := s.modPort p fun q => { q with cnv.run := false }
    let q := s.port p
    let c := q.cnv
    c.run = false)
    ∧ (let p : PortId := 3
    let vout : Int := 5000
    let fall : Nat := 100000
    let s := State.reset
    let s := s.modPort p fun q => { q with cnv.run := true, cnv.src := .sequencer, cnv.eff.cfg := q.cnv.cfg ||| 0x1000, cnv.refMv := 20000 }
    let q := s.port p
    let c := q.cnv
    q.swarmOk = true ∧ c.swarmDue vout fall = true)
    ∧ (let p : PortId := 3
    let vout : Int := 5000
    let fall : Nat := 100000
    let s := State.reset
    let q := s.port p
    let c := q.cnv
    q.swarmOk = false ∨ c.swarmDue vout fall = false)
    ∧ (let p : PortId := 3
    let s := State.reset
    let s := s.modPort p fun q => { q with cnv.swarmOn := true }
    let q := s.port p
    let c := q.cnv
    c.swarmOn = true)
    ∧ (let p : PortId := 3
    let x : Ph := .a
    let mv : Nat := 3000
    let s := State.reset
    let s := s.modPort p fun q => { q with cnv.a.pwm := .high }
    let q := s.port p
    let c := q.cnv
    (c.ph x).pwm = .high ∧ 50 * (c.eff.ilim.toNat % 256 : Int) < imonMa (c.imcal x) (1000 * (mv : Int)))
    ∧ (let p : PortId := 3
    let vout : Int := 5
    let s := State.reset
    let s := s.modPort p fun q => { q with ef.path := .on }
    let q := s.port p
    0 < vout ∧ q.ef.path = .on ∧ q.ef.shuntMa.natAbs < 50)
    ∧ (let p : PortId := 3
    let s := State.reset
    let s := s.modPort p fun q => { q with cnv.eff.cfg := q.cnv.cfg ||| 0x4000 }
    let q := s.port p
    let c := q.cnv
    c.eff.cfg.getLsbD 14 = true)
    ∧ (let p : PortId := 3
    let s := State.reset.start 3 .trimLimit
    let s := s.modPort p fun q => { q with cnv.trim := some { sq := 0, slot := 0, deltaMv := 20 } }
    let q := s.port p
    let c := q.cnv
    s.runs p .trimLimit = true ∧ c.trim ≠ none)
    ∧ (let p : PortId := 3
    let x : Ph := .a
    let s := State.reset
    let s := s.modPort p fun q => { q with cnv.a.active := true, cnv.a.railRun := 16, cnv.b.failed := true }
    let q := s.port p
    let y := q.cnv.ph x
    y.failed = false ∧ y.active = true ∧ 16 ≤ y.railRun)
    ∧ (let p : PortId := 3
    let x : Ph := .a
    let s := State.reset
    let s := s.modPort p fun q => { q with cnv.a.active := true }
    let q := s.port p
    let y := q.cnv.ph x
    y.failed = false ∧ y.active = true ∧ y.railRun < 16)
    ∧ (let p : PortId := 3
    let x : Ph := .a
    let s := State.reset
    let q := s.port p
    let y := q.cnv.ph x
    (y.failed = true ∨ y.active = false))
    ∧ (let p : PortId := 3
    let m : IsoMeas := {}
    let s := State.reset
    let s := s.modPort p fun q => { q with cnv.isoPending := true, cnv.a.active := true, cnv.b.active := true, cnv.c.active := true }
    let q := s.port p
    q.cnv.isoPending = true ∧ q.cnv.swarmOn = false ∧ q.cnv.isoWait = 0 ∧ q.cnv.isoHold = none ∧ q.cnv.a.active = true ∧ q.cnv.b.active = true ∧ q.cnv.c.active = true)
    ∧ (let p : PortId := 3
    let m : IsoMeas := {}
    let s := State.reset
    let s := s.modPort p fun q => { q with cnv.isoPending := true, cnv.a.active := true, cnv.b.active := true, cnv.c.active := true, cnv.isoHold := some .a }
    let q := s.port p
    q.cnv.isoPending = true ∧ q.cnv.swarmOn = false ∧ q.cnv.isoWait = 0 ∧ q.cnv.isoHold = some .a ∧ (m.sum - m.shunt).natAbs * 10 ≤ m.shunt.natAbs + 1500)
    ∧ (let p : PortId := 3
    let m : IsoMeas := { sum := 900, shunt := 0 }
    let s := State.reset
    let s := s.modPort p fun q => { q with cnv.isoPending := true, cnv.a.active := true, cnv.b.active := true, cnv.c.active := true, cnv.isoHold := some .a }
    let q := s.port p
    q.cnv.isoPending = true ∧ q.cnv.swarmOn = false ∧ q.cnv.isoWait = 0 ∧ q.cnv.isoHold = some .a ∧ ¬ (m.sum - m.shunt).natAbs * 10 ≤ m.shunt.natAbs + 1500)
    ∧ (let p : PortId := 3
    let m : IsoMeas := { sum := 900, shunt := 0 }
    let x : Ph := .b
    let s := State.reset
    let s := s.modPort p fun q => { q with cnv.isoPending := true, cnv.a.active := true, cnv.b.active := true, cnv.c.active := true, cnv.isoHold := some .c, cnv.isoOk := [.b] }
    let q := s.port p
    q.cnv.isoPending = true ∧ q.cnv.swarmOn = false ∧ q.cnv.isoWait = 0 ∧ q.cnv.isoHold = some .c ∧ (¬ ((m.sum - m.shunt).natAbs * 10 ≤ m.shunt.natAbs + 1500) ∧ q.cnv.isoOk = [x] ∨ (m.sum - m.shunt).natAbs * 10 ≤ m.shunt.natAbs + 1500 ∧ q.cnv.isoOk = [] ∧ x = .c))
    ∧ (let p : PortId := 3
    let m : IsoMeas := {}
    let x : Ph := .c
    let s := State.reset
    let s := s.modPort p fun q => { q with cnv.isoPending := true, cnv.a.active := true, cnv.b.active := true, cnv.c.active := true, cnv.isoHold := some .c }
    let q := s.port p
    q.cnv.isoPending = true ∧ q.cnv.swarmOn = false ∧ q.cnv.isoWait = 0 ∧ q.cnv.isoHold = some .c ∧ (¬ ((m.sum - m.shunt).natAbs * 10 ≤ m.shunt.natAbs + 1500) ∧ q.cnv.isoOk = [x] ∨ (m.sum - m.shunt).natAbs * 10 ≤ m.shunt.natAbs + 1500 ∧ q.cnv.isoOk = [] ∧ x = .c))
    ∧ (let p : PortId := 3
    let m : IsoMeas := { sum := 900, shunt := 0 }
    let s := State.reset
    let s := s.modPort p fun q => { q with cnv.isoPending := true, cnv.a.active := true, cnv.b.active := true, cnv.c.active := true, cnv.isoHold := some .c }
    let q := s.port p
    q.cnv.isoPending = true ∧ q.cnv.swarmOn = false ∧ q.cnv.isoWait = 0 ∧ q.cnv.isoHold = some .c ∧ ¬ ((m.sum - m.shunt).natAbs * 10 ≤ m.shunt.natAbs + 1500) ∧ q.cnv.isoOk = [])
    ∧ (let p : PortId := 3
    let s := State.reset
    let s := s.modPort p fun q => { q with cnv.isoPending := false }
    let q := s.port p
    q.cnv.isoPending = false) := by
  refine ⟨?_, ?_, ?_, ?_, ?_, ?_, ?_, ?_, ?_, ?_, ?_, ?_, ?_, ?_, ?_, ?_, ?_, ?_, ?_⟩ <;> decide +kernel

theorem wit_MonitorCrossings :
    (let p : PortId := 3
    let m : Fin 32 := 9
    let e : Edge := .lower
    let code : BitVec 10 := 5
    let s : State := { State.reset with pwr.st := .run }
    let s := s.modMon p m fun x => { x with cfg := x.cfg ||| 3, thr := 0x02000100 }
    let q := s.port p
    s.pwr.st = .run ∧ (s.wm p m).edgeOn e = true ∧ (s.wm p m).isOut = false ∧ (if e = .lower then code.toNat < (s.wm p m).lt else (s.wm p m).ut < code.toNat) ∧ (m.val ≠ 8 ∨ e = .upper ∨ q.wm8Held = false))
    ∧ (let p : PortId := 3
    let m : Fin 32 := 8
    let e : Edge := .upper
    let code : BitVec 10 := 1000
    let s : State := { State.reset with pwr.st := .run }
    let s := s.modMon p m fun x => { x with cfg := x.cfg ||| 3, thr := 0x02000100 }
    let q := s.port p
    s.pwr.st = .run ∧ (s.wm p m).edgeOn e = true ∧ (s.wm p m).isOut = false ∧ (if e = .lower then code.toNat < (s.wm p m).lt else (s.wm p m).ut < code.toNat) ∧ (m.val ≠ 8 ∨ e = .upper ∨ q.wm8Held = false))
    ∧ (let p : PortId := 3
    let m : Fin 32 := 0
    let e : Edge := .lower
    let code : BitVec 10 := 5
    let s : State := { State.reset with pwr.st := .run }
    let s := s.modPort p fun q => { q with ef.path := .on, ef.tripping := none, ef.gateOn := true }
    let s := s.modMon p m fun x => { x with cfg := x.cfg ||| 3, thr := 0x02000100 }
    let q := s.port p
    s.pwr.st = .run ∧ (s.wm p m).edgeOn e = true ∧ (s.wm p m).isOut = false ∧ (if e = .lower then code.toNat < (s.wm p m).lt else (s.wm p m).ut < code.toNat) ∧ m.val = 0 ∧ q.ef.path = .on ∧ q.wm.mode ≠ .test ∧ q.ef.tripping = none)
    ∧ (let p : PortId := 3
    let m : Fin 32 := 5
    let e : Edge := .lower
    let code : BitVec 10 := 5
    let s : State := { State.reset with pwr.st := .run }
    let s := s.modPort p fun q => { q with ef.path := .on, wm.holdupSel := true, cc.st := .attachedSrc, pol.seq := .ready, ef.gateOn := true, pol.contract := some {}, swap.armed := true }
    let s := s.modMon p m fun x => { x with cfg := x.cfg ||| 3, thr := 0x02000100 }
    let q := s.port p
    s.pwr.st = .run ∧ (s.wm p m).edgeOn e = true ∧ (s.wm p m).isOut = false ∧ (if e = .lower then code.toNat < (s.wm p m).lt else (s.wm p m).ut < code.toNat) ∧ m.val = 5 ∧ q.ef.path = .on ∧ q.wm.mode ≠ .test ∧ q.wm.holdupSel = true ∧ q.swap.kind ≠ .fr) := by
  refine ⟨?_, ?_, ?_, ?_⟩ <;> decide +kernel

theorem wit_MonitorUpkeep :
    (let p : PortId := 3
    let m : Fin 32 := 3
    let e : Edge := .lower
    let code : BitVec 10 := 1000
    let s : State := { State.reset with pwr.st := .run }
    let s := s.modMon p m fun x => { x with below := true }
    let q := s.port p
    s.pwr.st = .run ∧ (s.wm p m).outOf e = true ∧ (if e = .lower then (s.wm p m).lt + (s.wm p m).hyst < code.toNat else code.toNat + (s.wm p m).hyst < (s.wm p m).ut))
    ∧ (let p : PortId := 3
    let m : Fin 32 := 3
    let e : Edge := .lower
    let s : State := State.reset
    (s.wm p m).outOf e = false)
    ∧ (let p : PortId := 3
    let m : Fin 32 := 3
    let w : Word := 0x1234
    let s := State.reset.modMon p m fun w_ => { w_ with loading := some w }
    (s.wm p m).loading = some w)
    ∧ (let p : PortId := 3
    let m : Fin 8 := 2
    let s : State := State.reset
    let k : Fin 32 := ⟨m.val, by omega⟩
    let w := s.wm p k
    s.pwr.st = .run ∧ w.loading = none ∧ w.leg1 = false ∧ w.actLeg1 = false ∧ w.leg0 = false)
    ∧ (let m : Fin 32 := 9
    8 ≤ m.val)
    ∧ (let p : PortId := 3
    let f : CapFrame := {}
    let s := State.reset.modPort p fun q => { q with wm.frame := some f }
    (s.port p).wm.frame = some f)
    ∧ (let p : PortId := 3
    let m : Fin 8 := 2
    let s := State.reset.modMon p 2 fun x => { x with leg0 := true }
    let k : Fin 32 := ⟨m.val, by omega⟩
    let w := s.wm p k
    s.pwr.st = .run ∧ w.loading = none ∧ w.leg1 = false ∧ w.actLeg1 = false ∧ w.leg0 = true) := by
  refine ⟨?_, ?_, ?_, ?_, ?_, ?_, ?_⟩ <;> decide +kernel

theorem wit_MeteringAndJournal :
    (let s : State := { State.reset with pwr.st := .run }
    s.pwr.st = .run)
    ∧ (let s : State := { State.reset with pwr.st := .idle }
    (s.pwr.st = .idle ∨ s.pwr.st = .doze))
    ∧ (let p : PortId := 3
    let s := State.reset.modPort p fun q => { q with ef.path := .off }
    let q := s.port p
    q.ef.path = .off)
    ∧ (let p : PortId := 3
    let s := State.reset.modPort p fun q => { q with ef.path := .on }
    let q := s.port p
    q.ef.path ≠ .off)
    ∧ (let p : PortId := 3
    let s := State.reset.modPort p fun q => { q with mtr.now := ((State.reset.port p).mtr.now ||| BitVec.twoPow _ 0) }
    let q := s.port p
    q.mtr.now.getLsbD 0 = true)
    ∧ (let p : PortId := 3
    let s := State.reset.modPort p fun q => { q with mtr.now := ((State.reset.port p).mtr.now &&& ~~~(BitVec.twoPow _ 0)) }
    let q := s.port p
    q.mtr.now.getLsbD 0 = false)
    ∧ (let x : JrnEntry := .counters [1, 2]
    let r : List JrnEntry := []
    let l : List JrnUnit := []
    let s : State := { State.reset with ses.pend := x :: r, ses.jrnFault := false }
    let s := s.modCore 0 fun k => { k with st := .run }
    s.w0Runs = true ∧ s.ses.pend = x :: r ∧ (s.passCell fFls).isSome = true ∧ makeRoom s.jrnArea (unitsOf (s.entryBytes x)) (s.jrnArea / 64) s.ses.units = some l ∧ s.ses.jrnFault = false)
    ∧ (let x : JrnEntry := .counters [1, 2]
    let r : List JrnEntry := []
    let l : List JrnUnit := []
    let s : State := { State.reset with ses.pend := x :: r, ses.jrnFault := true }
    let s := s.modCore 0 fun k => { k with st := .run }
    s.w0Runs = true ∧ s.ses.pend = x :: r ∧ (s.passCell fFls).isSome = true ∧ makeRoom s.jrnArea (unitsOf (s.entryBytes x)) (s.jrnArea / 64) s.ses.units = some l ∧ s.ses.jrnFault = true)
    ∧ (let s : State := State.reset
    s.w0Runs = false)
    ∧ (let s : State := { State.reset with ses.recovDone := false, rst.booted := true }
    s.ses.recovDone = false ∧ s.rst.booted = true)
    ∧ (let s : State := { State.reset with ses.recovDone := true }
    s.ses.recovDone = true) := by
  refine ⟨?_, ?_, ?_, ?_, ?_, ?_, ?_, ?_, ?_, ?_, ?_⟩ <;> decide +kernel

theorem wit_TwoWireCommands :
    (let a : BitVec 7 := 0x20
    let s : State := { State.reset with twi.tverNext := none }
    s.twi.tverNext = none ∧ s.twtWin a.toNat = none)
    ∧ (let a : BitVec 7 := 0x20
    let ptr : BitVec 16 := 4
    let s : State := { State.reset with twi.tverNext := none }
    let s : State := { s with twi.taddr := s.twi.taddr.set 0 0x120 }
    s.twi.tverNext = none ∧ s.twtWin a.toNat = some (.regs 0 0x10000) ∧ s.pecOn = false ∧ ptr.toNat % 4 = 0 ∧ s.twtMay ptr.toNat = none)
    ∧ (let a : BitVec 7 := 0x20
    let s : State := { State.reset with twi.tverNext := none, twi.tver := 1 }
    let s : State := { s with twi.taddr := s.twi.taddr.set 0 0x120 }
    s.twi.tverNext = none ∧ s.twtWin a.toNat = some (.regs 0 0x10000) ∧ s.pecOn = false ∧ 1 ≤ s.twi.tver.toNat)
    ∧ (let a : BitVec 7 := 0x20
    let s : State := { State.reset with twi.tverNext := none, twi.tver := 1 }
    let s : State := { s with twi.taddr := s.twi.taddr.set 0 0x220 }
    s.twi.tverNext = none ∧ s.twtWin a.toNat = some .events ∧ s.twi.tver = 1 ∧ s.window = [] ∧ (([0, 1, 2].all fun c => (s.flow (fEvs c)).cells.all fun x => x.ue == none) = true))
    ∧ (let s : State := { State.reset with twi.tverNext := none }
    let s : State := { s with twi.tcfg := (s.twi.tcfg ||| BitVec.twoPow _ 4), twi.alert := true }
    s.twi.tverNext = none ∧ s.twi.tcfg.getLsbD 4 = true ∧ s.twi.alert = true ∧ s.pwr.st ≠ .hibernate)
    ∧ (let s : State := { State.reset with twi.tverNext := none, twi.alert := false }
    s.twi.tverNext = none ∧ s.twi.alert = false)
    ∧ (let s : State := { State.reset with twi.tverNext := none, twi.ibrPend := true }
    let s : State := { s with twi.tcfg := (s.twi.tcfg ||| BitVec.twoPow _ 9) }
    s.twi.tverNext = none ∧ s.twi.ibrPend = true ∧ s.twi.tcfg.getLsbD 9 = true ∧ s.pwr.st ≠ .hibernate)
    ∧ (let s : State := { State.reset with twi.tverNext := none, twi.ibrHeld := (0 + 1) }
    let s : State := { s with twi.tcfg := (s.twi.tcfg ||| BitVec.twoPow _ 9) }
    s.twi.tverNext = none ∧ 0 < s.twi.ibrHeld ∧ s.twi.tcfg.getLsbD 9 = true ∧ s.pwr.st ≠ .hibernate)
    ∧ (let s : State := { State.reset with twi.tverNext := none, twi.ibrHeld := 0 }
    s.twi.tverNext = none ∧ s.twi.ibrHeld = 0)
    ∧ (let a : BitVec 7 := 0x20
    let s : State := { State.reset with twi.tverNext := none }
    let s : State := { s with twi.tcfg := (s.twi.tcfg ||| BitVec.twoPow _ 2) }
    let s : State := { s with twi.taddr := s.twi.taddr.set 0 0x120 }
    s.twi.tverNext = none ∧ s.twi.tcfg.getLsbD 2 = true ∧ s.twtWin a.toNat ≠ none)
    ∧ (let n : Fin 4 := 1
    let x : TwItem := { core := some 1, wlen := 2 }
    let k : Fin 4 := 1
    let x := { x with core := some k }
    let x := { x with bad := false }
    let s : State := { State.reset with pwr.entry := 0, pwr.st := .run }
    let s := s.modTwc n fun c_ => { c_ with item := none }
    let s := s.modTwc n fun c_ => { c_ with st := .idle }
    let s := s.modTwc n fun c_ => { c_ with needRecovery := false }
    let s := s.modFlow (fTwq n) fun y => { y with cells := [({ idx := 5, pay := [.tw x] } : Cell)] }
    let c := s.twi.c[n.val]
    s.pwr.entry = 0 ∧ s.pwr.st = .run ∧ c.item = none ∧ s.twNext n = some x ∧ x.core = some k ∧ x.bad = false ∧ c.st = .idle ∧ c.needRecovery = false)
    ∧ (let n : Fin 4 := 1
    let s := State.reset.modTwc n fun y => { y with item := some {} }
    let c := s.twi.c[n.val]
    c.item ≠ none)
    ∧ (let n : Fin 4 := 1
    let x : TwItem := { core := some 1, wlen := 2 }
    let s := State.reset.modTwc n fun c_ => { c_ with item := some x }
    let s := s.modTwc n fun c_ => { c_ with retryDue := true }
    let s := s.modTwc n fun c_ => { c_ with needRecovery := false }
    let s := s.modTwc n fun y => { y with cfg := 0x70 }
    let c := s.twi.c[n.val]
    c.item = some x ∧ c.retryDue = true ∧ c.needRecovery = false ∧ c.retries < c.cfg.toNat / 16 % 8)
    ∧ (let n : Fin 4 := 1
    let x : TwItem := { core := some 1, wlen := 2 }
    let s := State.reset.modTwc n fun c_ => { c_ with item := some x }
    let s := s.modTwc n fun c_ => { c_ with retryDue := false }
    let c := s.twi.c[n.val]
    c.item = some x ∧ c.retryDue = false)
    ∧ (let n : Fin 4 := 1
    let sda : Bool := true
    let scl : Bool := false
    let s := State.reset.modTwc n fun c_ => { c_ with needRecovery := true }
    let s := s.modTwc n fun c_ => { c_ with st := .idle }
    let s := s.modTwc n fun c_ => { c_ with item := none }
    let c := s.twi.c[n.val]
    c.needRecovery = true ∧ c.st = .idle ∧ c.item = none ∧ (sda = true ∨ scl = true))
    ∧ (let n : Fin 4 := 1
    let s := State.reset.modTwc n fun c_ => { c_ with st := .quarantined }
    let s := s.modTwc n fun c_ => { c_ with cfg := (s.twi.c[n.val].cfg ||| BitVec.twoPow _ 2) }
    let c := s.twi.c[n.val]
    c.st = .quarantined ∧ c.cfg.getLsbD 2 = true)
    ∧ (let n : Fin 4 := 1
    let b : List Byte := [1, 2]
    let s := State.reset.modTwc n fun c_ => { c_ with ibr := (State.reset.twi.c[n.val].ibr ||| BitVec.twoPow _ 7) }
    let s : State := { s with pwr.st := .run }
    let s := s.modTwc n fun c_ => { c_ with st := .idle }
    let c := s.twi.c[n.val]
    c.ibr.getLsbD 7 = true ∧ b ≠ [] ∧ s.pwr.st = .run ∧ c.st = .idle)
    ∧ (let n : Fin 4 := 1
    let s := State.reset.modTwc n fun c_ => { c_ with ibr := (State.reset.twi.c[n.val].ibr &&& ~~~(BitVec.twoPow _ 7)) }
    let c := s.twi.c[n.val]
    c.ibr.getLsbD 7 = false) := by
  refine ⟨?_, ?_, ?_, ?_, ?_, ?_, ?_, ?_, ?_, ?_, ?_, ?_, ?_, ?_, ?_, ?_, ?_, ?_⟩ <;> decide +kernel

theorem wit_SleepAndWake :
    (let s : State := { State.reset with pwr.st := .run, pwr.entry := 0 }
    let s : State := { s with pwr.cfg := (s.pwr.cfg ||| BitVec.twoPow _ 0) }
    let pathsOff := ∀ p, (s.port p).ef.path = .off ∧ (s.port p).ef.bfOn = false
    s.pwr.st = .run ∧ s.pwr.entry = 0 ∧ s.pwr.cfg.getLsbD 0 = true ∧ pathsOff)
    ∧ (let s : State := { State.reset with pwr.st := .doze }
    let pathsOff := ∀ p, (s.port p).ef.path = .off ∧ (s.port p).ef.bfOn = false
    (s.pwr.st ≠ .run ∨ s.pwr.entry ≠ 0 ∨ s.pwr.cfg.getLsbD 0 = false ∨ ¬ pathsOff))
    ∧ (let s : State := { State.reset with pwr.st := .run, pwr.entry := 0, ses.recovDone := true }
    let s := (List.finRange 16).foldl (fun s p => s.modPort p fun q => { q with cc.st := .disabled, ef.path := .off }) s
    let s : State := { s with pwr.cfg := s.pwr.cfg ||| 0x10000 }
    (s.pwr.st = .run ∨ s.pwr.st = .idle) ∧ s.pwr.entry = 0 ∧ s.pwr.cfg.toNat / 65536 % 256 ≠ 0 ∧ s.entryRow 2 = none)
    ∧ (let s : State := State.reset
    (s.pwr.cfg.toNat / 65536 % 256 = 0 ∨ s.entryRow 2 ≠ none))
    ∧ (let s : State := { State.reset with pwr.st := .doze, pwr.entry := 2, pwr.wakeLatch := false, ses.recovDone := true }
    let s := (List.finRange 16).foldl (fun s p => s.modPort p fun q => { q with cc.st := .disabled, ef.path := .off }) s
    let s : State := { s with pwr.cfg := s.pwr.cfg ||| 0x1000000 }
    s.pwr.st = .doze ∧ s.pwr.entry = 2 ∧ s.pwr.wakeLatch = false ∧ s.pwr.cfg.toNat / 2 ^ 24 ≠ 0 ∧ s.entryRow 3 = none)
    ∧ (let s : State := State.reset
    s.pwr.st ≠ .doze)
    ∧ (let s : State := { State.reset with pwr.entry := 1, ses.recovDone := true }
    let s := (List.finRange 16).foldl (fun s p => s.modPort p fun q => { q with cc.st := .disabled, ef.path := .off }) s
    let s : State := { s with pwr.target := 2 }
    s.pwr.entry = 1 ∧ s.quiesced = true ∧ s.entryRow s.pwr.target.toNat = none)
    ∧ (let r : Nat := 3
    let s : State := { State.reset with pwr.entry := 1 }
    let s := (List.finRange 16).foldl (fun s p => s.modPort p fun q => { q with cc.st := .disabled, ef.path := .off }) s
    let s : State := { s with ses.recovDone := false }
    s.pwr.entry = 1 ∧ s.quiesced = true ∧ s.entryRow s.pwr.target.toNat = some r)
    ∧ (let s : State := State.reset
    s.pwr.entry ≠ 1)
    ∧ (let s : State := { State.reset with pwr.st := .doze, pwr.wakeLatch := true }
    s.pwr.st = .doze ∧ s.pwr.wakeLatch = true)
    ∧ (let s : State := State.reset
    (s.pwr.st ≠ .doze ∨ s.pwr.wakeLatch = false))
    ∧ (let s : State := { State.reset with pwr.st := .hibernate, pwr.wakeLatch := true }
    s.pwr.st = .hibernate ∧ s.pwr.wakeLatch = true)
    ∧ (let s : State := State.reset
    (s.pwr.st ≠ .hibernate ∨ s.pwr.wakeLatch = false))
    ∧ (let p : PortId := 3
    let s : State := { State.reset with pwr.st := .hibernate, pwr.entry := 2 }
    let s : State := { s with pwr.wakePort := (s.pwr.wakePort ||| BitVec.twoPow _ p.val) }
    let s : State := { s with pwr.wakeEn := (s.pwr.wakeEn ||| BitVec.twoPow _ 1) }
    s.pwr.st = .hibernate ∧ s.pwr.entry = 2 ∧ s.pwr.wakePort.getLsbD p.val = true ∧ s.pwr.wakeEn.getLsbD 1 = true)
    ∧ (let p : PortId := 3
    let s : State := State.reset
    (s.pwr.st ≠ .hibernate ∨ s.pwr.wakePort.getLsbD p.val = false))
    ∧ (let s : State := { State.reset with pwr.st := .hibernate, pwr.entry := 2 }
    let s : State := { s with pwr.wakeEn := (s.pwr.wakeEn ||| BitVec.twoPow _ 4) }
    s.pwr.st = .hibernate ∧ s.pwr.entry = 2 ∧ s.pwr.wakeEn.getLsbD 4 = true)
    ∧ (let s : State := State.reset
    s.pwr.st ≠ .hibernate)
    ∧ (let s : State := { State.reset with pwr.st := .hibernate, pwr.entry := 2 }
    let s : State := { s with pwr.wakeEn := (s.pwr.wakeEn ||| BitVec.twoPow _ 7) }
    (s.pwr.st = .hibernate ∨ s.pwr.st = .doze) ∧ s.pwr.entry = 2 ∧ s.pwr.wakeEn.getLsbD 7 = true)
    ∧ (let s : State := { State.reset with pwr.wakeEn := (State.reset.pwr.wakeEn &&& ~~~(BitVec.twoPow _ 7)) }
    s.pwr.wakeEn.getLsbD 7 = false)
    ∧ (let a : BitVec 8 := 0x20
    let n : Nat := 0
    let s : State := { State.reset with pwr.st := .hibernate, pwr.entry := 2, pwr.wakeLatch := false }
    let s : State := { s with pwr.wakeEn := (s.pwr.wakeEn ||| BitVec.twoPow _ 3) }
    let s : State := { s with twi.taddr := s.twi.taddr.set 0 0x520 }
    s.wakeAddress a.toNat = some n ∧ s.pwr.st = .hibernate ∧ s.pwr.entry = 2 ∧ s.pwr.wakeLatch = false ∧ s.pwr.wakeEn.getLsbD 3 = true)
    ∧ (let a : BitVec 8 := 0x20
    let s : State := State.reset
    s.wakeAddress a.toNat = none) := by
  refine ⟨?_, ?_, ?_, ?_, ?_, ?_, ?_, ?_, ?_, ?_, ?_, ?_, ?_, ?_, ?_, ?_, ?_, ?_, ?_, ?_, ?_⟩ <;> decide +kernel

theorem wit_CalendarAndBackup :
    (let s : State := { State.reset with bkp.oscStopped := false }
    let b := s.bkp
    b.oscStopped = false)
    ∧ (let s : State := { State.reset with bkp.oscStopped := true }
    let b := s.bkp
    b.oscStopped = true)
    ∧ (let s : State := { State.reset with bkp.alarmHi := 0x10000, bkp.valid := true }
    let b := s.bkp
    let at_ := b.alarmLo.toNat + 2 ^ 32 * (b.alarmHi.toNat % 65536)
    let due := b.alarmHi.getLsbD 16 = true ∧ b.valid = true ∧ at_ ≤ b.cal.toNat / 65536
    due)
    ∧ (let s : State := State.reset
    let b := s.bkp
    let at_ := b.alarmLo.toNat + 2 ^ 32 * (b.alarmHi.toNat % 65536)
    let due := b.alarmHi.getLsbD 16 = true ∧ b.valid = true ∧ at_ ≤ b.cal.toNat / 65536
    (¬ due))
    ∧ (let i : Fin 2 := 0
    let s : State := { State.reset with bkp.tampCfg := (State.reset.bkp.tampCfg &&& ~~~(BitVec.twoPow _ (8 * i.val))) }
    let b := s.bkp
    b.tampCfg.getLsbD (8 * i.val) = false)
    ∧ (let i : Fin 2 := 0
    let s : State := { State.reset with bkp.tampCfg := (State.reset.bkp.tampCfg ||| BitVec.twoPow _ (8 * i.val)) }
    let b := s.bkp
    b.tampCfg.getLsbD (8 * i.val) = true)
    ∧ (let s : State := { State.reset with pwr.st := .run }
    (s.pwr.st = .run ∨ s.pwr.st = .idle))
    ∧ (let s : State := { State.reset with pwr.st := .doze }
    (s.pwr.st = .doze ∨ s.pwr.st = .hibernate)) := by
  refine ⟨?_, ?_, ?_, ?_, ?_, ?_, ?_, ?_⟩ <;> decide +kernel

theorem wit_BootsAndTrials :
    (let c : Fin 8 := 1
    let s : State := State.reset
    (c.val = 1 ∨ c.val = 3 ∨ (c.val = 2 ∧ s.pwr.coreEn = true)))
    ∧ (let c : Fin 8 := 0
    let s : State := State.reset
    (c.val = 0 ∨ 4 < c.val ∨ (c.val = 4 ∧ s.pwr.st ≠ .hibernate)))
    ∧ (let i : BootIn := {}
    let s : State := { State.reset with rst.boot := some i }
    s.rst.boot = some i)
    ∧ (let s : State := { State.reset with rst.boot := none }
    s.rst.boot = none)
    ∧ (let n : Fin 4 := 1
    let s : State := { State.reset with img.actStep := 0 }
    (s.img.actStep = 0 ∨ s.img.actStep % 4 ≠ n.val))
    ∧ (let n : Fin 4 := 1
    let s : State := { State.reset with img.actStep := n.val, img.falling := 0 }
    s.img.actStep = n.val ∧ n ≠ 0 ∧ s.img.falling = 0)
    ∧ (let s : State := { State.reset with img.actStep := 4, img.falling := 0 }
    s.img.actStep = 4 ∧ s.img.falling = 0)
    ∧ (let s : State := { State.reset with img.actStep := 4, img.falling := 1 }
    s.img.actStep = 4 ∧ s.img.falling ≠ 0)
    ∧ (let s : State := { State.reset with img.actStep := 3, img.falling := 0, img.cand.code := 2 }
    s.img.actStep = 3 ∧ s.img.falling = 0 ∧ s.img.inTrial = true ∧ s.img.candOf 0 = 2)
    ∧ (let s : State := { State.reset with img.trial := 2, img.cand.sett := 2 }
    s.img.trial = 2 ∧ s.img.quiet = true ∧ s.img.inTrial = true ∧ s.img.candOf 0 ≠ 2)
    ∧ (let s : State := State.reset
    s.img.trial ≠ 2) := by
  refine ⟨?_, ?_, ?_, ?_, ?_, ?_, ?_, ?_, ?_, ?_, ?_⟩ <;> decide +kernel

theorem wit_BadFrameIsDiscarded :
    (let p : PortId := 3
    let s := State.reset.modPort p fun q => { q with cc.st := .attachedSrc }
    (s.port p).pdRuns = true)
    ∧ (let p : PortId := 3
    let pin : Pin := .cc1
    let set : OrdSet := .sop
    let m : PdMsg := { data := [1] }
    let s := State.reset.modPort p fun q => { q with cc.st := .attachedSrc, cc.active := some pin }
    (s.port p).pdRuns = true ∧ set.sopx ≠ none ∧ (s.port p).cc.active = some pin ∧ m.lenOk = false) := by
  refine ⟨?_, ?_⟩ <;> decide +kernel

end Sys2Proof.Machine
end

section
/-! PROOF of O58 (01 R28). The invariant speaks of the path states of the ports and of the outputs of their two switches, and of nothing
else. One lemma for each operation of the model says that the operation keeps it, and its proof reads as the operation's definition
does: `h.f` stands for a call of `f`, `either` for an `if`, `frame` for an update of other units, `forPorts` and `foldl` for a loop.

What there is to argue stands in few places. Entering a path state sets the outputs of that state (`State.PathsOk.pathTo`). The path and
the back-feed switch open by commands that only clear outputs (`openPath`, `openBf`). The back-feed switch closes in BACKFEED alone, where
GATE is off (`closeBf`, `execBfeedOnLevelReached_pathsOk`). A trip opens the path and counts (`trip`). All other updates of the eFuse's
unit leave the state and the outputs as they are (`State.PathsOk.modEf`). -/
namespace Sys2Proof.Machine

-- One lemma after the other: each cites earlier ones, and tasks that wait for one another would each hold a thread.
set_option Elab.async false

variable {s t : State} {p : PortId}

/-- The invariant `State.pathsOk` as a proposition of its own, for the lemmas on operations to apply by field notation. -/
structure State.PathsOk (s : State) : Prop where
  ok : s.pathsOk = true

/-- A command's next state meets the invariant. -/
structure Res.PathsOk (r : Res) : Prop where
  ok : ∀ t, r = .next t → t.PathsOk

theorem State.PathsOk.next (h : s.PathsOk) : Res.PathsOk (.next s) := ⟨fun _ e => by cases e; exact h⟩

theorem Res.PathsOk.either {c : Prop} {_ : Decidable c} {x y : Res} (hx : Res.PathsOk x) (hy : Res.PathsOk y) :
    Res.PathsOk (if c then x else y) := by split <;> assumption

theorem Res.PathsOk.st {r : Res} (hr : r.PathsOk) (h : s.PathsOk) : (r.st s).PathsOk := by
  cases r with
  | next t => exact hr.ok t rfl
  | fault _ => exact h
  | refused _ => exact h

theorem State.PathsOk.either {c : Prop} {_ : Decidable c} (hs : s.PathsOk) (ht : t.PathsOk) : (if c then s else t).PathsOk := by
  split <;> assumption

/-- The invariant rests on the ports alone. -/
theorem State.PathsOk.of_ports (h : s.PathsOk) (e : t.ports = s.ports) : t.PathsOk := ⟨(State.pathsOk_of_ports e).trans h.ok⟩

/-- A change of other units only. -/
theorem State.PathsOk.frame {tb sto hu bud pod ses hif flog wvl twi img pwr bkp rst latB latT out fresh pending} (h : s.PathsOk) :
    (State.mk tb sto s.ports hu bud pod ses hif flog wvl twi img pwr bkp rst latB latT out fresh pending).PathsOk := h.of_ports rfl

theorem State.PathsOk.fst_mk {α : Type} {a : α} (h : s.PathsOk) : (s, a).1.PathsOk := h

theorem State.PathsOk.snd_mk {α : Type} {a : α} (h : s.PathsOk) : (a, s).2.PathsOk := h

theorem State.PathsOk.of_aside (h : s.PathsOk) (e : t.aside = s.aside) : t.PathsOk := ⟨(State.pathsOk_of_aside e).trans h.ok⟩

theorem State.PathsOk.foldl {α : Type} {f : State → α → State} {l : List α} (h : s.PathsOk)
    (hf : ∀ s a, s.PathsOk → (f s a).PathsOk) : (l.foldl f s).PathsOk := by
  induction l generalizing s with
  | nil => exact h
  | cons a l ih => exact ih (hf s a h)

theorem State.PathsOk.getD {o : Option State} (h : s.PathsOk) (ho : ∀ t, o = some t → t.PathsOk) : (o.getD s).PathsOk := by
  cases o with
  | none => exact h
  | some t => exact ho t rfl

theorem State.PathsOk.snd {α : Type} {x : α × State} {a : α} (h : x.2.PathsOk) (e : x = (a, t)) : t.PathsOk := by
  subst e; exact h

theorem State.PathsOk.fst {α : Type} {x : State × α} {a : α} (h : x.1.PathsOk) (e : x = (t, a)) : t.PathsOk := by
  subst e; exact h

theorem State.PathsOk.foldl_snd {α β : Type} {f : α × State → β → α × State} {l : List β} {x : α × State} (h : x.2.PathsOk)
    (hf : ∀ x b, x.2.PathsOk → (f x b).2.PathsOk) : (l.foldl f x).2.PathsOk := by
  induction l generalizing x with
  | nil => exact h
  | cons b l ih => exact ih (hf x b h)

theorem State.reset_pathsOk : State.reset.PathsOk := ⟨by decide +kernel⟩

/-- With the back-feed switch open, the eFuse's output stays that of its state. -/
theorem EfState.pathOk_of_open {e e' : EfState} (h : e.pathOk = true) (hpath : e'.path = e.path) (hgate : e'.gateOn = e.gateOn)
    (hcmd : e'.bfCmd = false) (hon : e'.bfOn = false) : e'.pathOk = true := by
  unfold EfState.pathOk at *
  simp_all

/-- In BACKFEED, with GATE off, the back-feed switch may be commanded. -/
theorem EfState.pathOk_backfeed {e : EfState} (hpath : e.path = .backfeed) (hgate : e.gateOn = false) : e.pathOk = true := by
  simp [EfState.pathOk, hpath, hgate]

/-- With the back-feed switch commanded, the path is in BACKFEED and GATE is off. -/
theorem EfState.backfeed_of_bfCmd {e : EfState} (h : e.pathOk = true) (hc : e.bfCmd = true) : e.path = .backfeed ∧ e.gateOn = false := by
  have hpath : e.path = .backfeed := by simp_all [EfState.pathOk]
  exact ⟨hpath, by simp_all [EfState.pathOk]⟩

theorem State.PathsOk.port (h : s.PathsOk) (p : PortId) : (s.port p).ef.pathOk = true := State.pathsOk_iff.1 h.ok p

theorem State.PathsOk.modPort {f : Port → Port} (h : s.PathsOk) (hf : ∀ q, (f q).ef = q.ef := by intro; rfl) :
    (s.modPort p f).PathsOk :=
  ⟨State.pathsOk_setPort h.ok (by rw [hf]; exact h.port p)⟩

/-- The path state and the three outputs. -/
def EfState.outs (e : EfState) : PathSt × Bool × Bool × Bool := (e.path, e.gateOn, e.bfCmd, e.bfOn)

theorem EfState.pathOk_of_outs {e e' : EfState} (h : e'.outs = e.outs) : e'.pathOk = e.pathOk := by
  simp only [EfState.outs, Prod.mk.injEq] at h
  obtain ⟨hpath, hgate, hcmd, hon⟩ := h
  exact EfState.pathOk_congr hpath hgate hcmd hon

theorem State.PathsOk.modEf_of {f : EfState → EfState} (h : s.PathsOk) (hf : (f (s.port p).ef).pathOk = true) :
    (s.modEf p f).PathsOk :=
  ⟨State.pathsOk_setPort h.ok hf⟩

theorem State.PathsOk.modEf {f : EfState → EfState} (h : s.PathsOk) (hf : ∀ e, (f e).outs = e.outs := by intro; rfl) :
    (s.modEf p f).PathsOk :=
  h.modEf_of ((EfState.pathOk_of_outs (hf _)).trans (h.port p))

theorem State.PathsOk.forPorts {f : State → PortId → State} (h : s.PathsOk)
    (hf : ∀ s p, s.PathsOk → (f s p).PathsOk) : (s.forPorts f).PathsOk := h.foldl hf

theorem State.PathsOk.onExpiry {x : Tmr} {f : State → State} (h : s.PathsOk) (hf : ∀ s, s.PathsOk → (f s).PathsOk) :
    (s.onExpiry p x f).PathsOk := (hf _ h.modPort).either h

/-! ### Commands of the rings and registers, by their descriptions -/

/-- The start of an opcode keeps the paths in order. -/
def CmdSpec.Keeps (k : CmdSpec) : Prop := ∀ s d, s.PathsOk → (k.go s d).PathsOk

/-- Writes of the register described, if any, keep the paths in order, whether the value is taken or refused. -/
def RegSpec.Kept (o : Option RegSpec) : Prop :=
  ∀ r, o = some r → ∀ s, s.PathsOk → (∀ v, (r.put s v).PathsOk) ∧ (r.err s).PathsOk

theorem RegSpec.Kept.none : RegSpec.Kept .none := fun _ e => nomatch e

theorem RegSpec.Kept.either {c : Prop} {_ : Decidable c} {o o' : Option RegSpec} (ho : RegSpec.Kept o) (ho' : RegSpec.Kept o') :
    RegSpec.Kept (if c then o else o') := by split <;> assumption

/-- A register whose two outcomes, its value taken and its value refused, are given in turn; the others follow. -/
theorem RegSpec.Kept.row {c : Prop} {_ : Decidable c} {rw rwl ok get put err} {o : Option RegSpec}
    (hput : ∀ {s v}, s.PathsOk → (put s v).PathsOk) (herr : ∀ {s}, s.PathsOk → (err s).PathsOk) (ho : RegSpec.Kept o) :
    RegSpec.Kept (if c then .some (RegSpec.mk rw rwl ok get put err) else o) :=
  .either (fun _ e _ h => by cases e; exact ⟨fun _ => hput h, herr h⟩) ho

/-- A register whose writes change no port. -/
theorem RegSpec.Kept.plain {c : Prop} {_ : Decidable c} {rw rwl ok get put err} {o : Option RegSpec} (ho : RegSpec.Kept o)
    (hput : ∀ s v, (put s v).ports = s.ports := by intros; rfl) (herr : ∀ s, (err s).ports = s.ports := by intros; rfl) :
    RegSpec.Kept (if c then .some (RegSpec.mk rw rwl ok get put err) else o) :=
  .row (fun h => h.of_ports (hput _ _)) (fun h => h.of_ports (herr _)) ho

theorem RegSpec.Kept.or {o o' : Option RegSpec} (ho : RegSpec.Kept o) (ho' : RegSpec.Kept o') : RegSpec.Kept (o.or o') := by
  cases o with
  | none => exact ho'
  | some r => exact ho

/-- The write of one register. -/
theorem RegSpec.Kept.write {o : Option RegSpec} {r : RegSpec} {lock : Bool} {v : Word} (ho : RegSpec.Kept o) (e : o = .some r)
    (h : s.PathsOk) : (r.write lock v s).PathsOk := by
  unfold RegSpec.write
  extract_lets old n s1
  have h1 : s1.PathsOk := State.PathsOk.either h.frame h
  obtain ⟨hput, herr⟩ := ho r e s1 h1
  exact (hput n).either herr

/-! ### The units of a port, timers and outputs -/

theorem State.PathsOk.modCc {f : CcState → CcState} (h : s.PathsOk) : (s.modCc p f).PathsOk := h.modPort

theorem State.PathsOk.modPd {f : PdState → PdState} (h : s.PathsOk) : (s.modPd p f).PathsOk := h.modPort

theorem State.PathsOk.modPol {f : PolState → PolState} (h : s.PathsOk) : (s.modPol p f).PathsOk := h.modPort

theorem State.PathsOk.modSwap {f : SwapState → SwapState} (h : s.PathsOk) : (s.modSwap p f).PathsOk := h.modPort

theorem State.PathsOk.modPod {f : PodPort → PodPort} (h : s.PathsOk) : (s.modPod p f).PathsOk := h.modPort

theorem State.PathsOk.modCnv {f : CnvState → CnvState} (h : s.PathsOk) : (s.modCnv p f).PathsOk := h.modPort

theorem State.PathsOk.modWm {f : WmState → WmState} (h : s.PathsOk) : (s.modWm p f).PathsOk := h.modPort

theorem State.PathsOk.modMtr {f : MtrState → MtrState} (h : s.PathsOk) : (s.modMtr p f).PathsOk := h.modPort

theorem State.PathsOk.start {x : Tmr} (h : s.PathsOk) : (s.start p x).PathsOk := h.modPort

theorem State.PathsOk.stop {x : Tmr} (h : s.PathsOk) : (s.stop p x).PathsOk := h.modPort

theorem State.PathsOk.stopAll {ts : List Tmr} (h : s.PathsOk) : (s.stopAll p ts).PathsOk := h.modPort

theorem State.PathsOk.emit {o : Out} (h : s.PathsOk) : (s.emit o).PathsOk := h.frame

theorem State.PathsOk.draw (h : s.PathsOk) : s.draw.2.PathsOk := h.frame.snd_mk

/-! ### Cells and flows -/

theorem State.PathsOk.setFlow {f : ℕ} {x : Flow} (h : s.PathsOk) : (s.setFlow f x).PathsOk :=
  h.of_aside (State.setFlow_aside _)

theorem State.PathsOk.modFlow {f : ℕ} {g : Flow → Flow} (h : s.PathsOk) : (s.modFlow f g).PathsOk :=
  h.of_aside (State.modFlow_aside _)

theorem State.PathsOk.takeCell {f i : ℕ} (h : s.PathsOk) (e : s.takeCell f = some (i, t)) : t.PathsOk :=
  h.of_aside (State.takeCell_aside e)

theorem State.PathsOk.noteRegain (h : s.PathsOk) : s.noteRegain.PathsOk := h.of_aside State.noteRegain_aside

theorem State.PathsOk.freeCell {f i : ℕ} (h : s.PathsOk) : (s.freeCell f i).PathsOk :=
  h.of_aside (State.freeCell_aside _)

theorem State.PathsOk.queueCell {f : ℕ} {c : Cell} (h : s.PathsOk) : (s.queueCell f c).PathsOk :=
  h.of_aside (State.queueCell_aside _)

theorem State.PathsOk.putCell {f : ℕ} {pay : List Payload} (h : s.PathsOk) (e : s.putCell f pay = some t) :
    t.PathsOk :=
  h.of_aside (State.putCell_aside e)

theorem State.PathsOk.popCell {f : ℕ} {c : Cell} (h : s.PathsOk) (e : s.popCell f = some (c, t)) : t.PathsOk :=
  h.of_aside (State.popCell_aside e)

/-- The oldest cell of a flow, if it has one, is dropped. -/
theorem State.PathsOk.popped {f : ℕ} (h : s.PathsOk) : (((s.popCell f).map (·.2)).getD s).PathsOk :=
  h.getD fun t e => by
    obtain ⟨⟨c, u⟩, e', rfl⟩ := Option.map_eq_some_iff.mp e
    exact h.popCell e'

theorem State.PathsOk.countNoCredit {f : ℕ} (h : s.PathsOk) : (s.countNoCredit f).PathsOk := h.modFlow

theorem State.PathsOk.wait {f : ℕ} {w : Waiter} (h : s.PathsOk) : (s.wait f w).PathsOk := h.countNoCredit.modFlow

theorem State.PathsOk.sendCell {f : ℕ} {r : Payload} (h : s.PathsOk) : (s.sendCell f r).PathsOk := by
  unfold State.sendCell
  split
  next t e => exact h.putCell (Option.ite_none_right_eq_some.mp e).2
  · exact h.wait

theorem State.PathsOk.passCell {f : ℕ} (h : s.PathsOk) (e : s.passCell f = some t) : t.PathsOk := by
  obtain ⟨⟨i, u⟩, e', rfl⟩ := Option.map_eq_some_iff.mp e
  exact (h.takeCell e').freeCell

theorem State.PathsOk.putRecord {f : ℕ} {r : Payload} (h : s.PathsOk) (e : s.putRecord f r = some t) : t.PathsOk :=
  h.of_aside (State.putRecord_aside e)

theorem State.PathsOk.reserve {f : ℕ} (h : s.PathsOk) (e : s.reserve f = some t) : t.PathsOk :=
  h.of_aside (State.reserve_aside e)

theorem State.PathsOk.putReserved {f : ℕ} {r : Payload} (h : s.PathsOk) (e : s.putReserved f r = some t) :
    t.PathsOk :=
  h.of_aside (State.putReserved_aside e)

theorem State.PathsOk.readRecord {f : ℕ} {q : Payload → Bool} (h : s.PathsOk) : (s.readRecord f q).PathsOk :=
  h.of_aside (State.readRecord_aside _)

theorem State.PathsOk.popRecord {f : ℕ} (h : s.PathsOk) : (s.popRecord f).PathsOk := h.readRecord

theorem State.PathsOk.emptyFlow {f : ℕ} (h : s.PathsOk) : (s.emptyFlow f).PathsOk := h.foldl fun _ _ h => h.popped

theorem State.PathsOk.hostPut {a : Quad} {b : List Byte} (h : s.PathsOk) : (s.hostPut a b).PathsOk :=
  h.emit.either h.frame

theorem State.PathsOk.hostFlush (h : s.PathsOk) : s.hostFlush.PathsOk := (h.frame.foldl fun _ _ h => h.emit).either h

theorem State.PathsOk.number (h : s.PathsOk) : s.number.2.PathsOk := h.of_aside State.number_aside

/-! ### Events -/

theorem State.PathsOk.logFault {e : EvRec} (h : s.PathsOk) : (s.logFault e).PathsOk :=
  h.of_aside (State.logFault_aside _)

theorem State.PathsOk.markOoc {f : ℕ} (h : s.PathsOk) : (s.markOoc f).PathsOk := h.of_aside State.markOoc_aside

theorem State.PathsOk.enterFlow {f : ℕ} {e : EvRec} (h : s.PathsOk) : (s.enterFlow f e).PathsOk :=
  h.of_aside (State.enterFlow_aside _)

theorem State.PathsOk.countIn {e : EvRec} {f : ℕ} (h : s.PathsOk) : (s.countIn e f).PathsOk :=
  h.of_aside (State.countIn_aside _)

theorem State.PathsOk.enter {e : EvRec} {fs : List ℕ} (h : s.PathsOk) : (s.enter e fs).PathsOk :=
  h.of_aside (State.enter_aside _ _)

theorem State.PathsOk.rollEra (h : s.PathsOk) : s.rollEra.PathsOk := h.of_aside State.rollEra_aside

theorem State.PathsOk.enterOne {f : ℕ} {e : EvRec} (h : s.PathsOk) : (s.enterOne f e).PathsOk :=
  h.of_aside (State.enterOne_aside _)

theorem State.PathsOk.flushCtrs {f n : ℕ} (h : s.PathsOk) : (State.flushCtrs f n s).PathsOk :=
  h.of_aside (State.flushCtrs_aside _ _ _)

theorem State.PathsOk.flush {f : ℕ} (h : s.PathsOk) : (s.flush f).PathsOk := h.of_aside State.flush_aside

theorem State.PathsOk.offer {e : EvRec} (h : s.PathsOk) : (s.offer e).PathsOk := h.of_aside (State.offer_aside _)

theorem State.PathsOk.event {cause port : ℕ} {data : Quad} (h : s.PathsOk) : (s.event cause port data).PathsOk :=
  h.of_aside (State.event_aside _ _)

theorem State.PathsOk.eventP {cause sub value : ℕ} (h : s.PathsOk) : (s.eventP cause p sub value).PathsOk :=
  h.of_aside (State.eventP_aside _ _)

theorem State.PathsOk.eventD {cause : ℕ} {fs : List (ℕ × ℕ × ℕ)} (h : s.PathsOk) : (s.eventD cause fs).PathsOk :=
  h.of_aside (State.eventD_aside _)

theorem State.PathsOk.eventO {cause : ℕ} {fs : List (ℕ × ℕ × ℕ)} (h : s.PathsOk) : (s.eventO cause p fs).PathsOk :=
  h.of_aside (State.eventO_aside _)

theorem State.PathsOk.ueNote {i w : ℕ} {f : Option ℕ} (h : s.PathsOk) : (s.ueNote i w f).PathsOk := h.frame.eventD

theorem State.PathsOk.correct {f : ℕ} {c : Cell} (h : s.PathsOk) : (s.correct f c).PathsOk := h.either h.modFlow.frame

theorem State.PathsOk.dropCell {f i : ℕ} (h : s.PathsOk) : (s.dropCell f i).PathsOk := h.modFlow.freeCell

theorem State.PathsOk.meet {f : ℕ} {c : Cell} (h : s.PathsOk) : (s.meet f c).2.PathsOk := by
  unfold State.meet
  dsimp only
  split
  · exact h.correct.snd_mk
  · exact h.correct.modFlow.ueNote.snd_mk

theorem execEventOccurrence_pathsOk {cause port : ℕ} {data : Quad} (h : s.PathsOk) :
    Res.PathsOk (execEventOccurrence cause port data s) :=
  (h.event.either h).next

theorem execEventFlowFlush_pathsOk {flow : ℕ} (h : s.PathsOk) : Res.PathsOk (execEventFlowFlush flow s) :=
  (h.flush.either h).next

/-! ### Outstanding commands -/

theorem State.PathsOk.modOut {sq : Fin 16} {slot : BitVec 12} {f : OutDesc → OutDesc} (h : s.PathsOk) :
    (s.modOut sq slot f).PathsOk :=
  h.of_aside (State.modOut_aside _ _ _)

theorem State.PathsOk.enterTable {d : Desc} {data : List Byte} (h : s.PathsOk) (e : s.enterTable d data = some t) :
    t.PathsOk :=
  h.of_aside (State.enterTable_aside e)

theorem State.PathsOk.drainSq {sq : Fin 16} {n : ℕ} (h : s.PathsOk) : (State.drainSq sq n s).PathsOk :=
  h.of_aside (State.drainSq_aside _ _ _)

theorem State.PathsOk.drain {sq : Fin 16} (h : s.PathsOk) : (s.drain sq).PathsOk := h.of_aside (State.drain_aside _)

theorem State.PathsOk.finish {d : Desc} {status : ℕ} {result : Quad} (h : s.PathsOk) :
    (s.finish d status result).PathsOk :=
  h.of_aside (State.finish_aside _ _ _)

theorem State.PathsOk.dropCmd {d : Desc} (h : s.PathsOk) : (s.dropCmd d).PathsOk := h.of_aside (State.dropCmd_aside _)

theorem State.PathsOk.endWhere {q : OutDesc → Bool} {status : ℕ} (h : s.PathsOk) : (s.endWhere q status).PathsOk :=
  h.of_aside (State.endWhere_aside _ _)

theorem State.PathsOk.endPort {status : ℕ} {but : List ℕ} (h : s.PathsOk) : (s.endPort p status but).PathsOk :=
  h.of_aside (State.endPort_aside _ _)

theorem State.PathsOk.finishAll {op status : ℕ} {result : Quad} (h : s.PathsOk) :
    (s.finishAll op p status result).PathsOk :=
  h.of_aside (State.finishAll_aside _ _ _)

theorem State.PathsOk.setAux {d : Desc} {v : ℕ} (h : s.PathsOk) : (s.setAux d v).PathsOk :=
  h.of_aside (State.setAux_aside _ _)

theorem CmdSpec.Keeps.judge {k : CmdSpec} {d : Desc} (hk : k.Keeps) (h : s.PathsOk) : (k.judge d s).PathsOk := by
  unfold CmdSpec.judge
  split
  · exact h.finish
  · split
    · exact h.modOut.either h.finish
    · exact hk _ _ h.modOut

theorem State.PathsOk.enterDesc {d : Desc} {data : List Byte} (h : s.PathsOk) : (s.enterDesc d data).PathsOk := by
  unfold State.enterDesc
  split
  · exact h
  next t e =>
    split
    · exact ((h.enterTable e).dropCmd).finish
    · exact h.enterTable e

theorem State.PathsOk.cmdLost {c : Cell} (h : s.PathsOk) : (s.cmdLost c).PathsOk :=
  h.foldl fun _ _ h => h.dropCmd.finish

theorem State.PathsOk.readCmd {d : Desc} (h : s.PathsOk) : (s.readCmd d).PathsOk := by
  unfold State.readCmd
  split
  · exact h
  · split
    next t e => exact h.meet.snd e
    next t e => exact (h.meet.snd e).cmdLost

theorem CmdSpec.Keeps.start {k : CmdSpec} {op : ℕ} {d : Desc} {data : List Byte} (hk : k.Keeps) (h : s.PathsOk) :
    (k.start op d data s).PathsOk := by
  unfold CmdSpec.start
  extract_lets d s1
  have h1 : s1.PathsOk := h.either h.enterDesc
  split
  · exact h1
  · exact h1.either (h1.readCmd.either (hk.judge h1.readCmd.readRecord.modOut))

/-! ### Sessions -/

theorem State.PathsOk.setCtx {k : ℕ} {b : List Byte} (h : s.PathsOk) : (s.setCtx k b).PathsOk := by
  unfold State.setCtx
  split
  · exact h.frame
  · exact h

theorem State.PathsOk.journal {e : JrnEntry} (h : s.PathsOk) : (s.journal e).PathsOk := h.sendCell.frame

theorem State.PathsOk.jrnTaken {e : JrnEntry} (h : s.PathsOk) : (s.jrnTaken e).PathsOk := by
  unfold State.jrnTaken
  split
  · exact h.modFlow.freeCell
  · exact h.modFlow

theorem State.PathsOk.closesFirst (h : s.PathsOk) : s.closesFirst.PathsOk := h.frame

theorem State.PathsOk.modSes {f : List Byte → List Byte} (h : s.PathsOk) : (s.modSes p f).PathsOk := by
  unfold State.modSes
  dsimp only
  split
  · exact h
  · split
    · exact h.modMtr.setCtx
    · exact h.modMtr

theorem State.PathsOk.sesMeter (h : s.PathsOk) : (s.sesMeter p).PathsOk := h.modSes

theorem State.PathsOk.sesProfile (h : s.PathsOk) : (s.sesProfile p).PathsOk := h.modSes

theorem State.PathsOk.sesHardReset (h : s.PathsOk) : (s.sesHardReset p).PathsOk := h.modSes

theorem State.PathsOk.sesContract {c : Contract} (h : s.PathsOk) : (s.sesContract p c).PathsOk := by
  unfold State.sesContract
  exact h.modSes

theorem State.PathsOk.openSession (h : s.PathsOk) : (s.openSession p).PathsOk :=
  h.either h.event.modMtr.frame.sesMeter.sesProfile.journal

theorem State.PathsOk.storeClose {k : ℕ} {b : List Byte} (h : s.PathsOk) : (s.storeClose k b).PathsOk :=
  h.setCtx.journal

theorem State.PathsOk.closeSession {r : EndReason} (h : s.PathsOk) : (s.closeSession p r).PathsOk := by
  unfold State.closeSession
  dsimp only
  split
  · exact h
  · split
    · exact h.sesMeter.sesProfile.modSes
    · split
      · exact h.sesMeter.sesProfile.modSes.event.modMtr.storeClose
      · exact h.sesMeter.sesProfile.modSes.event.modMtr.modMtr

theorem State.PathsOk.recycle {k : ℕ} (h : s.PathsOk) : (s.recycle k).PathsOk := by
  unfold State.recycle
  dsimp only
  split
  · exact h.modMtr.storeClose.either h.modMtr.setCtx
  · split
    · exact h.frame.setCtx
    · exact h.setCtx

theorem State.PathsOk.timeFix {c0 : Quad} (h : s.PathsOk) : (s.timeFix c0).PathsOk :=
  h.either ((((h.forPorts fun _ _ h => h.modMtr).frame).journal).eventD)

theorem sessionReadSpec_keeps : sessionReadSpec.Keeps := fun _ _ h => h.hostPut.finish

theorem sessionAckSpec_keeps : sessionAckSpec.Keeps := fun _ _ h => h.journal

theorem execSessionRead_pathsOk {d : Desc} (h : s.PathsOk) : Res.PathsOk (execSessionRead d s) :=
  (sessionReadSpec_keeps.start h).next

theorem execSessionAck_pathsOk {d : Desc} (h : s.PathsOk) : Res.PathsOk (execSessionAck d s) :=
  (sessionAckSpec_keeps.start h).next

theorem execSessionContextUpdate_pathsOk (h : s.PathsOk) : Res.PathsOk (execSessionContextUpdate p s) :=
  (h.either h.sesMeter).next

/-! ### The journal -/

theorem State.PathsOk.checkFull (h : s.PathsOk) : s.checkFull.PathsOk := h.frame.eventD.either h.frame

theorem State.PathsOk.afterEntry {e : JrnEntry} (h : s.PathsOk) : (s.afterEntry e).PathsOk := by
  unfold State.afterEntry
  split
  · split
    · exact h.setCtx
    · exact h
  · exact h.recycle.finish.either h.finish
  · exact h

theorem State.PathsOk.tryEntry {ok : Bool} (h : s.PathsOk) : (s.tryEntry ok).PathsOk := by
  fun_cases State.tryEntry s ok with
  | case1 => exact h
  | case2 => exact h
  | case3 => exact h.countNoCredit
  | case4 _ _ _ _ _ _ e => exact (h.passCell e).frame.jrnTaken.emit.afterEntry.checkFull
  | case5 _ _ _ _ _ _ e => exact (h.passCell e).frame
  | case6 _ _ _ _ _ _ e => exact (h.passCell e).frame.eventD
  | case7 _ _ _ _ _ _ e => exact (h.passCell e).frame

theorem execJournalWrite_pathsOk {ok : Bool} (h : s.PathsOk) : Res.PathsOk (execJournalWrite ok s) :=
  (h.tryEntry.either h).next

theorem execJournalRetry_pathsOk {ok : Bool} (h : s.PathsOk) : Res.PathsOk (execJournalRetry ok s) :=
  (h.tryEntry.either h).next

theorem execSnapshot_pathsOk (h : s.PathsOk) : Res.PathsOk (execSnapshot s) := by
  unfold execSnapshot
  refine State.PathsOk.next ?_
  extract_lets +onlyGivenNames t s1 s2
  have h1 : s1.PathsOk := h.forPorts fun _ _ h => h.sesMeter.modSes
  have h2 : s2.PathsOk := by
    unfold s2
    refine h1.forPorts fun s _ h => ?_
    split
    · exact h
    · exact h.journal
  exact h2.journal

theorem State.PathsOk.scanJournal (h : s.PathsOk) : s.scanJournal.PathsOk := by
  unfold State.scanJournal
  extract_lets +onlyGivenNames l inter closes all src s1 s2 s3 s4
  have h1 : s1.PathsOk := h.frame
  have h2 : s2.PathsOk := by
    refine h1.foldl fun s _ h => ?_
    split
    · exact h
    · exact h.setCtx.event
  have h3 : s3.PathsOk := h2.foldl fun _ _ h => h.journal
  have h4 : s4.PathsOk := by
    unfold s4
    split
    · exact h3
    · exact h3.forPorts fun _ _ h => h.modMtr
  exact h4.frame

/-! ### Metering -/

theorem State.PathsOk.endBuf {b : StreamBuf} (h : s.PathsOk) : (s.endBuf b).PathsOk := h.finish

theorem State.PathsOk.fillBuf {b : StreamBuf} {bytes : List Byte} (h : s.PathsOk) : (s.fillBuf b bytes).2.PathsOk :=
  h.emit.snd_mk

theorem State.PathsOk.putMerged (h : s.PathsOk) : (s.putMerged p).PathsOk := by
  unfold State.putMerged
  split
  · exact h
  · split
    · exact h
    next t e => exact (h.putRecord e).modMtr

theorem State.PathsOk.mtrLost {c : Cell} (h : s.PathsOk) : (s.mtrLost p c).PathsOk := h.dropCell.modMtr

theorem State.PathsOk.pumpMtrN {n : ℕ} (h : s.PathsOk) : (State.pumpMtrN n s).PathsOk := by
  induction n generalizing s with
  | zero => exact h
  | succ n ih =>
    unfold State.pumpMtrN
    split
    · exact h
    · split
      · exact h
      · split
        · exact ih h.frame.endBuf
        · split
          · exact h
          · split
            next t e => exact ih (h.meet.snd e).mtrLost
            next t e =>
              have ht : t.PathsOk := h.meet.snd e
              split
              · exact ih (ht.fillBuf.popRecord.putMerged.frame)
              · exact ih ht.popRecord

theorem State.PathsOk.pumpMtr (h : s.PathsOk) : s.pumpMtr.PathsOk := h.either h.pumpMtrN

theorem State.PathsOk.waveLost {c : Cell} (h : s.PathsOk) : (s.waveLost p c).PathsOk := by
  unfold State.waveLost
  exact (((h.foldl fun _ _ h => h.dropCell).modFlow).either (h.foldl fun _ _ h => h.dropCell)).modWm

theorem State.PathsOk.meetFrame (h : s.PathsOk) : (s.meetFrame p).2.PathsOk := by
  unfold State.meetFrame
  split
  · exact h
  · refine State.PathsOk.foldl_snd h fun x c hx => ?_
    split
    · exact hx
    · exact hx.meet

theorem State.PathsOk.popFrame {cells : ℕ} (h : s.PathsOk) : (s.popFrame p cells).PathsOk :=
  h.foldl fun _ _ h => h.popped

theorem State.PathsOk.pumpWaveN {n : ℕ} (h : s.PathsOk) : (State.pumpWaveN n s).PathsOk := by
  induction n generalizing s with
  | zero => exact h
  | succ n ih =>
    unfold State.pumpWaveN
    split
    · exact h
    · split
      · exact h
      · dsimp only
        split
        · exact ih h.frame.endBuf
        · split
          next t e => exact ih (h.meetFrame.snd e).waveLost
          next t e => exact ih ((h.meetFrame.snd e).fillBuf.popFrame.frame)

theorem State.PathsOk.pumpWave (h : s.PathsOk) : s.pumpWave.PathsOk := h.either h.pumpWaveN

theorem State.PathsOk.intervalEnd (h : s.PathsOk) : (s.intervalEnd p).PathsOk := by
  unfold State.intervalEnd
  dsimp only
  split
  · exact h.modMtr.sesMeter
  · split
    · exact h.modMtr.sesMeter.modMtr.countNoCredit.modMtr
    · split
      next t e => exact ((h.modMtr.sesMeter.modMtr.putRecord e).pumpMtr).either (h.modMtr.sesMeter.modMtr.putRecord e)
      · exact h.modMtr.sesMeter.modMtr.countNoCredit.modMtr

theorem execMeteringInterval_pathsOk (h : s.PathsOk) : Res.PathsOk (execMeteringInterval p s) :=
  (h.either h.intervalEnd).next

/-! ### The converter -/

theorem State.PathsOk.endTrim {status : ℕ} {result : Quad} (h : s.PathsOk) : (s.endTrim p status result).PathsOk := by
  unfold State.endTrim
  dsimp only
  split
  · exact h
  · exact h.stop.modCnv.finish

theorem State.PathsOk.setPoint {src : SetSrc} {mv up down : ℕ} (h : s.PathsOk) :
    (s.setPoint p src mv up down).PathsOk :=
  h.endTrim.modCnv

theorem State.PathsOk.setPointSlew {src : SetSrc} {mv : ℕ} (h : s.PathsOk) : (s.setPointSlew p src mv).PathsOk :=
  h.setPoint

theorem State.PathsOk.cnvStart (h : s.PathsOk) : (s.cnvStart p).PathsOk := h.modCnv

theorem State.PathsOk.cnvStop (h : s.PathsOk) : (s.cnvStop p).PathsOk := h.modCnv

theorem execPhaseShed_pathsOk (h : s.PathsOk) : Res.PathsOk (execPhaseShed p s) := h.modCnv.next

theorem execSwarmFire_pathsOk {dip : SwarmDip} (h : s.PathsOk) : Res.PathsOk (execSwarmFire dip s) :=
  (h.modCnv.either h).next

theorem execSwarmEnd_pathsOk (h : s.PathsOk) : Res.PathsOk (execSwarmEnd p s) := (h.modCnv.either h).next

theorem execPeakLimit_pathsOk {ph : Ph} {mv : ℕ} (h : s.PathsOk) : Res.PathsOk (execPeakLimit p ph mv s) :=
  (h.modCnv.either h).next

theorem execDividerCorrection_pathsOk {vout vsns : ℤ} (h : s.PathsOk) :
    Res.PathsOk (execDividerCorrection p vout vsns s) :=
  (h.modCnv.either h).next

theorem execCompensationSample_pathsOk {vout vsns ma : ℤ} (h : s.PathsOk) :
    Res.PathsOk (execCompensationSample p vout vsns ma s) := by
  unfold execCompensationSample
  dsimp only
  refine State.PathsOk.next ?_
  split
  · exact (((h.either h.modCnv).modCnv).eventP).either ((h.either h.modCnv).modCnv)
  · exact (h.either h.modCnv).modCnv

theorem setpointTrimSpec_keeps : setpointTrimSpec.Keeps := by
  intro s d h
  dsimp only [setpointTrimSpec]
  exact h.setPointSlew.start.modCnv

theorem execSetpointTrim_pathsOk {d : Desc} (h : s.PathsOk) : Res.PathsOk (execSetpointTrim d s) :=
  (setpointTrimSpec_keeps.start h).next

theorem State.PathsOk.trimDone {vsns shunt : ℤ} (h : s.PathsOk) : (s.trimDone p vsns shunt).PathsOk := by
  unfold State.trimDone
  dsimp only
  split
  · exact h
  · exact h.endTrim.either h

/-! ### Monitors -/

theorem State.PathsOk.modMon {m : Fin 32} {f : Wm → Wm} (h : s.PathsOk) : (s.modMon p m f).PathsOk := h.modWm

theorem State.PathsOk.track {m : Fin 32} {f : Port → Wm → Wm} (h : s.PathsOk) : (s.track p m f).PathsOk := h.modMon

theorem State.PathsOk.trackPeaks (h : s.PathsOk) : (s.trackPeaks p).PathsOk := h.track.track.track

theorem State.PathsOk.trackUpdate (h : s.PathsOk) : (s.trackUpdate p).PathsOk := h.track.track.track

theorem State.PathsOk.trackShort (h : s.PathsOk) : (s.trackShort p).PathsOk := h.track

theorem State.PathsOk.trackTemp (h : s.PathsOk) : (s.trackTemp p).PathsOk := h.track

theorem execThresholdSettled_pathsOk {m : Fin 32} (h : s.PathsOk) : Res.PathsOk (execThresholdSettled p m s) :=
  h.modMon.next

theorem State.PathsOk.capture {m : Fin 32} {e : Edge} (h : s.PathsOk) : (s.capture p m e).PathsOk := by
  unfold State.capture
  extract_lets +onlyGivenNames q
  split
  · exact h
  · split
    · exact h.modWm
    · extract_lets +onlyGivenNames n f
      split
      · exact h.countNoCredit.modWm
      next t e => exact (h.takeCell (Option.ite_none_right_eq_some.mp e).2).queueCell.modWm

theorem execCaptureFrameEnd_pathsOk {samples : List Byte} (h : s.PathsOk) :
    Res.PathsOk (execCaptureFrameEnd p samples s) := by
  unfold execCaptureFrameEnd
  dsimp only
  refine State.PathsOk.next ?_
  split
  · exact h
  · exact (h.modFlow.foldl fun _ _ h => h.sendCell).modWm

theorem State.PathsOk.wmRecord {m : Fin 32} {e : Edge} {ret : Bool} {code thr : ℕ} (h : s.PathsOk) :
    (s.wmRecord p m e ret code thr).PathsOk :=
  h.offer

theorem State.PathsOk.checkRecord {m : Fin 32} {leg : ℕ} {k : LegChk} {err : ℤ} (h : s.PathsOk) :
    (s.checkRecord p m leg k err).PathsOk :=
  h.eventO

theorem execGeneralMonitorCheck_pathsOk {m : Fin 32} {fail : Option (LegChk × ℤ)} (h : s.PathsOk) :
    Res.PathsOk (execGeneralMonitorCheck p m fail s) := by
  unfold execGeneralMonitorCheck
  refine State.PathsOk.next ?_
  split
  · exact h
  · split
    · exact h
    · exact h.either h.modMon.checkRecord

/-! ### The budget -/

theorem State.PathsOk.latchReneg (h : s.PathsOk) : (s.latchReneg p).PathsOk := h.modPol

theorem State.PathsOk.growN {n : ℕ} {done : List PortId} (h : s.PathsOk) : (growN n done s).PathsOk := by
  induction n generalizing s done with
  | zero => exact h
  | succ n ih =>
    unfold Machine.growN
    dsimp only
    split
    · exact h
    · exact ih (h.either h.modPol)

theorem State.PathsOk.grantLatch {old : ℕ} (h : s.PathsOk) : (s.grantLatch p old).PathsOk := h.latchReneg.either h

theorem State.PathsOk.round (h : s.PathsOk) : s.round.PathsOk := by
  unfold State.round
  exact ((((h.forPorts fun _ _ h => h.modPol).growN).forPorts fun _ _ h => h.grantLatch).frame).either <|
    ((((h.forPorts fun _ _ h => h.modPol).growN).forPorts fun _ _ h => h.grantLatch).frame).eventD

theorem State.PathsOk.takeRp (h : s.PathsOk) : (s.takeRp p).PathsOk := h.modCc.either h.modCc.frame

theorem State.PathsOk.commitFloor (h : s.PathsOk) : (s.commitFloor p).PathsOk := by
  unfold State.commitFloor
  exact h.modPol

/-! ### Wake-up -/

theorem State.PathsOk.entryOver (h : s.PathsOk) : s.entryOver.PathsOk := h.frame

theorem State.PathsOk.abandonWake {src port : ℕ} (h : s.PathsOk) : (s.abandonWake src port).PathsOk := by
  unfold State.abandonWake
  dsimp only
  split
  · exact h.entryOver.eventD.finish
  · exact h.entryOver.eventD

theorem State.PathsOk.latchWake {src port : ℕ} (h : s.PathsOk) : (s.latchWake src port).PathsOk := h.frame

theorem State.PathsOk.wakeSet {src port : ℕ} (h : s.PathsOk) : (s.wakeSet src port).PathsOk :=
  h.either ((h.either (h.abandonWake.latchWake.either h.abandonWake)).either (h.latchWake.either h))

theorem State.PathsOk.idleExit (h : s.PathsOk) : s.idleExit.PathsOk := h.frame.eventD.either h

/-! ### The path and its switches -/

theorem State.PathsOk.pathTo {st : PathSt} (h : s.PathsOk) : (s.pathTo p st).PathsOk := by
  unfold State.pathTo
  extract_lets +onlyGivenNames old s1 s2 s3
  have h1 : s1.PathsOk := (h.modEf_of (EfState.pathOk_enter _ _)).modWm
  have h2 : s2.PathsOk := h1.modMtr.either h1
  have h3 : s3.PathsOk := h2.start.either h2.stop
  exact (h3.either h3.intervalEnd).modMtr.modWm.either h3

theorem State.PathsOk.openPath (h : s.PathsOk) : (s.openPath p).PathsOk := by
  unfold State.openPath
  extract_lets s1 s2
  have h1 : s1.PathsOk := h.cnvStop
  have h2 : s2.PathsOk := h1.modEf_of (EfState.pathOk_of_open (h1.port p) rfl rfl rfl rfl)
  exact h2.either h2.pathTo

theorem State.PathsOk.tryPath (h : s.PathsOk) : (s.tryPath p).PathsOk := h.pathTo.either h

theorem State.PathsOk.requestPath {r : PathReq} (h : s.PathsOk) : (s.requestPath p r).PathsOk :=
  h.idleExit.modEf.wakeSet.tryPath

theorem State.PathsOk.dropWindow (h : s.PathsOk) : (s.dropWindow p).PathsOk := h.modCc.either h

theorem State.PathsOk.seeVbus {mv : ℕ} (h : s.PathsOk) : (s.seeVbus p mv).PathsOk := h.modEf.dropWindow

/-- BACKFEED is entered with its own outputs. -/
theorem State.ef_pathTo_backfeed : ((s.pathTo p .backfeed).port p).ef = (s.port p).ef.enter .backfeed := by
  simp [State.pathTo]

theorem State.PathsOk.closeBf (h : s.PathsOk) : (s.closeBf p).PathsOk :=
  h.pathTo.modEf_of
    (EfState.pathOk_backfeed (congrArg EfState.path ef_pathTo_backfeed) (congrArg EfState.gateOn ef_pathTo_backfeed))

theorem State.PathsOk.openBf (h : s.PathsOk) : (s.openBf p).PathsOk := by
  unfold State.openBf
  exact h.pathTo.either (h.modEf_of (EfState.pathOk_of_open (h.port p) rfl rfl rfl rfl))

theorem execVbusUnexpected_pathsOk (h : s.PathsOk) : Res.PathsOk (execVbusUnexpected p s) :=
  (h.modEf.eventP.either h).next

theorem State.PathsOk.clearRetry (h : s.PathsOk) : (s.clearRetry p).PathsOk := h.modEf.modWm

theorem execGoodServiceExpiry_pathsOk (h : s.PathsOk) : Res.PathsOk (execGoodServiceExpiry p s) :=
  (h.onExpiry fun _ h => h.clearRetry.either h).next

theorem State.PathsOk.settleIdentity {d : Quad} (h : s.PathsOk) : (s.settleIdentity p d).PathsOk :=
  h.sesProfile.either (h.sesProfile.modEf.either (h.sesProfile.either h.sesProfile.clearRetry.modEf.event))

/-! ### PD messages -/

theorem State.PathsOk.meetHead {f : ℕ} (h : s.PathsOk) : (s.meetHead f).2.PathsOk :=
  State.PathsOk.foldl_snd h fun _ _ h => h.meet

theorem State.PathsOk.dropHead {f : ℕ} (h : s.PathsOk) : (s.dropHead f).PathsOk := h.foldl fun _ _ h => h.dropCell

theorem State.PathsOk.putMsg {f : ℕ} {r : Payload} {m : PdMsg} (h : s.PathsOk) (e : s.putMsg f r m = some t) :
    t.PathsOk := by
  unfold State.putMsg at e
  split at e
  · cases e
  · split at e
    · exact h.putCell e
    · obtain ⟨u, e1, e2⟩ := Option.bind_eq_some_iff.mp e
      exact (h.putCell e1).putCell e2

theorem State.PathsOk.popMsg {f : ℕ} {m : PdMsg} (h : s.PathsOk) : (s.popMsg f m).PathsOk :=
  h.foldl fun _ _ h => h.popped

theorem State.PathsOk.endTx {x : PdTx} {o : TxOutcome} (h : s.PathsOk) : (s.endTx p x o).PathsOk :=
  h.modPd.stopAll.emit.popMsg

theorem State.PathsOk.nextTxN {n : ℕ} (h : s.PathsOk) : (State.nextTxN p n s).PathsOk := by
  induction n generalizing s with
  | zero => exact h
  | succ n ih =>
    unfold State.nextTxN
    dsimp only
    split
    · exact h
    · split
      · exact (ih h.emit.popMsg).either (h.modPd.start.either h.modPd)
      · exact h

theorem State.PathsOk.nextTx (h : s.PathsOk) : (s.nextTx p).PathsOk := h.nextTxN

theorem State.PathsOk.admitTx (h : s.PathsOk) : (s.admitTx p).PathsOk := by
  unfold State.admitTx
  split
  · split
    next t e => exact (h.putMsg e).modFlow
    · exact h
  · exact h

theorem State.PathsOk.pdSend {m : PdMsg} {prod : PdProd} {first : Bool} (h : s.PathsOk) :
    (s.pdSend p m prod first).PathsOk := by
  unfold State.pdSend
  dsimp only
  split
  · exact h.emit
  · split
    · exact h.emit
    · split
      next t e => exact (h.putMsg (Option.ite_none_right_eq_some.mp e).2).nextTx
      · exact h.wait

theorem State.PathsOk.laneReset {k : Sopx} (h : s.PathsOk) : (s.laneReset p k).PathsOk := by
  unfold State.laneReset
  exact (h.stop.either h).modPd

theorem State.PathsOk.startFrame (h : s.PathsOk) : (s.startFrame p).1.PathsOk := by
  unfold State.startFrame
  split
  · split
    · exact h.fst_mk
    · split
      · exact h.endTx.fst_mk
      · split
        next t e =>
          have ht : t.PathsOk := h.meetHead.snd e
          split
          · exact ht.endTx.fst_mk
          · exact (ht.laneReset.either ht).modPd.emit.fst_mk
  · exact h.fst_mk

theorem State.PathsOk.dropFirst (h : s.PathsOk) : (s.dropFirst p).1.PathsOk := by
  unfold State.dropFirst
  split
  · split
    · exact h.endTx.modPd.fst_mk
    · exact h.fst_mk
  · exact h.fst_mk

theorem State.PathsOk.dropPending {m : PdMsg} (h : s.PathsOk) : (s.dropPending p m).1.PathsOk := by
  unfold State.dropPending
  split
  · split
    · exact h.endTx.fst_mk
    · exact h.fst_mk
  · exact h.fst_mk

theorem State.PathsOk.amsEnd (h : s.PathsOk) : (s.amsEnd p).PathsOk := h.modPd

theorem State.PathsOk.amsDone (h : s.PathsOk) : (s.amsDone p).PathsOk := h.amsEnd.either h

theorem State.PathsOk.viaPdRx {m : PdMsg} (h : s.PathsOk) : (s.viaPdRx p m).PathsOk := by
  unfold State.viaPdRx
  split
  next t e => exact (h.putMsg e).popMsg
  · exact h

theorem State.PathsOk.onChunkReq {m : PdMsg} (h : s.PathsOk) : (s.onChunkReq p m).1.PathsOk := by
  unfold State.onChunkReq
  split
  · split
    · exact h.fst_mk
    · split
      · exact h.stop.modPd.fst_mk
      · exact h.endTx.fst_mk
  · exact h.fst_mk

theorem State.PathsOk.onExtended {m : PdMsg} (h : s.PathsOk) : (s.onExtended p m).1.PathsOk := by
  unfold State.onExtended
  extract_lets +onlyGivenNames q whole
  have hwhole {s : State} {m : PdMsg} {size : ℕ} {b : List Byte} (h : s.PathsOk) :
    (whole m size b s).1.PathsOk := h.viaPdRx.fst_mk
  clear_value whole
  split
  · exact h.fst_mk
  · split
    · exact h.onChunkReq
    · split
      · exact h.fst_mk
      · split
        · split
          · split
            · exact h.stop.modPd.fst_mk
            · dsimp only
              split
              · exact hwhole h.stop.modPd
              · exact h.modPd.start.pdSend.fst_mk
          · split
            · exact hwhole h
            · split <;> exact h.fst_mk
        · split
          · exact hwhole h
          · split
            · exact h.fst_mk
            · exact h.modPd.start.pdSend.fst_mk

theorem State.PathsOk.cableRev {m : PdMsg} (h : s.PathsOk) : (s.cableRev p m).PathsOk := h.modPd

theorem State.PathsOk.pdTake {m : PdMsg} (h : s.PathsOk) : (s.pdTake p m).1.PathsOk := by
  unfold State.pdTake
  extract_lets +onlyGivenNames q
  split
  · exact h.fst_mk
  · split
    next t n1 eq1 =>
    have ht : t.PathsOk := State.PathsOk.fst (by split; exacts [h.dropFirst, h.fst_mk]) eq1
    split
    next u n2 eq2 =>
    have hu : u.PathsOk := ht.dropPending.fst eq2
    extract_lets +onlyGivenNames s1 soft dup broken s2 s3 s4 s5 n3
    have h1 : s1.PathsOk := hu.emit
    have h2 : s2.PathsOk := h1.laneReset.either h1.modPd
    have h4 : s4.PathsOk := (h2.modPd.either h2).cableRev
    have h5 : s5.PathsOk := h4.stop.modPd.either h4
    split
    · exact h1.modPd.nextTx.fst_mk
    · split
      next v n4 eq3 =>
      exact State.PathsOk.fst (by split; exacts [h5.onExtended, h5.viaPdRx.fst_mk]) eq3

theorem State.PathsOk.onGoodCrc {k : Sopx} {i : BitVec 3} (h : s.PathsOk) : (s.onGoodCrc p k i).1.PathsOk := by
  unfold State.onGoodCrc
  dsimp only
  split
  · split
    · exact h.fst_mk
    · split
      · exact h.modPd.stop.start.fst_mk
      · exact h.endTx.fst_mk
  · exact h.fst_mk

theorem State.PathsOk.onTReceive (h : s.PathsOk) : (s.onTReceive p).1.PathsOk := by
  unfold State.onTReceive
  split
  · split
    · exact h.fst_mk
    · split
      · exact h.modPd.fst_mk
      · exact h.endTx.fst_mk
  · exact h.fst_mk

theorem State.PathsOk.flushMsg {o : TxOutcome} {m : PdMsg} {prod : PdProd} {tries : ℕ} (h : s.PathsOk) :
    (s.flushMsg p o m prod tries).PathsOk :=
  h.modPd.emit

theorem State.PathsOk.flushTx {o : TxOutcome} (h : s.PathsOk) : (s.flushTx p o).PathsOk := by
  unfold State.flushTx
  extract_lets +onlyGivenNames t s1 s2
  have h1 : s1.PathsOk := by
    unfold s1
    refine h.foldl fun s x h => ?_
    split
    · exact h.flushMsg
    · exact h
  have h2 : s2.PathsOk := by
    unfold s2
    refine h1.foldl fun s x h => ?_
    split
    · exact h.flushMsg
    · exact h
  exact h2.emptyFlow.modFlow.modPd.stopAll

theorem State.PathsOk.pdClear {o : TxOutcome} (h : s.PathsOk) : (s.pdClear p o).PathsOk := h.flushTx.stop.modPd

theorem State.PathsOk.pdStop (h : s.PathsOk) : (s.pdStop p).PathsOk := h.pdClear.modPd

theorem execFrameTransmitted_pathsOk (h : s.PathsOk) : Res.PathsOk (execFrameTransmitted p s) := by
  unfold execFrameTransmitted
  refine State.PathsOk.next ?_
  split
  · exact h.modPd.start.either h
  · exact h

theorem State.PathsOk.badFrame (h : s.PathsOk) : (s.badFrame p).PathsOk := h.modPd.either h

theorem execFrameCrcError_pathsOk (h : s.PathsOk) : Res.PathsOk (execFrameCrcError p s) := h.badFrame.next

theorem execAmsStartWaitExpiry_pathsOk (h : s.PathsOk) : Res.PathsOk (execAmsStartWaitExpiry p s) :=
  (h.onExpiry fun _ h => h.modPd).next

theorem execSinktxokRead_pathsOk {r : RpRead} (h : s.PathsOk) : Res.PathsOk (execSinktxokRead r s) :=
  (h.either (h.modPd.either h.modPd)).next

theorem execCableResetReceived_pathsOk (h : s.PathsOk) : Res.PathsOk (execCableResetReceived p s) := h.next

/-! ### The sequencer -/

theorem State.PathsOk.setSeq {x : SeqSt} (h : s.PathsOk) : (s.setSeq p x).PathsOk := h.modPol

theorem State.PathsOk.say {m : PdMsg} {first : Bool} (h : s.PathsOk) : (s.say p m first).PathsOk := h.pdSend

theorem State.PathsOk.setILim {ma : ℕ} (h : s.PathsOk) : (s.setILim p ma).PathsOk := h.modCnv.trackPeaks

theorem State.PathsOk.endEpr {sub : ℕ} (h : s.PathsOk) : (s.endEpr p sub).PathsOk := h.stop.modPol.eventP.either h

theorem State.PathsOk.endContract (h : s.PathsOk) : (s.endContract p).PathsOk := h.endEpr.modPd.modPol.commitFloor

theorem State.PathsOk.fleetCut (h : s.PathsOk) : (s.fleetCut p).PathsOk := h.either h.modPod.eventP

theorem State.PathsOk.amsDrop (h : s.PathsOk) : (s.amsDrop p).PathsOk := by
  unfold State.amsDrop
  exact (((h.either h.fleetCut.finishAll).stopAll).modPod).modPol

theorem State.PathsOk.dropPartnerWork (h : s.PathsOk) : (s.dropPartnerWork p).PathsOk := h.fleetCut.modPod.modPol

theorem State.PathsOk.seqOff (h : s.PathsOk) : (s.seqOff p).PathsOk := by
  unfold State.seqOff
  exact h.endContract.dropPartnerWork.stopAll.modPol.modSwap

theorem State.PathsOk.toStartup (h : s.PathsOk) : (s.toStartup p).PathsOk := h.modPol

theorem State.PathsOk.toNoPd {sub : ℕ} (h : s.PathsOk) : (s.toNoPd p sub).PathsOk := h.modPol.setILim.eventP

theorem State.PathsOk.toReady (h : s.PathsOk) : (s.toReady p).PathsOk := h.setSeq.amsEnd

theorem State.PathsOk.markReneg (h : s.PathsOk) : (s.markReneg p).PathsOk := h.frame

theorem State.PathsOk.eprLeave (h : s.PathsOk) : (s.eprLeave p).PathsOk := h.say.endEpr.either h

theorem State.PathsOk.sendCaps {first : Bool} (h : s.PathsOk) : (s.sendCaps p first).PathsOk :=
  ((h.modPol.eprLeave.markReneg.either h.modPol.eprLeave).modPol).say

theorem State.PathsOk.toSendCaps {first : Bool} (h : s.PathsOk) : (s.toSendCaps p first).PathsOk :=
  h.modPol.modPol.either h.modPol.sendCaps

theorem State.PathsOk.hrLanding (h : s.PathsOk) : (s.hrLanding p).PathsOk := by
  unfold State.hrLanding
  exact (h.closeSession.cnvStop.modSwap.either h).modSwap

theorem State.PathsOk.hrStart {goal : SeqSt} (h : s.PathsOk) : (s.hrStart p goal).PathsOk := by
  unfold State.hrStart
  exact h.modPd.pdClear.endContract.dropPartnerWork.stopAll.hrLanding.modPol.modCc.modSwap.either <|
    h.modPd.pdClear.endContract.dropPartnerWork.stopAll.hrLanding.modPol.modCc

theorem State.PathsOk.hrRequest {goal : SeqSt} (h : s.PathsOk) : (s.hrRequest p goal).PathsOk := h.hrStart.modPd

theorem State.PathsOk.hrNote {received : Bool} (h : s.PathsOk) : (s.hrNote p received).PathsOk :=
  ((h.either h.modPol).eventP).sesHardReset

theorem State.PathsOk.hrRecord {received : Bool} (h : s.PathsOk) : (s.hrRecord p received).PathsOk :=
  h.hrNote.finishAll.modCnv.stop.endPort

theorem State.PathsOk.hrWait (h : s.PathsOk) : (s.hrWait p).PathsOk := h.modPd.modSwap.start.either h.modPd

theorem State.PathsOk.vconnOff (h : s.PathsOk) : (s.vconnOff p).PathsOk := h.modCc.modSwap.either h

theorem State.PathsOk.vconnApply (h : s.PathsOk) : (s.vconnApply p).PathsOk := h.modCc.modSwap

theorem State.PathsOk.toUnattached (h : s.PathsOk) : (s.toUnattached p).PathsOk := h.modCc.modPd.modPol.takeRp.start

theorem State.PathsOk.detachDone (h : s.PathsOk) : (s.detachDone p).PathsOk := h.toUnattached.either h

theorem State.PathsOk.hrH3 (h : s.PathsOk) : (s.hrH3 p).PathsOk := by
  unfold State.hrH3
  exact h.openPath.vconnOff.modCc.modSwap

theorem State.PathsOk.hrH4 (h : s.PathsOk) : (s.hrH4 p).PathsOk := h.modSwap.start

theorem State.PathsOk.hrH5 (h : s.PathsOk) : (s.hrH5 p).PathsOk := h.modSwap.requestPath.either h

theorem execPsHardResetExpiry_pathsOk (h : s.PathsOk) : Res.PathsOk (execPsHardResetExpiry p s) :=
  (h.onExpiry fun _ h => h.hrH3.either h).next

theorem execSrcRecoverExpiry_pathsOk (h : s.PathsOk) : Res.PathsOk (execSrcRecoverExpiry p s) :=
  (h.onExpiry fun _ h => h.hrH5).next

theorem State.PathsOk.sendSoft (h : s.PathsOk) : (s.sendSoft p).PathsOk := h.say

theorem State.PathsOk.softReset (h : s.PathsOk) : (s.softReset p).PathsOk := h.amsDrop.modPol.sendSoft

theorem State.PathsOk.sinkSoft (h : s.PathsOk) : (s.sinkSoft p).PathsOk :=
  h.amsDrop.modSwap.setSeq.finishAll.finishAll.sendSoft

theorem State.PathsOk.sinkReset (h : s.PathsOk) : (s.sinkReset p).PathsOk := h.sinkSoft.either h.hrRequest

theorem State.PathsOk.sinkLost (h : s.PathsOk) : (s.sinkLost p).PathsOk :=
  h.stop.modSwap.amsEnd.eventP.either h.modSwap.hrRequest

theorem State.PathsOk.notSupported (h : s.PathsOk) : (s.notSupported p).PathsOk := h.say

theorem State.PathsOk.oddReady {k : Odd} (h : s.PathsOk) : (s.oddReady p k).PathsOk := by
  unfold State.oddReady
  split
  · exact h.notSupported
  · exact h.notSupported
  · exact h.softReset

theorem State.PathsOk.odd {k : Odd} (h : s.PathsOk) : (s.odd p k).PathsOk := by
  unfold State.odd
  split
  · exact h.either h.hrRequest
  · exact h.softReset
  · exact h.softReset
  · exact h.softReset
  · exact h.softReset
  · exact h.oddReady
  · exact h.hrRequest
  · split
    · exact h.notSupported
    · exact h.notSupported
    · exact h.sinkReset
  · split
    · exact h.notSupported
    · exact h.notSupported
    · exact h.sinkLost.either h.sinkSoft
  · exact h
  · exact h
  · exact h
  · exact h
  · exact h

theorem State.PathsOk.gotElse {m : PdMsg} (h : s.PathsOk) : (s.gotElse p m).PathsOk := h.odd

theorem hardResetSpec_keeps : hardResetSpec.Keeps := fun _ _ h => h.hrRequest

theorem execHardReset_pathsOk {d : Desc} (h : s.PathsOk) : Res.PathsOk (execHardReset d s) :=
  (hardResetSpec_keeps.start h).next

/-! ### The Pod Table -/

theorem State.PathsOk.vdmDiscard {sub : ℕ} (h : s.PathsOk) : (s.vdmDiscard p sub).PathsOk :=
  h.countNoCredit.modPod.eventP

theorem State.PathsOk.toCores {m : PdMsg} (h : s.PathsOk) (e : s.toCores p m = some t) : t.PathsOk := by
  unfold State.toCores at e
  dsimp only at e
  split at e
  · exact h.putCell e
  · split at e
    · cases e
    · obtain ⟨u, e1, e2⟩ := Option.bind_eq_some_iff.mp e
      exact (h.putCell e1).putCell e2

theorem State.PathsOk.jobItem {item : ℕ} {e : PodEntry} (h : s.PathsOk) : (s.jobItem p item e).PathsOk :=
  h.vdmDiscard.getD fun _ => h.putCell

theorem State.PathsOk.profChanged {old : Option PodEntry × Bool} (h : s.PathsOk) : (s.profChanged p old).PathsOk :=
  h.sesProfile.either h.sesProfile.latchReneg

theorem State.PathsOk.authStart {e : PodEntry} (h : s.PathsOk) : (s.authStart p e).PathsOk := h.modPod.jobItem.start

theorem State.PathsOk.authEnd {code : ℕ} (h : s.PathsOk) : (s.authEnd p code).PathsOk := by
  unfold State.authEnd
  dsimp only
  split
  · exact h
  · exact h.stop.modPod.eventP.profChanged.finishAll

theorem State.PathsOk.podHit {slot : ℕ} {e : PodEntry} (h : s.PathsOk) : (s.podHit p slot e).PathsOk := by
  unfold State.podHit
  extract_lets +onlyGivenNames old s1
  have h1 : s1.PathsOk := h.modPod
  exact (h1.modPod.eventP.either <| h1.modPod.eventP.authStart.either h1.modPod.eventP).profChanged.finishAll

theorem State.PathsOk.podMiss {cause sub : ℕ} (h : s.PathsOk) : (s.podMiss p cause sub).PathsOk :=
  h.modPod.eventP.profChanged.finishAll

theorem State.PathsOk.noIdentity {sub : ℕ} (h : s.PathsOk) : (s.noIdentity p sub).PathsOk := by
  unfold State.noIdentity
  exact h.stopAll.modPod.podMiss.settleIdentity

theorem State.PathsOk.askLookup {r : LookupReq} (h : s.PathsOk) : (s.askLookup p r).PathsOk := by
  unfold State.askLookup
  exact h.frame.modPod

theorem execIdentityDigest_pathsOk {cable : Bool} (h : s.PathsOk) : Res.PathsOk (execIdentityDigest p cable s) := by
  unfold execIdentityDigest
  dsimp only
  refine State.PathsOk.next ?_
  split
  · split
    · exact h
    · exact h.either (h.modPod.askLookup.either h.modPod)
  · split
    · exact h
    · exact h.either (h.modPod.settleIdentity.askLookup.either h.modPod.settleIdentity.podMiss)

theorem State.PathsOk.sopLookup (h : s.PathsOk) : (s.sopLookup p).PathsOk := by
  unfold State.sopLookup
  split
  · exact h.podMiss.either h.podHit
  · exact h.podMiss

theorem State.PathsOk.cableLookup (h : s.PathsOk) : (s.cableLookup p).PathsOk := by
  unfold State.cableLookup
  dsimp only
  split
  · exact h.modPod.modPod.either h.modPod
  · exact h.modPod

theorem State.PathsOk.lookup (h : s.PathsOk) : (s.lookup p).PathsOk := by
  unfold State.lookup
  dsimp only
  split
  · exact h
  · exact h.frame.cableLookup
  · exact h.frame.sopLookup

theorem execPodLookup_pathsOk (h : s.PathsOk) : Res.PathsOk (execPodLookup p s) := (h.lookup.either h).next

theorem State.PathsOk.slotTurn (h : s.PathsOk) : s.slotTurn.PathsOk := by
  unfold State.slotTurn
  extract_lets +onlyGivenNames s1
  have h1 : s1.PathsOk := by
    unfold s1
    split
    · exact h.lookup
    · exact h
  exact h1.frame

theorem State.PathsOk.podReapply {slot : ℕ} {e : PodEntry} (h : s.PathsOk) : (s.podReapply p slot e).PathsOk :=
  h.modPod.profChanged.either (h.either ((h.modPod.either (h.modPod.authStart.either h.modPod)).profChanged))

theorem State.PathsOk.podStore {slot : ℕ} {e : Option PodEntry} (h : s.PathsOk) : (s.podStore slot e).PathsOk := by
  unfold State.podStore
  extract_lets +onlyGivenNames old src s1 same given s2
  have h1 : s1.PathsOk := h.frame
  clear_value same
  have h2 : s2.PathsOk := by
    refine h1.forPorts fun s _ h => ?_
    dsimp only
    split
    · exact h.podReapply
    · split
      · exact h.modPod.eventP.either h
      · exact h
  exact h2.eventD

theorem State.PathsOk.podWrite {slot : ℕ} {e : PodEntry} (h : s.PathsOk) : (s.podWrite slot e).1.PathsOk :=
  h.podStore.either h

theorem execPodReadSlot_pathsOk (h : s.PathsOk) : Res.PathsOk (execPodReadSlot s) := h.slotTurn.frame.next

theorem execPodWriteSlot_pathsOk (h : s.PathsOk) : Res.PathsOk (execPodWriteSlot s) := h.slotTurn.podWrite.frame.next

theorem execPodDeleteSlot_pathsOk (h : s.PathsOk) : Res.PathsOk (execPodDeleteSlot s) :=
  h.slotTurn.podStore.frame.next

theorem State.PathsOk.podBlock {first : ℕ} {bs : List (List Byte)} {l : List ℕ} (h : s.PathsOk) :
    (s.podBlock first bs l).1.PathsOk := by
  induction bs generalizing s first l with
  | nil => exact h
  | cons b r ih =>
    unfold State.podBlock
    dsimp only
    split
    · exact ih h.slotTurn.podStore
    · exact ih h.slotTurn.podWrite

theorem State.PathsOk.takePods {d : Desc} (h : s.PathsOk) : (s.takePods d).PathsOk :=
  (h.podBlock.either h.podBlock.hostPut).finish

theorem State.PathsOk.podBlocksGo (h : s.PathsOk) : s.podBlocksGo.PathsOk := by
  unfold State.podBlocksGo
  extract_lets +onlyGivenNames l s1
  have h1 : s1.PathsOk := by
    unfold s1
    refine h.foldl fun s x h => ?_
    split
    next t e => exact (h.passCell e).takePods
    · exact h
  exact h1.frame

theorem podWriteSpec_keeps : podWriteSpec.Keeps := by
  intro s d h
  dsimp only [podWriteSpec]
  split
  next t e => exact (h.passCell (Option.ite_none_left_eq_some.mp e).2).takePods
  · exact h.countNoCredit.frame

theorem execPodWrite_pathsOk {d : Desc} {block : List Byte} (h : s.PathsOk) : Res.PathsOk (execPodWrite d block s) :=
  (podWriteSpec_keeps.start h).next

theorem podRelookupSpec_keeps : podRelookupSpec.Keeps := fun _ _ h => h.askLookup

theorem execPodRelookup_pathsOk {d : Desc} (h : s.PathsOk) : Res.PathsOk (execPodRelookup d s) :=
  (podRelookupSpec_keeps.start h).next

theorem authenticateSpec_keeps : authenticateSpec.Keeps := by
  intro s d h
  dsimp -zeta only [authenticateSpec]
  split
  · exact h.authStart
  · exact h.finish

theorem execAuthenticate_pathsOk {d : Desc} (h : s.PathsOk) : Res.PathsOk (execAuthenticate d s) :=
  (authenticateSpec_keeps.start h).next

theorem execAuthTimeout_pathsOk (h : s.PathsOk) : Res.PathsOk (execAuthTimeout p s) := by
  unfold execAuthTimeout
  refine State.PathsOk.next ?_
  refine h.onExpiry fun s h => ?_
  split
  · exact h
  · exact h.jobItem.authEnd

theorem State.PathsOk.discSend (h : s.PathsOk) : (s.discSend p).PathsOk := h.modPod.say

theorem State.PathsOk.discSilent (h : s.PathsOk) : (s.discSilent p).PathsOk := by
  unfold State.discSilent
  exact h.stop.modPod.amsEnd.noIdentity.either h.stop.modPod.amsEnd.discSend

theorem State.PathsOk.discAnswer {m : PdMsg} (h : s.PathsOk) : (s.discAnswer p m).PathsOk := by
  unfold State.discAnswer
  exact h.stop.modPod.amsEnd.modPod.either <|
    (h.stop.modPod.amsEnd.modPod.noIdentity.either h.stop.modPod.amsEnd.modPod.start).either <|
    h.stop.modPod.amsEnd.noIdentity

theorem State.PathsOk.fleetSend {k pos : ℕ} (h : s.PathsOk) : (s.fleetSend p k pos).PathsOk := h.modPod.amsEnd.say

theorem State.PathsOk.fleetFail {why : ℕ} (h : s.PathsOk) : (s.fleetFail p why).PathsOk :=
  h.stopAll.modPod.amsEnd.eventP.finishAll

theorem State.PathsOk.fleetAnswer {m : PdMsg} (h : s.PathsOk) : (s.fleetAnswer p m).PathsOk := by
  unfold State.fleetAnswer
  dsimp only
  split
  · exact h.fleetFail
  · split
    · exact h.fleetFail
    · split
      · exact h.stopAll.fleetSend.either h.stopAll.fleetFail
      · split
        · split
          · exact h.stopAll.fleetFail
          · exact h.stopAll.modPod.fleetSend
        · exact h.stopAll.modPod.amsEnd.modSes.eventP.finishAll

theorem execFleetModeEntry_pathsOk (h : s.PathsOk) : Res.PathsOk (execFleetModeEntry p s) :=
  (h.fleetSend.either h).next

theorem execFleetEnterModeTimeout_pathsOk (h : s.PathsOk) : Res.PathsOk (execFleetEnterModeTimeout p s) :=
  (h.onExpiry fun _ h => h.fleetFail.either h).next

theorem State.PathsOk.fleetExit (h : s.PathsOk) : (s.fleetExit p).PathsOk := h.say

theorem fleetModeSpec_keeps : fleetModeSpec.Keeps := fun _ _ h => h.fleetSend.either h.fleetExit

theorem execFleetMode_pathsOk {d : Desc} (h : s.PathsOk) : Res.PathsOk (execFleetMode d s) :=
  (fleetModeSpec_keeps.start h).next

theorem State.PathsOk.fleetExited {ok : Bool} (h : s.PathsOk) : (s.fleetExited p ok).PathsOk :=
  h.amsEnd.modPod.finishAll.either h.amsEnd.finishAll

theorem State.PathsOk.vdmRequest {m : PdMsg} (h : s.PathsOk) : (s.vdmRequest p m).PathsOk := by
  unfold State.vdmRequest
  dsimp only
  split
  · split
    next t e => exact ((h.toCores e).modPod).start
    · exact h.vdmDiscard.say
  · exact h.say

theorem State.PathsOk.vdmUnstructured {m : PdMsg} (h : s.PathsOk) : (s.vdmUnstructured p m).PathsOk :=
  ((h.vdmDiscard.getD fun _ => h.toCores).amsEnd).either (h.say.either h.amsEnd)

theorem State.PathsOk.vdmGot {m : PdMsg} (h : s.PathsOk) : (s.vdmGot p m).PathsOk := by
  unfold State.vdmGot
  exact h.vdmUnstructured.either <| h.vdmRequest.either <| h.discAnswer.either <| h.fleetAnswer.either <|
    (h.amsEnd.vdmDiscard.getD fun _ => h.amsEnd.toCores).either <| h.odd.either <| h.amsEnd

theorem State.PathsOk.securityResponse {m : PdMsg} (h : s.PathsOk) : (s.securityResponse p m).PathsOk :=
  h.amsEnd.vdmDiscard.getD fun _ => h.amsEnd.toCores

theorem execVdmAnswerTimeout_pathsOk (h : s.PathsOk) : Res.PathsOk (execVdmAnswerTimeout p s) :=
  (h.onExpiry fun _ h => h.modPod.say.either h).next

theorem State.PathsOk.authLost (h : s.PathsOk) : (s.authLost p).PathsOk := h.authEnd.either h

theorem State.PathsOk.vdmMeet (h : s.PathsOk) : (s.vdmMeet p).2.PathsOk := by
  unfold State.vdmMeet
  exact h.meetHead.dropHead.authLost.either h.meetHead

theorem State.PathsOk.vdmPop (h : s.PathsOk) : (s.vdmPop p).PathsOk := h.popped

theorem execVdmtxItem_pathsOk (h : s.PathsOk) : Res.PathsOk (execVdmtxItem p s) := by
  unfold execVdmtxItem
  refine State.PathsOk.next ?_
  extract_lets +onlyGivenNames q
  split
  next t e =>
    have ht : t.PathsOk := h.vdmMeet.snd e
    split
    · exact ht
    · exact ht.vdmPop.either <| (ht.vdmPop.emit.either <| ht.vdmPop.pdSend.either ht).either <|
        (ht.vdmPop.either <| ht.vdmPop.emit.either ht.vdmPop.stop.modPod.pdSend).either <| ht.either ht.vdmPop

theorem execAuthResult_pathsOk (h : s.PathsOk) : Res.PathsOk (execAuthResult p s) := by
  unfold execAuthResult
  refine State.PathsOk.next ?_
  split
  next t e =>
    have ht : t.PathsOk := h.vdmMeet.snd e
    split
    · exact ht
    · exact ht.either <| ht.vdmPop.modPod.either <| ht.vdmPop.authEnd.either ht.vdmPop

/-! ### Swaps -/

theorem State.PathsOk.swapOver (h : s.PathsOk) : (s.swapOver p).PathsOk := h.stopAll.modSwap.setSeq.amsEnd

theorem State.PathsOk.waitOver {w : WaitKind} (h : s.PathsOk) : (s.waitOver p w).PathsOk := h.stop.modPol.either h

theorem State.PathsOk.swapDone {k : SwapKind} {own : Bool} (h : s.PathsOk) : (s.swapDone p k own).PathsOk :=
  h.waitOver.finishAll.either (h.waitOver.modSwap.either h)

theorem State.PathsOk.swapFail {status : ℕ} (h : s.PathsOk) : (s.swapFail p status).PathsOk := by
  unfold State.swapFail
  exact ((((h.swapOver.waitOver.either h.swapOver.waitOver.modSwap.eventP).finishAll).eventP).start).either <|
    (h.swapOver.waitOver.either h.swapOver.waitOver.modSwap.eventP).finishAll

theorem State.PathsOk.swapSeq {k : SwapKind} (h : s.PathsOk) : (s.swapSeq p k).PathsOk := h.either h.setSeq

theorem State.PathsOk.swapAsk {k : SwapKind} (h : s.PathsOk) : (s.swapAsk p k).PathsOk := h.modSwap.swapSeq.say

theorem State.PathsOk.swapStart {k : SwapKind} (h : s.PathsOk) : (s.swapStart p k).PathsOk :=
  h.swapAsk.either h.modSwap

theorem State.PathsOk.swapServe {k : SwapKind} (h : s.PathsOk) : (s.swapServe p k).PathsOk := h.modSwap.swapSeq.say

theorem State.PathsOk.swapReject {k : SwapKind} (h : s.PathsOk) : (s.swapReject p k).PathsOk := h.say.eventP

theorem State.PathsOk.autoReturn (h : s.PathsOk) : (s.autoReturn p).PathsOk := h.swapAsk.either h

theorem State.PathsOk.toSink (h : s.PathsOk) : (s.toSink p).PathsOk := h.modCc.swapOver.modSwap.modPd.start

theorem State.PathsOk.askBf {why : ℕ} (h : s.PathsOk) : (s.askBf p why).PathsOk := h.modEf.either h

theorem State.PathsOk.prAccepted (h : s.PathsOk) : (s.prAccepted p).PathsOk := by
  unfold State.prAccepted
  dsimp only
  split
  · exact h.stop.modSwap.start
  · exact h.stop.openBf.modEf.modSwap.start
  · exact h.stop

theorem State.PathsOk.leaveSource (h : s.PathsOk) : (s.leaveSource p).PathsOk := h.openPath.closeSession.endContract

theorem State.PathsOk.presentRd (h : s.PathsOk) : (s.presentRd p).PathsOk := h.modCc

theorem State.PathsOk.swapS4 (h : s.PathsOk) : (s.swapS4 p).PathsOk := h.presentRd.modSwap.say

theorem State.PathsOk.swapToSink (h : s.PathsOk) : (s.swapToSink p).PathsOk :=
  (h.toSink.modSwap.eventP.askBf.either h.toSink.modSwap.eventP.autoReturn).swapDone

theorem State.PathsOk.swapT4 (h : s.PathsOk) : (s.swapT4 p).PathsOk := h.stop.modCc.modSwap.requestPath

theorem State.PathsOk.swapToSource (h : s.PathsOk) : (s.swapToSource p).PathsOk :=
  h.modCc.modPd.swapOver.modSwap.stopAll.toStartup.eventP.swapDone

theorem State.PathsOk.vcAccepted (h : s.PathsOk) : (s.vcAccepted p).PathsOk :=
  h.stop.modSwap.start.either (h.stop.modSwap.vconnApply.either h.stop.modSwap.sinkReset)

theorem State.PathsOk.vcDone (h : s.PathsOk) : (s.vcDone p).PathsOk :=
  ((h.swapOver.eventP.modPol.either h.swapOver.eventP).latchReneg).swapDone

theorem State.PathsOk.vcGiven (h : s.PathsOk) : (s.vcGiven p).PathsOk := h.stop.vconnOff.either h.stop.vconnOff.vcDone

theorem State.PathsOk.gotPrSwap (h : s.PathsOk) : (s.gotPrSwap p).PathsOk :=
  (h.swapServe.either h.swapReject).either (h.notSupported.either (h.swapServe.either h.swapReject))

theorem State.PathsOk.gotVconnSwap (h : s.PathsOk) : (s.gotVconnSwap p).PathsOk := h.swapServe.either h.swapReject

theorem State.PathsOk.gotGetSinkCap (h : s.PathsOk) : (s.gotGetSinkCap p).PathsOk := h.say.either h.notSupported

theorem State.PathsOk.withdraw (h : s.PathsOk) : (s.withdraw p).PathsOk := by
  unfold State.withdraw
  extract_lets +onlyGivenNames held s1
  have h1 : s1.PathsOk := by
    unfold s1
    split
    · exact h.endTx.either h
    · exact h
  exact h1.stop.modSwap.setSeq

theorem roleSwapSpec_keeps : roleSwapSpec.Keeps := fun _ _ h => h.swapStart

theorem vconnSwapSpec_keeps : vconnSwapSpec.Keeps := fun _ _ h => h.swapStart

theorem execRoleSwap_pathsOk {d : Desc} (h : s.PathsOk) : Res.PathsOk (execRoleSwap d s) :=
  (roleSwapSpec_keeps.start h).next

theorem execVconnSwap_pathsOk {d : Desc} (h : s.PathsOk) : Res.PathsOk (execVconnSwap d s) :=
  (vconnSwapSpec_keeps.start h).next

theorem State.PathsOk.reevaluate (h : s.PathsOk) : (s.reevaluate p).PathsOk := by
  unfold State.reevaluate
  dsimp only
  split
  · exact h
  · split
    · split
      · exact h.modSwap.finish
      · split
        · exact h.modSwap.swapAsk
        · exact h.modSwap.finish
    · split
      · exact h.modSwap.finish
      · split
        · exact h.modSwap.swapAsk
        · exact h.modSwap.finish
    · exact h.modSwap

theorem State.PathsOk.gotWait {k : WaitKind} {giveUp : State → State} (h : s.PathsOk) (hg : ∀ s, s.PathsOk →
  (giveUp s).PathsOk) :
    (s.gotWait p k giveUp).PathsOk := by
  unfold State.gotWait
  exact (hg _ h.waitOver).either (h.amsEnd.either h.swapOver).modPol.start

theorem State.PathsOk.retryWait (h : s.PathsOk) : (s.retryWait p).PathsOk := by
  unfold State.retryWait
  dsimp only
  split
  · exact h
  · split
    · exact h
    · exact h.modSwap.say
    · exact h.either h.swapAsk
    · exact h.either h.swapAsk

theorem execArmedSetRecompute_pathsOk (h : s.PathsOk) : Res.PathsOk (execArmedSetRecompute s) :=
  (h.forPorts fun _ _ h => h.modSwap.modWm).next

theorem State.PathsOk.holdupStart (h : s.PathsOk) : (s.holdupStart p).PathsOk :=
  h.flushTx.amsDrop.stopAll.modPd.modPod.modPol.setPoint.modCnv.modSwap.emit

theorem State.PathsOk.frProceed (h : s.PathsOk) : (s.frProceed p).PathsOk := h.presentRd.modSwap.say.either h

theorem State.PathsOk.frF3 (h : s.PathsOk) : (s.frF3 p).PathsOk := h.leaveSource.modSwap.start.askBf.frProceed

theorem execHoldupVbusLow_pathsOk (h : s.PathsOk) : Res.PathsOk (execHoldupVbusLow p s) := (h.frF3.either h).next

theorem State.PathsOk.donorFail {why : ℕ} (h : s.PathsOk) : (s.donorFail p why).PathsOk := by
  unfold State.donorFail
  exact h.eventP.openBf.modEf.hrRequest.modSwap

theorem execTakeoverLimitExpiry_pathsOk (h : s.PathsOk) : Res.PathsOk (execTakeoverLimitExpiry p s) := by
  unfold execTakeoverLimitExpiry
  exact (h.onExpiry fun _ h => h.donorFail).next

theorem execFrSwapSignalEnd_pathsOk (h : s.PathsOk) : Res.PathsOk (execFrSwapSignalEnd p s) := (h.start.either h).next

theorem State.PathsOk.frNoMessage {sub : ℕ} (h : s.PathsOk) : (s.frNoMessage p sub).PathsOk :=
  ((((h.frF3.either h).presentRd).toSink).eventP).autoReturn

theorem execFrSwapWaitExpiry_pathsOk (h : s.PathsOk) : Res.PathsOk (execFrSwapWaitExpiry p s) :=
  (h.onExpiry fun _ h => h.frNoMessage.either h).next

theorem State.PathsOk.gotFrSwap (h : s.PathsOk) : (s.gotFrSwap p).PathsOk := h.stop.modSwap.say

theorem execBackfeedClose_pathsOk (h : s.PathsOk) : Res.PathsOk (execBackfeedClose p s) :=
  (h.either (h.closeBf.stop.modSwap.either h.closeBf.stop)).next

theorem execBfeedOnLevelReached_pathsOk (h : s.PathsOk) : Res.PathsOk (execBfeedOnLevelReached p s) := by
  unfold execBfeedOnLevelReached
  refine State.PathsOk.next ?_
  extract_lets +onlyGivenNames e s1
  split
  next hc =>
    obtain ⟨hpath, hgate⟩ := EfState.backfeed_of_bfCmd (h.port p) hc.1
    have h1 : s1.PathsOk := h.modEf_of (EfState.pathOk_backfeed hpath hgate)
    exact h1.eventP.finishAll
  · exact h

theorem State.PathsOk.bfOpened {c : BfCause} (h : s.PathsOk) : (s.bfOpened p c).PathsOk := by
  unfold State.bfOpened
  exact h.either (h.openBf.modEf.eventP.donorFail.either (h.openBf.modEf.eventP.start.either h.openBf.modEf.eventP))

theorem execBackfeedOpened_pathsOk {cause : BfCause} (h : s.PathsOk) : Res.PathsOk (execBackfeedOpened p cause s) :=
  (h.either h.bfOpened).next

theorem execBackfeedReclose_pathsOk (h : s.PathsOk) : Res.PathsOk (execBackfeedReclose p s) :=
  (h.onExpiry fun _ h => h.modEf.askBf.either h).next

theorem State.PathsOk.holdupEnd (h : s.PathsOk) : s.holdupEnd.PathsOk := h.frame.eventD.either h

theorem execReturnCriterion_pathsOk (h : s.PathsOk) : Res.PathsOk (execReturnCriterion p s) := by
  unfold execReturnCriterion
  extract_lets +onlyGivenNames s1 q s2 s3
  have h1 : s1.PathsOk := h.modSwap.holdupEnd
  have h3 : s3.PathsOk := (h1.modSwap.requestPath.either h1.modSwap).either h1
  exact (h.either h3.hrH5.modSwap.autoReturn).next

theorem execHoldupReturnRetry_pathsOk (h : s.PathsOk) : Res.PathsOk (execHoldupReturnRetry p s) :=
  (h.onExpiry fun _ h => h.autoReturn).next

theorem execGetSinkCapStart_pathsOk (h : s.PathsOk) : Res.PathsOk (execGetSinkCapStart p s) :=
  (h.modSwap.say.either h).next

theorem State.PathsOk.gotSinkCap {m : PdMsg} (h : s.PathsOk) : (s.gotSinkCap p m).PathsOk := h.modSwap.stop.amsEnd

theorem vconnSetSpec_keeps : vconnSetSpec.Keeps := fun _ _ h => h.vconnApply.either h.vconnOff

theorem execVconnSet_pathsOk {d : Desc} (h : s.PathsOk) : Res.PathsOk (execVconnSet d s) :=
  (vconnSetSpec_keeps.start h).next

theorem execVconnPinSettled_pathsOk (h : s.PathsOk) : Res.PathsOk (execVconnPinSettled p s) :=
  State.PathsOk.next <| h.either <| h.modCc.say.either <| h.modCc.vcDone.either <|
    h.modCc.modPol.latchReneg.finishAll.either h.modCc.finishAll.detachDone

theorem backfeedSetSpec_keeps : backfeedSetSpec.Keeps := fun _ _ h => h.bfOpened.finish.either h.stop.modEf

theorem execBackfeedSet_pathsOk {d : Desc} (h : s.PathsOk) : Res.PathsOk (execBackfeedSet d s) :=
  (backfeedSetSpec_keeps.start h).next

theorem execPsSourceOnExpiry_pathsOk (h : s.PathsOk) : Res.PathsOk (execPsSourceOnExpiry p s) := by
  unfold execPsSourceOnExpiry
  refine State.PathsOk.next ?_
  refine h.onExpiry fun s h => ?_
  split
  · exact h.hrRequest
  · exact h.frNoMessage
  · exact h

theorem execPsSourceOffExpiry_pathsOk (h : s.PathsOk) : Res.PathsOk (execPsSourceOffExpiry p s) :=
  (h.onExpiry fun _ h => h.hrRequest.either h).next

theorem execVconnSourceTimeoutExpiry_pathsOk (h : s.PathsOk) : Res.PathsOk (execVconnSourceTimeoutExpiry p s) :=
  (h.onExpiry fun _ h => h.sinkReset.either h).next

theorem execPsTransitionExpiry_pathsOk (h : s.PathsOk) : Res.PathsOk (execPsTransitionExpiry p s) :=
  (h.onExpiry fun _ h => h.sinkReset.either h).next

theorem execSinkWaitCapExpiry_pathsOk (h : s.PathsOk) : Res.PathsOk (execSinkWaitCapExpiry p s) :=
  (h.onExpiry fun _ h => h.either (h.say.start.either h.hrRequest)).next

theorem execWaitSpacingExpiry_pathsOk (h : s.PathsOk) : Res.PathsOk (execWaitSpacingExpiry p s) :=
  (h.onExpiry fun _ h => h.retryWait).next

theorem State.PathsOk.sinkCaps {m : PdMsg} (h : s.PathsOk) : (s.sinkCaps p m).PathsOk := h.stop.waitOver.modSwap.say

theorem State.PathsOk.sinkReady (h : s.PathsOk) : (s.sinkReady p).PathsOk := h.stop.modSwap.amsEnd.waitOver.eventP

theorem State.PathsOk.snkAnswered (h : s.PathsOk) : (s.snkAnswered p).PathsOk := h.modSwap

theorem State.PathsOk.gotInSink {m : PdMsg} (h : s.PathsOk) : (s.gotInSink p m).PathsOk := by
  unfold State.gotInSink
  exact (h.stop.modSwap.amsEnd.start.either h.sinkLost).either <| h.sinkCaps.either <| h.snkAnswered.start.either <|
    (h.sinkReady.either h.odd).either <| h.snkAnswered.waitOver.amsEnd.either <|
    (h.snkAnswered.gotWait fun _ h => h.amsEnd).either <| h.gotGetSinkCap.either <| h.gotPrSwap.either <|
    h.gotVconnSwap.either <| h.say.start.either <| h.amsEnd.either <| h.gotElse

theorem State.PathsOk.gotInSwap {m : PdMsg} (h : s.PathsOk) : (s.gotInSwap p m).PathsOk := by
  unfold State.gotInSwap
  exact (h.withdraw.gotVconnSwap.either h.withdraw.gotPrSwap).either <| (h.vcAccepted.either h.prAccepted).either <|
    h.swapFail.either <| h.swapFail.either <| (h.stop.gotWait fun _ h => h.swapFail).either <| h.gotFrSwap.either <|
    (h.stop.swapToSink.either (h.swapT4.either (h.vcGiven.either (h.stop.swapToSink.either h.odd)))).either <|
    h.gotGetSinkCap.either <| h.odd.either <| h.odd

theorem State.PathsOk.swapOutcome {m : PdMsg} {o : TxOutcome} (h : s.PathsOk) : (s.swapOutcome p m o).PathsOk := by
  unfold State.swapOutcome
  dsimp only
  split
  · exact h.modSwap.setSeq.either h
  · split
    · exact h.swapFail.either ((h.start.either h).either h.odd)
    · split
      · exact h
      · split
        · exact h.modSwap.start
        · split
          · split
            · exact h.vcAccepted
            · exact h.modSwap.frProceed
            · exact h
            · exact h.prAccepted
          · split
            · split
              · exact h.modSwap.start
              · exact h.start
              · exact h.swapToSource
              · exact h.vcDone
              · exact h
            · exact h

/-! ### Policy -/

theorem State.PathsOk.cableDone (h : s.PathsOk) : (s.cableDone p).PathsOk := h.stopAll.amsEnd.toSendCaps

theorem State.PathsOk.eprRefuse {code : ℕ} (h : s.PathsOk) : (s.eprRefuse p code).PathsOk := h.stop.modPol.say.eventP

theorem State.PathsOk.eprCableFail (h : s.PathsOk) : (s.eprCableFail p).PathsOk := h.eprRefuse

theorem State.PathsOk.cableSend (h : s.PathsOk) : (s.cableSend p).PathsOk :=
  h.say.either (h.say.modPol.cableDone.either (h.say.eprCableFail.either h.say.modPol.amsEnd))

theorem State.PathsOk.cableAgain (h : s.PathsOk) : (s.cableAgain p).PathsOk :=
  h.cableDone.either h.modPol.amsEnd.cableSend

theorem State.PathsOk.cableTake {m : PdMsg} (h : s.PathsOk) : (s.cableTake p m).PathsOk := by
  unfold State.cableTake
  dsimp only
  split
  · exact h
  · exact h.modPol.modPd.either h.modPol.modPd.latchReneg

theorem State.PathsOk.eprChecked (h : s.PathsOk) : (s.eprChecked p).PathsOk := by
  unfold State.eprChecked
  dsimp only
  split
  · exact h.modPol.say
  · exact h.eprRefuse

theorem State.PathsOk.gotCable {m : PdMsg} (h : s.PathsOk) : (s.gotCable p m).PathsOk := by
  unfold State.gotCable
  extract_lets +onlyGivenNames q isId s1 s2
  have h1 : s1.PathsOk := h.stop
  have h2 : s2.PathsOk := h1.modPol.amsEnd
  exact (h1.cableTake.modPod.cableDone.either <| (h1.cableDone.either h1.start).either <|
    h1.cableDone.either h1).either <|
    (h1.cableTake.eprChecked.either h1.eprCableFail).either <| (h2.cableTake.either h2).either h

theorem State.PathsOk.cableSilent (h : s.PathsOk) : (s.cableSilent p).PathsOk :=
  h.cableAgain.either (h.eprCableFail.either h.modPol.amsEnd)

theorem State.PathsOk.cableOutcome {o : TxOutcome} (h : s.PathsOk) : (s.cableOutcome p o).PathsOk := by
  unfold State.cableOutcome
  split
  · exact h.start
  · exact h.modPol.either h.cableSilent
  · exact h.cableSilent
  · exact h.cableSilent
  · exact h

theorem State.PathsOk.cableDue (h : s.PathsOk) : (s.cableDue p).PathsOk := h.modPol.cableSend.either h

theorem execCableDiscTimeout_pathsOk (h : s.PathsOk) : Res.PathsOk (execCableDiscTimeout p s) :=
  (h.onExpiry fun _ h => h.cableDone.either h).next

theorem execCableRediscovery_pathsOk (h : s.PathsOk) : Res.PathsOk (execCableRediscovery p s) :=
  (h.onExpiry fun _ h => h.either (h.start.modPol.cableSend.either h.start)).next

theorem State.PathsOk.evalReq {m : PdMsg} (h : s.PathsOk) : (s.evalReq p m).PathsOk := by
  unfold State.evalReq
  extract_lets +onlyGivenNames r s1
  have h1 : s1.PathsOk := h.stop.setSeq
  split
  · extract_lets +onlyGivenNames s2 s3 s4
    have h3 : s3.PathsOk := (h1.eventP.either h1).modPol
    exact (h3.start.either h3).say
  · exact h1.modPol.say.eventP

theorem State.PathsOk.accepted {c : Contract} (h : s.PathsOk) : (s.accepted p c).PathsOk := by
  unfold State.accepted
  extract_lets +onlyGivenNames f held s1 s2 s3 lim s4
  have h1 : s1.PathsOk := h.endTrim
  have h3 : s3.PathsOk := (h1.modCnv.either h1).modPol
  exact (h3.setILim.either h3).start.start

theorem State.PathsOk.rejected (h : s.PathsOk) : (s.rejected p).PathsOk :=
  h.toReady.either (h.hrRequest.either h.setSeq.start)

theorem State.PathsOk.established {c : Contract} (h : s.PathsOk) : (s.established p c).PathsOk := by
  unfold State.established
  extract_lets +onlyGivenNames x f fresh w s1 s2 sub v s3 s4 s5 s6 s7
  have h2 : s2.PathsOk := h.modPol.setILim.modPd
  have h4 : s4.PathsOk := h2.modPol.openSession.eventP
  have h5 : s5.PathsOk := (h4.modPol.start.either h4).either h2.eventP
  have h6 : s6.PathsOk := h5.sesContract
  exact (h6.start.either h6.stop).toReady

theorem execSrcTransitionExpiry_pathsOk (h : s.PathsOk) : Res.PathsOk (execSrcTransitionExpiry p s) := by
  unfold execSrcTransitionExpiry
  dsimp only
  refine State.PathsOk.next ?_
  refine h.onExpiry fun s h => ?_
  split
  · exact h.setPointSlew
  · exact h.leaveSource.modSwap.either h
  · exact h

theorem execTransitionLimitExpiry_pathsOk (h : s.PathsOk) : Res.PathsOk (execTransitionLimitExpiry p s) :=
  (h.onExpiry fun _ h => h.modPol.eventP.hrRequest.either h).next

theorem State.PathsOk.eprEnter (h : s.PathsOk) : (s.eprEnter p).PathsOk := by
  unfold State.eprEnter
  dsimp only
  split
  · exact h.eprRefuse
  · exact h.modPol.say

theorem State.PathsOk.eprEntered (h : s.PathsOk) : (s.eprEntered p).PathsOk := h.modPol.eventP.start.stop.toSendCaps

theorem State.PathsOk.eprCheck (h : s.PathsOk) : (s.eprCheck p).PathsOk := h.toSendCaps.either h

theorem State.PathsOk.gotSoftReset (h : s.PathsOk) : (s.gotSoftReset p).PathsOk := h.amsDrop.modPol.say

theorem State.PathsOk.gotNotSupported {m : PdMsg} (h : s.PathsOk) : (s.gotNotSupported p m).PathsOk := by
  unfold State.gotNotSupported
  exact h.modPod.amsEnd.noIdentity.either (h.fleetFail.either (h.stop.amsEnd.either
    (h.securityResponse.either h.amsEnd)))

theorem State.PathsOk.gotBist {m : PdMsg} (h : s.PathsOk) : (s.gotBist p m).PathsOk :=
  h.amsEnd.either (h.amsEnd.emit.either (h.amsEnd.modPd.either h.amsEnd))

theorem State.PathsOk.gotInReady {m : PdMsg} (h : s.PathsOk) : (s.gotInReady p m).PathsOk := by
  unfold State.gotInReady
  exact h.evalReq.either <| h.toSendCaps.either <| (h.eprEnter.either (h.endEpr.toSendCaps.either h.odd)).either <|
    (h.say.either h.odd).either <| h.say.either <| h.gotGetSinkCap.either <| h.gotPrSwap.either <|
    h.gotVconnSwap.either <| h.gotSinkCap.either <| h.gotNotSupported.either <| h.stop.amsEnd.either <|
    h.odd.either <| h.odd

theorem State.PathsOk.gotSide {m : PdMsg} (h : s.PathsOk) (e : s.gotSide p m = some t) : t.PathsOk := by
  unfold State.gotSide at e
  dsimp only at e
  split at e
  · cases e; exact h.gotBist
  · split at e
    · cases e; exact h.vdmGot
    · split at e
      · cases e; exact h.securityResponse
      · split at e
        · cases e; exact h.vdmDiscard.getD fun _ => h.toCores
        · cases e

theorem State.PathsOk.gotSop {m : PdMsg} (h : s.PathsOk) : (s.gotSop p m).PathsOk := by
  unfold State.gotSop
  extract_lets +onlyGivenNames s1 q s2
  have h1 : s1.PathsOk := h.modPol
  have h2 : s2.PathsOk := h1.start.either h1
  split
  · exact h2.amsEnd
  · split
    · exact h2.modSwap
    · split
      · exact h2
      · exact h2
      · exact h2
      · exact h2
      · split
        next t e => exact h2.gotSide e
        · extract_lets +onlyGivenNames soft
          split
          · exact h2.swapReject
          · split
            · exact h2.gotSoftReset.either (h2.stop.evalReq.either h2.gotElse)
            · exact h2.gotSoftReset.either (h2.evalReq.either h2.gotElse)
            · exact h2.gotSoftReset.either h2.gotElse
            · exact h2.gotSoftReset.either h2.gotElse
            · exact h2.gotElse
            · exact h2.gotSoftReset.either h2.gotInReady
            · exact h2.gotSoftReset.either (h2.stop.amsEnd.toSendCaps.either h2.odd)
            · exact h2.gotInSwap
            · exact h2.gotInSwap.either h2.gotInSink
            · exact h2

theorem State.PathsOk.gotService {m : PdMsg} (h : s.PathsOk) : (s.gotService p m).PathsOk :=
  (h.amsEnd.vdmDiscard.getD fun _ => h.amsEnd.toCores).either h.amsEnd

theorem State.PathsOk.dropped {m : PdMsg} {early : Bool} (h : s.PathsOk) : (s.dropped p m early).PathsOk := by
  unfold State.dropped
  dsimp only
  split
  · exact h.modPol.start.either (h.modPol.setSeq.either h.modPol)
  · exact h.swapOutcome
  · exact h.swapOutcome.either ((h.fleetExited.either (h.modPod.either h.modPod)).either (h.modSwap.either h))

theorem State.PathsOk.capsOutcome {o : TxOutcome} (h : s.PathsOk) : (s.capsOutcome p o).PathsOk := by
  unfold State.capsOutcome
  dsimp only
  split
  · exact h.modPol.start.foldl fun _ _ h => h.finish
  · exact h.hrRequest.either (h.start.either h.toNoPd)
  · exact h.hrRequest.either (h.start.either h.toNoPd)
  · exact h

theorem State.PathsOk.readyAcked {m : PdMsg} (h : s.PathsOk) : (s.readyAcked p m).PathsOk :=
  (h.fleetExited.either (h.start.either h.start)).either (h.start.either (h.amsEnd.toSendCaps.either h.amsEnd))

theorem State.PathsOk.outcome {m : PdMsg} {o : TxOutcome} (h : s.PathsOk) : (s.outcome p m o).PathsOk := by
  unfold State.outcome
  extract_lets +onlyGivenNames q
  have hcaps : ((s.amsEnd p).toSendCaps p true).PathsOk := h.amsEnd.toSendCaps
  refine h.cableOutcome.either <| h.either <| h.dropped.either <| (h.softReset.either h).either ?_
  cases q.pol.seq with
  | sendCaps => exact h.capsOutcome.either <| hcaps.either <| h.odd.either h
  | waitRequest => exact hcaps.either <| h.odd.either h
  | negotiate =>
    refine State.PathsOk.either (State.PathsOk.either ?_ (h.rejected.either h)) (h.odd.either h)
    split
    · exact h.accepted
    · exact hcaps
  | transition =>
    refine State.PathsOk.either (State.PathsOk.either ?_ (h.hrRequest.either h)) h
    split
    · exact h.established
    · exact h
  | ready => exact h.readyAcked.either <| h.odd.either h
  | eprEntry =>
    exact (hcaps.either <| h.either <| h.modPol.cableSend.either <| h.eprEntered.either h).either <| h.odd.either h
  | softReset => exact (h.start.either <| hcaps.either h).either <| h.hrRequest.either h
  | swap => exact h.swapOutcome
  | sink =>
    exact h.swapOutcome.either <| (h.fleetExited.either <| h.start.either <| h.either h.amsEnd).either <|
      (h.sinkLost.either h.odd).either h
  | _ => exact h

theorem State.PathsOk.note {n : PdNote} (h : s.PathsOk) : (s.note p n).PathsOk := by
  unfold State.note
  split
  · exact h.fleetExited.either h.amsDone
  · exact h.outcome
  · exact h.fleetExited.either h
  · exact h.cableOutcome.either h.dropped
  · exact h.gotService.either (h.gotSop.either h.gotCable)
  · exact h.odd
  · exact h.odd

theorem State.PathsOk.idleWork (h : s.PathsOk) : (s.idleWork p).PathsOk :=
  h.reevaluate.retryWait.autoReturn.eprCheck.cableDue

theorem State.PathsOk.settle {l : List PdNote} (h : s.PathsOk) : (s.settle p l).PathsOk :=
  (((h.foldl fun _ _ h => h.note).admitTx).nextTx).idleWork

theorem State.PathsOk.takePin {pin : Pin} {k : Sopx} (h : s.PathsOk) : (s.takePin p pin k).PathsOk := h.modCc.either h

theorem execPdMessageReceived_pathsOk {pin : Pin} {f : PdFrame} (h : s.PathsOk) :
    Res.PathsOk (execPdMessageReceived p pin f s) := by
  unfold execPdMessageReceived
  dsimp only
  refine State.PathsOk.next ?_
  split
  · exact h
  · exact h.either (h.badFrame.either (h.takePin.either ((h.takePin.pdTake.modPd.either h.takePin.pdTake).settle)))

theorem execChannelIdle_pathsOk (h : s.PathsOk) : Res.PathsOk (execChannelIdle p s) :=
  (h.startFrame.either h.startFrame.settle).next

theorem execGoodcrcReceived_pathsOk {sopx : Sopx} {id : BitVec 3} (h : s.PathsOk) :
    Res.PathsOk (execGoodcrcReceived p sopx id s) :=
  h.onGoodCrc.settle.next

theorem execTreceiveExpiry_pathsOk (h : s.PathsOk) : Res.PathsOk (execTreceiveExpiry p s) :=
  (h.onExpiry fun _ h => h.onTReceive.settle).next

theorem execChunkTimerExpiry_pathsOk (h : s.PathsOk) : Res.PathsOk (execChunkTimerExpiry p s) := by
  unfold execChunkTimerExpiry
  dsimp only
  refine State.PathsOk.next ?_
  split
  · exact h.stop.modPd.settle.either h.stop
  · refine h.onExpiry fun s h => ?_
    split
    · exact h.endTx.settle.either h
    · exact h

theorem execPdtxMessage_pathsOk {m : PdMsg} {prod : PdProd} (h : s.PathsOk) :
    Res.PathsOk (execPdtxMessage p m prod s) :=
  h.pdSend.next

theorem execSopOrderedSetRecognised_pathsOk {x : SopSeen} (h : s.PathsOk) :
    Res.PathsOk (execSopOrderedSetRecognised x s) :=
  ((h.dropFirst.foldl fun _ _ h => h.note).either h).next

theorem execSendSourceCapExpiry_pathsOk (h : s.PathsOk) : Res.PathsOk (execSendSourceCapExpiry p s) :=
  (h.onExpiry fun _ h => h.sendCaps.either h).next

theorem execSenderResponseExpiry_pathsOk (h : s.PathsOk) : Res.PathsOk (execSenderResponseExpiry p s) := by
  unfold execSenderResponseExpiry
  dsimp only
  refine State.PathsOk.next ?_
  refine h.onExpiry fun s h => ?_
  split
  · exact h.hrRequest
  · exact h.hrRequest
  · exact h.swapFail.idleWork.either h
  · exact h.amsEnd.idleWork
  · exact h.sinkLost.either (h.swapFail.idleWork.either h.amsEnd)
  · exact h

theorem execPpsTimeoutExpiry_pathsOk (h : s.PathsOk) : Res.PathsOk (execPpsTimeoutExpiry p s) :=
  (h.onExpiry fun _ h => h.eventP.hrRequest.either h).next

theorem execEprKeepAliveExpiry_pathsOk (h : s.PathsOk) : Res.PathsOk (execEprKeepAliveExpiry p s) :=
  (h.onExpiry fun _ h => h.eventP.hrRequest.either h).next

theorem execVdmResponseTimeout_pathsOk (h : s.PathsOk) : Res.PathsOk (execVdmResponseTimeout p s) :=
  (h.onExpiry fun _ h => h.cableSilent.either (h.discSilent.either (h.fleetFail.either h))).next

theorem execVdmBusyExpiry_pathsOk (h : s.PathsOk) : Res.PathsOk (execVdmBusyExpiry p s) :=
  (h.onExpiry fun _ h => h.cableAgain.either (h.discSend.either h)).next

theorem execDiscoverIdentityStart_pathsOk (h : s.PathsOk) : Res.PathsOk (execDiscoverIdentityStart p s) :=
  (h.discSend.either h).next

theorem execAllocationRound_pathsOk (h : s.PathsOk) : Res.PathsOk (execAllocationRound s) :=
  (h.round.forPorts fun _ _ h => h.sendCaps.either h).next

theorem execRenegotiationCaps_pathsOk (h : s.PathsOk) : Res.PathsOk (execRenegotiationCaps p s) :=
  (h.toSendCaps.either h).next

theorem State.PathsOk.shedBudget {n : ℕ} (h : s.PathsOk) : (State.shedBudget n s).PathsOk := by
  induction n generalizing s with
  | zero => exact h
  | succ n ih =>
    unfold State.shedBudget
    split
    · exact h
    · split
      · exact h
      · exact ih h.hrRequest

theorem execBudgetHardResetExpiry_pathsOk (h : s.PathsOk) : Res.PathsOk (execBudgetHardResetExpiry s) :=
  (h.frame.shedBudget.either h).next

theorem execConnectorTempRead_pathsOk {deciC : ℤ} (h : s.PathsOk) : Res.PathsOk (execConnectorTempRead p deciC s) :=
  (h.modPol.modMtr.modPol.latchReneg.either h.modPol.modMtr).next

theorem renegotiateSpec_keeps : renegotiateSpec.Keeps := fun _ _ h => h.latchReneg

theorem execRenegotiate_pathsOk {d : Desc} (h : s.PathsOk) : Res.PathsOk (execRenegotiate d s) :=
  (renegotiateSpec_keeps.start h).next

/-! ### Trips -/

theorem State.PathsOk.detachRecord {st : PortSt} (h : s.PathsOk) : (s.detachRecord p st).PathsOk := h.eventP.modMtr

theorem State.PathsOk.presentWin (h : s.PathsOk) : (s.presentWin p).PathsOk := h.modCc

theorem State.PathsOk.enterHold {st : PortSt} (h : s.PathsOk) : (s.enterHold p st).PathsOk := by
  unfold State.enterHold
  extract_lets +onlyGivenNames gone s1 s2 s3 s4
  have h3 : s3.PathsOk := h.pdStop.modEf.modCc.modSwap.start
  have h4 : s4.PathsOk := h3.detachRecord.either h3
  exact h4.presentWin.either h4

theorem State.PathsOk.gateRecord {sub mv : ℕ} (h : s.PathsOk) : (s.gateRecord p sub mv).PathsOk := h.eventP

theorem State.PathsOk.pathLost {r : EndReason} {hold : Bool} (h : s.PathsOk) : (s.pathLost p r hold).PathsOk := by
  unfold State.pathLost
  extract_lets +onlyGivenNames q
  cases q.cc.st with
  | attachedSrc | attachedSnk =>
    have h1 : (s.closeSession p r).PathsOk := h.closeSession
    refine State.PathsOk.modSwap (State.PathsOk.either (h1.hrRequest.either <| h1.hrH3.either h1) ?_)
    exact h1.endContract.dropPartnerWork.stopAll.modPol.hrH3
  | debugAcc => exact h.modSwap.either h.modEf
  | attachWait => exact h.modEf
  | _ => exact h

theorem State.PathsOk.tripAway {st : PortSt} {r : EndReason} (h : s.PathsOk) : (s.tripAway p st r).PathsOk := by
  unfold State.tripAway
  exact h.closeSession.hrStart.vconnOff.modPd.either h.closeSession.seqOff.vconnOff.endPort.enterHold

theorem State.PathsOk.laterCause {x : TripSt} {c : TripCause} (h : s.PathsOk) : (s.laterCause p x c).PathsOk :=
  (h.modEf.gateRecord.either h.modEf.gateRecord.tripAway).either h

/-- A trip counts and latches; the outputs open with the path. -/
theorem EfState.outs_afterTrip (e : EfState) (l : List TripCause) : (e.afterTrip l).1.outs = e.outs := by
  unfold EfState.afterTrip
  extract_lets +onlyGivenNames ot e1 n e2
  have h1 : e1.outs = e.outs := by
    unfold e1
    split <;> rfl
  split
  · rfl
  · split
    · split <;> exact h1
    · split <;> exact h1

theorem State.PathsOk.trip {c : TripCause} {mon : Option ℕ} {also : List TripCause} (h : s.PathsOk) :
    (s.trip p c mon also).PathsOk := by
  unfold State.trip
  dsimp -zeta only
  extract_lets +onlyGivenNames q l gate counted donor dest e s1 s2 s3 s4
  have he : e.outs = q.ef.outs := EfState.outs_afterTrip q.ef l
  have h1 : s1.PathsOk := (h.modEf_of ((EfState.pathOk_of_outs he).trans (h.port p))).openPath
  have h2 : s2.PathsOk := h1.start.either h1
  have h4 : s4.PathsOk := h2.event.gateRecord.either h2.event
  cases q.ef.tripping with
  | some t => exact h.laterCause
  | none =>
    refine h.either <| h4.frF3.either ?_
    cases dest with
    | none => exact h4.pathLost.vconnOff.endPort
    | some st => exact h4.tripAway

theorem State.PathsOk.fullAction {m : Fin 32} {also : List TripCause} (h : s.PathsOk) :
    (s.fullAction p m also).PathsOk := by
  unfold State.fullAction
  dsimp only
  split
  · split
    · exact h.modWm.trip
    · exact h.modWm
  · split
    · exact h.modWm.trip
    · exact h.modWm
  · split
    · exact h.modWm.trip
    · exact h.modWm
  · exact h.modWm.bfOpened
  · exact h.modWm.pathTo
  · exact h.modWm

theorem State.PathsOk.armedActs (h : s.PathsOk) : (s.armedActs p).PathsOk := by
  unfold State.armedActs
  dsimp only
  split
  · exact h
  · split
    · exact h.fullAction
    · exact h

theorem State.PathsOk.latchPort {code : ℕ} (h : s.PathsOk) : (s.latchPort p code).PathsOk :=
  h.openPath.modEf.enterHold.either (h.openPath.modEf.either h.openPath.modEf.tripAway)

theorem State.PathsOk.tripSignalled (h : s.PathsOk) : (s.tripSignalled p).PathsOk := by
  unfold State.tripSignalled
  split
  · exact h.seqOff.endPort.enterHold.either h
  · exact h.seqOff.endPort.enterHold.either h

theorem execHardResetSignallingEnd_pathsOk (h : s.PathsOk) : Res.PathsOk (execHardResetSignallingEnd p s) :=
  (h.emit.hrRecord.hrWait.tripSignalled.either h).next

theorem execHardResetReceived_pathsOk (h : s.PathsOk) : Res.PathsOk (execHardResetReceived p s) :=
  (h.either (h.hrRecord.hrWait.tripSignalled.either (h.pdClear.eventP.either h.hrStart.hrRecord.hrWait))).next

theorem State.PathsOk.startUp (h : s.PathsOk) : (s.startUp p).PathsOk := h.cnvStart.setILim

theorem State.PathsOk.vconnStart (h : s.PathsOk) : (s.vconnStart p).PathsOk := h.vconnApply.either h

theorem execGateRiseComplete_pathsOk (h : s.PathsOk) : Res.PathsOk (execGateRiseComplete p s) := by
  unfold execGateRiseComplete
  dsimp only
  refine State.PathsOk.next ?_
  split
  · exact h
  · split
    · exact h.pathTo.modEf.vconnStart.startUp.modCc.modPd.modPol.toStartup.eventP
    · exact h.pathTo.modEf.vconnStart.startUp.modCc.modPd.modPol.toStartup.eventP
    · exact h.pathTo.modEf.vconnStart.startUp.modSwap.toStartup.modSwap.either h.pathTo.modEf.vconnStart.startUp.modSwap
    · exact h.pathTo.modEf.startUp

theorem execGateRiseTimeout_pathsOk {mv : ℕ} (h : s.PathsOk) : Res.PathsOk (execGateRiseTimeout p mv s) :=
  (h.openPath.gateRecord.latchPort.either h).next

theorem execInrushTimeout_pathsOk (h : s.PathsOk) : Res.PathsOk (execInrushTimeout p s) := (h.trip.either h).next

theorem execSoftstartTimeout_pathsOk (h : s.PathsOk) : Res.PathsOk (execSoftstartTimeout p s) :=
  (h.trip.either h).next

theorem State.PathsOk.softEnd (h : s.PathsOk) : (s.softEnd p).PathsOk := by
  unfold State.softEnd
  exact h.modEf.setILim.modWm

theorem execVbusInBand_pathsOk {mv : ℕ} (h : s.PathsOk) : Res.PathsOk (execVbusInBand p mv s) := by
  unfold execVbusInBand
  refine State.PathsOk.next ?_
  extract_lets +onlyGivenNames s1 mv safe s2 q
  have h1 : s1.PathsOk := h.seeVbus
  have h2 : s2.PathsOk := h1.softEnd.either h1
  split
  · exact h2.either (h2.modPol.start.cableSend.either h2.toSendCaps)
  · exact h2.modSwap.toNoPd.either h2
  · split
    · exact h2.stop.say.either h2
    · exact h2
  · exact h2.modSwap.say.either h2
  · exact h2

theorem State.PathsOk.portResetDone {status : ℕ} (h : s.PathsOk) : (s.portResetDone p status).PathsOk :=
  h.foldl fun _ _ h => h.eventP.finish

theorem State.PathsOk.atSafe0 (h : s.PathsOk) : (s.atSafe0 p).PathsOk := by
  unfold State.atSafe0
  extract_lets +onlyGivenNames q s1 s2
  have h1 : s1.PathsOk := (h.vconnOff.seqOff.endPort.enterHold.either h.hrH4).either h
  exact (h1.swapS4.either h1).presentWin.finishAll.detachDone.portResetDone.tryPath

theorem execVsafe0vProven_pathsOk (h : s.PathsOk) : Res.PathsOk (execVsafe0vProven p s) := by
  unfold execVsafe0vProven
  dsimp only
  refine State.PathsOk.next ?_
  split
  · exact h.modEf.pathTo.armedActs.either h.modEf
  · exact h.modEf.pathTo.modEf.atSafe0
  · exact h.modEf.atSafe0.either h.modEf.finishAll.portResetDone
  · exact h.modEf

theorem execPassFetShorted_pathsOk (h : s.PathsOk) : Res.PathsOk (execPassFetShorted p s) := by
  unfold execPassFetShorted
  dsimp only
  refine State.PathsOk.next ?_
  split
  · exact h
  · split
    · exact h.eventP.modEf.either h.eventP.latchPort
    · exact h.eventP.latchPort

/-! ### Attach and detach -/

theorem State.PathsOk.newAttach (h : s.PathsOk) : (s.newAttach p).PathsOk := by
  unfold State.newAttach
  exact h.modCc.modPod.modPol.modSwap.modEf.modMtr

theorem State.PathsOk.toAttachWait (h : s.PathsOk) : (s.toAttachWait p).PathsOk := h.newAttach.modCc

theorem execCcAttachDetected_pathsOk (h : s.PathsOk) : Res.PathsOk (execCcAttachDetected p s) :=
  (h.either (h.toAttachWait.either (h.newAttach.either h))).next

theorem State.PathsOk.classRecord {cause : ℕ} (h : s.PathsOk) : (s.classRecord p cause).PathsOk := h.eventP

theorem State.PathsOk.toWet {st : PortSt} (h : s.PathsOk) : (s.toWet p st).PathsOk :=
  h.modCc.modEf.start.either h.modCc.modEf.start.classRecord

theorem State.PathsOk.toDebugAcc (h : s.PathsOk) : (s.toDebugAcc p).PathsOk :=
  h.modCc.eventP.modPd.requestPath.either h.modCc.eventP.modPd

theorem State.PathsOk.toAudioAcc (h : s.PathsOk) : (s.toAudioAcc p).PathsOk := h.modCc.eventP

theorem State.PathsOk.verdictHeld (h : s.PathsOk) : (s.verdictHeld p).PathsOk := by
  unfold State.verdictHeld
  dsimp only
  split
  · exact h
  · split
    · split
      · exact h.requestPath.either h
      · exact h.toDebugAcc
      · exact h.toAudioAcc
      · exact h
    · exact (h.modCc.either h.modCc.modCc.eventP).either h

theorem State.PathsOk.cableWin (h : s.PathsOk) : (s.cableWin p).PathsOk := h.modCc

theorem State.PathsOk.windowEnd (h : s.PathsOk) : (s.windowEnd p).PathsOk := by
  unfold State.windowEnd
  extract_lets +onlyGivenNames c k1 k2 v s1 named
  clear_value v named
  have h1 : s1.PathsOk := h.modCc
  cases c.st with
  | attachWait =>
    dsimp only
    split
    · exact h1.toWet
    · exact h1.toWet
    · exact h1.modCc.verdictHeld
  | unattached =>
    dsimp only
    split
    · exact h1.toWet
    · exact h1.toWet
    · exact h1.modCc.either h1.cableWin
    · exact h1.cableWin
  | wet | foreign =>
    dsimp only
    split
    · exact h1.toWet
    · exact h1.toWet
    · exact h1.modCc.either h1.classRecord.toUnattached
  | holdoff | faultLatched => exact h1.modCc.verdictHeld.either <| h1.modCc.either h1.cableWin
  | _ => exact h1

theorem execProbeSample_pathsOk {r1 r2 : Option ℕ} (h : s.PathsOk) : Res.PathsOk (execProbeSample p r1 r2 s) :=
  (h.either (h.modCc.either (h.modCc.windowEnd.either h.modCc))).next

theorem execReprobeExpiry_pathsOk (h : s.PathsOk) : Res.PathsOk (execReprobeExpiry p s) := by
  refine State.PathsOk.next (h.onExpiry fun s h => ?_)
  extract_lets c begin
  have hbegin {w : WinOccasion} : (begin w).PathsOk := (h.modCc.either h).start
  split
  · exact hbegin
  · exact hbegin
  · exact hbegin.either h.start
  · exact hbegin.either h.start
  · exact hbegin.either h.start
  · exact h

theorem execCcReportChange_pathsOk {pin : Pin} {r : CcReport} (h : s.PathsOk) :
    Res.PathsOk (execCcReportChange p pin r s) :=
  h.modCc.next

theorem State.PathsOk.detach (h : s.PathsOk) : (s.detach p).PathsOk := by
  unfold State.detach
  extract_lets +onlyGivenNames q st s1 s2 s3
  have h1 : s1.PathsOk := h.eventP.either h
  have h2 : s2.PathsOk := h1.modEf.pathTo.either h1.openPath
  have h3 : s3.PathsOk := h2.pathTo.either h2
  exact h3.vconnOff.detachRecord.closeSession.endPort.seqOff.pdStop.stopAll.modCnv.modEf.modSwap.modPol.modCc.detachDone

theorem State.PathsOk.holdDetach {note : Bool} (h : s.PathsOk) : (s.holdDetach p note).PathsOk := by
  unfold State.holdDetach
  exact ((h.detachRecord.either h).modPol).modCc

theorem execTpdDebounceExpiry_pathsOk {onVbus : Bool} (h : s.PathsOk) :
    Res.PathsOk (execTpdDebounceExpiry p onVbus s) := by
  unfold execTpdDebounceExpiry
  dsimp only
  refine State.PathsOk.next ?_
  split
  · exact h
  · split
    · exact h.detach.either h
    · split
      · exact h.modCc.either h
      · split
        · exact (h.detach.either h).either (h.toUnattached.either h)
        · exact h.detach.either h
        · exact h.detach.either h
        · exact (h.holdDetach.either h).either ((h.holdDetach.either h).either (h.holdDetach.either h))
        · exact (h.holdDetach.either h).either ((h.holdDetach.either h).either (h.holdDetach.either h))
        · exact h

theorem execTccDebounceExpiry_pathsOk (h : s.PathsOk) : Res.PathsOk (execTccDebounceExpiry p s) := by
  unfold execTccDebounceExpiry
  dsimp only
  refine State.PathsOk.next ?_
  split
  · exact h.modCc.cableWin
  · exact h.modCc.verdictHeld
  · exact h.modCc.detach.either h.modCc
  · exact h.modCc.holdDetach.either (h.modCc.cableWin.either h.modCc.verdictHeld)
  · exact h.modCc.holdDetach.either (h.modCc.cableWin.either h.modCc.verdictHeld)
  · exact h.modCc

theorem State.PathsOk.holdOver (h : s.PathsOk) : (s.holdOver p).PathsOk := by
  unfold State.holdOver
  dsimp only
  split
  · exact h.toWet
  · exact h.toWet
  · exact h.modCc.requestPath
  · exact h.modCc.toDebugAcc
  · exact h.modCc.toAudioAcc
  · exact h.toUnattached.toAttachWait.either h.toUnattached

theorem execHoldoffExpiry_pathsOk (h : s.PathsOk) : Res.PathsOk (execHoldoffExpiry p s) := by
  unfold execHoldoffExpiry
  refine State.PathsOk.next ?_
  extract_lets e next
  have hnext {t : State} (ht : t.PathsOk) : (next t).PathsOk := ht.either (ht.holdOver.either ht.tryPath)
  exact (hnext h.stop.modEf).either ((hnext h.modEf).either h)

theorem execVconnFault_pathsOk {why ma : ℕ} (h : s.PathsOk) : Res.PathsOk (execVconnFault p why ma s) := by
  unfold execVconnFault
  dsimp only
  refine State.PathsOk.next ?_
  split
  · exact h
  · exact h.vconnOff.modCc.eventP.latchReneg.finishAll.sinkReset.either h.vconnOff.modCc.eventP.latchReneg.finishAll.idleWork

/-! ### Crossings of the monitors -/

theorem State.PathsOk.holdupActive (h : s.PathsOk) : s.holdupActive.PathsOk := h.either h.frame.eventD

theorem State.PathsOk.wm5Crossed (h : s.PathsOk) : (s.wm5Crossed p).PathsOk := h.modSwap.modWm.holdupActive

theorem State.PathsOk.firefly {m : Fin 32} (h : s.PathsOk) : (s.firefly p m).PathsOk :=
  (h.either h.holdupStart.endPort).either h.fullAction

theorem State.PathsOk.vconnIn {m : Fin 32} {code : ℕ} (h : s.PathsOk) : (s.vconnIn p m code).PathsOk :=
  h.modCc.either h

theorem execMonitorCrossing_pathsOk {m : Fin 32} {e : Edge} {code : BitVec 10} (h : s.PathsOk) :
    Res.PathsOk (execMonitorCrossing p m e code s) := by
  unfold execMonitorCrossing
  refine State.PathsOk.next ?_
  extract_lets +onlyGivenNames q w
  split
  · exact h
  · extract_lets +onlyGivenNames s1 d drives quiet note s2 s3 s4 s5 s6
    have h2 : s2.PathsOk := h.vconnIn.modMon
    have h3 : s3.PathsOk := h2.wm5Crossed.either h2
    have h4 : s4.PathsOk := h3.modEf.either h3
    have h5 : s5.PathsOk := h4.firefly.either (h4.wmRecord.either h4)
    have h6 : s6.PathsOk := h5.capture.either h5
    exact h6.wakeSet.either h6

theorem execMonitorReturn_pathsOk {m : Fin 32} {r : MonReturn} (h : s.PathsOk) :
    Res.PathsOk (execMonitorReturn p m r s) := by
  unfold execMonitorReturn
  refine State.PathsOk.next ?_
  extract_lets +onlyGivenNames e code w s1 s2 s3 s4 now s5 q s6
  have h2 : s2.PathsOk := h.modMon.vconnIn
  have h3 : s3.PathsOk := h2.wmRecord.either h2
  have h4 : s4.PathsOk := h3.modWm.either h3
  have h5 : s5.PathsOk := h4.modEf.either h4
  exact h.either (h5.modWm.either h5).tryPath

theorem State.PathsOk.monitorFailed {m : Fin 32} {check : ℕ} (h : s.PathsOk) :
    (s.monitorFailed p m check).PathsOk := by
  unfold State.monitorFailed
  dsimp only
  split
  · exact h.eventO.modMon.openPath.pathLost.vconnOff.endPort
  · exact h.eventO.modMon.openPath.pathLost.vconnOff.endPort
  · exact h.eventO.modMon.openBf.closeSession
  · exact h.eventO.modMon.pathTo.closeSession
  · exact h.eventO.modMon.closeSession

theorem State.PathsOk.legFailed {m : Fin 32} {leg check : ℕ} (h : s.PathsOk) : (s.legFailed p m leg check).PathsOk :=
  h.modMon.monitorFailed.either h.modMon

theorem execLegCheck_pathsOk {m : Fin 8} {fail : Option (LegChk × ℤ)} (h : s.PathsOk) :
    Res.PathsOk (execLegCheck p m fail s) := by
  unfold execLegCheck
  dsimp only
  refine State.PathsOk.next ?_
  split
  · exact h
  · split
    · exact h
    · split
      · exact h.checkRecord.legFailed
      · exact h.modMon.modWm.tryPath.either h.modMon

theorem State.PathsOk.testFailed {m : Fin 32} {leg : ℕ} (h : s.PathsOk) : (s.testFailed p m leg).PathsOk :=
  h.draw.eventO.legFailed.either h.draw.eventO.modMon

theorem monitorTestSpec_keeps {leg0 leg1 : Option ℕ} : (monitorTestSpec leg0 leg1).Keeps :=
  fun _ _ h => (h.foldl fun _ _ h => h.testFailed).finish

theorem execMonitorTest_pathsOk {d : Desc} {leg0 leg1 : Option ℕ} (h : s.PathsOk) :
    Res.PathsOk (execMonitorTest d leg0 leg1 s) :=
  (monitorTestSpec_keeps.start h).next

theorem execMeteringSample_pathsOk {uv ua : ℤ} (h : s.PathsOk) : Res.PathsOk (execMeteringSample p uv ua s) := by
  unfold execMeteringSample
  dsimp only
  refine State.PathsOk.next ?_
  split
  · exact h
  · split
    · exact h.modMtr.modEf.seeVbus
    · split
      · exact h.modMtr.modEf.seeVbus.trip
      · exact h.modMtr.modEf.seeVbus.trip
      · exact h.modMtr.modEf.seeVbus.bfOpened
      · exact h.modMtr.modEf.seeVbus

theorem State.PathsOk.senseRecord {sense : Bool} {ph : Option Ph} {r : FailRule} {latch : Bool} (h : s.PathsOk) :
    (s.senseRecord p sense ph r latch).PathsOk :=
  h.eventO

theorem State.PathsOk.convFault (h : s.PathsOk) : (s.convFault p).PathsOk := by
  unfold State.convFault
  exact (h.modEf.closeSession.either h.modEf.closeSession.hrRequest).either <|
    h.modEf.closeSession.openPath.seqOff.vconnOff.endPort.enterHold

theorem State.PathsOk.declare {x : Ph} {sense : Bool} {r : FailRule} (h : s.PathsOk) :
    (s.declare p x sense r).PathsOk := by
  unfold State.declare
  exact h.senseRecord.modCnv.trackPeaks.latchReneg.convFault.either h.senseRecord.modCnv.trackPeaks.latchReneg

theorem State.PathsOk.pathNamed (h : s.PathsOk) : (s.pathNamed p).PathsOk := h.senseRecord.modCnv.convFault

theorem execPhaseFailureDeclared_pathsOk {ph : Ph} {rule : FailRule} (h : s.PathsOk) :
    Res.PathsOk (execPhaseFailureDeclared p ph rule s) := by
  unfold execPhaseFailureDeclared
  dsimp only
  refine State.PathsOk.next ?_
  split
  · exact h
  · split
    · exact h.declare.either h
    · exact h.declare.either h
    · exact h.declare.either h
    · exact h

theorem State.PathsOk.isoTake {x : Ph} (h : s.PathsOk) : (s.isoTake p x).PathsOk := h.modCnv

theorem execIsolationCheck_pathsOk {m : IsoMeas} (h : s.PathsOk) : Res.PathsOk (execIsolationCheck p m s) := by
  unfold execIsolationCheck
  dsimp only
  refine State.PathsOk.next ?_
  split
  · exact h
  · split
    · exact h.modCnv.isoTake.either h
    · split
      · exact h.modCnv.isoTake
      · exact h.modCnv.isoTake
      · split
        · exact h.modCnv.declare
        · exact h.modCnv.pathNamed

theorem State.PathsOk.inconsistent (h : s.PathsOk) : (s.inconsistent p).PathsOk :=
  h.either (h.modCnv.trackPeaks.latchReneg.either (h.pathNamed.either h))

theorem execControlUpdate_pathsOk {m : CnvMeas} (h : s.PathsOk) : Res.PathsOk (execControlUpdate p m s) := by
  unfold execControlUpdate
  extract_lets +onlyGivenNames c s1 old s2
  have h2 : s2.PathsOk := h.seeVbus.modEf.modCnv
  exact (h.either (h2.either h2.trackPeaks).trackUpdate.inconsistent.trimDone).next

theorem execTxslewLimitExpiry_pathsOk (h : s.PathsOk) : Res.PathsOk (execTxslewLimitExpiry p s) :=
  (h.onExpiry fun _ h => h.either h.eventP.endTrim.hrRequest).next

theorem phaseClearSpec_keeps : phaseClearSpec.Keeps :=
  fun _ _ h => (h.modCnv.either h.modCnv.trackPeaks.eventP.latchReneg).finish

theorem execPhaseClear_pathsOk {d : Desc} (h : s.PathsOk) : Res.PathsOk (execPhaseClear d s) :=
  (phaseClearSpec_keeps.start h).next

/-! ### The time base -/

theorem State.PathsOk.disable {r : EndReason} (h : s.PathsOk) : (s.disable p r).PathsOk := by
  unfold State.disable
  exact h.openPath.vconnOff.closeSession.seqOff.pdStop.stopAll.modCnv.modEf.modSwap.modCc.holdupEnd

theorem portDisableSpec_keeps : portDisableSpec.Keeps := by
  intro s d h
  dsimp -zeta only [portDisableSpec]
  extract_lets +onlyGivenNames p before s1
  have h1 : s1.PathsOk := h.disable.endPort
  exact h1.finishAll.either h1

theorem execPortDisable_pathsOk {d : Desc} (h : s.PathsOk) : Res.PathsOk (execPortDisable d s) :=
  (portDisableSpec_keeps.start h).next

theorem portEnableSpec_keeps : portEnableSpec.Keeps := fun _ _ h => h.finish.either h.toUnattached.finish

theorem execPortEnable_pathsOk {d : Desc} (h : s.PathsOk) : Res.PathsOk (execPortEnable d s) :=
  (portEnableSpec_keeps.start h).next

theorem clearFaultSpec_keeps : clearFaultSpec.Keeps := by
  intro s d h
  dsimp -zeta only [clearFaultSpec]
  extract_lets +onlyGivenNames p e s1
  have h1 : s1.PathsOk := h.clearRetry.modEf.stop
  exact (h1.toUnattached.toAttachWait.either h1.toUnattached).finish

theorem execClearFault_pathsOk {d : Desc} (h : s.PathsOk) : Res.PathsOk (execClearFault d s) :=
  (clearFaultSpec_keeps.start h).next

theorem nopSpec_keeps : nopSpec.Keeps := fun _ _ h => h.finish

theorem execNop_pathsOk {d : Desc} (h : s.PathsOk) : Res.PathsOk (execNop d s) := (nopSpec_keeps.start h).next

theorem State.PathsOk.tick (h : s.PathsOk) : s.tick.PathsOk := h.frame

theorem State.PathsOk.lossStop (h : s.PathsOk) : (s.lossStop p).PathsOk :=
  h.either (h.frame.disable.foldl fun _ _ h => h.finish)

theorem execTimebaseLost_pathsOk {noEdge : Bool} (h : s.PathsOk) : Res.PathsOk (execTimebaseLost noEdge s) :=
  (h.either (h.frame.eventD.forPorts fun _ _ h => h.lossStop)).next

theorem State.PathsOk.calibrate (h : s.PathsOk) : s.calibrate.PathsOk :=
  h.draw.frame.forPorts fun _ _ h => h.draw.modCnv

theorem execTimebaseRestored_pathsOk (h : s.PathsOk) : Res.PathsOk (execTimebaseRestored s) :=
  (h.either (h.frame.calibrate.eventD.forPorts fun _ _ h => ((h.toUnattached.either h).tryPath).idleWork)).next

theorem execCalibrationCycle_pathsOk {us : ℕ} {steps : List ℕ} (h : s.PathsOk) :
    Res.PathsOk (execCalibrationCycle us steps s) :=
  (h.either (h.frame.forPorts fun _ _ h => h.modCnv)).next

theorem execEraWriteRetry_pathsOk {ok : Bool} (h : s.PathsOk) : Res.PathsOk (execEraWriteRetry ok s) :=
  (h.either h.frame).next

/-! ### Uncorrectable errors -/

theorem State.PathsOk.setCell {f i : ℕ} {g : Cell → Cell} (h : s.PathsOk) : (s.setCell f i g).PathsOk := h.modFlow

theorem State.PathsOk.coreResult {bus : ℕ} {x : TwItem} {k : Fin 4} {status : ℕ} {res : Quad} {rd : List Byte} (h : s.PathsOk) :
    (s.coreResult bus x k status res rd).PathsOk :=
  h.sendCell

theorem State.PathsOk.dropGroup {f : ℕ} {g : List ℕ} (h : s.PathsOk) : (s.dropGroup f g).PathsOk :=
  h.foldl fun _ _ h => h.dropCell

theorem State.PathsOk.ueAct {f : ℕ} {c : Cell} (h : s.PathsOk) : (s.ueAct f c).PathsOk := by
  unfold State.ueAct
  extract_lets +onlyGivenNames pt evs
  split
  next c1 g eq =>
  have hdrop : (s.dropGroup f g).PathsOk := h.dropGroup
  have hdesc {d : Desc} {s : State} (h : s.PathsOk) :
      (((((s.flow f).cells.filter (·.pay.contains (.desc d))).foldl (fun s c => s.dropCell f c.idx)
        (s.modFlow f fun x => { x with waiters := x.waiters.filter (· != .cell
          (.desc d)) }))).finish d stStoreUe 0).PathsOk :=
    (h.modFlow.foldl fun _ _ h => h.dropCell).finish
  refine hdrop.odd.either <| State.PathsOk.either ?_ <| hdrop.authLost.either <| h.mtrLost.either <|
    h.waveLost.either <| h.setCell.either <| h.setCell.cmdLost.either <| h.setCell.either <| h.dropCell.either <|
      State.PathsOk.either ?_ <| h.setCell.either <| h.dropCell.either ?_
  · split
    · split
      · exact h.endTx.settle.either hdrop.flushMsg.settle
      · exact hdrop.flushMsg.settle
    · exact hdrop
  · exact h.foldl fun _ _ h => hdesc h
  · dsimp only
    split
    · split
      · split
        · exact h.dropCell.finish
        · exact h.dropCell
      · exact h.dropCell.coreResult
    · exact h.dropCell

theorem State.PathsOk.ueLoose {f : ℕ} (h : s.PathsOk) : (s.ueLoose f).PathsOk :=
  h.authLost.either (h.modMtr.either (h.endWhere.either (h.endWhere.either h)))

theorem State.PathsOk.storeUe {i w : ℕ} (h : s.PathsOk) : (s.storeUe i w).PathsOk := by
  unfold State.storeUe
  split
  · exact h.ueAct.ueNote.either h.ueNote.ueAct
  · split
    · exact h.ueNote.ueLoose
    · exact h.ueNote

theorem State.PathsOk.headUe {f : ℕ} (h : s.PathsOk) : (s.headUe f).PathsOk := by
  unfold State.headUe
  dsimp only
  split
  · split
    · exact h.correct.storeUe
    · exact h.correct
  · exact h

theorem execScrubRead_pathsOk {cell : ℕ} {word : Fin 32} {r : EccRes} (h : s.PathsOk) :
    Res.PathsOk (execScrubRead cell word r s) := by
  unfold execScrubRead
  dsimp only
  refine State.PathsOk.next ?_
  split
  · exact h
  · split
    · split
      · exact h.frame
      · exact h.frame.frame
      · exact h.frame.storeUe
    · split
      · exact h
      · exact h.modFlow

theorem execCellRewriteCheck_pathsOk {cell : ℕ} {bad : Bool} (h : s.PathsOk) :
    Res.PathsOk (execCellRewriteCheck cell bad s) := by
  unfold execCellRewriteCheck
  refine State.PathsOk.next ?_
  split
  · exact h
  · exact h.either <| h.frame.either <| h.frame.eventD.either h.frame.eventD

theorem State.PathsOk.admitCell {f : ℕ} (h : s.PathsOk) : (s.admitCell f).PathsOk := by
  unfold State.admitCell
  split
  · split
    next t e => exact (h.putCell e).modFlow
    · exact h
  · exact h

/-! ### The host interface -/

theorem State.PathsOk.modSq {k : Fin 16} {f : SqState → SqState} (h : s.PathsOk) : (s.modSq k f).PathsOk := h.frame

theorem State.PathsOk.modCq {k : Fin 16} {f : CqState → CqState} (h : s.PathsOk) : (s.modCq k f).PathsOk := h.frame

theorem State.PathsOk.modEq {f : CqState → CqState} (h : s.PathsOk) : (s.modEq f).PathsOk := h.frame

theorem State.PathsOk.hifErr {bit : ℕ} (h : s.PathsOk) : (s.hifErr bit).PathsOk := h.frame

theorem State.PathsOk.sqGone {k : Fin 16} (h : s.PathsOk) : (s.sqGone k).PathsOk := h.modSq.either h

theorem execSqTailDoorbell_pathsOk {sq : Fin 16} {v : Word} (h : s.PathsOk) :
    Res.PathsOk (execSqTailDoorbell sq v s) :=
  (h.wakeSet.hifErr.either (h.wakeSet.hifErr.either h.wakeSet.modSq)).next

theorem execCqHeadDoorbell_pathsOk {cq : Fin 16} {v : Word} (h : s.PathsOk) :
    Res.PathsOk (execCqHeadDoorbell cq v s) := by
  unfold execCqHeadDoorbell
  dsimp only
  refine State.PathsOk.next ?_
  split
  · exact h.wakeSet.hifErr
  · exact h.wakeSet.modCq

theorem execEqHeadDoorbell_pathsOk {v : Word} (h : s.PathsOk) : Res.PathsOk (execEqHeadDoorbell v s) := by
  unfold execEqHeadDoorbell
  dsimp only
  refine State.PathsOk.next ?_
  split
  · exact h.wakeSet.hifErr
  · exact h.wakeSet.modEq

theorem execDescriptorFetch_pathsOk {sq : Fin 16} {bytes : List Byte} (h : s.PathsOk) :
    Res.PathsOk (execDescriptorFetch sq bytes s) :=
  (h.either (h.countNoCredit.either (h.either h.modSq.frame.enterDesc))).next

theorem execHostFetchError_pathsOk {sq : Fin 16} {why : ℕ} (h : s.PathsOk) :
    Res.PathsOk (execHostFetchError sq why s) :=
  (h.either h.modSq.hifErr.frame.eventD).next

theorem State.PathsOk.msixSend {v : Fin 32} (h : s.PathsOk) : (s.msixSend v).PathsOk := h.frame.either h.emit

theorem State.PathsOk.msixPend {v : Fin 32} (h : s.PathsOk) : (s.msixPend v).PathsOk := h.frame.msixSend.either h

theorem execMsixUnmask_pathsOk {vec : Fin 32} (h : s.PathsOk) : Res.PathsOk (execMsixUnmask vec s) :=
  h.frame.msixPend.next

theorem State.PathsOk.cqDue {k : Fin 16} (h : s.PathsOk) : (s.cqDue k).PathsOk := h.modCq.msixSend

theorem State.PathsOk.eqDue {sev : Fin 4} (h : s.PathsOk) : (s.eqDue sev).PathsOk := h.modEq.msixSend

theorem execModerationTimerExpiry_pathsOk {q : Option (Fin 16)} {sev : Fin 4} (h : s.PathsOk) :
    Res.PathsOk (execModerationTimerExpiry q sev s) := by
  unfold execModerationTimerExpiry
  dsimp only
  refine State.PathsOk.next ?_
  split
  · exact h.cqDue.either h
  · exact h.eqDue.either h

theorem State.PathsOk.writeEntry {c : CqState} {bytes : List Byte} (h : s.PathsOk) : (s.writeEntry c bytes).PathsOk :=
  h.frame.emit

theorem State.PathsOk.writeCpl {r : CplRec} (h : s.PathsOk) : (s.writeCpl r).PathsOk :=
  (h.writeEntry.modCq.cqDue.either h.writeEntry.modCq).sqGone

theorem State.PathsOk.writeEv {r : EvRec} (h : s.PathsOk) : (s.writeEv r).PathsOk :=
  h.writeEntry.modEq.frame.eqDue.either h.writeEntry.modEq.frame

theorem execHostRecordWrite_pathsOk (h : s.PathsOk) : Res.PathsOk (execHostRecordWrite s) := by
  unfold execHostRecordWrite
  dsimp only
  refine State.PathsOk.next ?_
  split
  · exact h
  · split
    · exact h.foldl fun _ _ h => h.headUe
    · split
      · exact ((h.foldl fun _ _ h => h.headUe).readRecord).writeEv
      · exact ((h.foldl fun _ _ h => h.headUe).readRecord).writeCpl
      · exact (h.foldl fun _ _ h => h.headUe).readRecord

theorem bufferSpec_keeps : bufferSpec.Keeps := fun _ _ h => h.endBuf.either (h.frame.pumpMtr.either h.frame.pumpWave)

theorem execBufferDescriptor_pathsOk {d : Desc} (h : s.PathsOk) : Res.PathsOk (execBufferDescriptor d s) :=
  (bufferSpec_keeps.start h).next

theorem execStreamFlushExpiry_pathsOk {meter : Bool} (h : s.PathsOk) :
    Res.PathsOk (execStreamFlushExpiry meter s) := by
  unfold execStreamFlushExpiry
  dsimp only
  refine State.PathsOk.next ?_
  split
  · exact h
  · exact h.either (h.frame.endBuf.pumpMtr.either h.frame.endBuf.pumpWave)

theorem State.PathsOk.qResult {r : ℕ} (h : s.PathsOk) : (s.qResult r).PathsOk := h.frame

theorem execQueueCreate_pathsOk (h : s.PathsOk) : Res.PathsOk (execQueueCreate s) :=
  (h.qResult.either ((h.modSq.either (h.modCq.either h.modEq)).qResult)).next

theorem State.PathsOk.orphan {q : ℕ → Bool} (h : s.PathsOk) : (s.orphan q).PathsOk :=
  (h.foldl fun _ _ h => h.modFlow).frame

theorem execDiscardOrphans_pathsOk (h : s.PathsOk) : Res.PathsOk (execDiscardOrphans s) :=
  (h.qResult.either ((h.foldl fun _ _ h => h.foldl fun _ _ h => h.readRecord).qResult)).next

theorem execRingSelWrite_pathsOk {v : Word} (h : s.PathsOk) : Res.PathsOk (execRingSelWrite v s) :=
  (h.wakeSet.hifErr.either h.wakeSet.frame).next

theorem execFunctionLevelReset_pathsOk {k : FlrKind} (h : s.PathsOk) : Res.PathsOk (execFunctionLevelReset k s) :=
  h.endWhere.orphan.frame.next

theorem State.PathsOk.hostBack (h : s.PathsOk) : s.hostBack.PathsOk :=
  (((h.hostFlush.foldl fun _ _ h => h.msixPend).pumpMtr).pumpWave).either h

theorem execPciPmStateChange_pathsOk {d3 bme : Bool} (h : s.PathsOk) : Res.PathsOk (execPciPmStateChange d3 bme s) :=
  h.frame.hostBack.next

theorem execL1EntryRequest_pathsOk (h : s.PathsOk) : Res.PathsOk (execL1EntryRequest s) :=
  (h.frame.emit.either h).next

theorem execLinkTrained_pathsOk {rate : BitVec 2} (h : s.PathsOk) : Res.PathsOk (execLinkTrained rate s) :=
  (h.either h.frame.hostBack).next

theorem State.PathsOk.sendLtr (h : s.PathsOk) : s.sendLtr.PathsOk := h.emit

theorem execConfigSpaceWrite_pathsOk {w : CfgSpace} (h : s.PathsOk) : Res.PathsOk (execConfigSpaceWrite w s) := by
  unfold execConfigSpaceWrite
  refine State.PathsOk.next ?_
  have pend {s : State} (h : s.PathsOk) :
    ((List.finRange 32).foldl State.msixPend s).PathsOk := h.foldl fun _ _ h => h.msixPend
  cases w with
  | ltrEn b =>
    have h1 : ({ s with hif := { s.hif with ltrEn := b } } : State).PathsOk := h.frame
    exact h1.sendLtr.either h1
  | aspmL1 b => exact h.frame
  | msixEn b => exact pend h.frame
  | msixMask b => exact pend h.frame
  | pmeEn b => exact h.frame
  | pmeClear => exact h.frame
  | aerClear m => exact h.frame

/-! ### The fault log -/

theorem faultLogReadSpec_keeps : faultLogReadSpec.Keeps :=
  fun _ _ h => (((h.either h.hostPut).frame).either (h.either h.hostPut)).finish

theorem execFaultLogRead_pathsOk {d : Desc} (h : s.PathsOk) : Res.PathsOk (execFaultLogRead d s) :=
  (faultLogReadSpec_keeps.start h).next

theorem State.PathsOk.modLat {i : Iface} {f : Latches → Latches} (h : s.PathsOk) : (s.modLat i f).PathsOk := by
  unfold State.modLat
  split
  · exact h.frame
  · exact h.frame

theorem State.PathsOk.flogLatch {i : Iface} (h : s.PathsOk) : (s.flogLatch i).PathsOk := by
  unfold State.flogLatch
  split
  · exact h.modLat
  · exact h.modLat

theorem execFlogData0Read_pathsOk {i : Iface} (h : s.PathsOk) : Res.PathsOk (execFlogData0Read i s) :=
  h.flogLatch.emit.next

theorem State.PathsOk.flogNext {i : Iface} (h : s.PathsOk) : (s.flogNext i).PathsOk := by
  unfold State.flogNext
  split
  · exact h.modLat
  · exact h

theorem execFlogData7LastRead_pathsOk {i : Iface} (h : s.PathsOk) : Res.PathsOk (execFlogData7LastRead i s) :=
  h.emit.flogNext.next

/-! ### Operands -/

theorem State.PathsOk.modCore {c : Fin 4} {f : Core → Core} (h : s.PathsOk) : (s.modCore c f).PathsOk := h.frame

/-! ### Flow ports of the cores -/

theorem State.PathsOk.modFp {c : Fin 4} {x : Fin 16} {f : FlowPort → FlowPort} (h : s.PathsOk) :
    (s.modFp c x f).PathsOk :=
  h.modCore

theorem State.PathsOk.unbind {c : Fin 4} {l : List (Fin 16)} (h : s.PathsOk) : (s.unbind c l).PathsOk := by
  unfold State.unbind
  extract_lets +onlyGivenNames holders back s1
  have h1 : s1.PathsOk := by
    unfold s1
    refine h.foldl fun s x h => ?_
    refine h.foldl fun s x h => ?_
    split
    · exact h.modFlow
    · exact h
  exact ((h1.foldl fun _ _ h => h.freeCell).foldl fun _ _ h => h.modFlow).foldl fun _ _ h => h.modFp

theorem State.PathsOk.fpDone {c : Fin 4} {x : Fin 16} {r : ℕ} (h : s.PathsOk) : (s.fpDone c x r).PathsOk := h.modFp

theorem execBind_pathsOk {c : Fin 4} {fp : Fin 16} {v : Word} (h : s.PathsOk) : Res.PathsOk (execBind c fp v s) :=
  (h.unbind.modFp.fpDone.either (h.unbind.modFp.fpDone.either
    (h.unbind.modFp.fpDone.either h.unbind.modFp.modFp.fpDone))).next

theorem State.PathsOk.fpCmd {c : Fin 4} {fp : Fin 16} {producer held : Bool} {f : State → State} (h : s.PathsOk)
    (hf : ∀ s, s.PathsOk → (f s).PathsOk) : (s.fpCmd c fp producer held f).PathsOk := by
  unfold State.fpCmd
  exact h.either (h.fpDone.either (h.fpDone.either (hf _ h)))

theorem State.PathsOk.fpTake {c : Fin 4} {fp : Fin 16} (h : s.PathsOk) : (s.fpTake c fp).PathsOk := by
  unfold State.fpTake
  dsimp only
  split
  · exact h.fpDone
  · split
    · exact h.modFp
    · split
      · exact (h.storeUe.dropCell.either h.storeUe).fpDone
      · exact h.correct.modFlow.modFp.fpDone

theorem State.PathsOk.fpClaim {c : Fin 4} {fp : Fin 16} (h : s.PathsOk) (e : s.fpClaim c fp = some t) :
    t.PathsOk := by
  obtain ⟨⟨i, u⟩, e', rfl⟩ := Option.map_eq_some_iff.mp e
  exact (h.takeCell e').modFp.fpDone

theorem execTake_pathsOk {c : Fin 4} {fp : Fin 16} (h : s.PathsOk) : Res.PathsOk (execTake c fp s) :=
  (h.fpCmd fun _ h => h.fpTake).next

theorem State.PathsOk.fpFree {c : Fin 4} {fp : Fin 16} {r : ℕ} (h : s.PathsOk) : (s.fpFree c fp r).PathsOk := by
  unfold State.fpFree
  split
  · exact h.freeCell.modFp.fpDone
  · exact h.fpDone

theorem execRelease_pathsOk {c : Fin 4} {fp : Fin 16} (h : s.PathsOk) : Res.PathsOk (execRelease c fp s) :=
  (h.fpCmd fun _ h => h.fpFree).next

theorem execAbandon_pathsOk {c : Fin 4} {fp : Fin 16} (h : s.PathsOk) : Res.PathsOk (execAbandon c fp s) :=
  (h.fpCmd fun _ h => h.fpFree).next

theorem execAlloc_pathsOk {c : Fin 4} {fp : Fin 16} (h : s.PathsOk) : Res.PathsOk (execAlloc c fp s) := by
  refine State.PathsOk.next (h.fpCmd fun s h => ?_)
  dsimp only
  split
  next t e => exact h.fpClaim (Option.ite_none_right_eq_some.mp e).2
  · exact h.wait.modFp

theorem execCommit_pathsOk {c : Fin 4} {fp : Fin 16} (h : s.PathsOk) : Res.PathsOk (execCommit c fp s) := by
  refine State.PathsOk.next (h.fpCmd fun s h => ?_)
  dsimp only
  split
  · exact h.fpDone
  · have put {f : ℕ} {x : Cell} {g : FlowPort → FlowPort} :
      (((s.queueCell f x).modFp c fp g).fpDone c fp 0).PathsOk :=
      h.queueCell.modFp.fpDone
    exact (h.fpFree.either put).either (put.either put)

theorem execCancel_pathsOk {c : Fin 4} {fp : Fin 16} (h : s.PathsOk) : Res.PathsOk (execCancel c fp s) :=
  (h.modFlow.fpDone.either (h.fpDone.either h.fpDone)).next

theorem execFlowPortWaitDone_pathsOk {c : Fin 4} {fp : Fin 16} (h : s.PathsOk) :
    Res.PathsOk (execFlowPortWaitDone c fp s) := by
  unfold execFlowPortWaitDone
  dsimp only
  refine State.PathsOk.next ?_
  split
  · exact h.fpTake
  · split
    · split
      next t e => exact (h.fpClaim e).modFlow
      · exact h
    · exact h

theorem execPortmapApplied_pathsOk (h : s.PathsOk) : Res.PathsOk (execPortmapApplied p s) :=
  (h.either (((h.foldl fun _ _ h => h.unbind.fpDone.either h.unbind).frame).eventD)).next

/-! ### Crypto jobs -/

theorem State.PathsOk.shWrite {a : Word} {b : List Byte} (h : s.PathsOk) : (s.shWrite a b).PathsOk := h.frame

theorem State.PathsOk.modCx {c : Fin 4} {f : Crypto → Crypto} (h : s.PathsOk) : (s.modCx c f).PathsOk := h.modCore

theorem State.PathsOk.cxGo {c : Fin 4} (h : s.PathsOk) : (s.cxGo c).PathsOk := h.either (h.modCx.frame.either h.modCx)

theorem State.PathsOk.cxNext {c : Fin 4} (h : s.PathsOk) : (s.cxNext c).PathsOk := h.frame

theorem State.PathsOk.freeBytes {a : Word} {k n : ℕ} (h : s.PathsOk) : (s.freeBytes a k n).PathsOk := by
  induction k generalizing s a n with
  | zero => exact h
  | succ k ih => exact ih h.draw.shWrite

theorem State.PathsOk.cxCancel {c : Fin 4} (h : s.PathsOk) : (s.cxCancel c).PathsOk := by
  unfold State.cxCancel
  dsimp only
  split
  · exact h
  · exact (((h.either h.freeBytes).modCx).cxNext).either ((h.either h.freeBytes).modCx)

theorem State.PathsOk.cxRun {c : Fin 4} {j : CxJob} (h : s.PathsOk) : (s.cxRun c j).2.PathsOk := by
  unfold State.cxRun
  extract_lets +onlyGivenNames src key aes blocks iv
  split
  · split
    extract_lets +onlyGivenNames s1
    have h1 : s1.PathsOk := h.modCx
    split
    · exact h1.shWrite.snd_mk
    · exact h1.snd_mk
  · exact h.snd_mk
  · exact h.frame.shWrite.snd_mk
  · exact h.shWrite.snd_mk
  · exact h.shWrite.snd_mk
  · exact h.shWrite.snd_mk
  · exact h.frame.shWrite.snd_mk
  · exact h.snd_mk

theorem execCryptoJobDone_pathsOk {err : Bool} (h : s.PathsOk) : Res.PathsOk (execCryptoJobDone err s) := by
  unfold execCryptoJobDone
  refine State.PathsOk.next ?_
  split
  · exact h
  · split
    · exact h.cxNext
    · dsimp only
      refine State.PathsOk.cxNext (State.PathsOk.modCx ?_)
      split
      · exact h
      · split
        · exact h
        · exact h.cxRun

theorem State.PathsOk.cxStart {c : Fin 4} {op slot : ℕ} {cont final : Bool} (h : s.PathsOk) :
    (s.cxStart c op slot cont final).PathsOk :=
  h.modCx.cxGo.either h

theorem execSha256_pathsOk {c : Fin 4} {cont final : Bool} (h : s.PathsOk) :
    Res.PathsOk (execSha256 c cont final s) :=
  h.cxStart.next

theorem execEcdsaVerify_pathsOk {c : Fin 4} {slot : BitVec 3} (h : s.PathsOk) :
    Res.PathsOk (execEcdsaVerify c slot s) :=
  h.cxStart.next

theorem execEcdsaSign_pathsOk {c : Fin 4} {slot : BitVec 3} (h : s.PathsOk) : Res.PathsOk (execEcdsaSign c slot s) :=
  h.cxStart.next

theorem execAesCtr_pathsOk {c : Fin 4} {slot : BitVec 3} (h : s.PathsOk) : Res.PathsOk (execAesCtr c slot s) :=
  h.cxStart.next

theorem execAesCbcEncrypt_pathsOk {c : Fin 4} {slot : BitVec 3} (h : s.PathsOk) :
    Res.PathsOk (execAesCbcEncrypt c slot s) :=
  h.cxStart.next

theorem execAesCbcDecrypt_pathsOk {c : Fin 4} {slot : BitVec 3} (h : s.PathsOk) :
    Res.PathsOk (execAesCbcDecrypt c slot s) :=
  h.cxStart.next

theorem execRandom_pathsOk {c : Fin 4} (h : s.PathsOk) : Res.PathsOk (execRandom c s) := h.cxStart.next

/-! ### Image packages -/

theorem State.PathsOk.modImg {f : ImgState → ImgState} (h : s.PathsOk) : (s.modImg f).PathsOk := h.frame

theorem State.PathsOk.eraseKinds {kinds : ℕ} (h : s.PathsOk) : (s.eraseKinds kinds).PathsOk := h.modImg

theorem State.PathsOk.stage {pkg : List Byte} (h : s.PathsOk) : (s.stage pkg).PathsOk := by
  unfold State.stage
  exact h.modImg

theorem State.PathsOk.verifyPackage {id : Word} {pkg : List Byte} (h : s.PathsOk) :
    (s.verifyPackage id pkg).1.PathsOk := by
  unfold State.verifyPackage
  extract_lets +onlyGivenNames man k shut fail r
  have hfail {table row : ℕ} : (fail table row).PathsOk := h.eraseKinds.modImg.eventD
  clear_value fail
  split
  · exact hfail.fst_mk
  · dsimp only
    split
    · exact hfail.fst_mk
    · exact h.stage.modImg.eventD.fst_mk

theorem State.PathsOk.writeBlock {d : Desc} {x : XferState} {off : ℕ} {b : List Byte} {fails : ℕ} (h : s.PathsOk) :
    (s.writeBlock d x off b fails).PathsOk := by
  unfold State.writeBlock
  exact h.finish.either <| h.finish.either <| h.finish.either <| h.finish.either <| h.modImg.finish.either <|
    h.modImg.finish.either h.verifyPackage.finish

theorem State.PathsOk.openXfer {d : Desc} {id : Word} {b : List Byte} {fails : ℕ} (h : s.PathsOk) :
    (s.openXfer d id b fails).PathsOk := by
  unfold State.openXfer
  extract_lets +onlyGivenNames man
  split
  · exact h.finish
  · extract_lets +onlyGivenNames s1
    have h1 : s1.PathsOk := by
      unfold s1
      split
      · exact h.endWhere
      · exact h
    exact h1.eraseKinds.modImg.writeBlock

theorem State.PathsOk.takeBlock {d : Desc} {fails : ℕ} (h : s.PathsOk) : (s.takeBlock d fails).PathsOk := by
  unfold State.takeBlock
  dsimp only
  split
  · exact h.writeBlock.either (h.openXfer.either h.finish)
  · exact h.openXfer.either h.finish

theorem State.PathsOk.queueBlock {d : Desc} {fails : ℕ} (h : s.PathsOk) : (s.queueBlock d fails).PathsOk :=
  h.setAux.foldl fun _ _ h => h.sendCell

theorem State.PathsOk.imgBlocksGo (h : s.PathsOk) : s.imgBlocksGo.PathsOk := by
  unfold State.imgBlocksGo
  dsimp only
  split
  · exact h
  · refine h.emptyFlow.modFlow.foldl fun s x h => ?_
    split
    · exact h.takeBlock.either h
    · exact h

theorem imgBlockSpec_keeps {fails : ℕ} : (imgBlockSpec fails).Keeps := by
  intro s d h
  dsimp only [imgBlockSpec]
  split
  next t e => exact (h.passCell (Option.ite_none_right_eq_some.mp e).2).takeBlock
  · exact h.queueBlock

theorem execImgBlock_pathsOk {d : Desc} {block : List Byte} {fails : ℕ} (h : s.PathsOk) :
    Res.PathsOk (execImgBlock d block fails s) :=
  (imgBlockSpec_keeps.start h).next

/-! ### The cores -/

theorem State.PathsOk.coreReset {c : Fin 4} (h : s.PathsOk) : (s.coreReset c).PathsOk := by
  unfold State.coreReset
  exact h.unbind.cxCancel.modCore

theorem State.PathsOk.w0Again {c : Fin 4} (h : s.PathsOk) : (s.w0Again c).PathsOk :=
  h.closesFirst.imgBlocksGo.either h

theorem State.PathsOk.coreRun {c : Fin 4} (h : s.PathsOk) : (s.coreRun c).PathsOk := h.modCore.w0Again

theorem State.PathsOk.coreStart {c : Fin 4} {reason : ℕ} (h : s.PathsOk) : (s.coreStart c reason).PathsOk :=
  h.coreRun.modCore.eventD

theorem State.PathsOk.coreFault {c : Fin 4} {kind : ℕ} (h : s.PathsOk) : (s.coreFault c kind).PathsOk :=
  h.unbind.modCore.eventD

theorem State.PathsOk.holdCore {c : Fin 4} {b : Bool} (h : s.PathsOk) : (s.holdCore c b).PathsOk := by
  unfold State.holdCore
  exact h.either (h.modCore.coreReset.either h.modCore.coreStart)

theorem State.PathsOk.haltCore {c : Fin 4} {b : Bool} (h : s.PathsOk) : (s.haltCore c b).PathsOk :=
  h.modCore.w0Again.either h.modCore

theorem State.PathsOk.restartCore {c : Fin 4} {reason : ℕ} (h : s.PathsOk) : (s.restartCore c reason).PathsOk := by
  unfold State.restartCore
  exact h.coreReset.either h.coreReset.coreStart

theorem State.PathsOk.writeWvlCtrl {v : Word} {lock byW0 : Bool} (h : s.PathsOk) :
    (s.writeWvlCtrl v lock byW0).PathsOk := by
  unfold State.writeWvlCtrl
  refine h.foldl fun s x h => ?_
  exact ((h.either h.modCore.haltCore.holdCore).restartCore).either (h.either h.modCore.haltCore.holdCore)

theorem State.PathsOk.wvlCfgErr (h : s.PathsOk) : s.wvlCfgErr.PathsOk := h.frame

theorem State.PathsOk.wvlWrite {o : ℕ} {v : Word} {lock byW0 : Bool} (h : s.PathsOk) :
    (s.wvlWrite o v lock byW0).PathsOk := by
  unfold State.wvlWrite
  exact h.writeWvlCtrl.either <| (h.frame.either h.wvlCfgErr).either <|
    (h.either (h.wvlCfgErr.either h.frame)).either <| (h.frame.either h).either <| h

theorem execCoreHold_pathsOk {n : Fin 4} {hold : Bool} (h : s.PathsOk) : Res.PathsOk (execCoreHold n hold s) :=
  (h.holdCore.either (h.either h.frame)).next

theorem execCoreHalt_pathsOk {n : Fin 4} {halt : Bool} (h : s.PathsOk) : Res.PathsOk (execCoreHalt n halt s) :=
  (h.haltCore.either (h.either h.frame)).next

theorem execCoreRestart_pathsOk {n : Fin 4} (h : s.PathsOk) : Res.PathsOk (execCoreRestart n s) := h.restartCore.next

theorem execCoreAutoRestart_pathsOk {c : Fin 4} (h : s.PathsOk) : Res.PathsOk (execCoreAutoRestart c s) :=
  (h.restartCore.either h).next

theorem execWdkick_pathsOk {c : Fin 4} {v : Word} (h : s.PathsOk) : Res.PathsOk (execWdkick c v s) :=
  (h.modCore.either h).next

theorem State.PathsOk.sigSend {c : Fin 4} {v : Word} (h : s.PathsOk) : (s.sigSend c v).PathsOk :=
  h.foldl fun _ _ h => h.modCore.either h

theorem execSigSend_pathsOk {c : Fin 4} {v : Word} (h : s.PathsOk) : Res.PathsOk (execSigSend c v s) :=
  (h.sigSend.either h).next

theorem State.PathsOk.ppOp {c : Fin 4} {op : ℕ} (h : s.PathsOk) : (s.ppOp c op).PathsOk := by
  unfold State.ppOp
  extract_lets s1 k slot done
  have h1 : s1.PathsOk := h.slotTurn.either h
  have hdone {t : State} {st why : ℕ} (ht : t.PathsOk) : (done t st why).PathsOk := ht.modCore
  split
  · exact hdone h1.modCore
  · split
    · split
      · exact hdone h1
      · split
        · exact hdone h1.podStore
        · exact hdone h1.podWrite
    · exact h1

theorem execPpRead_pathsOk {c : Fin 4} (h : s.PathsOk) : Res.PathsOk (execPpRead c s) := (h.ppOp.either h).next

theorem execPpWrite_pathsOk {c : Fin 4} (h : s.PathsOk) : Res.PathsOk (execPpWrite c s) := (h.ppOp.either h).next

theorem execPpDelete_pathsOk {c : Fin 4} (h : s.PathsOk) : Res.PathsOk (execPpDelete c s) := (h.ppOp.either h).next

/-! ### Register reads -/

theorem State.PathsOk.prtClear {a : ℕ} (h : s.PathsOk) : (s.prtClear p a).PathsOk :=
  h.modPd.either (h.modPol.either (h.modSwap.either (h.modCnv.either (h.modEf.either (h.modEf.either h)))))

theorem State.PathsOk.prtLatch {i : Iface} {a : ℕ} (h : s.PathsOk) : (s.prtLatch i p a).PathsOk := by
  unfold State.prtLatch
  exact h.modLat

theorem State.PathsOk.readEffect {i : Iface} {a : ℕ} (h : s.PathsOk) : (s.readEffect i a).PathsOk := by
  unfold State.readEffect
  exact h.modLat.either <| h.modLat.either <| h.frame.either <| h.frame.either <| h.modFlow.either <|
    h.modFlow.either <| h.flogNext.either <| h.prtClear.prtLatch.either <| h.frame.either <| h.modLat.either <|
    h.modLat.either <| h.modLat.either <| h

theorem State.PathsOk.busRead {i : Iface} {a : ℕ} (h : s.PathsOk) : (s.busRead i a).2.PathsOk := by
  unfold State.busRead
  exact (h.flogLatch.either h).readEffect

theorem execRcRead_pathsOk {i : Iface} {off : BitVec 20} (h : s.PathsOk) : Res.PathsOk (execRcRead i off s) :=
  h.busRead.emit.next

theorem execLoLatchRead_pathsOk {i : Iface} {off : BitVec 20} (h : s.PathsOk) :
    Res.PathsOk (execLoLatchRead i off s) :=
  h.busRead.emit.next

/-! ### Register writes -/

theorem State.PathsOk.violate (h : s.PathsOk) : s.violate.PathsOk := h.frame

theorem State.PathsOk.modHif {f : HifState → HifState} (h : s.PathsOk) : (s.modHif f).PathsOk := h.frame

theorem State.PathsOk.setQIrq {v : Word} (h : s.PathsOk) : (s.setQIrq v).PathsOk :=
  h.modHif.either (h.modCq.either (h.modEq.either h))

theorem State.PathsOk.ifNotLive {f : HifState → HifState} (h : s.PathsOk) : (s.ifNotLive f).PathsOk :=
  h.either h.modHif

theorem State.PathsOk.msixWrite {o : ℕ} {v : Word} (h : s.PathsOk) : (s.msixWrite o v).PathsOk := h.modHif.msixPend

theorem State.PathsOk.stoErr {bit : ℕ} (h : s.PathsOk) : (s.stoErr bit).PathsOk := h.frame

theorem State.PathsOk.flowCfg {lock : Bool} {f : ℕ} {v : Word} (h : s.PathsOk) : (s.flowCfg lock f v).PathsOk := by
  unfold State.flowCfg
  extract_lets +onlyGivenNames x s1 r cap tooHigh low min s2 s3
  have h1 : s1.PathsOk := h.violate.either h
  have h2 : s2.PathsOk := h1.stoErr.either h1
  have h3 : s3.PathsOk := h2.stoErr.either h2
  exact (h3.stoErr.either h3).either (((h3.stoErr.either h3).modFlow).noteRegain)

theorem State.PathsOk.budErr {bit : ℕ} (h : s.PathsOk) : (s.budErr bit).PathsOk := h.frame

theorem State.PathsOk.limitWrite {lock : Bool} {v : Word} (h : s.PathsOk) : (s.limitWrite lock v).PathsOk := by
  unfold State.limitWrite
  exact ((h.violate.either h).budErr).either <| ((h.violate.either h).budErr).either <|
    ((h.violate.either h).frame).either <|
    (execAllocationRound_pathsOk (((h.violate.either h).frame).frame)).st ((h.violate.either h).frame)

theorem State.PathsOk.ccCfg {v : Word} (h : s.PathsOk) : (s.ccCfg p v).PathsOk := by
  unfold State.ccCfg
  extract_lets +onlyGivenNames was s1 s2
  have h1 : s1.PathsOk := h.modCc
  have h2 : s2.PathsOk := h1.either <| h1.modPd.either h1.pdStop
  exact h1.either <| h2.either <| (h2.either h2.requestPath).either h2.openPath

theorem State.PathsOk.polWrite {f : PolState → PolState} (h : s.PathsOk) : (s.polWrite p f).PathsOk := by
  unfold State.polWrite
  exact h.modPol.either h.modPol.latchReneg

theorem State.PathsOk.prtW1c {a : ℕ} {v : Word} (h : s.PathsOk) : (s.prtW1c p a v).PathsOk := by
  unfold State.prtW1c
  exact h.modCc.either <| h.modPol.either <| h.modSwap.either <| h.modCnv.either <| h.modEf.either <|
    h.modWm.either <| h.modMtr.either <| h.modWm.either <| h

theorem State.PathsOk.retrack (h : s.PathsOk) : (s.retrack p).PathsOk := h.trackShort.trackPeaks.trackUpdate.trackTemp

theorem State.PathsOk.wmCfg {m : Fin 32} {v : Word} (h : s.PathsOk) : (s.wmCfg p m v).PathsOk :=
  h.modMon.retrack.either h.modMon

theorem State.PathsOk.wmStat {m : Fin 32} {v : Word} (h : s.PathsOk) : (s.wmStat p m v).PathsOk := h.modMon

theorem State.PathsOk.modPodT {f : PodState → PodState} (h : s.PathsOk) : (s.modPodT f).PathsOk := h.frame

theorem State.PathsOk.modTwi {f : TwiState → TwiState} (h : s.PathsOk) : (s.modTwi f).PathsOk := h.frame

theorem State.PathsOk.modTwc {n : Fin 4} {f : Twc → Twc} (h : s.PathsOk) : (s.modTwc n f).PathsOk := h.modTwi

theorem State.PathsOk.tcfgWrite {v : Word} (h : s.PathsOk) : (s.tcfgWrite v).PathsOk := h.modTwi

theorem State.PathsOk.twcCfg {n : Fin 4} {v : Word} (h : s.PathsOk) : (s.twcCfg n v).PathsOk := h.modTwc

theorem State.PathsOk.twiW1c {o : ℕ} {v : Word} (h : s.PathsOk) : (s.twiW1c o v).PathsOk :=
  h.modTwi.either (h.modTwc.either h)

theorem State.PathsOk.mapSel {v : ℕ} (h : s.PathsOk) : (s.mapSel v).PathsOk := h.modTwi.either h.modTwi

theorem execTwtMapSelWrite_pathsOk {v : Byte} (h : s.PathsOk) : Res.PathsOk (execTwtMapSelWrite v s) :=
  (h.mapSel.either h.modTwi).next

theorem State.PathsOk.modBkp {f : BkpState → BkpState} (h : s.PathsOk) : (s.modBkp f).PathsOk := h.frame

theorem State.PathsOk.modPwr {f : PwrState → PwrState} (h : s.PathsOk) : (s.modPwr f).PathsOk := h.frame

theorem State.PathsOk.bkpErr (h : s.PathsOk) : s.bkpErr.PathsOk := h.modBkp

theorem State.PathsOk.bkpW1c {v : Word} (h : s.PathsOk) : (s.bkpW1c v).PathsOk := h.modBkp

theorem State.PathsOk.writeBits {a : ℕ} {v : Word} (h : s.PathsOk) : (s.writeBits a v).PathsOk := by
  unfold State.writeBits
  exact h.modHif.either <| (h.frame.either h).either <| h.msixWrite.either <| h.frame.either <| h.frame.either <|
    (h.frame.either h).either <| h.prtW1c.either <| (h.wmStat.either h).either <| (h.modPodT.either h).either <|
    h.twiW1c.either <| h.bkpW1c.either <| h

theorem hifSpec_kept {a : ℕ} : RegSpec.Kept (hifSpec a) :=
  .row (fun h => h.modHif.sendLtr.either h.modHif) (·.hifErr) <| .plain <| .plain <| .row (·.modHif) (·.hifErr) <|
    .row (·.ifNotLive) id <| .row (·.ifNotLive) id <| .row (·.ifNotLive) (·.hifErr) <| .row (·.setQIrq) id .none

theorem stoSpec_kept {i : Iface} {a : ℕ} : RegSpec.Kept (stoSpec i a) :=
  .row (·.frame) (·.stoErr) <| .row (·.frame.noteRegain) (·.stoErr) <| .row (·.modLat) (·.stoErr) .none

theorem glbSpec_kept {i : Iface} {a : ℕ} : RegSpec.Kept (glbSpec i a) :=
  .plain <| .row (·.frame.forPorts fun _ _ h => h.trackTemp) (·.budErr) <| .row (·.modLat) id <| .plain <| .row
    (·.modLat) id <| .plain .none

theorem ccSpec_kept {a : ℕ} : RegSpec.Kept (ccSpec p a) :=
  .row (·.ccCfg) (·.modCc) <| .row (·.modCc) (·.modCc) <| .row (·.modPd) id .none

theorem polSpec_kept {a : ℕ} : RegSpec.Kept (polSpec p a) :=
  .row (·.polWrite) (·.modPol) <| .row (·.polWrite) (·.modPol) <| .row (·.modPol) (·.modPol) <| .row (·.modSwap)
    (·.modSwap) .none

theorem cnvSpec_kept {a : ℕ} : RegSpec.Kept (cnvSpec p a) :=
  .row (·.modCnv) (·.modCnv) <| .row (·.modCnv) (·.modCnv) <| .row (·.modCnv) (·.modCnv) <| .row (·.modCnv)
    (·.modCnv) <|
    .row (·.modCnv) (·.modCnv) <| .row (·.modCnv) (·.modCnv) <| .row (·.modCnv) (·.modCnv) <| .row (·.modCnv)
      (·.modCnv) <| .row (·.modCnv) (·.modCnv) <| .row (·.modCnv) (·.modCnv) .none

theorem efSpec_kept {a : ℕ} : RegSpec.Kept (efSpec p a) :=
  .row (·.modEf.trackShort) (·.modEf) <| .row (·.modEf) (·.modEf) <| .row (·.modEf) (·.modEf) <| .row (·.modEf)
    (·.modEf) <| .row (·.modEf) (·.modEf) .none

theorem wmSpec_kept {a : ℕ} : RegSpec.Kept (wmSpec p a) :=
  .row (·.modWm.trackPeaks.trackTemp) (·.modWm) <| .row (·.modWm) (·.modWm) .none

theorem mtrSpec_kept {a : ℕ} : RegSpec.Kept (mtrSpec p a) :=
  .row (·.modMtr) (·.modMtr) <| .row (·.modMtr) (·.modMtr) <| .row (·.modMtr) (·.modMtr) .none

theorem prtSpec_kept {a : ℕ} : RegSpec.Kept (prtSpec p a) :=
  ccSpec_kept.or <| polSpec_kept.or <| cnvSpec_kept.or <| efSpec_kept.or <| wmSpec_kept.or mtrSpec_kept

theorem wmcSpec_kept {m : Fin 32} {o : ℕ} : RegSpec.Kept (wmcSpec p m o) :=
  .row (fun h => h.modWm.either h.modMon) (·.modWm) <| .row (fun h => h.modWm.either h.wmCfg) (·.modWm) <|
    .row (fun h => h.modWm.either h.modMon.armedActs) (·.modWm) .none

theorem podSpec_kept {o : ℕ} : RegSpec.Kept (podSpec o) :=
  .plain <| .plain <| .plain <| .plain <| .plain <| .plain <| .plain <| .plain .none

theorem twiSpec_kept {o : ℕ} : RegSpec.Kept (twiSpec o) :=
  .row (fun h => h.frame.either h.frame) (·.frame) <| .row (fun h => h.frame.either h.frame) (·.frame) <| .plain <|
    .plain <| .either (.plain <| .row (fun h => h.frame.either h.frame) (·.frame) .none) .none

theorem bkpSpec_kept {o : ℕ} : RegSpec.Kept (bkpSpec o) :=
  .plain <| .plain <| .plain <| .plain <| .plain <| .plain <| .plain .none

theorem pwrSpec_kept {o : ℕ} : RegSpec.Kept (pwrSpec o) :=
  .row (fun h => h.modPwr.either h.modPwr.idleExit) (·.bkpErr) <| .plain <| .plain .none

theorem regSpec_kept {i : Iface} {a : ℕ} : RegSpec.Kept (regSpec i a) :=
  hifSpec_kept.either <| stoSpec_kept.either <| glbSpec_kept.either <| prtSpec_kept.either <| wmcSpec_kept.either <|
    podSpec_kept.either <| RegSpec.Kept.none.either <| twiSpec_kept.either <| bkpSpec_kept.either <|
      pwrSpec_kept.either .none

theorem State.PathsOk.writePlain {i : Iface} {lock : Bool} {a : ℕ} {v : Word} (h : s.PathsOk) :
    (s.writePlain i lock a v).PathsOk := by
  unfold State.writePlain
  split
  next r e => exact regSpec_kept.write e h
  · exact h.flowCfg.either <| h.limitWrite.either <| (h.violate.either h).wvlWrite.either h.writeBits

/-! ### Images -/

theorem State.PathsOk.applyPairs {lock : Bool} {l : List (ℕ × List Byte)} (h : s.PathsOk) :
    (s.applyPairs lock l).PathsOk := by
  unfold State.applyPairs
  exact (h.foldl fun _ _ h => h.writePlain).modHif

theorem State.PathsOk.applySettings {powerOn : Bool} (h : s.PathsOk) : (s.applySettings powerOn).PathsOk := by
  unfold State.applySettings
  exact (h.applyPairs.foldl fun _ _ h => h.modMtr.either (h.frame.either h)).either <|
    (h.applyPairs.foldl fun _ _ h => h.modMtr.either (h.frame.either h)).modHif

theorem State.PathsOk.writePodImage {b : Bool} (h : s.PathsOk) : (s.writePodImage b).PathsOk :=
  h.foldl fun _ _ h => h.either h.podStore

theorem State.PathsOk.loadCode {c : Fin 4} {b : Bool} (h : s.PathsOk) : (s.loadCode c b).PathsOk := by
  unfold State.loadCode
  exact h.modCore

theorem State.PathsOk.endCoreDescs {c : Fin 4} (h : s.PathsOk) : (s.endCoreDescs c).PathsOk := h.endWhere

theorem State.PathsOk.reloadCore {c : Fin 4} {b : Bool} (h : s.PathsOk) : (s.reloadCore c b).PathsOk := by
  unfold State.reloadCore
  exact (h.endCoreDescs.coreReset.loadCode.coreRun.either h.endCoreDescs.coreReset.loadCode.coreStart).modImg

theorem State.PathsOk.migrate (h : s.PathsOk) : s.migrate.PathsOk := h.either h.modImg.modImg.eventD

theorem State.PathsOk.activated (h : s.PathsOk) : s.activated.PathsOk := by
  unfold State.activated
  dsimp only
  split
  · exact (((h.modImg.applyPairs.either h).modImg).eventD).finish
  · exact ((h.modImg.applyPairs.either h).modImg).eventD

theorem State.PathsOk.fellBack {kinds reason : ℕ} (h : s.PathsOk) : (s.fellBack kinds reason).PathsOk := by
  unfold State.fellBack
  extract_lets +onlyGivenNames was s1 s2 s3 s4 s5
  have h1 : s1.PathsOk := h.modImg
  have h3 : s3.PathsOk := h1.modImg.applyPairs.either h1
  have h4 : s4.PathsOk := h3.modImg.eventD
  have h5 : s5.PathsOk := by
    unfold s5
    split
    · exact h4.finish
    · exact h4
  split
  · exact h5.finish
  · exact h5

theorem State.PathsOk.fallBack {reason : ℕ} (h : s.PathsOk) : (s.fallBack reason).PathsOk := by
  unfold State.fallBack
  extract_lets +onlyGivenNames s1 s2
  have h1 : s1.PathsOk := h.modImg
  have h2 : s2.PathsOk := h1.writePodImage.either h1
  exact h.either <| h2.reloadCore.either h2.fellBack

theorem State.PathsOk.faultHook (h : s.PathsOk) : s.faultHook.PathsOk := h.fallBack

theorem execCoreReady_pathsOk {n : Fin 4} {ok : Bool} (h : s.PathsOk) : Res.PathsOk (execCoreReady n ok s) :=
  (h.either ((h.fellBack.either h.reloadCore).either (h.fallBack.either
    (h.modImg.migrate.activated.either h.reloadCore)))).next

theorem imgActivateSpec_keeps : imgActivateSpec.Keeps := by
  intro s d h
  dsimp -zeta only [imgActivateSpec]
  extract_lets +onlyGivenNames k
  split
  · exact h.finish
  · extract_lets +onlyGivenNames s1 v s2
    have h1 : s1.PathsOk := h.modImg
    have h2 : s2.PathsOk := h1.eventD
    exact h2.finish.either (((h2.writePodImage.either h2).reloadCore).either ((h2.writePodImage.either h2).activated))

theorem execImgActivate_pathsOk {d : Desc} (h : s.PathsOk) : Res.PathsOk (execImgActivate d s) :=
  (imgActivateSpec_keeps.start h).next

theorem State.PathsOk.confirmTrial (h : s.PathsOk) : s.confirmTrial.PathsOk := h.modImg.eventD

theorem imgConfirmSpec_keeps : imgConfirmSpec.Keeps := fun _ _ h => h.fallBack.either h.confirmTrial.finish

theorem execImgConfirm_pathsOk {d : Desc} (h : s.PathsOk) : Res.PathsOk (execImgConfirm d s) :=
  (imgConfirmSpec_keeps.start h).next

theorem execHealthWindowExpiry_pathsOk (h : s.PathsOk) : Res.PathsOk (execHealthWindowExpiry s) :=
  (h.fallBack.either h).next

/-! ### Power states -/

theorem State.PathsOk.heldSources (h : s.PathsOk) : s.heldSources.PathsOk := by
  unfold State.heldSources
  extract_lets +onlyGivenNames rd mon
  clear_value rd
  extract_lets +onlyGivenNames s1 s2
  have h1 : s1.PathsOk := by
    cases rd with
    | none => exact h
    | some p => exact h.wakeSet
  have h2 : s2.PathsOk := h1.wakeSet.either h1
  exact h2.wakeSet.either h2

theorem State.PathsOk.enterSleep {target reqBy : ℕ} (h : s.PathsOk) : (s.enterSleep target reqBy).PathsOk :=
  h.frame.heldSources

theorem powerStateSpec_keeps : powerStateSpec.Keeps := fun _ _ h => h.enterSleep

theorem execPowerState_pathsOk {d : Desc} (h : s.PathsOk) : Res.PathsOk (execPowerState d s) :=
  (powerStateSpec_keeps.start h).next

theorem State.PathsOk.abandonEntry {why row : ℕ} (h : s.PathsOk) : (s.abandonEntry why row).PathsOk := by
  unfold State.abandonEntry
  dsimp only
  split
  · exact h.entryOver.modPwr.eventD.finish.either h.entryOver.modPwr.eventD.finish
  · exact h.entryOver.modPwr.eventD

theorem State.PathsOk.flushHost (h : s.PathsOk) : s.flushHost.PathsOk :=
  h.foldl fun _ _ h => (execHostRecordWrite_pathsOk h).st h

theorem State.PathsOk.coreOff (_ : s.PathsOk) : s.coreOff.PathsOk := State.reset_pathsOk.of_ports rfl

theorem State.PathsOk.hibernatePins (h : s.PathsOk) : s.hibernatePins.PathsOk :=
  h.forPorts fun _ _ h => h.modCc.either h

theorem State.PathsOk.commitSleep (h : s.PathsOk) : s.commitSleep.PathsOk := by
  unfold State.commitSleep
  extract_lets +onlyGivenNames w t s1 s2 s3
  have h1 : s1.PathsOk := h.modPwr
  have h2 : s2.PathsOk := h1.eventD.either h1
  have h3 : s3.PathsOk := by
    unfold s3
    split
    · exact h2.finish
    · exact h2
  exact h3.modPwr.either h3.flushHost.coreOff.modPwr.hibernatePins

theorem execQuiesceComplete_pathsOk (h : s.PathsOk) : Res.PathsOk (execQuiesceComplete s) := by
  unfold execQuiesceComplete
  refine State.PathsOk.next ?_
  split
  · exact h
  · split
    · exact h.abandonEntry
    · exact h.commitSleep

theorem execQuiesceTimeout_pathsOk (h : s.PathsOk) : Res.PathsOk (execQuiesceTimeout s) :=
  (h.abandonEntry.either h).next

theorem execDozeTimerExpiry_pathsOk (h : s.PathsOk) : Res.PathsOk (execDozeTimerExpiry s) :=
  (h.enterSleep.either h).next

theorem execHibernateTimerExpiry_pathsOk (h : s.PathsOk) : Res.PathsOk (execHibernateTimerExpiry s) :=
  (h.enterSleep.either h).next

theorem execIdleEntry_pathsOk (h : s.PathsOk) : Res.PathsOk (execIdleEntry s) := (h.modPwr.eventD.either h).next

theorem State.PathsOk.wakeRecord {left ms : ℕ} (h : s.PathsOk) : (s.wakeRecord left ms).PathsOk := h.eventD

theorem State.PathsOk.woken {ms : ℕ} (h : s.PathsOk) : (s.woken ms).PathsOk := h.modPwr

theorem State.PathsOk.recheckLegs (h : s.PathsOk) : s.recheckLegs.PathsOk := h.forPorts fun _ _ h => h.modWm

theorem execWakeFromDoze_pathsOk (h : s.PathsOk) : Res.PathsOk (execWakeFromDoze s) :=
  (h.either (h.modPwr.recheckLegs.wakeRecord.woken.forPorts fun _ _ h => h.tryPath)).next

theorem execWakeFromHibernate_pathsOk (h : s.PathsOk) : Res.PathsOk (execWakeFromHibernate s) :=
  (h.modPwr.either h).next

theorem execHibernateCcWake_pathsOk (h : s.PathsOk) : Res.PathsOk (execHibernateCcWake p s) :=
  (h.wakeSet.either h).next

theorem execPerstRise_pathsOk (h : s.PathsOk) : Res.PathsOk (execPerstRise s) := (h.wakeSet.either h).next

theorem execBusinRiseWake_pathsOk (h : s.PathsOk) : Res.PathsOk (execBusinRiseWake s) := h.wakeSet.next

theorem execAddressMatchWake_pathsOk {addr : BitVec 8} (h : s.PathsOk) :
    Res.PathsOk (execAddressMatchWake addr s) := by
  unfold execAddressMatchWake
  refine State.PathsOk.next ?_
  split
  · exact h
  · exact h.modPwr.wakeSet.either h.wakeSet

theorem State.PathsOk.bkpRecord {cause : ℕ} {fs : List (ℕ × ℕ × ℕ)} (h : s.PathsOk) :
    (s.bkpRecord cause fs).PathsOk :=
  h.modBkp.either h.eventD

theorem State.PathsOk.alarmCheck (h : s.PathsOk) : s.alarmCheck.PathsOk := h.either h.modBkp.bkpRecord.wakeSet

theorem execCalAlarm_pathsOk (h : s.PathsOk) : Res.PathsOk (execCalAlarm s) := h.alarmCheck.next

theorem State.PathsOk.setCalendar {v : Quad} {by_ : ℕ} (h : s.PathsOk) : (s.setCalendar v by_).PathsOk :=
  h.modBkp.eventD.timeFix.alarmCheck

theorem calSetSpec_keeps : calSetSpec.Keeps := fun _ _ h => h.setCalendar.finish

theorem execCalSet_pathsOk {d : Desc} (h : s.PathsOk) : Res.PathsOk (execCalSet d s) :=
  (calSetSpec_keeps.start h).next

theorem State.PathsOk.bkpCtrl {v : Word} (h : s.PathsOk) : (s.bkpCtrl v).PathsOk :=
  h.either (h.bkpErr.either h.setCalendar)

theorem execBkpSet_pathsOk {v : Word} (h : s.PathsOk) : Res.PathsOk (execBkpSet v s) := h.wakeSet.bkpCtrl.next

theorem execCalendarTrim_pathsOk (h : s.PathsOk) : Res.PathsOk (execCalendarTrim s) := (h.either h.modBkp).next

theorem execCalendarOscFail_pathsOk (h : s.PathsOk) : Res.PathsOk (execCalendarOscFail s) :=
  (h.either h.modBkp.frame.bkpRecord).next

theorem execCalendarOscReturn_pathsOk (h : s.PathsOk) : Res.PathsOk (execCalendarOscReturn s) := h.modBkp.next

theorem execTamper_pathsOk {x : TamperLevel} (h : s.PathsOk) : Res.PathsOk (execTamper x s) :=
  (h.modBkp.either (h.either h.modBkp.bkpRecord.wakeSet)).next

theorem State.PathsOk.clearTamper {v : Word} (h : s.PathsOk) : (s.clearTamper v).PathsOk := h.modBkp

theorem execTamperLatchClear_pathsOk {v : Word} (h : s.PathsOk) : Res.PathsOk (execTamperLatchClear v s) :=
  h.wakeSet.clearTamper.next

theorem execVbatMeasure_pathsOk {mv : ℕ} (h : s.PathsOk) : Res.PathsOk (execVbatMeasure mv s) :=
  (h.either (h.modBkp.eventD.either h.modBkp)).next

theorem execBackupSupplySwitch_pathsOk {onVbat : Bool} (h : s.PathsOk) :
    Res.PathsOk (execBackupSupplySwitch onVbat s) :=
  h.modBkp.next

/-! ### Reset and boot -/

theorem State.PathsOk.hrSignal (h : s.PathsOk) : (s.hrSignal p).PathsOk := h.either h.modPd.pdClear.emit.hrNote

theorem State.PathsOk.stopPort {r : EndReason} (h : s.PathsOk) : (s.stopPort p r).PathsOk := by
  unfold State.stopPort
  dsimp only
  split
  · exact h.hrSignal.openBf.closeSession.seqOff.vconnOff.enterHold
  · exact h.openBf.openPath.vconnOff.either h.hrSignal.openBf.disable

theorem State.PathsOk.clearMonitors (h : s.PathsOk) : (s.clearMonitors p).PathsOk := h.modWm

theorem State.PathsOk.forgetPort (h : s.PathsOk) : (s.forgetPort p).PathsOk := h.modCnv.modEf.clearMonitors

theorem portResetSpec_keeps : portResetSpec.Keeps := by
  intro s d h
  dsimp -zeta only [portResetSpec]
  extract_lets +onlyGivenNames p before s1 s2
  have h1 : s1.PathsOk := h.setAux.endWhere
  have h2 : s2.PathsOk := h1.stopPort.forgetPort
  exact ((h2.either h2.toUnattached).portResetDone).either (h2.either h2.toUnattached)

theorem execPortReset_pathsOk {d : Desc} (h : s.PathsOk) : Res.PathsOk (execPortReset d s) :=
  (portResetSpec_keeps.start h).next

theorem State.PathsOk.fallbackRecord {kinds reason : ℕ} (h : s.PathsOk) : (s.fallbackRecord kinds reason).PathsOk :=
  h.either h.eventD

theorem State.PathsOk.readSettings (h : s.PathsOk) : s.readSettings.PathsOk := h.modImg

theorem State.PathsOk.trialAtBoot (h : s.PathsOk) : s.trialAtBoot.PathsOk := by
  unfold State.trialAtBoot
  exact h.modImg

theorem State.PathsOk.startCores (h : s.PathsOk) : s.startCores.PathsOk := by
  unfold State.startCores
  exact (h.foldl fun _ _ h => h.coreReset.loadCode).coreRun

theorem State.PathsOk.resetKeys (h : s.PathsOk) : s.resetKeys.PathsOk := h.frame

theorem State.PathsOk.loadUp {powerOn : Bool} (h : s.PathsOk) : (s.loadUp powerOn).PathsOk :=
  h.readSettings.startCores.resetKeys.migrate.readSettings.applySettings.trialAtBoot

theorem State.PathsOk.bootDone (h : s.PathsOk) : s.bootDone.PathsOk := h.modHif.modPwr.eventD

theorem State.PathsOk.enablePorts (h : s.PathsOk) : s.enablePorts.PathsOk :=
  h.forPorts fun _ _ h => h.either (h.budErr.either (h.frame.either h.toUnattached))

theorem State.PathsOk.loadPod (h : s.PathsOk) : s.loadPod.PathsOk := by
  unfold State.loadPod
  exact h.modPodT

theorem State.PathsOk.wakeRecords (h : s.PathsOk) : s.wakeRecords.PathsOk := by
  unfold State.wakeRecords
  extract_lets +onlyGivenNames w woke s1 late s2 s3
  have h1 : s1.PathsOk := h.eventD.either h
  have h2 : s2.PathsOk := h1.modBkp.foldl fun _ _ h => h.event
  have h3 : s3.PathsOk := by
    unfold s3
    split
    · exact h2.modPwr.eventD
    · exact h2
  exact h3.wakeRecord.woken.either h3

theorem State.PathsOk.rescue {why : ℕ} (h : s.PathsOk) : (s.rescue why).PathsOk :=
  h.coreRun.frame.modHif.modPwr.eventD

theorem State.PathsOk.bootOn {i : BootIn} (h : s.PathsOk) : (s.bootOn i).PathsOk := by
  unfold State.bootOn
  extract_lets +onlyGivenNames m gen
  split
  split
  extract_lets +onlyGivenNames era src1 src2 src3 s1 s2 s3 s4
  have h1 : s1.PathsOk := h.frame
  have h2 : s2.PathsOk := h1.either h1.event
  have h3 : s3.PathsOk := h2.either h2.eventD
  have h4 : s4.PathsOk := h3.fallbackRecord.fallbackRecord
  exact h4.rescue.either h4.loadUp.loadPod.wakeRecords.bootDone.enablePorts

theorem State.PathsOk.powerReset {cause : ℕ} {lost : Bool} (h : s.PathsOk) : (s.powerReset cause lost).PathsOk :=
  h.coreOff.frame.frame.either h.coreOff.frame.modBkp

theorem execPowerOnReset_pathsOk {cause : Fin 8} {boot : BootIn} (h : s.PathsOk) :
    Res.PathsOk (execPowerOnReset cause boot s) :=
  (h.either (h.powerReset.calibrate.bootOn.either h.powerReset.frame)).next

theorem execCrystalStartTimeout_pathsOk (h : s.PathsOk) : Res.PathsOk (execCrystalStartTimeout s) := by
  unfold execCrystalStartTimeout
  dsimp only
  refine State.PathsOk.next ?_
  split
  · exact h
  · exact h.frame.bootOn.eventD

theorem State.PathsOk.clearRwl (h : s.PathsOk) : s.clearRwl.PathsOk := by
  unfold State.clearRwl
  exact h.modHif.frame.forPorts fun _ _ h => h.modPort

theorem State.PathsOk.warmEnd (h : s.PathsOk) : s.warmEnd.PathsOk := h.endWhere.modHif

theorem State.PathsOk.warmBus {n : Fin 4} (h : s.PathsOk) : (s.warmBus n).PathsOk := by
  unfold State.warmBus
  extract_lets +onlyGivenNames c s1
  have h1 : s1.PathsOk := by
    unfold s1
    split
    · split
      · exact h.coreResult
      · exact h
    · exact h
  exact h1.modTwc

theorem State.PathsOk.warmPort (h : s.PathsOk) : (s.warmPort p).PathsOk := by
  unfold State.warmPort
  exact h.modCnv.modEf.clearMonitors.modWm

theorem State.PathsOk.warmRun (h : s.PathsOk) : s.warmRun.PathsOk := by
  unfold State.warmRun
  extract_lets +onlyGivenNames r live s1 s2 s3 s4 src s5
  have h1 : s1.PathsOk := h.modHif.eventD
  have h2 : s2.PathsOk := (h1.forPorts fun _ _ h => h.stopPort).warmEnd
  have h3 : s3.PathsOk := h2.foldl fun _ _ h => h.warmBus
  have h4 : s4.PathsOk := h3.modTwi
  have h5 : s5.PathsOk := h4.frame
  split
  extract_lets +onlyGivenNames s6 s7 rst s8 s9
  have h6 : s6.PathsOk := h5.clearRwl
  have h7 : s7.PathsOk := h6.frame.fallbackRecord.forPorts fun _ _ h => h.warmPort
  have h9 : s9.PathsOk := h7.frame.loadUp
  exact h7.rescue.either (h9.loadPod.either h9).bootDone.enablePorts

theorem State.PathsOk.warmRequest {by_ : ℕ} {force : Bool} (h : s.PathsOk) : (s.warmRequest by_ force).PathsOk := by
  unfold State.warmRequest
  extract_lets +onlyGivenNames s1 src s2
  have h1 : s1.PathsOk := h.abandonWake.either <| h.latchWake.either h
  have h2 : s2.PathsOk := h1.frame
  exact h2.warmRun.either h2

theorem State.PathsOk.hifRst {i : Iface} {v : Word} (h : s.PathsOk) : (s.hifRst i v).PathsOk :=
  h.hifErr.either (h.either h.warmRequest)

theorem execWarmReset_pathsOk {i : Iface} {v : Word} (h : s.PathsOk) : Res.PathsOk (execWarmReset i v s) :=
  ((h.hifRst.either h.modTwi).either h.wakeSet.hifRst).next

theorem execWarmResetProceed_pathsOk (h : s.PathsOk) : Res.PathsOk (execWarmResetProceed s) :=
  (h.warmRun.either h).next

/-! ### Two-wire controllers -/

theorem twiXferSpec_keeps : twiXferSpec.Keeps := fun _ _ h => h.sendCell

theorem execTwiXfer_pathsOk {d : Desc} {wdata : List Byte} (h : s.PathsOk) : Res.PathsOk (execTwiXfer d wdata s) :=
  (twiXferSpec_keeps.start h).next

theorem State.PathsOk.twTell {n : Fin 4} {x : TwItem} {status : ℕ} {res : Quad} {rd : List Byte} (h : s.PathsOk) :
    (s.twTell n x status res rd).PathsOk := by
  unfold State.twTell
  split
  · exact h.coreResult
  · split
    · exact h.either ((h.either h.hostPut).finish)
    · exact h

theorem State.PathsOk.twEnd {n : Fin 4} {x : TwItem} {status moved : ℕ} {at_ : Option (ℕ × ℕ)} {rd : List Byte} (h : s.PathsOk) :
    (s.twEnd n x status moved at_ rd).PathsOk :=
  h.modTwc.twTell

theorem State.PathsOk.twLoss {n : Fin 4} {x : TwItem} {byte bit phase moved : ℕ} (h : s.PathsOk) :
    (s.twLoss n x byte bit phase moved).PathsOk :=
  h.modTwc.eventD.modTwc.either h.modTwc.eventD.twEnd

theorem State.PathsOk.twLossAt {n : Fin 4} {x : TwItem} {status byte phase moved : ℕ} (h : s.PathsOk) :
    (s.twLossAt n x status byte phase moved).PathsOk := by
  unfold State.twLossAt
  exact h.modTwc.eventD.twEnd

theorem State.PathsOk.twRun {n : Fin 4} {x : TwItem} {r : TwcRes} (h : s.PathsOk) : (s.twRun n x r).PathsOk := by
  unfold State.twRun
  dsimp only
  split
  · exact h.modTwc.emit.twEnd
  · exact h.modTwc.emit.twEnd
  · exact h.modTwc.emit.twLoss
  · exact h.modTwc.emit.twLossAt
  · exact h.modTwc.emit.twLossAt
  · exact h.modTwc.emit.twEnd
  · exact h.modTwc.emit
  · exact h.modTwc.emit

theorem execTwcItem_pathsOk {n : Fin 4} {r : TwcRes} (h : s.PathsOk) : Res.PathsOk (execTwcItem n r s) := by
  unfold execTwcItem
  dsimp only
  refine State.PathsOk.next ?_
  split
  · exact h
  · split
    · exact h.headUe
    · split
      · exact h.headUe
      · exact h.headUe.popRecord.either <| h.headUe.popRecord.twEnd.either <| h.headUe.popRecord.twEnd.either <|
          h.headUe.popRecord.twEnd.either <| h.headUe.either <| h.headUe.modTwc.either <| h.headUe.popRecord.twRun

theorem execArbRetry_pathsOk {n : Fin 4} {r : TwcRes} (h : s.PathsOk) : Res.PathsOk (execArbRetry n r s) := by
  unfold execArbRetry
  dsimp only
  refine State.PathsOk.next ?_
  split
  · exact h.either (h.modTwc.either h.twRun)
  · exact h

theorem execStretchTimeout_pathsOk {n : Fin 4} {moved : ℕ} (h : s.PathsOk) :
    Res.PathsOk (execStretchTimeout n moved s) := by
  unfold execStretchTimeout
  dsimp only
  refine State.PathsOk.next ?_
  split
  · exact h.either h.modTwc.twEnd
  · exact h

theorem State.PathsOk.recovered {n : Fin 4} {sda scl : Bool} (h : s.PathsOk) : (s.recovered n sda scl).PathsOk :=
  h.modTwc

theorem execBusRecovery_pathsOk {n : Fin 4} {sda scl : Bool} {pulses : ℕ} (h : s.PathsOk) :
    Res.PathsOk (execBusRecovery n sda scl pulses s) := by
  unfold execBusRecovery
  dsimp only
  refine State.PathsOk.next ?_
  split
  · exact h
  · split
    · exact h.recovered
    · split
      · exact h.recovered.modTwc.eventD.twEnd
      · exact h.recovered.modTwc.eventD

theorem execQuarantineRetry_pathsOk {n : Fin 4} {sda scl : Bool} {pulses : ℕ} (h : s.PathsOk) :
    Res.PathsOk (execQuarantineRetry n sda scl pulses s) :=
  (h.either (h.recovered.modTwc.either h.recovered.modTwc.modTwc.eventD)).next

theorem execTwcInband_pathsOk {n : Fin 4} {bytes : List Byte} (h : s.PathsOk) :
    Res.PathsOk (execTwcInband n bytes s) :=
  (h.either h.eventD).next

/-! ### The commands of the rings -/

theorem portSpec_keeps {leg0 leg1 : Option ℕ} {op : ℕ} {k : CmdSpec} (e : portSpec leg0 leg1 op = some k) :
    k.Keeps := by
  unfold portSpec at e
  split at e <;> cases e
  exacts [portEnableSpec_keeps, portDisableSpec_keeps, portResetSpec_keeps, clearFaultSpec_keeps, hardResetSpec_keeps,
    renegotiateSpec_keeps, setpointTrimSpec_keeps, roleSwapSpec_keeps, vconnSwapSpec_keeps, vconnSetSpec_keeps,
      backfeedSetSpec_keeps,
    phaseClearSpec_keeps, podRelookupSpec_keeps, authenticateSpec_keeps, fleetModeSpec_keeps, monitorTestSpec_keeps]

theorem devSpec_keeps {op : ℕ} {k : CmdSpec} (e : devSpec op = some k) : k.Keeps := by
  unfold devSpec at e
  split at e <;> cases e
  exacts [nopSpec_keeps, sessionReadSpec_keeps, sessionAckSpec_keeps, calSetSpec_keeps, podWriteSpec_keeps,
    twiXferSpec_keeps,
    faultLogReadSpec_keeps, imgBlockSpec_keeps, imgActivateSpec_keeps, imgConfirmSpec_keeps, powerStateSpec_keeps]

theorem specOf_keeps {leg0 leg1 : Option ℕ} {op : ℕ} {k : CmdSpec} (e : specOf leg0 leg1 op = some k) : k.Keeps :=
  (Option.or_eq_some_iff.mp e).elim portSpec_keeps fun e => devSpec_keeps e.2

theorem execDeferredStart_pathsOk {sq : Fin 16} {slot : BitVec 12} (h : s.PathsOk) :
    Res.PathsOk (execDeferredStart sq slot s) := by
  unfold execDeferredStart
  refine State.PathsOk.next ?_
  split
  · exact h
  · split
    · exact h
    · dsimp only
      split
      next k e => exact (specOf_keeps e).judge h.draw
      · exact h.draw

theorem execDeferTimeout_pathsOk {sq : Fin 16} {slot : BitVec 12} (h : s.PathsOk) :
    Res.PathsOk (execDeferTimeout sq slot s) := by
  unfold execDeferTimeout
  refine State.PathsOk.next ?_
  split
  · exact h
  · split
    · exact h
    · split
      · exact h.finish
      · exact h

theorem execCommandTimeLimitExpiry_pathsOk {sq : Fin 16} {slot : BitVec 12} (h : s.PathsOk) :
    Res.PathsOk (execCommandTimeLimitExpiry sq slot s) := by
  unfold execCommandTimeLimitExpiry
  refine State.PathsOk.next ?_
  split
  · exact h
  · exact h.either (h.openBf.modEf.finish.either (h.portResetDone.either h))

theorem execJournalScan_pathsOk (h : s.PathsOk) : Res.PathsOk (execJournalScan s) :=
  (h.either (h.scanJournal.forPorts fun _ _ h => h.tryPath)).next

theorem execCreditReturn_pathsOk {flow : ℕ} (h : s.PathsOk) : Res.PathsOk (execCreditReturn flow s) :=
  State.PathsOk.next <| h.either <| h.admitTx.nextTx.either <| h.putMerged.either <| h.admitCell.pumpWave.either <|
    h.podBlocksGo.either <| h.imgBlocksGo.either <| h.admitCell.either h

theorem State.PathsOk.deleteSq {k : Fin 16} (h : s.PathsOk) : (s.deleteSq k).PathsOk :=
  (((h.modSq.foldl fun _ _ h => h.finish).modHif).foldl fun _ _ h => h.endBuf).sqGone

theorem execQueueDelete_pathsOk (h : s.PathsOk) : Res.PathsOk (execQueueDelete s) :=
  (h.qResult.either (h.deleteSq.qResult.either
    ((h.qResult.either h.modCq.orphan.qResult).either h.modEq.qResult))).next

/-! ### Register accesses on the buses -/

theorem State.PathsOk.lockWrite {i : Iface} {v : Word} (h : s.PathsOk) : (s.lockWrite i v).PathsOk :=
  h.modHif.frame.either h.modHif

theorem State.PathsOk.qctrlWrite {v : Word} (h : s.PathsOk) : (s.qctrlWrite v).PathsOk := by
  unfold State.qctrlWrite
  exact ((execQueueCreate_pathsOk h).st h).either <| ((execQueueDelete_pathsOk h).st h).either <|
    ((execDiscardOrphans_pathsOk h).st h).either <| h

theorem State.PathsOk.podCtrl {v : Word} (h : s.PathsOk) : (s.podCtrl v).PathsOk := by
  unfold State.podCtrl
  exact ((execPodReadSlot_pathsOk h).st h).either <| ((execPodWriteSlot_pathsOk h).st h).either <|
    ((execPodDeleteSlot_pathsOk h).st h).either <| h

theorem State.PathsOk.doorbell {o : ℕ} {v : Word} (h : s.PathsOk) : (s.doorbell o v).PathsOk := by
  unfold State.doorbell
  exact ((execSqTailDoorbell_pathsOk h).st h).either <| ((execCqHeadDoorbell_pathsOk h).st h).either <|
    ((execEqHeadDoorbell_pathsOk h).st h).either <| h

theorem State.PathsOk.writeReg {i : Iface} {a : ℕ} {v : Word} (h : s.PathsOk) : (s.writeReg i a v).PathsOk := by
  unfold State.writeReg
  exact ((execRingSelWrite_pathsOk h).st h).either <| h.qctrlWrite.either <| h.hifRst.either <| h.lockWrite.either <|
    h.podCtrl.either <| h.bkpCtrl.either <| h.clearTamper.either <| h.doorbell.either <| h.writePlain

theorem State.PathsOk.twtWrite {a : ℕ} {v : Word} (h : s.PathsOk) : (s.twtWrite a v).PathsOk := by
  unfold State.twtWrite
  split
  · exact h.modTwi
  · exact h.mapSel.either h.writeReg

theorem State.PathsOk.ifaceWrite {i : Iface} {a : ℕ} {v : Word} (h : s.PathsOk) : (s.ifaceWrite i a v).PathsOk :=
  h.twtWrite.either h.wakeSet.writeReg

theorem execRegisterWrite_pathsOk {i : Iface} {off : BitVec 20} {v : Word} (h : s.PathsOk) :
    Res.PathsOk (execRegisterWrite i off v s) :=
  (h.hifErr.either h.ifaceWrite).next

theorem execLimitWrite_pathsOk {i : Iface} {v : Word} (h : s.PathsOk) : Res.PathsOk (execLimitWrite i v s) :=
  h.ifaceWrite.next

theorem execLockSet_pathsOk {i : Iface} {v : Word} (h : s.PathsOk) : Res.PathsOk (execLockSet i v s) :=
  h.ifaceWrite.next

/-! ### The two-wire target -/

theorem State.PathsOk.twtStart (h : s.PathsOk) : s.twtStart.PathsOk := h.modTwi

theorem State.PathsOk.twtApply {base size n ptr : ℕ} {bs : List Byte} (h : s.PathsOk) :
    (State.twtApply base size n ptr bs s).PathsOk := by
  induction n generalizing s ptr bs with
  | zero => exact h
  | succ n ih =>
    unfold State.twtApply
    exact h.either (h.modTwi.emit.either (h.either (ih h.twtWrite)))

theorem State.PathsOk.twtWriteBytes {addr base size : ℕ} {bs : List Byte} (h : s.PathsOk) :
    (s.twtWriteBytes addr base size bs).PathsOk := by
  unfold State.twtWriteBytes
  exact h.either (h.emit.either (h.twtApply.either (h.modTwi.emit.either (h.emit.either
    (h.modTwi.emit.eventD.either h.twtApply)))))

theorem execTwtRegisterWrite_pathsOk {addr : BitVec 7} {bytes : List Byte} (h : s.PathsOk) :
    Res.PathsOk (execTwtRegisterWrite addr bytes s) := by
  unfold execTwtRegisterWrite
  dsimp only
  refine State.PathsOk.next ?_
  split
  · exact h.twtStart.emit
  · exact h.twtStart.either h.twtStart.emit
  · exact h.twtStart.twtWriteBytes

theorem State.PathsOk.twtWord {d : ℕ} (h : s.PathsOk) : (s.twtWord d).2.PathsOk := by
  unfold State.twtWord
  split
  · exact h
  · split
    · exact h
    · exact h.busRead

theorem State.PathsOk.twtReadN {base size n ptr : ℕ} {w : Word} (h : s.PathsOk) :
    (State.twtReadN base size n ptr w s).2.PathsOk := by
  induction n generalizing s ptr w with
  | zero => exact h
  | succ n ih =>
    unfold State.twtReadN
    dsimp only
    refine ih (State.PathsOk.either (State.PathsOk.flogNext ?_) ?_) <;>
    · split
      · exact h.twtWord
      · exact h

theorem execTwtRegisterRead_pathsOk {addr : BitVec 7} {bytes : List Byte} {n : ℕ} (h : s.PathsOk) :
    Res.PathsOk (execTwtRegisterRead addr bytes n s) := by
  unfold execTwtRegisterRead
  refine State.PathsOk.next ?_
  extract_lets s1
  have h1 : s1.PathsOk := h.twtStart
  split
  · dsimp only
    refine h1.emit.either (State.PathsOk.emit (State.PathsOk.twtReadN ?_))
    split
    · exact h1
    · exact h1.twtWord
  · exact h1.emit

theorem State.PathsOk.delivered {l : List (ℕ × Payload)} (h : s.PathsOk) : (s.delivered l).PathsOk := by
  unfold State.delivered
  exact (h.foldl fun _ _ h => h.readRecord).modTwi

theorem execTwtEventRead_pathsOk {addr : BitVec 7} {n : ℕ} (h : s.PathsOk) :
    Res.PathsOk (execTwtEventRead addr n s) := by
  unfold execTwtEventRead
  dsimp only
  refine State.PathsOk.next ?_
  split
  · exact (((h.twtStart.foldl fun _ _ h => h.headUe).delivered).emit).either <|
      ((h.twtStart.foldl fun _ _ h => h.headUe).delivered).emit
  · exact h.twtStart.emit

theorem execAlertResponse_pathsOk (h : s.PathsOk) : Res.PathsOk (execAlertResponse s) :=
  (h.twtStart.emit.either h.twtStart.modTwi.emit).next

theorem State.PathsOk.sendRequest (h : s.PathsOk) : s.sendRequest.PathsOk := h.twtStart.modTwi.emit

theorem execInBandRequest_pathsOk (h : s.PathsOk) : Res.PathsOk (execInBandRequest s) := (h.sendRequest.either h).next

theorem execIbrResendExpiry_pathsOk (h : s.PathsOk) : Res.PathsOk (execIbrResendExpiry s) :=
  (h.sendRequest.either h).next

theorem execTwtTimeout_pathsOk {addr : BitVec 7} {n : ℕ} (h : s.PathsOk) : Res.PathsOk (execTwtTimeout addr n s) :=
  (h.twtStart.either h.twtStart.modTwi.eventD).next

/-! ### Execution on a core -/

theorem State.PathsOk.sync {c : Fin 4} {cause detail : ℕ} {epc eaddr : Word} {kind : ℕ} (h : s.PathsOk) :
    (s.sync c cause detail epc eaddr kind).PathsOk :=
  h.modCore.coreFault.faultHook.either h.modCore

theorem State.PathsOk.eccRecord {c : Fin 4} {cause mem : ℕ} {a : Word} (h : s.PathsOk) :
    (s.eccRecord c cause mem a).PathsOk :=
  h.eventD

theorem State.PathsOk.instr {c : Fin 4} {f : Fetch} {legal : Bool} {body : State → State} (h : s.PathsOk)
    (hb : ∀ s, s.PathsOk → (body s).PathsOk) : (s.instr c f legal body).PathsOk := by
  unfold State.instr
  extract_lets +onlyGivenNames k r
  split
  · exact h
  · split
    · exact h.sync
    · split
      · exact h.sync
      · split
        · exact h.eccRecord.sync
        · extract_lets s1
          have h1 : s1.PathsOk := h.eccRecord.either h
          exact h1.sync.either (hb _ h1)

theorem State.PathsOk.onCore {c : Fin 4} {f : Fetch} {legal : Bool} {g : Core → Core} (h : s.PathsOk) :
    (s.onCore c f legal g).PathsOk :=
  h.instr fun _ h => h.modCore

theorem State.PathsOk.fpCommand {c : Fin 4} {i : Fin 16} {op : ℕ} (h : s.PathsOk) : (s.fpCommand c i op).PathsOk := by
  unfold State.fpCommand
  exact ((execTake_pathsOk h).st h).either <| ((execRelease_pathsOk h).st h).either <|
    ((execAlloc_pathsOk h).st h).either <| ((execCommit_pathsOk h).st h).either <|
    ((execAbandon_pathsOk h).st h).either <| ((execCancel_pathsOk h).st h).either <| h

theorem State.PathsOk.fpWrite {c : Fin 4} {o : ℕ} {v : Word} (h : s.PathsOk) : (s.fpWrite c o v).PathsOk :=
  ((execBind_pathsOk h).st h).either (h.fpCommand.either h)

theorem State.PathsOk.cxWrite {c : Fin 4} {o : ℕ} {v : Word} (h : s.PathsOk) : (s.cxWrite c o v).PathsOk :=
  h.modCx.either (h.modCx.either (h.modCx.either (h.modCx.either (h.modCx.either (h.cxGo.either h)))))

theorem State.PathsOk.localRead {c : Fin 4} {o : ℕ} (h : s.PathsOk) : (s.localRead c o).2.PathsOk := by
  unfold State.localRead
  dsimp only
  split
  · exact h.modCore.snd_mk
  · repeat' split
    all_goals exact h

theorem State.PathsOk.localWrite {c : Fin 4} {o : ℕ} {v : Word} (h : s.PathsOk) : (s.localWrite c o v).PathsOk :=
  h.modCore.either (h.modCore.either (h.modCore.either (h.sigSend.either (h.modCore.either h))))

theorem State.PathsOk.ppStore {c : Fin 4} {o : ℕ} {b : List Byte} (h : s.PathsOk) : (s.ppStore c o b).PathsOk :=
  h.modCore.either (h.modCore.either (h.ppOp.either h))

theorem State.PathsOk.busLoad {c : Fin 4} {r : Range} {a size : ℕ} (h : s.PathsOk) :
    (s.busLoad c r a size).2.PathsOk := by
  unfold State.busLoad
  extract_lets +onlyGivenNames k part
  cases r with
  | pod => exact (h.modCore.either h).snd_mk
  | localR => exact h.localRead.snd_mk
  | _ => exact h.snd_mk

theorem State.PathsOk.busStore {c : Fin 4} {r : Range} {a : ℕ} {b : List Byte} (h : s.PathsOk) :
    (s.busStore c r a b).PathsOk := by
  unfold State.busStore
  dsimp only
  split
  · exact h.modCore
  · exact h.modCore
  · exact h.frame
  · exact h.modCore
  · exact h.fpWrite
  · exact h.modFp
  · exact h.ppStore
  · exact h.cxWrite
  · exact h.localWrite
  · exact h.wvlWrite
  · exact h
  · exact h

theorem State.PathsOk.dataCe {c : Fin 4} {f : Fetch} {a : Word} (h : s.PathsOk) : (s.dataCe c f a).PathsOk := by
  unfold State.dataCe
  split
  · exact h.eccRecord.either h
  · exact h

/-! ### Arithmetic and logic -/

theorem State.PathsOk.aluR {c : Fin 4} {f : Fetch} {i : InsR} {g : Core → Word → Word → Alu} (h : s.PathsOk) :
    (s.aluR c f i g).PathsOk :=
  h.onCore

theorem State.PathsOk.aluShift {c : Fin 4} {f : Fetch} {i : InsR} {x : Shift} (h : s.PathsOk) :
    (s.aluShift c f i x).PathsOk :=
  h.aluR

theorem State.PathsOk.aluShiftImm {c : Fin 4} {f : Fetch} {i : InsR} {x : Shift} (h : s.PathsOk) :
    (s.aluShiftImm c f i x).PathsOk :=
  h.onCore

theorem State.PathsOk.aluOne {c : Fin 4} {f : Fetch} {i : InsR} {g : Word → Word} (h : s.PathsOk) :
    (s.aluOne c f i g).PathsOk :=
  h.onCore

theorem State.PathsOk.aluFlags {c : Fin 4} {f : Fetch} {i : InsR} {g : Word → Word → Alu} (h : s.PathsOk) :
    (s.aluFlags c f i g).PathsOk :=
  h.onCore

theorem State.PathsOk.aluI {c : Fin 4} {f : Fetch} {i : InsI} {imm : Word} {g : Word → Word → Alu} (h : s.PathsOk) :
    (s.aluI c f i imm g).PathsOk :=
  h.onCore

theorem State.PathsOk.aluIFlags {c : Fin 4} {f : Fetch} {i : InsI} {imm : Word} {g : Word → Word → Alu} (h : s.PathsOk) :
    (s.aluIFlags c f i imm g).PathsOk :=
  h.onCore

theorem execAdd_pathsOk {c : Fin 4} {f : Fetch} {i : InsR} (h : s.PathsOk) : Res.PathsOk (execAdd c f i s) :=
  h.aluR.next

theorem execSub_pathsOk {c : Fin 4} {f : Fetch} {i : InsR} (h : s.PathsOk) : Res.PathsOk (execSub c f i s) :=
  h.aluR.next

theorem execAdc_pathsOk {c : Fin 4} {f : Fetch} {i : InsR} (h : s.PathsOk) : Res.PathsOk (execAdc c f i s) :=
  h.aluR.next

theorem execSbc_pathsOk {c : Fin 4} {f : Fetch} {i : InsR} (h : s.PathsOk) : Res.PathsOk (execSbc c f i s) :=
  h.aluR.next

theorem execAnd_pathsOk {c : Fin 4} {f : Fetch} {i : InsR} (h : s.PathsOk) : Res.PathsOk (execAnd c f i s) :=
  h.aluR.next

theorem execOr_pathsOk {c : Fin 4} {f : Fetch} {i : InsR} (h : s.PathsOk) : Res.PathsOk (execOr c f i s) :=
  h.aluR.next

theorem execXor_pathsOk {c : Fin 4} {f : Fetch} {i : InsR} (h : s.PathsOk) : Res.PathsOk (execXor c f i s) :=
  h.aluR.next

theorem execAndn_pathsOk {c : Fin 4} {f : Fetch} {i : InsR} (h : s.PathsOk) : Res.PathsOk (execAndn c f i s) :=
  h.aluR.next

theorem execSll_pathsOk {c : Fin 4} {f : Fetch} {i : InsR} (h : s.PathsOk) : Res.PathsOk (execSll c f i s) :=
  h.aluShift.next

theorem execSrl_pathsOk {c : Fin 4} {f : Fetch} {i : InsR} (h : s.PathsOk) : Res.PathsOk (execSrl c f i s) :=
  h.aluShift.next

theorem execSra_pathsOk {c : Fin 4} {f : Fetch} {i : InsR} (h : s.PathsOk) : Res.PathsOk (execSra c f i s) :=
  h.aluShift.next

theorem execRor_pathsOk {c : Fin 4} {f : Fetch} {i : InsR} (h : s.PathsOk) : Res.PathsOk (execRor c f i s) :=
  h.aluShift.next

theorem execSlli_pathsOk {c : Fin 4} {f : Fetch} {i : InsR} (h : s.PathsOk) : Res.PathsOk (execSlli c f i s) :=
  h.aluShiftImm.next

theorem execSrli_pathsOk {c : Fin 4} {f : Fetch} {i : InsR} (h : s.PathsOk) : Res.PathsOk (execSrli c f i s) :=
  h.aluShiftImm.next

theorem execSrai_pathsOk {c : Fin 4} {f : Fetch} {i : InsR} (h : s.PathsOk) : Res.PathsOk (execSrai c f i s) :=
  h.aluShiftImm.next

theorem execRori_pathsOk {c : Fin 4} {f : Fetch} {i : InsR} (h : s.PathsOk) : Res.PathsOk (execRori c f i s) :=
  h.aluShiftImm.next

theorem execMul_pathsOk {c : Fin 4} {f : Fetch} {i : InsR} (h : s.PathsOk) : Res.PathsOk (execMul c f i s) :=
  h.aluR.next

theorem execMulhu_pathsOk {c : Fin 4} {f : Fetch} {i : InsR} (h : s.PathsOk) : Res.PathsOk (execMulhu c f i s) :=
  h.aluR.next

theorem execMulhs_pathsOk {c : Fin 4} {f : Fetch} {i : InsR} (h : s.PathsOk) : Res.PathsOk (execMulhs c f i s) :=
  h.aluR.next

theorem execDivu_pathsOk {c : Fin 4} {f : Fetch} {i : InsR} (h : s.PathsOk) : Res.PathsOk (execDivu c f i s) :=
  h.aluR.next

theorem execDivs_pathsOk {c : Fin 4} {f : Fetch} {i : InsR} (h : s.PathsOk) : Res.PathsOk (execDivs c f i s) :=
  h.aluR.next

theorem execRemu_pathsOk {c : Fin 4} {f : Fetch} {i : InsR} (h : s.PathsOk) : Res.PathsOk (execRemu c f i s) :=
  h.aluR.next

theorem execRems_pathsOk {c : Fin 4} {f : Fetch} {i : InsR} (h : s.PathsOk) : Res.PathsOk (execRems c f i s) :=
  h.aluR.next

theorem execCmp_pathsOk {c : Fin 4} {f : Fetch} {i : InsR} (h : s.PathsOk) : Res.PathsOk (execCmp c f i s) :=
  h.aluFlags.next

theorem execTst_pathsOk {c : Fin 4} {f : Fetch} {i : InsR} (h : s.PathsOk) : Res.PathsOk (execTst c f i s) :=
  h.aluFlags.next

theorem execMin_pathsOk {c : Fin 4} {f : Fetch} {i : InsR} (h : s.PathsOk) : Res.PathsOk (execMin c f i s) :=
  h.aluR.next

theorem execMax_pathsOk {c : Fin 4} {f : Fetch} {i : InsR} (h : s.PathsOk) : Res.PathsOk (execMax c f i s) :=
  h.aluR.next

theorem execMinu_pathsOk {c : Fin 4} {f : Fetch} {i : InsR} (h : s.PathsOk) : Res.PathsOk (execMinu c f i s) :=
  h.aluR.next

theorem execMaxu_pathsOk {c : Fin 4} {f : Fetch} {i : InsR} (h : s.PathsOk) : Res.PathsOk (execMaxu c f i s) :=
  h.aluR.next

theorem execClz_pathsOk {c : Fin 4} {f : Fetch} {i : InsR} (h : s.PathsOk) : Res.PathsOk (execClz c f i s) :=
  h.aluOne.next

theorem execRev_pathsOk {c : Fin 4} {f : Fetch} {i : InsR} (h : s.PathsOk) : Res.PathsOk (execRev c f i s) :=
  h.aluOne.next

theorem execSextb_pathsOk {c : Fin 4} {f : Fetch} {i : InsR} (h : s.PathsOk) : Res.PathsOk (execSextb c f i s) :=
  h.aluOne.next

theorem execSexth_pathsOk {c : Fin 4} {f : Fetch} {i : InsR} (h : s.PathsOk) : Res.PathsOk (execSexth c f i s) :=
  h.aluOne.next

theorem execAddi_pathsOk {c : Fin 4} {f : Fetch} {i : InsI} (h : s.PathsOk) : Res.PathsOk (execAddi c f i s) :=
  h.aluI.next

theorem execAndi_pathsOk {c : Fin 4} {f : Fetch} {i : InsI} (h : s.PathsOk) : Res.PathsOk (execAndi c f i s) :=
  h.aluI.next

theorem execOri_pathsOk {c : Fin 4} {f : Fetch} {i : InsI} (h : s.PathsOk) : Res.PathsOk (execOri c f i s) :=
  h.aluI.next

theorem execXori_pathsOk {c : Fin 4} {f : Fetch} {i : InsI} (h : s.PathsOk) : Res.PathsOk (execXori c f i s) :=
  h.aluI.next

theorem execCmpi_pathsOk {c : Fin 4} {f : Fetch} {i : InsI} (h : s.PathsOk) : Res.PathsOk (execCmpi c f i s) :=
  h.aluIFlags.next

theorem execTsti_pathsOk {c : Fin 4} {f : Fetch} {i : InsI} (h : s.PathsOk) : Res.PathsOk (execTsti c f i s) :=
  h.aluIFlags.next

theorem execLui_pathsOk {c : Fin 4} {f : Fetch} {i : InsI} (h : s.PathsOk) : Res.PathsOk (execLui c f i s) :=
  h.onCore.next

theorem execAddpc_pathsOk {c : Fin 4} {f : Fetch} {i : InsI} (h : s.PathsOk) : Res.PathsOk (execAddpc c f i s) :=
  h.onCore.next

/-! ### Loads and stores -/

theorem State.PathsOk.loadM {c : Fin 4} {f : Fetch} {i : InsM} {size : ℕ} {g : ℕ → Word} (h : s.PathsOk) :
    (s.loadM c f i size g).PathsOk := by
  refine h.instr fun s h => ?_
  dsimp only
  split
  · exact h.sync
  · exact h.dataCe.busLoad.modCore

theorem State.PathsOk.storeM {c : Fin 4} {f : Fetch} {i : InsM} {size : ℕ} (h : s.PathsOk) :
    (s.storeM c f i size).PathsOk := by
  refine h.instr fun s h => ?_
  dsimp only
  split
  · exact h.sync
  · exact h.dataCe.modCore.busStore

theorem execLb_pathsOk {c : Fin 4} {f : Fetch} {i : InsM} (h : s.PathsOk) : Res.PathsOk (execLb c f i s) :=
  h.loadM.next

theorem execLbu_pathsOk {c : Fin 4} {f : Fetch} {i : InsM} (h : s.PathsOk) : Res.PathsOk (execLbu c f i s) :=
  h.loadM.next

theorem execLh_pathsOk {c : Fin 4} {f : Fetch} {i : InsM} (h : s.PathsOk) : Res.PathsOk (execLh c f i s) :=
  h.loadM.next

theorem execLhu_pathsOk {c : Fin 4} {f : Fetch} {i : InsM} (h : s.PathsOk) : Res.PathsOk (execLhu c f i s) :=
  h.loadM.next

theorem execLw_pathsOk {c : Fin 4} {f : Fetch} {i : InsM} (h : s.PathsOk) : Res.PathsOk (execLw c f i s) :=
  h.loadM.next

theorem execSb_pathsOk {c : Fin 4} {f : Fetch} {i : InsM} (h : s.PathsOk) : Res.PathsOk (execSb c f i s) :=
  h.storeM.next

theorem execSh_pathsOk {c : Fin 4} {f : Fetch} {i : InsM} (h : s.PathsOk) : Res.PathsOk (execSh c f i s) :=
  h.storeM.next

theorem execSw_pathsOk {c : Fin 4} {f : Fetch} {i : InsM} (h : s.PathsOk) : Res.PathsOk (execSw c f i s) :=
  h.storeM.next

theorem execAmo_pathsOk {c : Fin 4} {f : Fetch} {rd ra rb : Reg} {op : BitVec 2} {z : BitVec 12} (h : s.PathsOk) :
    Res.PathsOk (execAmo c f rd ra rb op z s) := by
  unfold execAmo
  dsimp only
  refine State.PathsOk.next ?_
  refine h.instr fun s h => ?_
  split
  · exact h.sync
  · exact h.sync.either h.dataCe.shWrite.modCore

/-! ### System instructions -/

theorem execBcc_pathsOk {c : Fin 4} {f : Fetch} {cond : BitVec 4} {off : BitVec 22} (h : s.PathsOk) :
    Res.PathsOk (execBcc c f cond off s) :=
  h.onCore.next

theorem execBl_pathsOk {c : Fin 4} {f : Fetch} {off : BitVec 26} (h : s.PathsOk) : Res.PathsOk (execBl c f off s) :=
  h.onCore.next

theorem execJalr_pathsOk {c : Fin 4} {f : Fetch} {rd ra : Reg} {z : BitVec 18} (h : s.PathsOk) :
    Res.PathsOk (execJalr c f rd ra z s) :=
  (h.instr fun _ h => h.sync.either h.modCore).next

theorem execTrap_pathsOk {c : Fin 4} {f : Fetch} {i : InsS} (h : s.PathsOk) : Res.PathsOk (execTrap c f i s) :=
  (h.instr fun _ h => h.sync).next

theorem execBrk_pathsOk {c : Fin 4} {f : Fetch} {i : InsS} (h : s.PathsOk) : Res.PathsOk (execBrk c f i s) :=
  (h.instr fun _ h => h.sync).next

theorem execRfe_pathsOk {c : Fin 4} {f : Fetch} {i : InsS} (h : s.PathsOk) : Res.PathsOk (execRfe c f i s) :=
  h.onCore.next

theorem execWait_pathsOk {c : Fin 4} {f : Fetch} {i : InsS} (h : s.PathsOk) : Res.PathsOk (execWait c f i s) :=
  (h.instr fun _ h => h.modCore).next

theorem execFence_pathsOk {c : Fin 4} {f : Fetch} {i : InsS} (h : s.PathsOk) : Res.PathsOk (execFence c f i s) :=
  h.onCore.next

theorem execCrr_pathsOk {c : Fin 4} {f : Fetch} {i : InsS} (h : s.PathsOk) : Res.PathsOk (execCrr c f i s) :=
  (h.instr fun _ h => h.modCore).next

theorem execCrw_pathsOk {c : Fin 4} {f : Fetch} {i : InsS} (h : s.PathsOk) : Res.PathsOk (execCrw c f i s) :=
  h.onCore.next

theorem State.PathsOk.resume {c : Fin 4} (h : s.PathsOk) : (s.resume c).PathsOk := h.modCore.either h

theorem execWaitResume_pathsOk {c : Fin 4} (h : s.PathsOk) : Res.PathsOk (execWaitResume c s) := h.resume.next

theorem execTcmpMatch_pathsOk {c : Fin 4} (h : s.PathsOk) : Res.PathsOk (execTcmpMatch c s) :=
  (h.resume.either h).next

theorem execInterruptTaken_pathsOk {c : Fin 4} (h : s.PathsOk) : Res.PathsOk (execInterruptTaken c s) := by
  unfold execInterruptTaken
  dsimp only
  refine State.PathsOk.next ?_
  split
  · exact h.resume.modCore.either h.resume
  · exact h.resume

theorem execWatchdogExpiry_pathsOk {c : Fin 4} (h : s.PathsOk) : Res.PathsOk (execWatchdogExpiry c s) :=
  (h.either (h.coreFault.faultHook.either h.modCore)).next

/-! ### Fetch -/

theorem State.PathsOk.undefinedWord {c : Fin 4} (h : s.PathsOk) : (s.undefinedWord c).PathsOk := by
  unfold State.undefinedWord
  split
  · exact (h.instr fun _ h => h).either h
  · exact h

theorem State.PathsOk.idle (h : s.PathsOk) : s.idle.PathsOk := h.tick.foldl fun _ _ h => h.undefinedWord

/-! ### The step -/

theorem exec_pathsOk {c : Instr} (h : s.PathsOk) : Res.PathsOk (exec c s) := by
  unfold exec
  split
  exacts [execNop_pathsOk h, execPortEnable_pathsOk h, execPortDisable_pathsOk h, execPortReset_pathsOk h,
    execClearFault_pathsOk h, execHardReset_pathsOk h, execRenegotiate_pathsOk h, execSetpointTrim_pathsOk h,
    execRoleSwap_pathsOk h, execVconnSwap_pathsOk h, execVconnSet_pathsOk h, execBackfeedSet_pathsOk h,
    execPhaseClear_pathsOk h, execSessionRead_pathsOk h, execSessionAck_pathsOk h, execCalSet_pathsOk h,
    execPodWrite_pathsOk h, execPodRelookup_pathsOk h, execAuthenticate_pathsOk h, execFleetMode_pathsOk h,
    execMonitorTest_pathsOk h, execTwiXfer_pathsOk h, execFaultLogRead_pathsOk h, execImgBlock_pathsOk h,
    execImgActivate_pathsOk h, execImgConfirm_pathsOk h, execPowerState_pathsOk h, execBufferDescriptor_pathsOk h,
    execDeferredStart_pathsOk h, execDeferTimeout_pathsOk h, execSqTailDoorbell_pathsOk h,
    execCqHeadDoorbell_pathsOk h, execEqHeadDoorbell_pathsOk h, execDescriptorFetch_pathsOk h,
    execHostFetchError_pathsOk h, execHostRecordWrite_pathsOk h, execModerationTimerExpiry_pathsOk h,
    execMsixUnmask_pathsOk h, execStreamFlushExpiry_pathsOk h, execQueueCreate_pathsOk h, execQueueDelete_pathsOk h,
    execDiscardOrphans_pathsOk h, execRingSelWrite_pathsOk h, execFunctionLevelReset_pathsOk h,
    execPciPmStateChange_pathsOk h, execL1EntryRequest_pathsOk h, execRegisterWrite_pathsOk h, execRcRead_pathsOk h,
    execLoLatchRead_pathsOk h, execLimitWrite_pathsOk h, execLockSet_pathsOk h, execFlogData0Read_pathsOk h,
    execFlogData7LastRead_pathsOk h, execPodReadSlot_pathsOk h, execPodWriteSlot_pathsOk h,
    execPodDeleteSlot_pathsOk h, execWarmReset_pathsOk h, execWarmResetProceed_pathsOk h, execBkpSet_pathsOk h,
    execTamperLatchClear_pathsOk h, execCoreHold_pathsOk h, execCoreHalt_pathsOk h, execCoreRestart_pathsOk h,
    execTwtMapSelWrite_pathsOk h, execEventOccurrence_pathsOk h, execEventFlowFlush_pathsOk h,
    execCreditReturn_pathsOk h, execScrubRead_pathsOk h, execCellRewriteCheck_pathsOk h, execTimebaseLost_pathsOk h,
    execTimebaseRestored_pathsOk h, execCalibrationCycle_pathsOk h, execEraWriteRetry_pathsOk h,
    execCcAttachDetected_pathsOk h, execProbeSample_pathsOk h, execReprobeExpiry_pathsOk h,
    execTccDebounceExpiry_pathsOk h, execTpdDebounceExpiry_pathsOk h, execVconnFault_pathsOk h,
    execHoldoffExpiry_pathsOk h, execPdMessageReceived_pathsOk h, execGoodcrcReceived_pathsOk h,
    execFrameCrcError_pathsOk h, execTreceiveExpiry_pathsOk h, execChannelIdle_pathsOk h, execPdtxMessage_pathsOk h,
    execHardResetReceived_pathsOk h, execHardResetSignallingEnd_pathsOk h, execCableResetReceived_pathsOk h,
    execChunkTimerExpiry_pathsOk h, execAmsStartWaitExpiry_pathsOk h, execSinktxokRead_pathsOk h,
    execSendSourceCapExpiry_pathsOk h, execSenderResponseExpiry_pathsOk h, execSrcTransitionExpiry_pathsOk h,
    execTransitionLimitExpiry_pathsOk h, execPpsTimeoutExpiry_pathsOk h, execEprKeepAliveExpiry_pathsOk h,
    execCableDiscTimeout_pathsOk h, execVdmBusyExpiry_pathsOk h, execVdmResponseTimeout_pathsOk h,
    execVbusInBand_pathsOk h, execAllocationRound_pathsOk h, execRenegotiationCaps_pathsOk h,
    execBudgetHardResetExpiry_pathsOk h, execConnectorTempRead_pathsOk h, execCableRediscovery_pathsOk h,
    execWaitSpacingExpiry_pathsOk h, execPsHardResetExpiry_pathsOk h, execSrcRecoverExpiry_pathsOk h,
    execPsSourceOnExpiry_pathsOk h, execPsSourceOffExpiry_pathsOk h, execPsTransitionExpiry_pathsOk h,
    execSinkWaitCapExpiry_pathsOk h, execVconnSourceTimeoutExpiry_pathsOk h, execFrSwapWaitExpiry_pathsOk h,
    execTakeoverLimitExpiry_pathsOk h, execHoldupVbusLow_pathsOk h, execBackfeedClose_pathsOk h,
    execReturnCriterion_pathsOk h, execHoldupReturnRetry_pathsOk h, execArmedSetRecompute_pathsOk h,
    execGetSinkCapStart_pathsOk h, execDiscoverIdentityStart_pathsOk h, execFleetModeEntry_pathsOk h,
    execFleetEnterModeTimeout_pathsOk h, execIdentityDigest_pathsOk h, execPodLookup_pathsOk h,
    execAuthResult_pathsOk h, execAuthTimeout_pathsOk h, execVdmtxItem_pathsOk h, execVdmAnswerTimeout_pathsOk h,
    execControlUpdate_pathsOk h, execPhaseShed_pathsOk h, execSwarmFire_pathsOk h, execSwarmEnd_pathsOk h,
    execPeakLimit_pathsOk h, execPhaseFailureDeclared_pathsOk h, execIsolationCheck_pathsOk h,
    execDividerCorrection_pathsOk h, execCompensationSample_pathsOk h, execTxslewLimitExpiry_pathsOk h,
    execVsafe0vProven_pathsOk h, execGateRiseComplete_pathsOk h, execGateRiseTimeout_pathsOk h,
    execInrushTimeout_pathsOk h, execSoftstartTimeout_pathsOk h, execVbusUnexpected_pathsOk h,
    execPassFetShorted_pathsOk h, execGoodServiceExpiry_pathsOk h, execBackfeedOpened_pathsOk h,
    execBackfeedReclose_pathsOk h, execMonitorCrossing_pathsOk h, execMonitorReturn_pathsOk h,
    execThresholdSettled_pathsOk h, execLegCheck_pathsOk h, execGeneralMonitorCheck_pathsOk h,
    execMeteringSample_pathsOk h, execMeteringInterval_pathsOk h, execSessionContextUpdate_pathsOk h,
    execSnapshot_pathsOk h, execJournalWrite_pathsOk h, execJournalRetry_pathsOk h, execJournalScan_pathsOk h,
    execAdd_pathsOk h, execSub_pathsOk h, execAdc_pathsOk h, execSbc_pathsOk h, execAnd_pathsOk h, execOr_pathsOk h,
    execXor_pathsOk h, execAndn_pathsOk h, execSll_pathsOk h, execSrl_pathsOk h, execSra_pathsOk h,
    execRor_pathsOk h, execSlli_pathsOk h, execSrli_pathsOk h, execSrai_pathsOk h, execRori_pathsOk h,
    execMul_pathsOk h, execMulhu_pathsOk h, execMulhs_pathsOk h, execDivu_pathsOk h, execDivs_pathsOk h,
    execRemu_pathsOk h, execRems_pathsOk h, execCmp_pathsOk h, execTst_pathsOk h, execMin_pathsOk h,
    execMax_pathsOk h, execMinu_pathsOk h, execMaxu_pathsOk h, execClz_pathsOk h, execRev_pathsOk h,
    execSextb_pathsOk h, execSexth_pathsOk h, execAddi_pathsOk h, execAndi_pathsOk h, execOri_pathsOk h,
    execXori_pathsOk h, execCmpi_pathsOk h, execTsti_pathsOk h, execLui_pathsOk h, execAddpc_pathsOk h,
    execLb_pathsOk h, execLbu_pathsOk h, execLh_pathsOk h, execLhu_pathsOk h, execLw_pathsOk h, execSb_pathsOk h,
    execSh_pathsOk h, execSw_pathsOk h, execBcc_pathsOk h, execBl_pathsOk h, execJalr_pathsOk h, execAmo_pathsOk h,
    execTrap_pathsOk h, execRfe_pathsOk h, execWait_pathsOk h, execFence_pathsOk h, execCrr_pathsOk h,
    execCrw_pathsOk h, execBrk_pathsOk h, execWaitResume_pathsOk h, execInterruptTaken_pathsOk h,
    execTcmpMatch_pathsOk h, execWatchdogExpiry_pathsOk h, execCoreAutoRestart_pathsOk h, execWdkick_pathsOk h,
    execSigSend_pathsOk h, execPortmapApplied_pathsOk h, execBind_pathsOk h, execTake_pathsOk h,
    execRelease_pathsOk h, execAlloc_pathsOk h, execCommit_pathsOk h, execAbandon_pathsOk h, execCancel_pathsOk h,
    execFlowPortWaitDone_pathsOk h, execPpRead_pathsOk h, execPpWrite_pathsOk h, execPpDelete_pathsOk h,
    execSha256_pathsOk h, execEcdsaVerify_pathsOk h, execEcdsaSign_pathsOk h, execAesCtr_pathsOk h,
    execAesCbcEncrypt_pathsOk h, execAesCbcDecrypt_pathsOk h, execRandom_pathsOk h, execCryptoJobDone_pathsOk h,
    execTwtRegisterWrite_pathsOk h, execTwtRegisterRead_pathsOk h, execTwtEventRead_pathsOk h,
    execAlertResponse_pathsOk h, execInBandRequest_pathsOk h, execIbrResendExpiry_pathsOk h,
    execTwtTimeout_pathsOk h, execTwcItem_pathsOk h, execArbRetry_pathsOk h, execStretchTimeout_pathsOk h,
    execBusRecovery_pathsOk h, execQuarantineRetry_pathsOk h, execTwcInband_pathsOk h, execCoreReady_pathsOk h,
    execHealthWindowExpiry_pathsOk h, execIdleEntry_pathsOk h, execQuiesceComplete_pathsOk h,
    execQuiesceTimeout_pathsOk h, execDozeTimerExpiry_pathsOk h, execHibernateTimerExpiry_pathsOk h,
    execWakeFromDoze_pathsOk h, execWakeFromHibernate_pathsOk h, execHibernateCcWake_pathsOk h,
    execAddressMatchWake_pathsOk h, execPerstRise_pathsOk h, execBusinRiseWake_pathsOk h,
    execCalendarTrim_pathsOk h, execCalendarOscFail_pathsOk h, execCalAlarm_pathsOk h, execTamper_pathsOk h,
    execVbatMeasure_pathsOk h, execBackupSupplySwitch_pathsOk h, execPowerOnReset_pathsOk h,
    execCrystalStartTimeout_pathsOk h, execCcReportChange_pathsOk h, execSopOrderedSetRecognised_pathsOk h,
    execFrSwapSignalEnd_pathsOk h, execFrameTransmitted_pathsOk h, execVconnPinSettled_pathsOk h,
    execBfeedOnLevelReached_pathsOk h, execCommandTimeLimitExpiry_pathsOk h, execConfigSpaceWrite_pathsOk h,
    execLinkTrained_pathsOk h, execCalendarOscReturn_pathsOk h, execCaptureFrameEnd_pathsOk h]

theorem step_pathsOk (h : s.PathsOk) : Res.PathsOk (step s) := by
  unfold step
  split
  · exact exec_pathsOk h.frame
  · exact h.idle.next

/-- Settles O58: the outputs of a path are those of its state, so the two switches exclude each other, and every operation of the model
keeps them so. -/
theorem neverBothSwitches : Obligations.NeverBothSwitches := by
  intro s h
  have hs : s.PathsOk := ⟨h⟩
  refine ⟨fun p ⟨hfuse, hback⟩ => ?_, fun t ht => ((step_pathsOk hs).ok t ht).ok⟩
  obtain ⟨hcmd, hon⟩ := EfState.pathOk_exclusive (hs.port p) hfuse
  simp [hcmd, hon] at hback

end Sys2Proof.Machine
end

section
/-! PROOF of O52 (05 R120). Both commands that carry a bad frame end in `State.badFrame`: FRAME_CRC_ERROR at once, PD_MESSAGE_RECEIVED
once the set is recognised and the pin heard. Where the layer runs, `State.badFrame` only counts. -/
namespace Sys2Proof.Machine

variable {s : State} {p : PortId} {pin : Pin} {set : OrdSet} {m : PdMsg}

/-- The lane that the receiver writes into a message has no part in its length check. -/
@[simp] theorem PdMsg.lenOk_withSopx (m : PdMsg) (k : Sopx) : PdMsg.lenOk { m with sopx := k } = m.lenOk := rfl

theorem Port.hears_of_active {q : Port} (hruns : q.pdRuns = true) (hpin : q.cc.active = some pin) : q.hears pin = true := by
  simp [Port.hears, hruns, hpin]

theorem State.badFrame_of_pdRuns (hruns : (s.port p).pdRuns = true) :
    s.badFrame p = s.modPd p fun x => { x with crcErr := satInc x.crcErr } :=
  if_pos hruns

theorem exec_frameCrcError : exec (.frameCrcError p) s = .next (s.badFrame p) := rfl

/-- A frame behind a recognised set, on a pin that the receiver hears, is a bad frame where its length does not match its header. -/
theorem exec_pdMessageReceived_of_not_lenOk (hset : set.sopx ≠ none) (hears : (s.port p).hears pin = true)
    (hlen : m.lenOk = false) : exec (.pdMessageReceived p pin ⟨set, m⟩) s = .next (s.badFrame p) := by
  obtain ⟨k, hk⟩ := Option.ne_none_iff_exists'.mp hset
  change execPdMessageReceived p pin ⟨set, m⟩ s = _
  simp [execPdMessageReceived, hk, hears, hlen]

/-- Settles O52: a frame with a bad CRC or coding and a frame of the wrong length both end as a bad frame, which is counted alone. -/
theorem badFrameIsDiscarded : Obligations.BadFrameIsDiscarded := by
  intro s p hruns
  refine ⟨?_, fun pin set m hset hpin hlen => ?_⟩
  · rw [exec_frameCrcError, State.badFrame_of_pdRuns hruns]
  · rw [exec_pdMessageReceived_of_not_lenOk hset (Port.hears_of_active hruns hpin) hlen, State.badFrame_of_pdRuns hruns]

end Sys2Proof.Machine
end

section
/-! PROOF of O60 (16 R451). A word falls into its format's fields and is put together from them again, both ways; the function codes of a
format and its instructions correspond one to one. Each direction of the statement is then one case for each format. -/
namespace Sys2Proof

variable {c : Fin 4} {f : Fetch} {w : Word} {i : Instr}

/-! ### The fields of a word of each format -/

theorem wordR_insR (h : w.extractLsb' 30 2 = 0#2) : wordR (w.extractLsb' 24 6) (insR w) = w := by
  rw [wordR, insR, ← h]; ext j hj; simp; grind

theorem wordI_insI (h : w.extractLsb' 30 2 = 1#2) : wordI (w.extractLsb' 26 4) (insI w) = w := by
  rw [wordI, insI, ← h]; ext j hj; simp; grind

theorem wordM_insM (h : w.extractLsb' 30 2 = 2#2) : wordM (w.extractLsb' 27 3) (insM w) = w := by
  rw [wordM, insM, ← h]; ext j hj; simp; grind

theorem wordS_insS (h : w.extractLsb' 30 2 = 3#2) (hb : w.extractLsb' 26 4 = 15#4) : wordS (w.extractLsb' 22 4) (insS w) = w := by
  rw [wordS, insS, ← h, ← hb]; ext j hj; simp; grind

/-- The fields of a B-format word, for each of its four splits. -/
theorem word_bFields (h : w.extractLsb' 30 2 = 3#2) :
    3#2 ++ w.extractLsb' 26 4 ++ w.extractLsb' 0 26 = w
    ∧ 3#2 ++ w.extractLsb' 26 4 ++ w.extractLsb' 22 4 ++ w.extractLsb' 0 22 = w
    ∧ 3#2 ++ w.extractLsb' 26 4 ++ w.extractLsb' 22 4 ++ w.extractLsb' 18 4 ++ w.extractLsb' 0 18 = w
    ∧ 3#2 ++ w.extractLsb' 26 4 ++ w.extractLsb' 22 4 ++ w.extractLsb' 18 4 ++ w.extractLsb' 14 4 ++ w.extractLsb' 12 2
        ++ w.extractLsb' 0 12 = w := by
  rw [← h]
  refine ⟨?_, ?_, ?_, ?_⟩ <;> ext j hj <;> simp <;> grind

/-- What a word of a format is read as. -/
theorem insR_wordR (fn : BitVec 6) (x : InsR) :
    (wordR fn x).extractLsb' 30 2 = 0#2 ∧ (wordR fn x).extractLsb' 24 6 = fn ∧ insR (wordR fn x) = x := by
  simp (disch := decide) only [wordR, insR, BitVec.extractLsb'_append_eq_of_le, BitVec.extractLsb'_append_eq_of_add_le,
    BitVec.getLsbD_append]
  simp

theorem insI_wordI (fn : BitVec 4) (x : InsI) :
    (wordI fn x).extractLsb' 30 2 = 1#2 ∧ (wordI fn x).extractLsb' 26 4 = fn ∧ insI (wordI fn x) = x := by
  simp (disch := decide) only [wordI, insI, BitVec.extractLsb'_append_eq_of_le, BitVec.extractLsb'_append_eq_of_add_le,
    BitVec.getLsbD_append]
  simp

theorem insM_wordM (op : BitVec 3) (x : InsM) :
    (wordM op x).extractLsb' 30 2 = 2#2 ∧ (wordM op x).extractLsb' 27 3 = op ∧ insM (wordM op x) = x := by
  simp (disch := decide) only [wordM, insM, BitVec.extractLsb'_append_eq_of_le, BitVec.extractLsb'_append_eq_of_add_le]
  simp

theorem insS_wordS (sub : BitVec 4) (x : InsS) : (wordS sub x).extractLsb' 30 2 = 3#2 ∧ (wordS sub x).extractLsb' 26 4 = 15#4
    ∧ (wordS sub x).extractLsb' 22 4 = sub ∧ insS (wordS sub x) = x := by
  simp (disch := decide) only [wordS, insS, BitVec.extractLsb'_append_eq_of_le, BitVec.extractLsb'_append_eq_of_add_le]
  simp

/-! ### Function codes and instructions -/

theorem weevilWord_of_rFun {fn : BitVec 6} {k} (x : InsR) (h : rFun fn.toNat = some k) :
    weevilWord (k c f x) = some (wordR fn x) ∧ (k c f x).coreFetch = some (c, f) := by
  unfold rFun at h
  split at h <;> cases h <;> next e => exact ⟨congrArg (some <| wordR · x) (BitVec.eq_of_toNat_eq e.symm), rfl⟩

theorem weevilWord_of_iFun {fn : BitVec 4} {k} (x : InsI) (h : iFun fn.toNat = some k) :
    weevilWord (k c f x) = some (wordI fn x) ∧ (k c f x).coreFetch = some (c, f) := by
  unfold iFun at h
  split at h <;> cases h <;> next e => exact ⟨congrArg (some <| wordI · x) (BitVec.eq_of_toNat_eq e.symm), rfl⟩

theorem weevilWord_of_mFun {op : BitVec 3} {k} (x : InsM) (h : mFun op.toNat = some k) :
    weevilWord (k c f x) = some (wordM op x) ∧ (k c f x).coreFetch = some (c, f) := by
  unfold mFun at h
  split at h <;> cases h <;> next e => exact ⟨congrArg (some <| wordM · x) (BitVec.eq_of_toNat_eq e.symm), rfl⟩

theorem weevilWord_of_sFun {sub : BitVec 4} {k} (x : InsS) (h : sFun sub.toNat = some k) :
    weevilWord (k c f x) = some (wordS sub x) ∧ (k c f x).coreFetch = some (c, f) := by
  unfold sFun at h
  split at h <;> cases h <;> next e => exact ⟨congrArg (some <| wordS · x) (BitVec.eq_of_toNat_eq e.symm), rfl⟩

/-! ### Decoding a word of each format -/

theorem weevil_wordR (fn : BitVec 6) (x : InsR) : weevil c f (wordR fn x) = (rFun fn.toNat).map fun k => k c f x := by
  obtain ⟨hfmt, hfn, hx⟩ := insR_wordR fn x
  simp [weevil, hfmt, hfn, hx]

theorem weevil_wordI (fn : BitVec 4) (x : InsI) : weevil c f (wordI fn x) = (iFun fn.toNat).map fun k => k c f x := by
  obtain ⟨hfmt, hfn, hx⟩ := insI_wordI fn x
  simp [weevil, hfmt, hfn, hx]

theorem weevil_wordM (op : BitVec 3) (x : InsM) : weevil c f (wordM op x) = (mFun op.toNat).map fun k => k c f x := by
  obtain ⟨hfmt, hop, hx⟩ := insM_wordM op x
  simp [weevil, hfmt, hop, hx]

theorem weevil_wordS (sub : BitVec 4) (x : InsS) : weevil c f (wordS sub x) = (sFun sub.toNat).map fun k => k c f x := by
  obtain ⟨hfmt, hb, hsub, hx⟩ := insS_wordS sub x
  simp [weevil, bFun, hfmt, hb, hsub, hx]

theorem weevil_bcc (cond : BitVec 4) (off : BitVec 22) : weevil c f (3#2 ++ 0#4 ++ cond ++ off) = some (.bcc c f cond off) := by
  simp (disch := decide) only [weevil, bFun, BitVec.extractLsb'_append_eq_of_le, BitVec.extractLsb'_append_eq_of_add_le]
  simp

theorem weevil_bl (off : BitVec 26) : weevil c f (3#2 ++ 1#4 ++ off) = some (.bl c f off) := by
  simp (disch := decide) only [weevil, bFun, BitVec.extractLsb'_append_eq_of_le, BitVec.extractLsb'_append_eq_of_add_le]
  simp

theorem weevil_jalr (rd ra : Reg) (z : BitVec 18) : weevil c f (3#2 ++ 2#4 ++ rd ++ ra ++ z) = some (.jalr c f rd ra z) := by
  simp (disch := decide) only [weevil, bFun, BitVec.extractLsb'_append_eq_of_le, BitVec.extractLsb'_append_eq_of_add_le]
  simp

theorem weevil_amo (rd ra rb : Reg) (op : BitVec 2) (z : BitVec 12) :
    weevil c f (3#2 ++ 3#4 ++ rd ++ ra ++ rb ++ op ++ z) = some (.amo c f rd ra rb op z) := by
  simp (disch := decide) only [weevil, bFun, BitVec.extractLsb'_append_eq_of_le, BitVec.extractLsb'_append_eq_of_add_le]
  simp

/-- The word of an instruction spells it for the core that fetched it. -/
theorem weevil_of_weevilWord (hw : weevilWord i = some w) (hc : i.coreFetch = some (c, f)) : weevil c f w = some i := by
  cases i <;> cases hw <;> cases hc
  case bcc => exact weevil_bcc ..
  case bl => exact weevil_bl ..
  case jalr => exact weevil_jalr ..
  case amo => exact weevil_amo ..
  all_goals simp only [weevil_wordR, weevil_wordI, weevil_wordM, weevil_wordS]; rfl

/-- A word of format B that spells an instruction is its word. -/
theorem weevilWord_of_bFun (hfmt : w.extractLsb' 30 2 = 3#2) (h : bFun c f w = some i) :
    weevilWord i = some w ∧ i.coreFetch = some (c, f) := by
  obtain ⟨hbl, hbcc, hjalr, hamo⟩ := word_bFields hfmt
  unfold bFun at h
  split at h
  case h_1 e => cases h; exact ⟨by rw [BitVec.eq_of_toNat_eq (y := 0#4) e] at hbcc; rw [weevilWord, hbcc], rfl⟩
  case h_2 e => cases h; exact ⟨by rw [BitVec.eq_of_toNat_eq (y := 1#4) e] at hbl; rw [weevilWord, hbl], rfl⟩
  case h_3 e => cases h; exact ⟨by rw [BitVec.eq_of_toNat_eq (y := 2#4) e] at hjalr; rw [weevilWord, hjalr], rfl⟩
  case h_4 e => cases h; exact ⟨by rw [BitVec.eq_of_toNat_eq (y := 3#4) e] at hamo; rw [weevilWord, hamo], rfl⟩
  case h_5 e =>
    obtain ⟨k, hk, rfl⟩ := Option.map_eq_some_iff.1 h
    have := weevilWord_of_sFun (c := c) (f := f) (insS w) hk
    rwa [wordS_insS hfmt (BitVec.eq_of_toNat_eq e)] at this
  case h_6 => cases h

/-- A word that spells an instruction is that instruction's word. -/
theorem weevilWord_of_weevil (h : weevil c f w = some i) : weevilWord i = some w ∧ i.coreFetch = some (c, f) := by
  unfold weevil at h
  split at h
  case h_1 e =>
    obtain ⟨k, hk, rfl⟩ := Option.map_eq_some_iff.1 h
    have := weevilWord_of_rFun (c := c) (f := f) (insR w) hk
    rwa [wordR_insR (BitVec.eq_of_toNat_eq e)] at this
  case h_2 e =>
    obtain ⟨k, hk, rfl⟩ := Option.map_eq_some_iff.1 h
    have := weevilWord_of_iFun (c := c) (f := f) (insI w) hk
    rwa [wordI_insI (BitVec.eq_of_toNat_eq e)] at this
  case h_3 e =>
    obtain ⟨k, hk, rfl⟩ := Option.map_eq_some_iff.1 h
    have := weevilWord_of_mFun (c := c) (f := f) (insM w) hk
    rwa [wordM_insM (BitVec.eq_of_toNat_eq e)] at this
  case h_4 h0 h1 h2 =>
    have last : ∀ n : Nat, n < 4 → n ≠ 0 → n ≠ 1 → n ≠ 2 → n = 3 := by omega
    exact weevilWord_of_bFun (BitVec.eq_of_toNat_eq (last _ (BitVec.isLt _) h0 h1 h2)) h

/-- Settles O60: each format's fields are read from a word and put into it without loss. -/
theorem weevilRoundTrip : Obligations.WeevilRoundTrip := fun _ _ _ _ =>
  ⟨weevilWord_of_weevil, fun ⟨hw, hc⟩ => weevil_of_weevilWord hw hc⟩

end Sys2Proof
end

section
/-! PROOF of O48, O49, O50 and O56: the step at its two ends, the command in front and the empty queue, and the state after reset. -/
namespace Sys2Proof.Machine

variable {s : State} {c : Fin 4}

/-- Settles O48: the step's own equation on a queue that is not empty. -/
theorem stepTakesFront : Obligations.StepTakesFront := fun s c rest h => by simp only [step, h]

/-! ### The idle step -/

theorem step_of_idle (h : s.pending = []) : step s = .next s.idle := by simp only [step, h]

/-- A core that does not execute takes no exception for an undefined word. -/
theorem State.undefinedWord_of_not_executes (h : s.executes c = false) : s.undefinedWord c = s := by
  unfold State.undefinedWord
  split
  · split
    · exact if_pos (by simp [h])
    · rfl
  · rfl

theorem State.executes_tick : s.tick.executes c = s.executes c := rfl

theorem State.idle_of_no_core (h : ∀ c, s.executes c = false) : s.idle = s.tick := by
  have loop : ∀ l : List (Fin 4), l.foldl State.undefinedWord s.tick = s.tick := fun l => by
    induction l with
    | nil => rfl
    | cons c l ih => rw [List.foldl_cons, State.undefinedWord_of_not_executes (State.executes_tick.trans (h c)), ih]
  exact loop _

theorem State.tick_bkp_of_stopped (h : s.bkp.oscStopped = true) : s.tick.bkp = s.bkp := by simp [State.tick, h]

/-- The calendar advances by 1,024 of the 15,625 parts of its unit, modulo its 64 bits. -/
theorem State.tick_calendar (h : s.bkp.oscStopped = false) (hf : s.bkp.frac < 15625) :
    s.tick.bkp.cal.toNat * 15625 + s.tick.bkp.frac = (s.bkp.cal.toNat * 15625 + s.bkp.frac + 1024) % (15625 * 2 ^ 64) := by
  have hcal : s.bkp.cal.toNat < 2 ^ 64 := s.bkp.cal.isLt
  by_cases hover : 15625 ≤ s.bkp.frac + 1024
  · simp only [State.tick, h, hover, if_true, Bool.false_eq_true, if_false, BitVec.toNat_add, show (1 : Quad).toNat = 1 from rfl]
    omega
  · simp only [State.tick, h, hover, Bool.false_eq_true, if_false]
    omega

/-- Settles O49: with no core executing the idle step is the tick of the two counts. -/
theorem idleStep : Obligations.IdleStep := fun s hp hx =>
  ⟨s.tick, by rw [step_of_idle hp, State.idle_of_no_core hx], rfl, State.tick_calendar, State.tick_bkp_of_stopped,
    rfl, rfl, rfl, rfl, rfl, rfl, rfl⟩

/-! ### The state after reset -/

/-- Settles O56: the memories of the reset state are empty, and its switches are off. -/
theorem resetKeepsInvariants : Obligations.ResetKeepsInvariants := ⟨by decide +kernel, State.reset_pathsOk.ok⟩

/-- Settles O50: each register's reset value is read by the register map. -/
theorem resetValues : Obligations.ResetValues := by
  refine ⟨fun i => by cases i <;> decide +kernel, fun i => by cases i <;> decide +kernel, fun p => ?_, rfl, rfl, rfl⟩
  have port_reset : State.reset.port p = {} := by simp [State.reset, State.port]
  rw [port_reset]
  exact ⟨rfl, rfl, rfl⟩

end Sys2Proof.Machine
end

section
/-! SUPPORT. The R-format and I-format functions of the Weevil cores (16 R451, R452): what an instruction of each shape leaves, and the
flags of a result as the three patterns of Table 16-3. -/
namespace Sys2Proof.Machine

variable {s : State} {c : Fin 4} {f : Fetch}

/-! ### Flags -/

/-- STATUS as `setFlags` leaves it, bit by bit. -/
theorem setFlags_bit (st : Word) (r : Alu) (j : Nat) : (setFlags st r).getLsbD j =
    if j = 31 then r.val.msb else if j = 30 then r.val == 0 else if j = 29 then r.c.getD (st.getLsbD 29)
    else if j = 28 then r.v.getD (st.getLsbD 28) else st.getLsbD j := by
  have hmsb : r.val.bit 31 = r.val.msb := by simp [Word.bit, BitVec.msb_eq_getLsbD_last]
  obtain ⟨val, cy, ov⟩ := r
  cases cy <;> cases ov <;>
    simp only [setFlags, hmsb, Word.put_bit _ 31 (by omega), Word.put_bit _ 30 (by omega), Word.put_bit _ 29 (by omega),
      Word.put_bit _ 28 (by omega), Option.getD] <;> grind

theorem setFlags_nz {st : Word} {r : Alu} (hc : r.c = none) (hv : r.v = none) : setFlags st r = nz st r.val := by
  apply BitVec.eq_of_getLsbD_eq
  intro j hj
  simp only [setFlags_bit, nz, hc, hv, BitVec.getLsbD_append, BitVec.getLsbD_extractLsb', BitVec.getLsbD_ofBool, Option.getD]
  grind

theorem setFlags_nzc {st : Word} {r : Alu} {x : Bool} (hc : r.c = some x) (hv : r.v = none) : setFlags st r = nzc st r.val x := by
  apply BitVec.eq_of_getLsbD_eq
  intro j hj
  simp only [setFlags_bit, nzc, hc, hv, BitVec.getLsbD_append, BitVec.getLsbD_extractLsb', BitVec.getLsbD_ofBool, Option.getD]
  grind

theorem setFlags_nzcv {st : Word} {r : Alu} {x y : Bool} (hc : r.c = some x) (hv : r.v = some y) :
    setFlags st r = nzcv st r.val x y := by
  apply BitVec.eq_of_getLsbD_eq
  intro j hj
  simp only [setFlags_bit, nzcv, hc, hv, BitVec.getLsbD_append, BitVec.getLsbD_extractLsb', BitVec.getLsbD_ofBool, Option.getD]
  grind

/-! ### The shapes of an instruction -/

/-- A result is retired with the flags that its row sets. -/
theorem Core.result_eq_retire (k : Core) (rd : Reg) (b : Bool) (r : Alu) :
    k.result rd b r = k.retire rd r.val (if b then setFlags k.status r else k.status) := by
  simp [Core.result, Core.retire, Core.next, Core.setReg]; split <;> rfl

theorem State.onCore_result (rd : Reg) (b : Bool) (r : Core → Alu) (h : s.canFetch c = true) (hf : fetchClean f = true) :
    (s.onCore c f true fun k => k.result rd b (r k)) = s.modCore c fun k => k.retire rd (r (s.core c)).val
      (if b then setFlags (s.core c).status (r (s.core c)) else (s.core c).status) :=
  (State.onCore_ok _ h hf).trans (State.modCore_congr (Core.result_eq_retire ..))

theorem InsR.ok3_of {i : InsR} (hsh : i.sh = 0) (hz : i.z = 0) : i.ok3 = true := by simp [InsR.ok3, hsh, hz]

/-- The core after a result `r` of two registers. -/
theorem State.aluR_eq {i : InsR} (g : Core → Word → Word → Alu) (h : s.canFetch c = true) (hf : fetchClean f = true)
    (hsh : i.sh = 0) (hz : i.z = 0) {r : Alu} (hr : g (s.core c) ((s.core c).reg i.ra) ((s.core c).reg i.rb) = r) :
    s.aluR c f i g = s.modCore c fun k => k.retire i.rd r.val (if i.s then setFlags (s.core c).status r else (s.core c).status) := by
  unfold State.aluR
  rw [InsR.ok3_of hsh hz, State.onCore_result _ _ (fun k => g k (k.reg i.ra) (k.reg i.rb)) h hf, hr]

theorem State.aluOne_eq {i : InsR} (g : Word → Word) (h : s.canFetch c = true) (hf : fetchClean f = true)
    (hsh : i.sh = 0) (hz : i.z = 0) (hrb : i.rb = 0) : s.aluOne c f i g = s.modCore c fun k =>
      k.retire i.rd (g ((s.core c).reg i.ra)) (if i.s then nz (s.core c).status (g ((s.core c).reg i.ra)) else (s.core c).status) := by
  unfold State.aluOne
  rw [show i.ok2 = true by simp [InsR.ok2, InsR.ok3_of hsh hz, hrb], State.onCore_result _ _ (fun k => logic (g (k.reg i.ra))) h hf,
    setFlags_nz rfl rfl]
  rfl

theorem State.aluShiftImm_eq {i : InsR} (x : Shift) (h : s.canFetch c = true) (hf : fetchClean f = true) (hrb : i.rb = 0)
    (hz : i.z = 0) {r : Alu} (hr : shiftBy x ((s.core c).reg i.ra) i.sh.toNat = r) : s.aluShiftImm c f i x =
      s.modCore c fun k => k.retire i.rd r.val (if i.s then setFlags (s.core c).status r else (s.core c).status) := by
  unfold State.aluShiftImm
  rw [show i.okSh = true by simp [InsR.okSh, hz, hrb],
    State.onCore_result _ _ (fun k => shiftBy x (k.reg i.ra) i.sh.toNat) h hf, hr]

/-- CMP and TST leave the flags alone in their core, beside the next PC. -/
theorem State.aluFlags_eq {i : InsR} (g : Word → Word → Alu) (h : s.canFetch c = true) (hf : fetchClean f = true)
    (hsh : i.sh = 0) (hz : i.z = 0) (hrd : i.rd = 0) : s.aluFlags c f i g = s.modCore c fun k =>
      k.retire 0 0 (setFlags (s.core c).status (g ((s.core c).reg i.ra) ((s.core c).reg i.rb))) := by
  unfold State.aluFlags
  rw [show i.okCmp = true by simp [InsR.okCmp, InsR.ok3_of hsh hz, hrd],
    State.onCore_result _ _ (fun k => g (k.reg i.ra) (k.reg i.rb)) h hf]
  rfl

theorem State.aluI_eq {i : InsI} (imm : Word) (g : Word → Word → Alu) (h : s.canFetch c = true) (hf : fetchClean f = true)
    (hz : i.z = false) {r : Alu} (hr : g ((s.core c).reg i.ra) imm = r) : s.aluI c f i imm g =
      s.modCore c fun k => k.retire i.rd r.val (if i.s then setFlags (s.core c).status r else (s.core c).status) := by
  unfold State.aluI
  rw [show i.ok = true by simp [InsI.ok, hz], State.onCore_result _ _ (fun k => g (k.reg i.ra) imm) h hf, hr]

theorem State.aluIFlags_eq {i : InsI} (imm : Word) (g : Word → Word → Alu) (h : s.canFetch c = true) (hf : fetchClean f = true)
    (hz : i.z = false) (hrd : i.rd = 0) : s.aluIFlags c f i imm g =
      s.modCore c fun k => k.retire 0 0 (setFlags (s.core c).status (g ((s.core c).reg i.ra) imm)) := by
  unfold State.aluIFlags
  rw [show i.okCmp = true by simp [InsI.okCmp, hz, hrd], State.onCore_result _ _ (fun k => g (k.reg i.ra) imm) h hf]
  rfl

theorem InsI.zext_eq (i : InsI) : i.zext = 0#16 ++ i.imm := by simp [InsI.zext, BitVec.setWidth_eq_append]

end Sys2Proof.Machine
end

section
/-! PROOF of O1 and O2 (16 R452, Tables 16-5 and 16-6). -/
namespace Sys2Proof.Machine

variable {s : State} {c : Fin 4} {f : Fetch}

/-! ### Sums and differences -/

/-- The number that a word spells, signed, by its top bit. -/
theorem Word.toInt_eq (w : Word) : w.toInt = w.toNat - (if w.msb then (2 ^ 32 : Int) else 0) := by
  rw [BitVec.toInt_eq_msb_cond]; split <;> simp

theorem Word.msb_eq (w : Word) : w.msb = decide (2 ^ 31 ≤ w.toNat) := BitVec.msb_eq_decide w

/-- A sum of two words and a carry: the result, the carry out and the signed overflow. -/
theorem addC_eq (a b : Word) (cy : Bool) : addC a b cy = ⟨a + b + BitVec.ofNat 32 (b2n cy),
    some (decide (2 ^ 32 ≤ a.toNat + b.toNat + b2n cy)), some (overAdd a b (a + b + BitVec.ofNat 32 (b2n cy)))⟩ := by
  have hn : b2n cy ≤ 1 := by cases cy <;> simp [b2n]
  simp only [addC, Alu.mk.injEq, Option.some.injEq, true_and]
  generalize b2n cy = n at hn
  have hr : (a + b + BitVec.ofNat 32 n).toNat = (a.toNat + b.toNat + n) % 2 ^ 32 := by
    simp only [BitVec.toNat_add, BitVec.toNat_ofNat]; omega
  refine ⟨BitVec.eq_of_toNat_eq (by rw [hr, BitVec.toNat_ofNat]), ?_⟩
  have ha := a.isLt
  have hb := b.isLt
  rw [Bool.eq_iff_iff]
  simp only [overAdd, Word.toInt_eq, Word.msb_eq, hr, Bool.and_eq_true, beq_iff_eq, bne_iff_ne, decide_eq_true_eq, ne_eq, decide_eq_decide]
  split <;> split <;> omega

/-- A difference of two words less a borrow. -/
theorem subC_eq (a b : Word) (cy : Bool) : subC a b cy = ⟨a - b - BitVec.ofNat 32 (1 - b2n cy),
    some (decide (b.toNat + (1 - b2n cy) ≤ a.toNat)), some (overSub a b (a - b - BitVec.ofNat 32 (1 - b2n cy)))⟩ := by
  simp only [subC, Alu.mk.injEq, Option.some.injEq, true_and]
  have hn : 1 - b2n cy ≤ 1 := by omega
  generalize 1 - b2n cy = n at hn
  have hr : (a - b - BitVec.ofNat 32 n).toNat = (2 ^ 33 + a.toNat - b.toNat - n) % 2 ^ 32 := by
    simp only [BitVec.toNat_sub, BitVec.toNat_ofNat]; omega
  have ha := a.isLt
  have hb := b.isLt
  rw [Bool.eq_iff_iff]
  simp only [overSub, Word.toInt_eq, Word.msb_eq, hr, Bool.and_eq_true, bne_iff_ne, decide_eq_true_eq, ne_eq, decide_eq_decide]
  split <;> split <;> omega

theorem flagC_eq (st : Word) : b2n (flagC st) = if st.getLsbD 29 then 1 else 0 := rfl

/-- Settles O1: the result, the carry and the overflow of `addC` and `subC`, in the shapes of their instructions. -/
theorem weevilAddSubtract : Obligations.WeevilAddSubtract := by
  intro s c f h hf
  refine ⟨fun i hsh hz => ⟨?_, ?_, ?_, ?_, fun hrd => ?_⟩, fun i hz => ⟨?_, fun hrd => ?_⟩⟩
  · refine congrArg Host.Outcome.next ((State.aluR_eq _ h hf hsh hz (addC_eq _ _ false)).trans ?_)
    rw [setFlags_nzcv rfl rfl]; simp [b2n]
  · refine congrArg Host.Outcome.next ((State.aluR_eq _ h hf hsh hz (subC_eq _ _ true)).trans ?_)
    rw [setFlags_nzcv rfl rfl]; simp [b2n]
  · refine congrArg Host.Outcome.next ((State.aluR_eq _ h hf hsh hz (addC_eq _ _ _)).trans ?_)
    rw [setFlags_nzcv rfl rfl, flagC_eq]
  · refine congrArg Host.Outcome.next ((State.aluR_eq _ h hf hsh hz (subC_eq _ _ _)).trans ?_)
    rw [setFlags_nzcv rfl rfl, flagC_eq]
  · refine congrArg Host.Outcome.next ((State.aluFlags_eq _ h hf hsh hz hrd).trans ?_)
    rw [subC_eq, setFlags_nzcv rfl rfl]; simp [b2n]
  · refine congrArg Host.Outcome.next ((State.aluI_eq _ _ h hf hz (addC_eq _ _ false)).trans ?_)
    rw [setFlags_nzcv rfl rfl]; simp [b2n, InsI.sext]
  · refine congrArg Host.Outcome.next ((State.aluIFlags_eq _ _ h hf hz hrd).trans ?_)
    rw [subC_eq, setFlags_nzcv rfl rfl]; simp [b2n, InsI.sext]

/-! ### Logical functions, minimum and maximum, bits and bytes -/

/-- A logical function of two registers. -/
theorem State.aluR_logic {i : InsR} (g : Word → Word → Word) (h : s.canFetch c = true) (hf : fetchClean f = true) (hsh : i.sh = 0)
    (hz : i.z = 0) {r : Word} (hr : g ((s.core c).reg i.ra) ((s.core c).reg i.rb) = r) :
    (s.aluR c f i fun _ a b => logic (g a b)) =
      s.modCore c fun k => k.retire i.rd r (if i.s then nz (s.core c).status r else (s.core c).status) := by
  rw [State.aluR_eq _ h hf hsh hz (congrArg logic hr), setFlags_nz rfl rfl]; rfl

theorem State.aluI_logic {i : InsI} (g : Word → Word → Word) (h : s.canFetch c = true) (hf : fetchClean f = true) (hz : i.z = false) :
    (s.aluI c f i i.zext fun a b => logic (g a b)) = s.modCore c fun k => k.retire i.rd (g ((s.core c).reg i.ra) (0#16 ++ i.imm))
      (if i.s then nz (s.core c).status (g ((s.core c).reg i.ra) (0#16 ++ i.imm)) else (s.core c).status) := by
  rw [State.aluI_eq _ _ h hf hz rfl, setFlags_nz rfl rfl, InsI.zext_eq]; rfl

/-- LUI and ADDPC. -/
theorem State.upper_eq {i : InsI} (g : Core → Word) (h : s.canFetch c = true) (hf : fetchClean f = true) (hz : i.z = false)
    (hra : i.ra = 0) (hs : i.s = false) : (s.onCore c f i.okUp fun k => k.result i.rd false (logic (g k))) =
      s.modCore c fun k => k.retire i.rd (g k) (s.core c).status := by
  rw [show i.okUp = true by simp [InsI.okUp, hz, hra, hs], State.onCore_result _ _ (fun k => logic (g k)) h hf]
  exact State.modCore_congr rfl

/-- The least and the greatest of two words, in the statement's order of cases. -/
theorem toInt_le_ite (a b x y : Word) (h : a = b → x = y) : (if a.toInt ≤ b.toInt then x else y) = if a.slt b then x else y := by
  by_cases e : a = b
  · simp [e, h e]
  · have : a.toInt ≠ b.toInt := fun k => e (BitVec.eq_of_toInt_eq k)
    simp only [BitVec.slt_iff_toInt_lt]
    by_cases l : a.toInt ≤ b.toInt
    · rw [if_pos l, if_pos (by omega)]
    · rw [if_neg l, if_neg (by omega)]

theorem toNat_le_ite (a b x y : Word) (h : a = b → x = y) : (if a.toNat ≤ b.toNat then x else y) = if a.ult b then x else y := by
  by_cases e : a = b
  · simp [e, h e]
  · have : a.toNat ≠ b.toNat := fun k => e (BitVec.eq_of_toNat_eq k)
    simp only [BitVec.ult_iff_toNat_lt]
    by_cases l : a.toNat ≤ b.toNat
    · rw [if_pos l, if_pos (by omega)]
    · rw [if_neg l, if_neg (by omega)]

/-- The leading zeros among the low `m` bits, where the word spells less than `2 ^ m`. -/
theorem clzN_eq (w : Word) (m n : Nat) (hm : w.toNat < 2 ^ m) (hn : n ≤ m) (hhi : w.toNat < 2 ^ (m - n))
    (hlo : n = m ∨ 2 ^ (m - 1 - n) ≤ w.toNat) : clzN w m = n := by
  induction m generalizing n with
  | zero => simp [clzN]; omega
  | succ m ih =>
    have hbit : w.bit m = decide (2 ^ m ≤ w.toNat) := by
      rw [Word.bit, BitVec.getLsbD, Nat.testBit_eq_decide_div_mod_eq, decide_eq_decide]
      have : w.toNat / 2 ^ m < 2 := Nat.div_lt_of_lt_mul (by rw [← pow_succ]; exact hm)
      rw [Nat.mod_eq_of_lt this, ← Nat.one_le_div_iff (by positivity)]
      omega
    cases n with
    | zero =>
      have : 2 ^ m ≤ w.toNat := by rcases hlo with h | h; · omega
                                   · simpa using h
      simp [clzN, hbit, this]
    | succ n =>
      have hlt : w.toNat < 2 ^ m := Nat.lt_of_lt_of_le hhi (Nat.pow_le_pow_right (by omega) (by omega))
      have : ¬ 2 ^ m ≤ w.toNat := by omega
      rw [clzN, hbit, decide_eq_false this, ih n hlt (by omega) (by rwa [Nat.succ_sub_succ] at hhi)
        (hlo.imp (by omega) fun h => by rwa [show m + 1 - 1 - (n + 1) = m - 1 - n by omega] at h)]
      simp; omega

/-- The number that two fields side by side spell. -/
theorem toNat_append_eq {m n : Nat} (x : BitVec m) (y : BitVec n) : (x ++ y).toNat = x.toNat * 2 ^ n + y.toNat := by
  rw [BitVec.toNat_append, Nat.shiftLeft_eq, Nat.mul_comm, Nat.two_pow_add_eq_or_of_lt y.isLt]

/-- The bytes of a word (00 R7). -/
theorem leBytes_word (w : Word) :
    leBytes 4 w.toNat = [w.extractLsb' 0 8, w.extractLsb' 8 8, w.extractLsb' 16 8, w.extractLsb' 24 8] := by
  have byte (i : Nat) : BitVec.ofNat 8 (w.toNat / 2 ^ i) = w.extractLsb' i 8 :=
    BitVec.eq_of_toNat_eq (by simp [BitVec.extractLsb'_toNat, Nat.shiftRight_eq_div_pow])
  simp only [leBytes, Nat.div_div_eq_div_mul, ← byte, pow_zero, Nat.div_one]
  rfl

/-- The word that four bytes spell. -/
theorem ofNat_leVal_four (a b c d : Byte) : BitVec.ofNat 32 (leVal [a, b, c, d]) = d ++ c ++ b ++ a := by
  apply BitVec.eq_of_toNat_eq
  have := a.isLt; have := b.isLt; have := c.isLt; have := d.isLt
  simp only [leVal, BitVec.toNat_ofNat, toNat_append_eq]
  omega

theorem revBytes_eq (w : Word) :
    revBytes w = w.extractLsb' 0 8 ++ w.extractLsb' 8 8 ++ w.extractLsb' 16 8 ++ w.extractLsb' 24 8 := by
  rw [revBytes, leBytes_word]; exact ofNat_leVal_four ..

/-- An immediate in the upper half of a word. -/
theorem InsI.zext_shift (i : InsI) : i.zext <<< 16 = i.imm ++ 0#16 := by
  apply BitVec.eq_of_toNat_eq
  have := i.imm.isLt
  simp only [InsI.zext, BitVec.toNat_shiftLeft, BitVec.toNat_setWidth, toNat_append_eq, BitVec.toNat_ofNat, Nat.shiftLeft_eq]
  omega

/-- Four times a word is the word moved by two places. -/
theorem Word.mul_four (w : Word) : w * (4 : Word) = w <<< 2 := by
  rw [BitVec.shiftLeft_eq_mul_twoPow]; rfl

/-- Settles O2: each logical function in the shape of its instruction. -/
theorem weevilLogic : Obligations.WeevilLogic := by
  refine ⟨fun s c f h hf => ⟨fun i hsh hz => ⟨?_, ?_, ?_, ?_, fun hrd => ?_⟩,
    fun i hz => ⟨?_, ?_, ?_, fun hrd => ?_, fun hra hs => ⟨?_, ?_⟩⟩⟩,
    fun s c f i h hf hsh hz => ⟨?_, ?_, ?_, ?_, fun hrb => ⟨fun n hn hhi hlo => ?_, ?_, ?_, ?_⟩⟩⟩ <;>
    refine congrArg Host.Outcome.next ?_
  · exact State.aluR_logic (· &&& ·) h hf hsh hz rfl
  · exact State.aluR_logic (· ||| ·) h hf hsh hz rfl
  · exact State.aluR_logic (· ^^^ ·) h hf hsh hz rfl
  · exact State.aluR_logic (· &&& ~~~ ·) h hf hsh hz rfl
  · rw [State.aluFlags_eq _ h hf hsh hz hrd, setFlags_nz rfl rfl]; rfl
  · exact State.aluI_logic (· &&& ·) h hf hz
  · exact State.aluI_logic (· ||| ·) h hf hz
  · exact State.aluI_logic (· ^^^ ·) h hf hz
  · rw [State.aluIFlags_eq _ _ h hf hz hrd, setFlags_nz rfl rfl, InsI.zext_eq]; rfl
  · rw [State.upper_eq (fun _ => i.zext <<< 16) h hf hz hra hs, InsI.zext_shift]
  · rw [State.upper_eq (fun k => k.pc + i.sext * 4) h hf hz hra hs]
    exact State.modCore_congr (by rw [Word.mul_four, InsI.sext])
  · exact State.aluR_logic _ h hf hsh hz (toInt_le_ite _ _ _ _ fun e => e)
  · exact State.aluR_logic _ h hf hsh hz (toInt_le_ite _ _ _ _ fun e => e.symm)
  · exact State.aluR_logic _ h hf hsh hz (toNat_le_ite _ _ _ _ fun e => e)
  · exact State.aluR_logic _ h hf hsh hz (toNat_le_ite _ _ _ _ fun e => e.symm)
  · rw [State.aluOne_eq _ h hf hsh hz hrb, clzN_eq _ 32 n (BitVec.isLt _) hn hhi hlo]
  · rw [State.aluOne_eq _ h hf hsh hz hrb, revBytes_eq]
  · rw [State.aluOne_eq _ h hf hsh hz hrb]; rfl
  · rw [State.aluOne_eq _ h hf hsh hz hrb]; rfl

end Sys2Proof.Machine
end

section
/-! PROOF of O3 and O4 (16 R452, Table 16-5): shifts with the last bit out in C, products, quotients and remainders. -/
namespace Sys2Proof.Machine

variable {s : State} {c : Fin 4} {f : Fetch}

/-! ### Shifts -/

/-- What each shift leaves of a word, and the bit that it moves out last. -/
def Shift.value (a : Word) (n : Nat) : Shift → Word
  | .sll => a <<< n | .srl => a >>> n | .sra => a.sshiftRight n | .ror => a >>> n ||| a <<< (32 - n)

def Shift.out (a : Word) (n : Nat) : Shift → Bool
  | .sll => a.getLsbD (32 - n) | _ => a.getLsbD (n - 1)

theorem shiftBy_val (x : Shift) (a : Word) {n : Nat} (hn : n < 32) : (shiftBy x a n).val = x.value a n := by
  cases x
  case ror => exact BitVec.rotateRight_eq_rotateRightAux_of_lt hn
  all_goals rfl

/-- A shift by 0 leaves C as it was; any other puts its last bit there. -/
theorem setFlags_shiftBy (st : Word) (x : Shift) (a : Word) {n : Nat} (hn : n < 32) : setFlags st (shiftBy x a n) =
    if n = 0 then nz st (x.value a n) else nzc st (x.value a n) (x.out a n) := by
  rw [← shiftBy_val x a hn]
  split
  · next h => exact setFlags_nz (by simp [shiftBy, h]) rfl
  · next h => exact setFlags_nzc (by cases x <;> simp [shiftBy, h, Shift.out, Word.bit]) rfl

/-- The amount of a shift by a register is its low five bits. -/
theorem Word.fld_amount (b : Word) : b.fld 4 0 = b.toNat % 32 := rfl

theorem State.aluShift_eq {i : InsR} (x : Shift) (h : s.canFetch c = true) (hf : fetchClean f = true) (hsh : i.sh = 0)
    (hz : i.z = 0) {a : Word} (ha : (s.core c).reg i.ra = a) {n : Nat} (hn : ((s.core c).reg i.rb).toNat % 32 = n) :
    s.aluShift c f i x = s.modCore c fun k => k.retire i.rd (x.value a n)
      (if i.s then (if n = 0 then nz (s.core c).status (x.value a n) else nzc (s.core c).status (x.value a n) (x.out a n))
       else (s.core c).status) := by
  have hlt : n < 32 := hn ▸ Nat.mod_lt _ (by omega)
  unfold State.aluShift
  rw [State.aluR_eq _ h hf hsh hz (r := shiftBy x a n) (by rw [Word.fld_amount, hn, ha]), shiftBy_val x a hlt,
    setFlags_shiftBy _ x a hlt]

theorem State.aluShiftImm_shift {i : InsR} (x : Shift) (h : s.canFetch c = true) (hf : fetchClean f = true) (hrb : i.rb = 0)
    (hz : i.z = 0) {a : Word} (ha : (s.core c).reg i.ra = a) {n : Nat} (hn : i.sh.toNat = n) :
    s.aluShiftImm c f i x = s.modCore c fun k => k.retire i.rd (x.value a n)
      (if i.s then (if n = 0 then nz (s.core c).status (x.value a n) else nzc (s.core c).status (x.value a n) (x.out a n))
       else (s.core c).status) := by
  have hlt : n < 32 := hn ▸ i.sh.isLt
  rw [State.aluShiftImm_eq x h hf hrb hz (r := shiftBy x a n) (by rw [hn, ha]), shiftBy_val x a hlt, setFlags_shiftBy _ x a hlt]

/-- Settles O3: each shift is `shiftBy`, by the amount of its format. -/
theorem weevilShifts : Obligations.WeevilShifts := by
  intro s c f i h hf hz
  refine ⟨fun hsh => ⟨?_, ?_, ?_, ?_⟩, fun hrb => ⟨?_, ?_, ?_, ?_⟩⟩ <;> refine congrArg Host.Outcome.next ?_
  · exact State.aluShift_eq .sll h hf hsh hz rfl rfl
  · exact State.aluShift_eq .srl h hf hsh hz rfl rfl
  · exact State.aluShift_eq .sra h hf hsh hz rfl rfl
  · exact State.aluShift_eq .ror h hf hsh hz rfl rfl
  · exact State.aluShiftImm_shift .sll h hf hrb hz rfl rfl
  · exact State.aluShiftImm_shift .srl h hf hrb hz rfl rfl
  · exact State.aluShiftImm_shift .sra h hf hrb hz rfl rfl
  · exact State.aluShiftImm_shift .ror h hf hrb hz rfl rfl

/-! ### Products -/

theorem mul_low (a b : Word) : a * b = (a.setWidth 64 * b.setWidth 64).extractLsb' 0 32 := by
  apply BitVec.eq_of_toNat_eq
  have := Nat.mul_lt_mul'' a.isLt b.isLt
  simp only [BitVec.extractLsb'_toNat, BitVec.toNat_mul, BitVec.toNat_setWidth]
  rw [Nat.mod_eq_of_lt (a := a.toNat) (by omega), Nat.mod_eq_of_lt (a := b.toNat) (by omega)]
  omega

theorem mul_high (a b : Word) : BitVec.ofNat 32 (a.toNat * b.toNat / 2 ^ 32) = (a.setWidth 64 * b.setWidth 64).extractLsb' 32 32 := by
  apply BitVec.eq_of_toNat_eq
  have := Nat.mul_lt_mul'' a.isLt b.isLt
  simp only [BitVec.extractLsb'_toNat, BitVec.toNat_mul, BitVec.toNat_setWidth, BitVec.toNat_ofNat, Nat.shiftRight_eq_div_pow]
  rw [Nat.mod_eq_of_lt (a := a.toNat) (by omega), Nat.mod_eq_of_lt (a := b.toNat) (by omega)]
  omega

/-- The high half of a signed product: the product of the sign-extended operands, modulo 2^64, holds it. -/
theorem mul_high_signed (a b : Word) :
    BitVec.ofInt 32 (a.toInt * b.toInt / 2 ^ 32) = (a.signExtend 64 * b.signExtend 64).extractLsb' 32 32 := by
  have hprod : a.signExtend 64 * b.signExtend 64 = BitVec.ofInt 64 (a.toInt * b.toInt) := by
    rw [BitVec.signExtend, BitVec.signExtend, BitVec.ofInt_mul]
  apply BitVec.eq_of_toNat_eq
  rw [hprod]
  simp only [BitVec.extractLsb'_toNat, BitVec.toNat_ofInt, Nat.shiftRight_eq_div_pow]
  generalize a.toInt * b.toInt = x
  omega

/-! ### Quotients and remainders -/

theorem divS_eq (a b : Word) : divS a b = if b = 0 then 0xFFFFFFFF else a.sdiv b := by
  unfold divS
  split
  · rfl
  · exact BitVec.eq_of_toInt_eq (by rw [BitVec.toInt_ofInt, BitVec.toInt_sdiv])

theorem remS_eq (a b : Word) : remS a b = if b = 0 then a else a.srem b := by
  unfold remS
  rw [← BitVec.toInt_srem, BitVec.ofInt_toInt]

/-- Settles O4: each function in the shape of its instruction. -/
theorem weevilMultiplyDivide : Obligations.WeevilMultiplyDivide := by
  intro s c f i h hf hsh hz
  refine ⟨?_, ?_, ?_, ?_, ?_, ?_, ?_⟩ <;> refine congrArg Host.Outcome.next ?_
  · exact State.aluR_logic (· * ·) h hf hsh hz (mul_low _ _)
  · exact State.aluR_logic _ h hf hsh hz (mul_high _ _)
  · exact State.aluR_logic _ h hf hsh hz (mul_high_signed _ _)
  · exact State.aluR_logic divU h hf hsh hz rfl
  · exact State.aluR_logic remU h hf hsh hz rfl
  · exact State.aluR_logic divS h hf hsh hz (divS_eq _ _)
  · exact State.aluR_logic remS h hf hsh hz (remS_eq _ _)

end Sys2Proof.Machine
end

section
/-! PROOF of O5 and O6 (16 R453, Tables 16-7 and 16-8): loads, stores and AMO that meet no fault. -/
namespace Sys2Proof.Machine

variable {s : State} {c : Fin 4} {f : Fetch} {a : Word}

/-! ### Addresses -/

/-- The address of an access of `n` bytes, by the mode (Table 16-7). -/
def Core.adr (k : Core) (i : InsM) (n : Nat) : Word :=
  if i.mode = 0 then k.reg i.rb + (i.x.extractLsb' 0 12).signExtend 32
  else if i.mode = 1 then k.reg i.rb
  else if i.mode = 2 then k.reg i.rb - BitVec.ofNat 32 n
  else k.reg i.rb + (k.reg (i.x.extractLsb' 13 4) <<< (i.x.extractLsb' 11 2).toNat)

/-- What the mode leaves in the base register, whose value before the access is `b`. -/
def baseAfter (i : InsM) (b : Word) (n : Nat) (k : Core) : Core :=
  if i.mode = 1 then k.setReg i.rb (b + BitVec.ofNat 32 n)
  else if i.mode = 2 then k.setReg i.rb (b - BitVec.ofNat 32 n) else k

theorem Core.addr_fst (k : Core) (i : InsM) (n : Nat) : (k.addr i n).1 = k.adr i n := by
  have hdisp : BitVec.ofNat 12 i.x.toNat = i.x.extractLsb' 0 12 :=
    BitVec.eq_of_toNat_eq (by simp [BitVec.extractLsb'_toNat])
  have hreg : BitVec.ofNat 4 (i.x.toNat / 2 ^ 13) = i.x.extractLsb' 13 4 :=
    BitVec.eq_of_toNat_eq (by simp [BitVec.extractLsb'_toNat, Nat.shiftRight_eq_div_pow])
  have hscale : i.x.toNat / 2 ^ 11 % 4 = (i.x.extractLsb' 11 2).toNat := by
    simp [BitVec.extractLsb'_toNat, Nat.shiftRight_eq_div_pow]
  unfold Core.addr Core.adr
  simp only [hdisp, hreg, hscale]
  split
  · rfl
  · split
    · rfl
    · split <;> rfl

theorem Core.upd_addr (k q : Core) (i : InsM) (n : Nat) : q.upd i (k.addr i n).2 = baseAfter i (k.reg i.rb) n q := by
  unfold Core.addr baseAfter
  by_cases h0 : i.mode = 0
  · simp [h0, Core.upd]
  · by_cases h1 : i.mode = 1
    · simp [h1, Core.upd]
    · simp only [if_neg h0, if_neg h1]
      by_cases h2 : i.mode = 2
      · simp only [if_pos h2, Core.upd]
      · simp only [if_neg h2, Core.upd]

/-! ### Bytes -/

/-- A string of `n` bytes spells a number below `256 ^ n`. -/
theorem leVal_lt (bs : List Byte) : leVal bs < 256 ^ bs.length := by
  induction bs with
  | nil => simp [leVal]
  | cons b bs ih =>
    have := b.isLt
    simp only [leVal, List.length_cons, pow_succ]
    omega

theorem getBytes_length (bs : List Byte) (off n : Nat) : (getBytes bs off n).length = n := by
  simp [getBytes]

/-- A load of `n` bytes reads no more of them. -/
theorem State.busLoad_length (r : Range) (a n : Nat) : (s.busLoad c r a n).1.length ≤ n := by
  cases r <;> simp [State.busLoad, Mem.readN_length, getBytes_length]

/-- Zero extension of the loaded number. -/
theorem ofNat_setWidth_leVal {w : Nat} {bs : List Byte} {n : Nat} (h : bs.length ≤ n) (hw : 256 ^ n = 2 ^ w) (hw' : w ≤ 32) :
    BitVec.ofNat 32 (leVal bs) = (BitVec.ofNat w (leVal bs)).setWidth 32 := by
  have hv : leVal bs < 2 ^ w := hw ▸ Nat.lt_of_lt_of_le (leVal_lt bs) (Nat.pow_le_pow_right (by omega) h)
  have : 2 ^ w ≤ 2 ^ 32 := Nat.pow_le_pow_right (by omega) hw'
  apply BitVec.eq_of_toNat_eq
  simp [Nat.mod_eq_of_lt hv]

/-- The low bytes of a word. -/
theorem leBytes_low (w : Word) : leBytes 1 w.toNat = [w.extractLsb' 0 8] ∧ leBytes 2 w.toNat = [w.extractLsb' 0 8, w.extractLsb' 8 8] := by
  have := leBytes_word w
  simp only [leBytes, List.cons.injEq] at this ⊢
  obtain ⟨h0, h1, -⟩ := this
  exact ⟨⟨h0, trivial⟩, h0, h1, trivial⟩

theorem ofNat_leVal_leBytes (w : Word) : BitVec.ofNat 32 (leVal (leBytes 4 w.toNat)) = w := by
  rw [leBytes_word, ofNat_leVal_four]
  ext j hj; simp; grind

/-! ### Loads -/

theorem State.loadM_eq {i : InsM} {n : Nat} (g : Nat → Word) (h : s.canFetch c = true) (hf : fetchClean f = true)
    (hok : i.ok true = true) (ha : (s.core c).adr i n = a) (hd : s.dataFault c f a n true false = none) :
    s.loadM c f i n g = ((s.dataCe c f a).busLoad c (s.range c a.toNat) a.toNat n).2.modCore c fun k =>
      ((baseAfter i ((s.core c).reg i.rb) n k).setReg i.rt
        (g (leVal ((s.dataCe c f a).busLoad c (s.range c a.toNat) a.toNat n).1))).next := by
  unfold State.loadM
  rw [hok, State.instr_ok _ h hf]
  simp only [Core.addr_fst, ha, hd, Core.upd_addr]

/-- Settles O5: every load is `loadM`, which reads at the address of its mode. -/
theorem weevilLoads : Obligations.WeevilLoads := by
  intro s c f i h hf hok
  refine ⟨fun hd => ⟨?_, ?_⟩, fun hd => ⟨?_, ?_⟩, fun hd => ?_⟩ <;> refine congrArg Host.Outcome.next ?_
  · exact State.loadM_eq _ h hf hok rfl hd
  · rw [State.loadM_eq _ h hf hok rfl hd, ofNat_setWidth_leVal (State.busLoad_length ..) (w := 8) (by rfl) (by omega)]; rfl
  · exact State.loadM_eq _ h hf hok rfl hd
  · rw [State.loadM_eq _ h hf hok rfl hd, ofNat_setWidth_leVal (State.busLoad_length ..) (w := 16) (by rfl) (by omega)]; rfl
  · exact State.loadM_eq _ h hf hok rfl hd

/-! ### Stores -/

/-- Recording a corrected error leaves the cores and the shared RAM. -/
theorem State.dataCe_aside (a : Word) : (s.dataCe c f a).aside = s.aside := by
  unfold State.dataCe
  split
  · split
    · exact State.eventD_aside _
    · rfl
  · rfl

theorem State.dataCe_wvl (a : Word) : (s.dataCe c f a).wvl = s.wvl := by
  obtain ⟨-, -, -, -, -, hw, -⟩ := State.aside_fields (State.dataCe_aside (s := s) (c := c) (f := f) a)
  exact hw

/-- The range of an address rests on the states of the cores alone. -/
theorem State.range_congr {t : State} (h : ∀ n, (t.core n).st = (s.core n).st) (n : Nat) : t.range c n = s.range c n := by
  unfold State.range; simp only [h]

theorem Core.setReg_st (k : Core) (r : Reg) (v : Word) : (k.setReg r v).st = k.st := by unfold Core.setReg; split <;> rfl

theorem baseAfter_st (i : InsM) (b : Word) (n : Nat) (k : Core) : (baseAfter i b n k).st = k.st := by
  unfold baseAfter; split
  · exact Core.setReg_st ..
  · split
    · exact Core.setReg_st ..
    · rfl

theorem State.core_dataCe (a : Word) (n : Fin 4) : (s.dataCe c f a).core n = s.core n := by
  unfold State.core; rw [State.dataCe_wvl]

theorem State.storeM_eq {i : InsM} {n : Nat} (h : s.canFetch c = true) (hf : fetchClean f = true) (hok : i.ok false = true)
    (ha : (s.core c).adr i n = a) (hd : s.dataFault c f a n false true = none) {bs : List Byte}
    (hb : leBytes n ((s.core c).reg i.rt).toNat = bs) :
    s.storeM c f i n = ((s.dataCe c f a).modCore c fun k => (baseAfter i ((s.core c).reg i.rb) n k).next).busStore c
      (s.range c a.toNat) a.toNat bs := by
  unfold State.storeM
  rw [hok, State.instr_ok _ h hf]
  have hrange : ((s.dataCe c f a).modCore c fun k => (baseAfter i ((s.core c).reg i.rb) n k).next).range c a.toNat
      = s.range c a.toNat := State.range_congr (fun m => by
    rw [State.core_modCore, State.core_dataCe]; split
    · exact baseAfter_st ..
    · rfl) _
  simp only [Core.addr_fst, ha, hd, Core.upd_addr, hb, hrange]

theorem State.dataCe_ok (a : Word) : s.dataCe c .ok a = s := by
  unfold State.dataCe; split <;> rfl

theorem State.amo_eq (rd ra rb : Reg) (op : BitVec 2) (h : s.canFetch c = true) (hf : fetchClean f = true)
    (ha : (s.core c).reg ra = a) (hr : s.range c a.toNat = .shared) (hd : s.dataFault c f a 4 true true = none) {old : Word}
    (hold : BitVec.ofNat 32 (leVal (s.wvl.shared.readN 0 (a.toNat - 0x20000000) 4)) = old) :
    execAmo c f rd ra rb op 0 s = .next (((s.dataCe c f a).shWrite a
      (leBytes 4 (amoMem op old ((s.core c).reg rd) ((s.core c).reg rb)).toNat)).modCore c fun k => (k.setReg rd old).next) := by
  unfold execAmo
  refine congrArg Host.Outcome.next ((State.instr_ok _ h hf).trans ?_)
  simp only [ha, hd, hr, State.shRead, hold]
  rfl

/-! ### A load after a store -/

/-- An access that both reads and writes without a fault also does each alone. -/
theorem State.dataFault_alone {n : Nat} (h : s.dataFault c f a n true true = none) :
    s.dataFault c f a n true false = none ∧ s.dataFault c f a n false true = none := by
  unfold State.dataFault at *
  grind [Range.permits]

/-- A word of data RAM, written and read. -/
theorem Mem.readN_writeN_word (m : Mem) (a : Nat) (w : Word) (hm : Mem.wf 0 m = true) :
    BitVec.ofNat 32 (leVal ((m.writeN 0 a (leBytes 4 w.toNat)).readN 0 a 4)) = w := by
  have hread : (m.writeN 0 a (leBytes 4 w.toNat)).readN 0 a 4 = leBytes 4 w.toNat := by
    rw [leBytes_word]
    simp only [Mem.readN, Mem.read_writeN _ _ _ _ _ hm, show a + 1 + 1 = a + 2 from rfl, show a + 2 + 1 = a + 3 from rfl]
    simp
  rw [hread, ofNat_leVal_leBytes]

theorem State.range_data {n : Nat} (h : 0x10000000 ≤ n) (h' : n < 0x10010000) : s.range c n = .data := by
  unfold State.range
  rw [if_neg (by omega), if_pos ⟨h, h'⟩]

/-- SW into data RAM, without a fault. -/
theorem State.storeWord_data {i : InsM} (h : s.canFetch c = true) (hok : i.ok false = true) (hmode : i.mode = 0)
    (ha : (s.core c).adr i 4 = a) (hlo : 0x10000000 ≤ a.toNat) (hhi : a.toNat < 0x10010000)
    (hd : s.dataFault c .ok a 4 false true = none) :
    s.storeM c .ok i 4 = s.modCore c fun k =>
      { k.next with data := k.data.writeN 0 (a.toNat - 0x10000000) (leBytes 4 ((s.core c).reg i.rt).toNat) } := by
  rw [State.storeM_eq h rfl hok ha hd rfl, State.range_data hlo hhi, State.dataCe_ok]
  simp [State.busStore, baseAfter, hmode, Core.next]

theorem State.loadWord_data {i : InsM} (h : s.canFetch c = true) (hok : i.ok true = true) (hmode : i.mode = 0)
    (ha : (s.core c).adr i 4 = a) (hlo : 0x10000000 ≤ a.toNat) (hhi : a.toNat < 0x10010000)
    (hd : s.dataFault c .ok a 4 true false = none) :
    s.loadM c .ok i 4 (BitVec.ofNat 32) = s.modCore c fun k =>
      (k.setReg i.rt (BitVec.ofNat 32 (leVal ((s.core c).data.readN 0 (a.toNat - 0x10000000) 4)))).next := by
  rw [State.loadM_eq _ h rfl hok ha hd, State.range_data hlo hhi, State.dataCe_ok]
  simp [State.busLoad, baseAfter, hmode]

/-- A change of a core's data RAM and PC leaves the faults of its accesses to data RAM. -/
theorem State.dataFault_modCore_data {n : Nat} {load store : Bool} (m : Core → Mem) (hlo : 0x10000000 ≤ a.toNat)
    (hhi : a.toNat < 0x10010000) :
    (s.modCore c fun k => { k.next with data := m k }).dataFault c f a n load store = s.dataFault c f a n load store := by
  unfold State.dataFault
  rw [State.range_data hlo hhi, State.range_data hlo hhi, State.core_modCore_self]
  rfl

theorem State.load_of_store {t : State} {i j : InsM} (hm : (s.core c).memWf = true) (h : s.canFetch c = true)
    (hi : i.ok false = true) (hj : j.ok true = true) (hmi : i.mode = 0) (hmj : j.mode = 0) (hrb : i.rb = j.rb) (hx : i.x = j.x)
    (ha : (s.core c).adr i 4 = a) (hlo : 0x10000000 ≤ a.toNat) (hhi : a.toNat < 0x10010000)
    (hd : s.dataFault c .ok a 4 true true = none) (hst : s.storeM c .ok i 4 = t) (ht : t.canFetch c = true) :
    ((t.loadM c .ok j 4 (BitVec.ofNat 32)).core c).reg j.rt = if j.rt = 0 then 0 else (s.core c).reg i.rt := by
  obtain ⟨hl, hs⟩ := State.dataFault_alone hd
  rw [State.storeWord_data h hi hmi ha hlo hhi hs] at hst
  subst hst
  have hadr : ((s.modCore c fun k => { k.next with
      data := k.data.writeN 0 (a.toNat - 0x10000000) (leBytes 4 ((s.core c).reg i.rt).toNat) }).core c).adr j 4 = a := by
    rw [← ha, State.core_modCore_self]
    simp only [Core.adr, hmi, hmj, hrb, hx, if_true]
    rfl
  rw [State.loadWord_data ht hj hmj hadr hlo hhi ((State.dataFault_modCore_data _ hlo hhi).trans hl), State.core_modCore_self,
    State.core_modCore_self]
  have hwf : Mem.wf 0 (s.core c).data = true := by
    simp only [Core.memWf, Bool.and_eq_true] at hm
    exact hm.1.2
  rw [Mem.readN_writeN_word _ _ _ hwf]
  refine (Core.reg_setReg _ j.rt j.rt _).trans ?_
  simp

/-- Settles O6: every store is `storeM`, AMO exchanges a word of shared RAM, and a load finds the word stored. -/
theorem weevilStores : Obligations.WeevilStores := by
  refine ⟨fun s c f h hf => ⟨fun i hok => ⟨fun hd => ?_, fun hd => ?_, fun hd => ?_⟩, fun rd ra rb op => ?_⟩, ?_⟩
  · exact congrArg Host.Outcome.next (State.storeM_eq h hf hok rfl hd (leBytes_low _).1)
  · exact congrArg Host.Outcome.next (State.storeM_eq h hf hok rfl hd (leBytes_low _).2)
  · exact congrArg Host.Outcome.next (State.storeM_eq h hf hok rfl hd (leBytes_word _))
  · intro a old new hr hd
    refine (State.amo_eq rd ra rb op h hf rfl hr hd rfl).trans ?_
    unfold State.shWrite
    rw [State.dataCe_wvl]
    rfl
  · intro s t c i j hm h hi hj hmi hmj hrb hx ⟨hlo, hhi, hd⟩ hst ht
    have ha : (s.core c).adr i 4 = (s.core c).reg i.rb + (i.x.extractLsb' 0 12).signExtend 32 := if_pos hmi
    exact ⟨_, rfl, State.load_of_store hm h hi hj hmi hmj hrb hx ha hlo hhi hd (Host.Outcome.next.inj hst) ht⟩

end Sys2Proof.Machine
end

section
/-! PROOF of O7, O8 and O9 (16 R454, R455, Tables 16-8 to 16-10): branches, system instructions and control registers. -/
namespace Sys2Proof.Machine

variable {s : State} {c : Fin 4} {f : Fetch}

/-! ### Branches -/

/-- The condition of Bcc as the entry of a list, by its number. -/
theorem condHolds_eq (st : Word) (k : Nat) (hk : k < 15) : condHolds st k =
    [true, st.getLsbD 30, !st.getLsbD 30, st.getLsbD 31, !st.getLsbD 31, st.getLsbD 28, !st.getLsbD 28, st.getLsbD 29, !st.getLsbD 29,
      st.getLsbD 29 && !st.getLsbD 30, !st.getLsbD 29 || st.getLsbD 30, st.getLsbD 31 == st.getLsbD 28, st.getLsbD 31 != st.getLsbD 28,
      !st.getLsbD 30 && st.getLsbD 31 == st.getLsbD 28, st.getLsbD 30 || st.getLsbD 31 != st.getLsbD 28].getD k false := by
  interval_cases k <;> rfl

/-- A word is a multiple of 4 when its low two bits are 0. -/
theorem Word.mod_four_of_and {w : Word} (h : w &&& 3 = 0) : w.toNat % 4 = 0 := by
  have hand : (w &&& 3).toNat = w.toNat % 4 := by
    rw [BitVec.toNat_and]; exact Nat.and_two_pow_sub_one_eq_mod w.toNat 2
  rw [← hand, h]; rfl

/-- Settles O7: each branch changes its core alone. -/
theorem weevilBranches : Obligations.WeevilBranches := by
  intro s c f h hf
  refine ⟨fun cond off hcond => ?_, fun off => ?_, fun rd ra hra => ?_⟩ <;> refine congrArg Host.Outcome.next ?_
  · have hlegal : (cond != 15) = true := by simpa using hcond
    have hlt : cond.toNat < 15 := by
      have : cond.toNat ≠ 15 := fun e => hcond (BitVec.eq_of_toNat_eq e)
      have := cond.isLt
      omega
    rw [hlegal, State.onCore_ok _ h hf]
    exact State.modCore_congr (by simp only [condHolds_eq _ _ hlt, Word.mul_four])
  · rw [State.onCore_ok _ h hf]
    exact State.modCore_congr (by simp only [Word.mul_four]; rfl)
  · refine (State.instr_ok _ h hf).trans ((if_neg fun hne => hne (Word.mod_four_of_and hra)).trans ?_)
    exact State.modCore_congr rfl

/-! ### Sums of powers of two -/

/-- The number that has bit `i` where `p i` holds, for `i` below `n`. -/
theorem foldl_two_pow_testBit (p : Nat → Bool) (n j : Nat) :
    ((List.range n).foldl (fun a i => a + (if p i then 2 ^ i else 0)) 0).testBit j = (decide (j < n) && p j) := by
  have both : ∀ n, (List.range n).foldl (fun a i => a + (if p i then 2 ^ i else 0)) 0 < 2 ^ n
      ∧ ∀ j, ((List.range n).foldl (fun a i => a + (if p i then 2 ^ i else 0)) 0).testBit j = (decide (j < n) && p j) := by
    intro n
    induction n with
    | zero => simp
    | succ n ih =>
      obtain ⟨hlt, hbit⟩ := ih
      rw [List.range_succ, List.foldl_append, List.foldl_cons, List.foldl_nil]
      generalize (List.range n).foldl (fun a i => a + (if p i then 2 ^ i else 0)) 0 = v at hlt hbit
      refine ⟨by split <;> simp only [pow_succ] <;> omega, fun j => ?_⟩
      by_cases hn : p n = true
      · rw [if_pos hn, Nat.add_comm]
        rcases Nat.lt_trichotomy j n with hj | rfl | hj
        · rw [Nat.testBit_two_pow_add_gt hj, hbit]; simp [hj]; omega
        · rw [Nat.testBit_two_pow_add_eq, hbit]; simp [hn]
        · have : 2 ^ n + v < 2 ^ j := Nat.lt_of_lt_of_le (by rw [pow_succ]; omega) (Nat.pow_le_pow_right (by omega) hj)
          rw [Nat.testBit_lt_two_pow this]; simp; omega
      · rw [if_neg hn, Nat.add_zero, hbit]
        by_cases e : j = n
        · simp [e, hn]
        · simp [show (j < n + 1) = (j < n) by simp; omega]
  exact (both n).2 j

/-- No line stands above bit 19 (Table 16-11). -/
theorem State.irqPend_of_ge {j : Nat} (h : 20 ≤ j) : (s.irqPend c).getLsbD j = false := by
  unfold State.irqPend
  dsimp only
  rw [BitVec.getLsbD_ofNat, foldl_two_pow_testBit, decide_eq_false (show ¬ j < 20 by omega)]
  simp

/-- A line is pending under the mask when some bit of both words is set. -/
theorem State.irqLine_isSome : (s.irqLine c).isSome = true ↔ s.irqPend c &&& (s.core c).irqMask ≠ 0 := by
  unfold State.irqLine
  rw [List.find?_isSome]
  simp only [List.mem_range, Word.bit, Bool.and_eq_true]
  constructor
  · rintro ⟨i, hi, hp, hm⟩ h0
    have : (s.irqPend c &&& (s.core c).irqMask).getLsbD i = true := by rw [BitVec.getLsbD_and, hp, hm]; rfl
    rw [h0] at this
    simp at this
  · intro hne
    by_contra hno
    refine hne (BitVec.eq_of_getLsbD_eq fun i _ => ?_)
    rw [BitVec.getLsbD_and, show (0 : Word).getLsbD i = false from BitVec.getLsbD_zero]
    by_cases hi : i < 20
    · exact Bool.eq_false_iff.2 fun hb => hno ⟨i, hi, by simpa using hb⟩
    · rw [State.irqPend_of_ge (by omega)]; rfl

/-! ### System instructions -/

theorem Core.task_of_super {k : Core} (h : k.status.getLsbD 1 = false) : k.task = false := h

/-- STATUS after RFE, bit by bit (R454). -/
theorem Core.rfe_status_bit (k : Core) (n : Nat) : k.rfe.status.getLsbD n =
    (if n = 0 then k.status.getLsbD 3 else if n = 1 then k.status.getLsbD 4 else if n = 2 then false else k.status.getLsbD n) := by
  have zero : ∀ w : Word, w.put 2 2 0 = w.put 2 2 (b2n false) := fun _ => rfl
  simp only [Core.rfe, zero, Word.put_bit _ 2 (by omega), Word.put_bit _ 1 (by omega), Word.put_bit _ 0 (by omega), Word.bit]
  grind

/-- An exception's core, as a value. -/
theorem State.sync_first_const (cause detail : Nat) (epc eaddr : Word) (h : (s.core c).status.getLsbD 2 = false) :
    s.sync c cause detail epc eaddr = s.modCore c fun _ => (s.core c).except cause detail epc eaddr :=
  (State.sync_first _ _ _ _ _ h).trans (State.modCore_congr rfl)

/-- Settles O8: TRAP and BRK enter their exceptions; the other system instructions change their core alone. -/
theorem weevilSystem : Obligations.WeevilSystem := by
  refine ⟨fun s c f i h hf hexl hz hreg => ⟨fun himm => ?_, fun himm => ?_⟩, fun s c f h hf => ⟨fun hsuper => ?_, ?_, fun hp => ?_, fun hp => ?_⟩⟩
  · have hok : i.okTrap = true := by simp [InsS.okTrap, hz, hreg, himm]
    refine ⟨(s.core c).except 7 i.imm.toNat ((s.core c).pc + 4) 0, ⟨rfl, enterStatus_bit _⟩, congrArg Host.Outcome.next ?_⟩
    rw [hok, State.instr_ok _ h hf, State.sync_first_const _ _ _ _ hexl]
  · have hok : i.bare = true := by simp [InsS.bare, hz, hreg, himm]
    refine ⟨(s.core c).except 8 0 (s.core c).pc 0, ⟨rfl, enterStatus_bit _⟩, congrArg Host.Outcome.next ?_⟩
    rw [hok, State.instr_ok _ h hf, State.sync_first_const _ _ _ _ hexl]
  · refine ⟨(s.core c).rfe.status, congrArg Host.Outcome.next ?_, Core.rfe_status_bit _⟩
    rw [show (InsS.bare { reg := 0, z := 0, imm := 0 } && !(s.core c).task) = true by simp [InsS.bare, Core.task_of_super hsuper],
      State.onCore_ok _ h hf]
    exact State.modCore_congr rfl
  · exact congrArg Host.Outcome.next (State.onCore_ok _ h hf)
  · have hline : (s.irqLine c).isSome = false := Bool.eq_false_iff.2 fun hs => State.irqLine_isSome.1 hs hp
    refine congrArg Host.Outcome.next ((State.instr_ok _ h hf).trans ?_)
    simp only [hline]; rfl
  · refine congrArg Host.Outcome.next ((State.instr_ok _ h hf).trans ?_)
    simp only [State.irqLine_isSome.2 hp]; rfl

/-! ### Control registers -/

/-- CRR in SUPER mode reads the register into REG. -/
theorem execCrr_super {i : InsS} (h : s.canFetch c = true) (hf : fetchClean f = true) (hz : i.z = 0)
    (hsuper : (s.core c).status.getLsbD 1 = false) {n : Nat} (hn : i.imm.toNat = n) (hk : crKnown n = true) {w : Word}
    (hw : s.crRead c n = w) : exec (.crr c f i) s = .next (s.modCore c fun k => (k.setReg i.reg w).next) := by
  refine congrArg Host.Outcome.next ?_
  rw [show (i.okCr && crKnown i.imm.toNat && (!(s.core c).task || i.imm.toNat == 0 || i.imm.toNat == 5)) = true by
    simp [InsS.okCr, hz, hn, hk, Core.task_of_super hsuper], State.instr_ok _ h hf]
  simp only [hn, hw]

/-- CRW in SUPER mode writes REG into the register. -/
theorem execCrw_super {i : InsS} (h : s.canFetch c = true) (hf : fetchClean f = true) (hz : i.z = 0)
    (hsuper : (s.core c).status.getLsbD 1 = false) {n : Nat} (hn : i.imm.toNat = n) (hk : crKnown n = true) {g : Core → Core}
    (hg : (s.core c).crWrite c n ((s.core c).reg i.reg) = g (s.core c)) :
    exec (.crw c f i) s = .next (s.modCore c fun k => (g k).next) := by
  refine congrArg Host.Outcome.next ?_
  rw [show (i.okCr && crKnown i.imm.toNat && !(s.core c).task) = true by
    simp [InsS.okCr, hz, hn, hk, Core.task_of_super hsuper], State.onCore_ok _ h hf]
  exact State.modCore_congr (by simp only [hn, hg])

/-- The number of a region register, and the region that it names. -/
theorem region_index (j : Fin 8) : Fin.ofNat 8 ((16 + 2 * j.val - 16) / 2) = j ∧ Fin.ofNat 8 ((17 + 2 * j.val - 16) / 2) = j := by
  revert j; decide

theorem crKnown_region (j : Fin 8) : crKnown (16 + 2 * j.val) = true ∧ crKnown (17 + 2 * j.val) = true := by
  revert j; decide

theorem State.crRead_region (j : Fin 8) : s.crRead c (16 + 2 * j.val) = (s.core c).rbase[j.val]
    ∧ s.crRead c (17 + 2 * j.val) = (s.core c).rattr[j.val] := by
  have hj := j.isLt
  obtain ⟨h1, h2⟩ := region_index j
  constructor <;> unfold State.crRead <;> simp only [h1, h2]
  · simp [show ∀ m : Nat, m < 16 → 16 + 2 * j.val ≠ m by omega, show (16 + 2 * j.val) % 2 = 0 by omega]
  · simp [show ∀ m : Nat, m < 16 → 17 + 2 * j.val ≠ m by omega]

/-- A write of a region register: a locked region keeps it. -/
theorem Core.crWrite_rbase (k : Core) (j : Fin 8) (v : Word) : k.crWrite c (16 + 2 * j.val) v =
    if k.rattr[j.val].getLsbD 3 then k
    else { k with rbase := k.rbase.set j.val (if (v &&& 0x1F).toNat < 8 then v &&& 0xFFFFFF00 else v &&& 0xFFFFFF1F) } := by
  have hj := j.isLt
  have hfld : v.fld 4 0 = (v &&& 0x1F).toNat := by
    rw [BitVec.toNat_and]; exact (Nat.and_two_pow_sub_one_eq_mod v.toNat 5).symm
  unfold Core.crWrite
  simp only [(region_index j).1, hfld]
  rw [if_neg (by omega), if_neg (by omega), if_neg (by omega), if_neg (by omega), if_neg (by omega),
    if_pos (show (16 + 2 * j.val) % 2 = 0 by omega)]
  simp only [show ¬ 16 + 2 * j.val < 16 by omega, show ¬ 32 ≤ 16 + 2 * j.val by omega, false_or, Word.bit]

theorem Core.crWrite_rattr (k : Core) (j : Fin 8) (v : Word) : k.crWrite c (17 + 2 * j.val) v =
    if k.rattr[j.val].getLsbD 3 then k else { k with rattr := k.rattr.set j.val (v &&& 0xF) } := by
  have hj := j.isLt
  unfold Core.crWrite
  simp only [(region_index j).2]
  rw [if_neg (by omega), if_neg (by omega), if_neg (by omega), if_neg (by omega), if_neg (by omega),
    if_neg (show ¬ (17 + 2 * j.val) % 2 = 0 by omega)]
  simp only [show ¬ 17 + 2 * j.val < 16 by omega, show ¬ 32 ≤ 17 + 2 * j.val by omega, false_or, Word.bit]

theorem vbaseOk_of_lt {v : Word} (h : v.toNat < 0x20000) : vbaseOk c (v &&& 0xFFFFFF00) = true := by
  have : (v &&& 0xFFFFFF00).toNat ≤ v.toNat := by rw [BitVec.toNat_and]; exact Nat.and_le_left
  unfold vbaseOk
  rw [decide_eq_true (by omega)]; rfl

/-- Settles O9: each register is read and written by its number. -/
theorem weevilControlRegisters : Obligations.WeevilControlRegisters := by
  intro s c f i h hf hz hsuper
  have read {n : Nat} (hk : crKnown n = true) {w : Word} (hw : s.crRead c n = w) (hn : i.imm.toNat = n) :=
    execCrr_super h hf hz hsuper hn hk hw
  have write {n : Nat} (hk : crKnown n = true) {g : Core → Core} (hg : (s.core c).crWrite c n ((s.core c).reg i.reg) = g (s.core c))
      (hn : i.imm.toNat = n) := execCrw_super h hf hz hsuper hn hk hg
  refine ⟨⟨read rfl rfl, read rfl rfl, read rfl rfl, read rfl rfl, read rfl rfl, read rfl rfl, read rfl rfl, read rfl rfl,
    read rfl rfl, fun j => ⟨read (crKnown_region j).1 (State.crRead_region j).1, read (crKnown_region j).2 (State.crRead_region j).2⟩⟩,
    write rfl rfl, write rfl rfl, write rfl rfl, write rfl rfl, write rfl rfl, write rfl rfl,
    fun hv => write rfl (g := fun k => { k with vbase := (s.core c).reg i.reg &&& 0xFFFFFF00 }) ?_, write rfl rfl, write rfl rfl,
    fun j => ⟨fun hl => ⟨write (crKnown_region j).1 ?_, write (crKnown_region j).2 ?_⟩,
      fun hl => ⟨write (crKnown_region j).2 ?_, fun hv => write (crKnown_region j).1 ?_, fun hv => write (crKnown_region j).1 ?_⟩⟩⟩
  · exact if_pos (vbaseOk_of_lt hv)
  · rw [Core.crWrite_rbase, if_pos hl]; rfl
  · rw [Core.crWrite_rattr, if_pos hl]; rfl
  · rw [Core.crWrite_rattr, if_neg (Bool.eq_false_iff.1 hl)]
  · rw [Core.crWrite_rbase, if_neg (Bool.eq_false_iff.1 hl), if_neg (by omega)]
  · rw [Core.crWrite_rbase, if_neg (Bool.eq_false_iff.1 hl), if_pos hv]

end Sys2Proof.Machine
end

section
/-! PROOF of O10 (16 R451, R454 to R456). Every instruction of a core is `State.instr` with a legality of its fields and a body; which
faults come before the body is read off that one function. -/
-- One declaration after another: elaborated side by side, the many short proofs of this file take more threads than the check has memory for.
set_option Elab.async false

namespace Sys2Proof.Machine

variable {s : State} {c : Fin 4} {f : Fetch}

/-! ### Legality of the fields -/

theorem InsR.ok3_eq (i : InsR) : i.ok3 = decide (i.sh = 0 ∧ i.z = 0) := by
  rw [Bool.eq_iff_iff]; simp [InsR.ok3]

theorem InsR.ok2_eq (i : InsR) : i.ok2 = decide (i.rb = 0 ∧ i.sh = 0 ∧ i.z = 0) := by
  rw [Bool.eq_iff_iff]; simp [InsR.ok2, InsR.ok3]; tauto

theorem InsR.okSh_eq (i : InsR) : i.okSh = decide (i.rb = 0 ∧ i.z = 0) := by
  rw [Bool.eq_iff_iff]; simp [InsR.okSh]

theorem InsR.okCmp_eq (i : InsR) : i.okCmp = decide (i.rd = 0 ∧ i.sh = 0 ∧ i.z = 0) := by
  rw [Bool.eq_iff_iff]; simp [InsR.okCmp, InsR.ok3]; tauto

theorem InsI.ok_eq (i : InsI) : i.ok = decide (i.z = false) := by cases h : i.z <;> simp [InsI.ok, h]

theorem InsI.okCmp_eq (i : InsI) : i.okCmp = decide (i.z = false ∧ i.rd = 0) := by
  rw [Bool.eq_iff_iff]; simp [InsI.okCmp]

theorem InsI.okUp_eq (i : InsI) : i.okUp = decide (i.z = false ∧ i.ra = 0 ∧ i.s = false) := by
  rw [Bool.eq_iff_iff]; simp [InsI.okUp, and_assoc]

theorem InsS.bare_eq (i : InsS) : i.bare = decide (i.reg = 0 ∧ i.z = 0 ∧ i.imm = 0) := by
  rw [Bool.eq_iff_iff]; simp [InsS.bare]; tauto

theorem InsS.okTrap_eq (i : InsS) : i.okTrap = decide (i.reg = 0 ∧ i.z = 0 ∧ i.imm.toNat < 256) := by
  rw [Bool.eq_iff_iff]; simp [InsS.okTrap]; tauto

/-- The field conditions of the modes, as the format's table and as the decoder's numbers give them. -/
theorem InsM.ok_eq (i : InsM) (load : Bool) : i.ok load = decide ((i.mode = 0 → i.x.extractLsb' 12 5 = 0)
    ∧ (i.mode = 3 → i.x.extractLsb' 0 11 = 0) ∧ (i.mode = 1 ∨ i.mode = 2 → i.x = 0 ∧ i.rb ≠ 0 ∧ (load = true → i.rt ≠ i.rb))) := by
  have hx := i.x.isLt
  have hhi : i.x.extractLsb' 12 5 = 0 ↔ i.x.toNat < 2 ^ 12 := by
    rw [← BitVec.toNat_inj, BitVec.extractLsb'_toNat, Nat.shiftRight_eq_div_pow]; simp; omega
  have hlo : i.x.extractLsb' 0 11 = 0 ↔ i.x.toNat % 2 ^ 11 = 0 := by
    rw [← BitVec.toNat_inj, BitVec.extractLsb'_toNat]; simp
  have hmode : i.mode = 0 ∨ i.mode = 1 ∨ i.mode = 2 ∨ i.mode = 3 := by
    generalize i.mode = m; revert m; decide
  rw [Bool.eq_iff_iff]
  simp only [hhi, hlo, decide_eq_true_eq, InsM.ok]
  rcases hmode with h | h | h | h <;> cases load <;> simp [h, and_assoc]

/-! ### Every instruction of a core -/

/-- The instruction `op` of core `c`, for every answer to its fetch: what it checks before its body, and that its check rests on its
fields and its core alone. -/
structure CoreInstr (c : Fin 4) (op : Fetch → Instr) (legal : State → Bool) (body : Fetch → State → State) : Prop where
  runs : ∀ f s, exec (op f) s = .next (s.instr c f (legal s) (body f))
  corrected : body .fetchCe = body .ok
  ofCore : ∀ s t, t.core c = s.core c → legal t = legal s
  fields : ∀ f s, legalFields (op f) = false → legal s = false
  privileged : ∀ f s, (s.core c).task = true →
    ∀ j, op f = .rfe c f j ∨ op f = .crw c f j ∨ (op f = .crr c f j ∧ j.imm ≠ 0 ∧ j.imm ≠ 5) → legal s = false

/-- An instruction whose legality is its fields' alone, and that is not privileged. -/
theorem CoreInstr.plain {op : Fetch → Instr} {ok : Bool} {body : Fetch → State → State}
    (runs : ∀ f s, exec (op f) s = .next (s.instr c f ok (body f))) (corrected : body .fetchCe = body .ok)
    (fields : ∀ f, ok = legalFields (op f))
    (unprivileged : ∀ f j, op f ≠ .rfe c f j ∧ op f ≠ .crw c f j ∧ op f ≠ .crr c f j) : CoreInstr c op (fun _ => ok) body where
  runs := runs
  corrected := corrected
  ofCore _ _ _ := rfl
  fields f _ h := (fields f).trans h
  privileged f _ _ j h := by
    obtain ⟨h1, h2, h3⟩ := unprivileged f j
    rcases h with h | h | ⟨h, -⟩
    exacts [absurd h h1, absurd h h2, absurd h h3]

/-- An instruction that changes its core alone. -/
theorem CoreInstr.onCore {op : Fetch → Instr} {ok : Bool} {g : Core → Core}
    (runs : ∀ f s, exec (op f) s = .next (s.onCore c f ok g)) (fields : ∀ f, ok = legalFields (op f))
    (unprivileged : ∀ f j, op f ≠ .rfe c f j ∧ op f ≠ .crw c f j ∧ op f ≠ .crr c f j) :
    ∃ legal body, CoreInstr c op legal body :=
  ⟨_, fun _ s => s.modCore c g, .plain runs rfl fields unprivileged⟩

theorem CoreInstr.loadM {op : Fetch → Instr} {x : InsM} {n : Nat} {g : Nat → Word}
    (runs : ∀ f s, exec (op f) s = .next (s.loadM c f x n g)) (fields : ∀ f, x.ok true = legalFields (op f))
    (unprivileged : ∀ f j, op f ≠ .rfe c f j ∧ op f ≠ .crw c f j ∧ op f ≠ .crr c f j) :
    ∃ legal body, CoreInstr c op legal body :=
  ⟨_, _, .plain (fun f s => (runs f s).trans (by unfold State.loadM; rfl)) (by rfl) fields unprivileged⟩

theorem CoreInstr.storeM {op : Fetch → Instr} {x : InsM} {n : Nat}
    (runs : ∀ f s, exec (op f) s = .next (s.storeM c f x n)) (fields : ∀ f, x.ok false = legalFields (op f))
    (unprivileged : ∀ f j, op f ≠ .rfe c f j ∧ op f ≠ .crw c f j ∧ op f ≠ .crr c f j) :
    ∃ legal body, CoreInstr c op legal body :=
  ⟨_, _, .plain (fun f s => (runs f s).trans (by unfold State.storeM; rfl)) (by rfl) fields unprivileged⟩

theorem CoreInstr.rFun {n : Nat} {k} (x : InsR) (h : rFun n = some k) : ∃ legal body, CoreInstr c (fun f => k c f x) legal body := by
  unfold Sys2Proof.rFun at h
  split at h <;> cases h
  all_goals
    refine CoreInstr.onCore (fun _ _ => rfl) (fun _ => ?_) (fun _ _ => ⟨nofun, nofun, nofun⟩)
    simp only [legalFields, InsR.ok3_eq, InsR.ok2_eq, InsR.okSh_eq, InsR.okCmp_eq]

theorem CoreInstr.iFun {n : Nat} {k} (x : InsI) (h : iFun n = some k) : ∃ legal body, CoreInstr c (fun f => k c f x) legal body := by
  unfold Sys2Proof.iFun at h
  split at h <;> cases h
  all_goals
    refine CoreInstr.onCore (fun _ _ => rfl) (fun _ => ?_) (fun _ _ => ⟨nofun, nofun, nofun⟩)
    simp only [legalFields, InsI.ok_eq, InsI.okCmp_eq, InsI.okUp_eq]

theorem CoreInstr.mFun {n : Nat} {k} (x : InsM) (h : mFun n = some k) : ∃ legal body, CoreInstr c (fun f => k c f x) legal body := by
  unfold Sys2Proof.mFun at h
  split at h <;> cases h
  case h_1 | h_2 | h_3 | h_4 | h_5 =>
    exact CoreInstr.loadM (fun _ _ => rfl) (fun _ => by simp [legalFields, InsM.ok_eq]) (fun _ _ => ⟨nofun, nofun, nofun⟩)
  case h_6 | h_7 | h_8 =>
    exact CoreInstr.storeM (fun _ _ => rfl) (fun _ => by simp [legalFields, InsM.ok_eq]) (fun _ _ => ⟨nofun, nofun, nofun⟩)

theorem coreInstr_rfe (x : InsS) : ∃ legal body, CoreInstr c (fun f => .rfe c f x) legal body :=
  ⟨fun s => x.bare && !(s.core c).task, fun _ s => s.modCore c Core.rfe, fun _ _ => rfl, rfl, fun _ _ h => by simp only [h],
    fun _ _ h => by
      have hb : x.bare = false := (InsS.bare_eq x).trans h
      simp [hb],
    fun _ _ ht _ _ => by simp [ht]⟩

/-- The fields of CRR and CRW, as their own check and as the tables give them. -/
theorem InsS.okCr_eq (x : InsS) : (x.okCr && crKnown x.imm.toNat)
    = decide (x.z = 0 ∧ (x.imm.toNat ≤ 8 ∨ (16 ≤ x.imm.toNat ∧ x.imm.toNat ≤ 31))) := by
  rw [Bool.eq_iff_iff]; simp [InsS.okCr, crKnown]; omega

theorem coreInstr_crr (x : InsS) : ∃ legal body, CoreInstr c (fun f => .crr c f x) legal body := by
  refine ⟨fun s => x.okCr && crKnown x.imm.toNat && (!(s.core c).task || x.imm.toNat == 0 || x.imm.toNat == 5),
    fun _ s => s.modCore c fun k => (k.setReg x.reg (s.crRead c x.imm.toNat)).next, fun _ _ => rfl, rfl,
    fun _ _ h => by simp only [h], fun _ _ h => ?_, fun _ _ ht j hj => ?_⟩
  · rw [(InsS.okCr_eq x).trans h, Bool.false_and]
  · obtain h | h | ⟨h, h0, h5⟩ := hj
    · cases h
    · cases h
    · cases h
      have n0 : x.imm.toNat ≠ 0 := fun e => h0 (BitVec.eq_of_toNat_eq e)
      have n5 : x.imm.toNat ≠ 5 := fun e => h5 (BitVec.eq_of_toNat_eq e)
      simp [ht, n0, n5]

theorem coreInstr_crw (x : InsS) : ∃ legal body, CoreInstr c (fun f => .crw c f x) legal body := by
  refine ⟨fun s => x.okCr && crKnown x.imm.toNat && !(s.core c).task,
    fun _ s => s.modCore c fun k => (k.crWrite c x.imm.toNat (k.reg x.reg)).next, fun _ _ => rfl, rfl,
    fun _ _ h => by simp only [h], fun _ _ h => ?_, fun _ _ ht _ _ => by simp [ht]⟩
  rw [(InsS.okCr_eq x).trans h, Bool.false_and]

theorem CoreInstr.sFun {n : Nat} {k} (x : InsS) (h : sFun n = some k) : ∃ legal body, CoreInstr c (fun f => k c f x) legal body := by
  unfold Sys2Proof.sFun at h
  split at h <;> cases h
  case h_2 => exact coreInstr_rfe x
  case h_5 => exact coreInstr_crr x
  case h_6 => exact coreInstr_crw x
  case h_4 =>
    exact CoreInstr.onCore (fun _ _ => rfl) (fun _ => by simp only [legalFields, InsS.bare_eq]) (fun _ _ => ⟨nofun, nofun, nofun⟩)
  all_goals
    exact ⟨_, _, .plain (fun _ _ => by rfl) (by rfl) (fun _ => by simp only [legalFields, InsS.bare_eq, InsS.okTrap_eq])
      (fun _ _ => ⟨nofun, nofun, nofun⟩)⟩

theorem coreInstr_bcc (cond : BitVec 4) (off : BitVec 22) : ∃ legal body, CoreInstr c (fun f => .bcc c f cond off) legal body :=
  CoreInstr.onCore (fun _ _ => rfl) (fun _ => by rw [Bool.eq_iff_iff]; simp [legalFields]) (fun _ _ => ⟨nofun, nofun, nofun⟩)

theorem coreInstr_bl (off : BitVec 26) : ∃ legal body, CoreInstr c (fun f => .bl c f off) legal body :=
  CoreInstr.onCore (fun _ _ => rfl) (fun _ => rfl) (fun _ _ => ⟨nofun, nofun, nofun⟩)

theorem coreInstr_jalr (rd ra : Reg) (z : BitVec 18) : ∃ legal body, CoreInstr c (fun f => .jalr c f rd ra z) legal body :=
  ⟨_, _, .plain (fun _ _ => by rfl) (by rfl) (fun _ => by rw [Bool.eq_iff_iff]; simp [legalFields]) (fun _ _ => ⟨nofun, nofun, nofun⟩)⟩

theorem coreInstr_amo (rd ra rb : Reg) (op : BitVec 2) (z : BitVec 12) :
    ∃ legal body, CoreInstr c (fun f => .amo c f rd ra rb op z) legal body :=
  ⟨_, _, .plain (fun _ _ => by rfl) (by rfl) (fun _ => by rw [Bool.eq_iff_iff]; simp [legalFields]) (fun _ _ => ⟨nofun, nofun, nofun⟩)⟩

/-- Every word that spells an instruction of a core spells one for each answer to the fetch. -/
theorem CoreInstr.of_weevil {w : Word} {i : Instr} (h : weevil c f w = some i) :
    ∃ op legal body, CoreInstr c op legal body ∧ ∀ g, weevil c g w = some (op g) := by
  unfold weevil at h ⊢
  split at h
  case h_1 e =>
    obtain ⟨k, hk, -⟩ := Option.map_eq_some_iff.1 h
    obtain ⟨legal, body, hr⟩ := CoreInstr.rFun (c := c) (insR w) hk
    exact ⟨_, legal, body, hr, fun g => by rw [hk]; rfl⟩
  case h_2 e =>
    obtain ⟨k, hk, -⟩ := Option.map_eq_some_iff.1 h
    obtain ⟨legal, body, hr⟩ := CoreInstr.iFun (c := c) (insI w) hk
    exact ⟨_, legal, body, hr, fun g => by rw [hk]; rfl⟩
  case h_3 e =>
    obtain ⟨k, hk, -⟩ := Option.map_eq_some_iff.1 h
    obtain ⟨legal, body, hr⟩ := CoreInstr.mFun (c := c) (insM w) hk
    exact ⟨_, legal, body, hr, fun g => by rw [hk]; rfl⟩
  case h_4 e0 e1 e2 =>
    unfold bFun at h ⊢
    split at h
    case h_1 e =>
      obtain ⟨legal, body, hr⟩ := coreInstr_bcc (c := c) (w.extractLsb' 22 4) (w.extractLsb' 0 22)
      exact ⟨_, legal, body, hr, fun _ => rfl⟩
    case h_2 e =>
      obtain ⟨legal, body, hr⟩ := coreInstr_bl (c := c) (w.extractLsb' 0 26)
      exact ⟨_, legal, body, hr, fun _ => rfl⟩
    case h_3 e =>
      obtain ⟨legal, body, hr⟩ := coreInstr_jalr (c := c) (w.extractLsb' 22 4) (w.extractLsb' 18 4) (w.extractLsb' 0 18)
      exact ⟨_, legal, body, hr, fun _ => rfl⟩
    case h_4 e =>
      obtain ⟨legal, body, hr⟩ := coreInstr_amo (c := c) (w.extractLsb' 22 4) (w.extractLsb' 18 4) (w.extractLsb' 14 4)
        (w.extractLsb' 12 2) (w.extractLsb' 0 12)
      exact ⟨_, legal, body, hr, fun _ => rfl⟩
    case h_5 e =>
      obtain ⟨k, hk, -⟩ := Option.map_eq_some_iff.1 h
      obtain ⟨legal, body, hr⟩ := CoreInstr.sFun (c := c) (insS w) hk
      exact ⟨_, legal, body, hr, fun g => by rw [hk]; rfl⟩
    case h_6 => cases h

/-- Every instruction of a core has a word. -/
theorem exists_weevilWord {i : Instr} (h : i.coreFetch = some (c, f)) : ∃ w, weevilWord i = some w := by
  cases i <;> cases h <;> exact ⟨_, rfl⟩

theorem CoreInstr.of_coreFetch {i : Instr} (h : i.coreFetch = some (c, f)) : ∃ op legal body, CoreInstr c op legal body ∧ i = op f := by
  obtain ⟨w, hw⟩ := exists_weevilWord h
  have hi := weevil_of_weevilWord hw h
  obtain ⟨op, legal, body, hr, hop⟩ := CoreInstr.of_weevil hi
  exact ⟨op, legal, body, hr, Option.some.inj (hi.symm.trans (hop f))⟩

/-! ### The faults before the body -/

/-- The fetch of a core that executes, where protection forbids it. -/
theorem State.instr_forbidden (legal : Bool) (body : State → State) (hx : s.executes c = true)
    (h : (s.core c).mayDo (s.core c).pc.toNat 2 = false) :
    s.instr c f legal body = s.sync c 3 0 (s.core c).pc (s.core c).pc := by
  unfold State.instr
  simp only [hx, h, not_true_eq_false, if_false, Bool.false_eq_true, not_false_eq_true, if_true]

/-- The fetch from a range that instructions are not fetched from. -/
theorem State.instr_nowhere (legal : Bool) (body : State → State) (hx : s.executes c = true)
    (h : (s.core c).mayDo (s.core c).pc.toNat 2 = true) (hr : (s.range c (s.core c).pc.toNat).fetches = false) :
    s.instr c f legal body = s.sync c 6 0 (s.core c).pc (s.core c).pc := by
  unfold State.instr
  simp only [hx, h, hr, not_true_eq_false, if_false, Bool.false_eq_true, not_false_eq_true, if_true]

theorem State.canFetch_iff : s.canFetch c = true ↔ s.executes c = true ∧ (s.core c).mayDo (s.core c).pc.toNat 2 = true
    ∧ (s.range c (s.core c).pc.toNat).fetches = true := by
  simp [State.canFetch, and_assoc]

theorem State.core_of_aside {t : State} (h : t.aside = s.aside) (n : Fin 4) : t.core n = s.core n := by
  obtain ⟨-, -, -, -, -, hw, -⟩ := State.aside_fields h
  unfold State.core; rw [hw]

theorem State.eccRecord_aside (cause mem : Nat) (a : Word) : (s.eccRecord c cause mem a).aside = s.aside := State.eventD_aside _

/-- What `canFetch` rests on lies aside of records. -/
theorem State.canFetch_of_aside {t : State} (h : t.aside = s.aside) : t.canFetch c = s.canFetch c := by
  obtain ⟨-, -, -, -, -, -, -, hp, -⟩ := State.aside_fields h
  have hrange (n : Nat) : t.range c n = s.range c n := State.range_congr (fun m => by rw [State.core_of_aside h]) n
  unfold State.canFetch State.executes
  rw [State.core_of_aside h, hp, hrange]

/-- A corrected error of the fetched word is recorded, and the instruction then runs (R449). -/
theorem State.instr_corrected (legal : Bool) (body : State → State) (h : s.canFetch c = true)
    (hr : s.range c (s.core c).pc.toNat = .code) : s.instr c .fetchCe legal body =
      (s.eccRecord c 0x0902 0 (s.core c).pc).instr c .ok legal body := by
  obtain ⟨hx, hm, hf⟩ := State.canFetch_iff.1 h
  have haside : (s.eccRecord c 0x0902 0 (s.core c).pc).aside = s.aside := State.eccRecord_aside ..
  obtain ⟨hx', hm', hf'⟩ := State.canFetch_iff.1 ((State.canFetch_of_aside haside).trans h)
  have hcore : (s.eccRecord c 0x0902 0 (s.core c).pc).core c = s.core c := State.core_of_aside haside c
  have left : s.instr c .fetchCe legal body = if ¬ legal then
      (s.eccRecord c 0x0902 0 (s.core c).pc).sync c 1 0 (s.core c).pc 0 else body (s.eccRecord c 0x0902 0 (s.core c).pc) := by
    unfold State.instr
    simp [hx, hm, hr, Range.fetches]
  rw [left]
  cases legal
  · rw [State.instr_illegal _ ((State.canFetch_of_aside haside).trans h) rfl, hcore]; rfl
  · rw [State.instr_ok _ ((State.canFetch_of_aside haside).trans h) rfl]; rfl

/-- An uncorrectable one raises BUS_ERROR, with EXL at 0 as an exception (R455). -/
theorem State.instr_uncorrectable (legal : Bool) (body : State → State) (h : s.canFetch c = true)
    (hr : s.range c (s.core c).pc.toNat = .code) (hexl : (s.core c).status.getLsbD 2 = false) : s.instr c .fetchUe legal body =
      (s.eccRecord c 0x0903 0 (s.core c).pc).modCore c fun k => k.except 6 0 k.pc k.pc := by
  obtain ⟨hx, hm, hf⟩ := State.canFetch_iff.1 h
  have hcore : (s.eccRecord c 0x0903 0 (s.core c).pc).core c = s.core c :=
    State.core_of_aside (State.eccRecord_aside ..) c
  have left : s.instr c .fetchUe legal body = (s.eccRecord c 0x0903 0 (s.core c).pc).sync c 6 0 (s.core c).pc (s.core c).pc 3 := by
    unfold State.instr
    simp [hx, hm, hr, Range.fetches]
  rw [left, State.sync_first _ _ _ _ _ (by rw [hcore]; exact hexl)]
  exact State.modCore_congr (by rw [hcore])

/-! ### Faults of an access -/

theorem State.sync_first_pc (cause : Nat) (eaddr : Word) (h : (s.core c).status.getLsbD 2 = false) :
    s.sync c cause 0 (s.core c).pc eaddr = s.modCore c fun k => k.except cause 0 k.pc eaddr :=
  (State.sync_first _ _ _ _ _ h).trans (State.modCore_congr rfl)

/-- A load or a store that meets a fault takes its exception and has no other effect (R455). -/
theorem State.loadM_fault {i : InsM} {n x : Nat} (g : Nat → Word) (h : s.canFetch c = true) (hf : fetchClean f = true)
    (hexl : (s.core c).status.getLsbD 2 = false) (hok : i.ok true = true) {a : Word} (ha : ((s.core c).addr i n).1 = a)
    (hd : s.dataFault c f a n true false = some x) : s.loadM c f i n g = s.modCore c fun k => k.except x 0 k.pc a := by
  unfold State.loadM
  rw [hok, State.instr_ok _ h hf]
  simp only [ha, hd]
  exact State.sync_first_pc x a hexl

theorem State.storeM_fault {i : InsM} {n x : Nat} (h : s.canFetch c = true) (hf : fetchClean f = true)
    (hexl : (s.core c).status.getLsbD 2 = false) (hok : i.ok false = true) {a : Word} (ha : ((s.core c).addr i n).1 = a)
    (hd : s.dataFault c f a n false true = some x) : s.storeM c f i n = s.modCore c fun k => k.except x 0 k.pc a := by
  unfold State.storeM
  rw [hok, State.instr_ok _ h hf]
  simp only [ha, hd]
  exact State.sync_first_pc x a hexl

/-- The faults of an access in their order (R456). -/
theorem State.dataFault_misaligned {a : Word} {n : Nat} (load store : Bool) (h : a.toNat % n ≠ 0) :
    s.dataFault c f a n load store = some 2 := if_pos h

theorem State.dataFault_protLoad {a : Word} {n : Nat} (store : Bool) (h : a.toNat % n = 0)
    (hm : (s.core c).mayDo a.toNat 0 = false) : s.dataFault c f a n true store = some 4 := by
  simp [State.dataFault, h, hm]

theorem State.dataFault_protStore {a : Word} {n : Nat} (h : a.toNat % n = 0) (hm : (s.core c).mayDo a.toNat 1 = false) :
    s.dataFault c f a n false true = some 5 := by
  simp [State.dataFault, h, hm]

theorem State.dataFault_noRange {a : Word} {n : Nat} (h : a.toNat % n = 0) (hm : (s.core c).mayDo a.toNat 0 = true)
    (hr : s.range c a.toNat = .none) : s.dataFault c f a n true false = some 6 := by
  simp [State.dataFault, h, hm, hr, Range.permits]

theorem State.dataFault_dataUe {a : Word} (h : a.toNat % 4 = 0) (hm : (s.core c).mayDo a.toNat 0 = true)
    (hr : s.range c a.toNat = .data) : s.dataFault c .dataUe a 4 true false = some 6 := by
  simp [State.dataFault, h, hm, hr, Range.permits, Range.wordOnly, Range.ecc]

theorem State.dataFault_storeRom {a : Word} (h : a.toNat % 4 = 0) (hm : (s.core c).mayDo a.toNat 1 = true)
    (hr : s.range c a.toNat = .rom) : s.dataFault c f a 4 false true = some 6 := by
  simp [State.dataFault, h, hm, hr, Range.permits]

/-- Settles O10: the faults before an instruction's body by `State.instr`, those of an access by `State.dataFault`. -/
theorem weevilExceptions : Obligations.WeevilExceptions := by
  refine ⟨fun s c f i hi hx hexl => ?_, fun s c w i h hr => ⟨fun j hi hj => ?_, fun hi hexl => ?_⟩,
    fun s c f i h hf hexl => ⟨fun hok => ⟨fun ha => ?_, fun ha => ⟨?_, ?_⟩, fun ha hm => ?_, fun ha hm hr => ?_, fun ha hm hr hue => ?_⟩,
      fun hok => ⟨fun ha => ?_, fun ha hm => ?_, fun ha hm hr => ?_⟩⟩⟩
  · obtain ⟨op, legal, body, hop, rfl⟩ := CoreInstr.of_coreFetch hi
    have first (cause : Nat) (eaddr : Word) := State.sync_first_pc (s := s) (c := c) cause eaddr hexl
    refine ⟨fun hm => ?_, fun hm hr => ?_, fun h hf => ⟨fun hl => ?_, fun ht j hj => ?_⟩⟩ <;> rw [hop.runs] <;>
      refine congrArg Host.Outcome.next ?_
    · rw [State.instr_forbidden _ _ hx hm, first]
    · rw [State.instr_nowhere _ _ hx hm hr, first]
    · rw [hop.fields f s hl, State.instr_illegal _ h hf, first]
    · rw [hop.privileged f s ht j hj, State.instr_illegal _ h hf, first]
  · obtain ⟨op, legal, body, hop, hw⟩ := CoreInstr.of_weevil hi
    obtain rfl : op .fetchCe = i := Option.some.inj ((hw _).symm.trans hi)
    obtain rfl : op .ok = j := Option.some.inj ((hw _).symm.trans hj)
    have hcore : (s.eccRecord c 0x0902 0 (s.core c).pc).core c = s.core c :=
      State.core_of_aside (State.eccRecord_aside ..) c
    rw [hop.runs, hop.runs, State.instr_corrected _ _ h hr, hop.corrected, ← hop.ofCore s _ hcore]
    rfl
  · obtain ⟨op, legal, body, hop, hw⟩ := CoreInstr.of_weevil hi
    obtain rfl : op .fetchUe = i := Option.some.inj ((hw _).symm.trans hi)
    rw [hop.runs, State.instr_uncorrectable _ _ h hr hexl]
    rfl
  all_goals refine congrArg Host.Outcome.next ?_
  · exact State.loadM_fault _ h hf hexl hok rfl (State.dataFault_misaligned _ _ ha)
  · exact State.loadM_fault _ h hf hexl hok rfl (State.dataFault_misaligned _ _ ha)
  · exact State.loadM_fault _ h hf hexl hok rfl (State.dataFault_misaligned _ _ ha)
  · exact State.loadM_fault _ h hf hexl hok rfl (State.dataFault_protLoad _ ha hm)
  · exact State.loadM_fault _ h hf hexl hok rfl (State.dataFault_noRange ha hm hr)
  · subst hue
    exact State.loadM_fault _ h hf hexl hok rfl (State.dataFault_dataUe ha hm hr)
  · exact State.storeM_fault h hf hexl hok rfl (State.dataFault_misaligned _ _ ha)
  · exact State.storeM_fault h hf hexl hok rfl (State.dataFault_protStore ha hm)
  · exact State.storeM_fault h hf hexl hok rfl (State.dataFault_storeRom ha hm hr)

end Sys2Proof.Machine
end

section
/-! SUPPORT. What recording and ending a command leave alone, and what they send: `s.Records t` says that t is s but for sequence numbers,
the flows, the outstanding table, the fault log, the two-wire alert and PME status, with nothing taken back of what has left the block. -/
-- One declaration after another: elaborated side by side, the many short proofs of this file take more threads than the check has memory for.
set_option Elab.async false

namespace Sys2Proof.Machine

/-- The Timebase but for the numbering of records. -/
def TbState.clock (b : TbState) : TbState :=
  { b with seqCount := 0, seqLast := 0, era := 0, eraSaved := false, eraAdvanced := false, eraStored := 0 }

/-- The store's upkeep: all but its flows and its free cells. -/
def StoState.upkeep (b : StoState) : StoState := { b with flows := defaultFlows, freed := [], fresh := 0 }

/-- The host interface but for the outstanding table and PME status. -/
def HifState.setUp (b : HifState) : HifState := { b with table := [], pmeSta := false }

/-- The two-wire ports but for the alert and the in-band request that a record raises. -/
def TwiState.quiet (b : TwiState) : TwiState := { b with alert := false, ibrPend := false }

structure State.Records (s t : State) : Prop where
  aside : t.aside = s.aside
  tb : t.tb.clock = s.tb.clock
  sto : t.sto.upkeep = s.sto.upkeep
  hif : t.hif.setUp = s.hif.setUp
  twi : t.twi.quiet = s.twi.quiet
  out : s.out <+: t.out

variable {s t u : State} {p : PortId} {f cause n : Nat}

theorem State.Records.refl : s.Records s := ⟨rfl, rfl, rfl, rfl, rfl, List.prefix_rfl⟩

theorem State.Records.trans (h : s.Records t) (k : t.Records u) : s.Records u :=
  ⟨k.aside.trans h.aside, k.tb.trans h.tb, k.sto.trans h.sto, k.hif.trans h.hif, k.twi.trans h.twi, h.out.trans k.out⟩

theorem State.Records.ite {c : Prop} [Decidable c] (h : s.Records t) (k : s.Records u) : s.Records (if c then t else u) := by
  split <;> assumption

theorem State.Records.foldl {α : Type} {g : State → α → State} {l : List α} (h : s.Records t)
    (hg : ∀ u a, s.Records u → s.Records (g u a)) : s.Records (l.foldl g t) := by
  induction l generalizing t with
  | nil => exact h
  | cons a l ih => exact ih (hg t a h)

theorem State.Records.getD {o : Option State} (h : s.Records t) (ho : ∀ u, o = some u → s.Records u) : s.Records (o.getD t) := by
  cases o with
  | none => exact h
  | some u => exact ho u rfl

/-- An update of the parts that records change. -/
theorem State.Records.frame {tb sto hif flog twi} (h : s.Records t) (htb : tb.clock = t.tb.clock := by rfl)
    (hsto : sto.upkeep = t.sto.upkeep := by rfl) (hhif : hif.setUp = t.hif.setUp := by rfl) (htwi : twi.quiet = t.twi.quiet := by rfl) :
    s.Records (State.mk tb sto t.ports t.hu t.bud t.pod t.ses hif flog t.wvl twi t.img t.pwr t.bkp t.rst t.latB t.latT t.out t.fresh
      t.pending) :=
  ⟨h.aside, htb.trans h.tb, hsto.trans h.sto, hhif.trans h.hif, htwi.trans h.twi, h.out⟩

theorem State.Records.emit (h : s.Records t) {o : Out} : s.Records (t.emit o) :=
  ⟨h.aside, h.tb, h.sto, h.hif, h.twi, h.out.trans (List.prefix_append _ _)⟩

/-! ### The store -/

theorem State.Records.setFlow (h : s.Records t) {x : Flow} : s.Records (t.setFlow f x) := by
  unfold State.setFlow
  split
  · exact h.frame
  · exact h

theorem State.Records.modFlow (h : s.Records t) {g : Flow → Flow} : s.Records (t.modFlow f g) := h.setFlow

theorem State.Records.noteRegain (h : s.Records t) : s.Records t.noteRegain := h.foldl fun _ _ hu => .ite (.ite hu.modFlow hu) hu

theorem State.Records.freeCell (h : s.Records t) {i : Nat} : s.Records (t.freeCell f i) := by
  have k : s.Records (t.modFlow f fun x => { x.giveBack with loose := x.loose.erase i }) := h.modFlow
  exact .ite k k.frame.noteRegain

theorem State.Records.queueCell (h : s.Records t) {c : Cell} : s.Records (t.queueCell f c) := h.modFlow

theorem State.Records.takeCell (h : s.Records t) {i : Nat} (e : t.takeCell f = some (i, u)) : s.Records u := by
  have hx : t.sto.takeIdx.2.upkeep = t.sto.upkeep := by
    unfold StoState.takeIdx
    split <;> rfl
  simp only [State.takeCell] at e
  split at e
  · cases e
  · simp only [Option.some.injEq, Prod.mk.injEq] at e
    rw [← e.2]
    exact (h.frame (hsto := hx)).setFlow

theorem State.Records.putCell (h : s.Records t) {pay : List Payload} (e : t.putCell f pay = some u) : s.Records u := by
  simp only [State.putCell, Option.map_eq_some_iff] at e
  obtain ⟨⟨i, v⟩, e, rfl⟩ := e
  exact (h.takeCell e).queueCell

theorem State.Records.putRecord (h : s.Records t) {r : Payload} (e : t.putRecord f r = some u) : s.Records u := by
  simp only [State.putRecord] at e
  split at e
  · cases e
    exact h.modFlow
  · exact h.putCell e

theorem State.Records.popCell (h : s.Records t) {c : Cell} (e : t.popCell f = some (c, u)) : s.Records u := by
  simp only [State.popCell] at e
  split at e
  · cases e
  · simp only [Option.some.injEq, Prod.mk.injEq] at e
    rw [← e.2]
    exact h.modFlow.freeCell

theorem State.Records.readRecord (h : s.Records t) {q : Payload → Bool} : s.Records (t.readRecord f q) :=
  h.setFlow.foldl fun _ _ hu => .ite hu hu.freeCell

/-! ### Records -/

theorem State.Records.number (h : s.Records t) : s.Records t.number.2 := h.frame

theorem State.Records.logFault (h : s.Records t) {e : EvRec} : s.Records (t.logFault e) := .ite h h.frame

theorem State.Records.markOoc (h : s.Records t) : s.Records (t.markOoc f) := .ite h.modFlow h

theorem State.Records.enterFlow (h : s.Records t) {e : EvRec} : s.Records (t.enterFlow f e) := by
  have k : s.Records (((t.putRecord f (.ev e)).getD t).markOoc f) := (h.getD fun _ hu => h.putRecord hu).markOoc
  unfold State.enterFlow
  dsimp only
  generalize ((t.putRecord f (.ev e)).getD t).markOoc f = v at k ⊢
  have hv : s.Records (if f = fEvh 0 ∧ v.hif.d3hot ∧ v.hif.pmeEn then
    State.emit { v with hif := { v.hif with pmeSta := true } } .pme else v) := .ite k.frame.emit k
  exact .ite hv.frame hv

theorem State.Records.countIn (h : s.Records t) {e : EvRec} : s.Records (t.countIn e f) := h.setFlow

theorem State.Records.enter (h : s.Records t) {e : EvRec} {fs : List Nat} : s.Records (t.enter e fs) :=
  .ite (h.foldl fun _ _ hu => hu.countIn).logFault
    ((h.number.foldl fun _ _ hu => hu.enterFlow).foldl fun _ _ hu => hu.countIn).logFault

theorem State.Records.rollEra (h : s.Records t) : s.Records t.rollEra := by
  have k : s.Records { t with tb := t.tb.roll } := h.frame
  exact .ite (.ite k k.enter) h

theorem State.Records.enterOne (h : s.Records t) {e : EvRec} : s.Records (t.enterOne f e) := by
  have k := h.rollEra.number
  exact k.enterFlow

theorem State.Records.flushCtrs (h : s.Records t) : s.Records (State.flushCtrs f n t) := by
  induction n generalizing t with
  | zero => exact h
  | succ n ih =>
    unfold State.flushCtrs
    split
    · exact h
    · split
      · exact h
      · exact ih h.modFlow.enterOne

theorem State.Records.flush (h : s.Records t) : s.Records (t.flush f) := by
  unfold State.flush
  split
  · exact h
  · refine .ite h ?_
    have k : s.Records (State.flushCtrs f (t.flow f).ctrs.length t) := h.flushCtrs
    refine .ite k (.ite k.setFlow.markOoc ?_)
    exact k.setFlow.rollEra.number.enterFlow.logFault

theorem State.Records.offer (h : s.Records t) {e : EvRec} : s.Records (t.offer e) := by
  have k : s.Records ((t.evFlows e.cls).foldl State.flush t) := h.foldl fun _ _ hu => hu.flush
  exact (State.Records.ite k.rollEra k).enter

theorem State.Records.event (h : s.Records t) {port : Nat} {d : Quad} : s.Records (t.event cause port d) := h.offer
theorem State.Records.eventP (h : s.Records t) {sub v : Nat} : s.Records (t.eventP cause p sub v) := h.offer
theorem State.Records.eventD (h : s.Records t) {fs : List (Nat × Nat × Nat)} : s.Records (t.eventD cause fs) := h.offer
theorem State.Records.eventO (h : s.Records t) {fs : List (Nat × Nat × Nat)} : s.Records (t.eventO cause p fs) := h.offer

/-! ### The ends of commands -/

theorem State.Records.modOut (h : s.Records t) {sq : Fin 16} {slot : BitVec 12} {g : OutDesc → OutDesc} : s.Records (t.modOut sq slot g) :=
  h.frame

theorem State.Records.putReserved (h : s.Records t) {r : Payload} (e : t.putReserved f r = some u) : s.Records u := by
  simp only [State.putReserved, Option.map_eq_some_iff] at e
  obtain ⟨v, e, rfl⟩ := e
  refine State.Records.modFlow ?_
  split at e
  · exact h.putRecord e
  · split at e
    · cases e
      exact h.queueCell
    · exact h.putCell e

theorem State.Records.reserve (h : s.Records t) (e : t.reserve f = some u) : s.Records u := by
  simp only [State.reserve] at e
  split at e
  · cases e
    exact h.modFlow
  · simp only [Option.map_eq_some_iff] at e
    obtain ⟨⟨i, v⟩, e, rfl⟩ := e
    exact (h.takeCell e).modFlow

theorem State.Records.drainSq (h : s.Records t) {sq : Fin 16} : s.Records (State.drainSq sq n t) := by
  induction n generalizing t with
  | zero => exact h
  | succ n ih =>
    unfold State.drainSq
    split
    · exact h
    · refine .ite h (ih ?_)
      have k := h.rollEra.number
      refine State.Records.frame ?_
      exact k.getD fun _ e => k.putReserved e

theorem State.Records.drain (h : s.Records t) {sq : Fin 16} : s.Records (t.drain sq) := h.drainSq

theorem State.Records.finish (h : s.Records t) {d : Desc} {status : Nat} {r : Quad} : s.Records (t.finish d status r) := h.modOut.drain

theorem State.Records.dropCmd (h : s.Records t) {d : Desc} : s.Records (t.dropCmd d) := h.readRecord

theorem State.Records.enterTable (h : s.Records t) {d : Desc} {data : List Byte} (e : t.enterTable d data = some u) : s.Records u := by
  simp only [State.enterTable, Option.map_eq_some_iff, Option.bind_eq_some_iff] at e
  obtain ⟨v, ⟨w, e, g⟩, rfl⟩ := e
  have k := (h.putRecord e).reserve g
  exact k.frame

theorem State.Records.endWhere (h : s.Records t) {q : OutDesc → Bool} {status : Nat} : s.Records (t.endWhere q status) := by
  refine State.Records.foldl (State.Records.frame ?_) fun _ _ hu => hu.drain
  exact h.foldl fun _ _ hu => hu.dropCmd

theorem State.Records.endPort (h : s.Records t) {status : Nat} {but : List Nat} : s.Records (t.endPort p status but) := h.endWhere

theorem State.Records.finishAll (h : s.Records t) {op status : Nat} {r : Quad} : s.Records (t.finishAll op p status r) :=
  h.foldl fun _ _ hu => hu.finish

theorem State.Records.setAux (h : s.Records t) {d : Desc} {v : Nat} : s.Records (t.setAux d v) := h.modOut

end Sys2Proof.Machine
end

section
/-! PROOF of O54, O57 and O59 (01 Port slice, Shared plane). `State.off` is what lies off the ports, the store, the rings and the records: the
cores and memories, the image slots, the Pod Table's entries, the backup domain, the latches, the resets and the queue. `s.Meets I` says that
this part of `s` meets `I`. What happens on a port keeps `s.Meets I` whatever `I` says, which is the frame O54; the other operations of the model
keep it for the one `I` that says that the memories are in canonical form and that the queue is a given one, which is O57 and O59.

One lemma for each operation of the model, and its proof reads as the operation's definition does: `h.f` stands for a call of `f`, `either`
for an `if`, `frame` for an update of units that `State.off` does not hold, `sound` for an update that the memories and the queue do not
rest on, `forPorts` and `foldl` for a loop. -/
namespace Sys2Proof.Machine

-- One lemma after the other: each cites earlier ones, and tasks that wait for one another would each hold a thread.
set_option Elab.async false

/-- What lies off the ports: of the Pod Table all but the order in which lookups wait, and of the host interface how it stands on the
link. -/
structure Off where
  img : ImgState
  wvl : WvlState
  pod : PodState
  bkp : BkpState
  latB : Latches
  latT : Latches
  rst : RstState
  pending : List Instr
  tb : TbState
  hif : Option (BitVec 2) × Bool × Bool × Bool × Bool × Bool

/-- How the function stands on the link. -/
def HifState.links (b : HifState) : Option (BitVec 2) × Bool × Bool × Bool × Bool × Bool :=
  (b.link, b.bme, b.d3hot, b.msixEn, b.msixFmask, b.ready)

/-- The Timebase itself: neither the numbering of records nor the ports that its loss stopped. -/
def TbState.beat (b : TbState) : TbState := { b.clock with tbDisabled := 0 }

def State.off (s : State) : Off :=
  { img := s.img, wvl := s.wvl, pod := { s.pod with asked := 0, opSince := false }, bkp := s.bkp, latB := s.latB, latT := s.latT
    rst := s.rst, pending := s.pending, tb := s.tb.beat, hif := s.hif.links }

/-- What a port shows that one command alone writes: the classes of its pins, and the duplicates received. -/
structure Gauge where
  cls1 : CcClass
  cls2 : CcClass
  dupRx : Byte

def Port.gauge (q : Port) : Gauge := ⟨q.cc.cls1, q.cc.cls2, q.pd.dupRx⟩

/-- The point at which the device went to sleep. -/
def PwrState.sleeps (w : PwrState) : BitVec 2 × Quad := (w.entry, w.sleepFrom)

/-- What an operation keeps: a property of what lies off the ports, what has left the block, a property of each port's gauge, where the
device sleeps since when, that no buffer is posted, and that a port assembles no message. -/
structure Inv where
  off : Off → Prop
  sent : List Out := []
  gauge : PortId → Gauge → Prop := fun _ _ => True
  slept : Option Quad := none
  bufs : Bool := false
  idleRx : Option PortId := none

/-- The invariant says nothing of the gauges, nor of an assembly. -/
def Inv.Open (I : Inv) : Prop := (∀ r g, I.gauge r g) ∧ I.idleRx = none

variable {s t : State} {p : PortId} {I : Inv}

/-- The state meets `I`. -/
structure State.Meets (s : State) (I : Inv) : Prop where
  ok : I.off s.off
  sent : I.sent <+: s.out
  gauge : ∀ r, I.gauge r (s.port r).gauge
  slept : ∀ v, I.slept = some v → s.pwr.sleeps = (2, v)
  bufs : I.bufs = true → s.hif.mtrBufs = [] ∧ s.hif.wavBufs = []
  idleRx : ∀ r, I.idleRx = some r → (s.port r).pd.asm = none

/-- A state meets what lies off its ports as it stands. -/
theorem State.Meets.self : s.Meets { off := (· = s.off) } := ⟨rfl, List.nil_prefix, fun _ => trivial, nofun, nofun, nofun⟩

/-- A command answers a next state that meets `I`. -/
structure Res.Meets (I : Inv) (r : Res) : Prop where
  ok : ∃ t, r = .next t ∧ t.Meets I

/-- A change of what lies off the ports that `I` says nothing against, with the rest as it was. -/
theorem State.Meets.of_off (h : s.Meets I) (e : I.off s.off → I.off t.off) (ho : s.out <+: t.out := by exact List.prefix_rfl)
    (hg : ∀ r, I.gauge r (s.port r).gauge → I.gauge r (t.port r).gauge := by intro _ k; exact k)
    (hw : I.slept.isSome = true → s.pwr.entry = 2 → t.pwr.sleeps = s.pwr.sleeps := by intro _ _; rfl)
    (hb : I.bufs = true → s.hif.mtrBufs = [] ∧ s.hif.wavBufs = [] → t.hif.mtrBufs = [] ∧ t.hif.wavBufs = [] := by intro _ k; exact k)
    (ha : ∀ r, I.idleRx = some r → (s.port r).pd.asm = none → (t.port r).pd.asm = none := by intro _ _ k; exact k) : t.Meets I :=
  ⟨e h.ok, h.sent.trans ho, fun r => hg r (h.gauge r), fun v k => (hw (by rw [k]; rfl) (congrArg Prod.fst (h.slept v k))).trans (h.slept v k),
    fun k => hb k (h.bufs k), fun r k => ha r k (h.idleRx r k)⟩

theorem State.Meets.next (h : s.Meets I) : Res.Meets I (.next s) := ⟨s, rfl, h⟩

theorem Res.Meets.either {c : Prop} {_ : Decidable c} {x y : Res} (hx : Res.Meets I x) (hy : Res.Meets I y) :
    Res.Meets I (if c then x else y) := by split <;> assumption

theorem Res.Meets.st {r : Res} (hr : Res.Meets I r) (_ : s.Meets I) : (r.st s).Meets I := by
  obtain ⟨t, rfl, ht⟩ := hr.ok
  exact ht

theorem State.Meets.either {c : Prop} {_ : Decidable c} (hs : s.Meets I) (ht : t.Meets I) : (if c then s else t).Meets I := by
  split <;> assumption

/-- A change of units that lie aside of `State.off`. -/
theorem State.Meets.frame {tb sto hu bud ses hif flog twi pwr fresh} (h : s.Meets I) (ht : tb.beat = s.tb.beat := by rfl)
    (hh : hif.links = s.hif.links := by rfl) (hw : I.slept.isSome = true → s.pwr.entry = 2 → pwr.sleeps = s.pwr.sleeps := by intro _ _; rfl)
    (hb : I.bufs = true → s.hif.mtrBufs = [] ∧ s.hif.wavBufs = [] → hif.mtrBufs = [] ∧ hif.wavBufs = [] := by intro _ k; exact k) :
    (State.mk tb sto s.ports hu bud s.pod ses hif flog s.wvl twi s.img pwr s.bkp s.rst s.latB s.latT s.out fresh s.pending).Meets I := by
  refine h.of_off (fun k => ?_) (hw := hw) (hb := hb)
  unfold State.off
  rw [ht, hh]
  exact k

/-- A change of a port that its gauge does not show. -/
theorem State.Meets.setPort {x : Port} (h : s.Meets I) (hx : x.gauge = (s.port p).gauge := by rfl)
    (hx' : (s.port p).pd.asm = none → x.pd.asm = none := by intro k; exact k) : (s.setPort p x).Meets I := by
  refine h.of_off id (hg := fun r k => ?_) (ha := fun r _ k => ?_)
  · rw [State.port_setPort]
    split
    next e => rw [hx, e]; exact k
    · exact k
  · rw [State.port_setPort]
    split
    next e => exact hx' (e ▸ k)
    · exact k

theorem State.Meets.emit {o : Out} (h : s.Meets I) : (s.emit o).Meets I := h.of_off id (ho := List.prefix_append _ _)

theorem State.Meets.fst_mk {α : Type} {a : α} (h : s.Meets I) : (s, a).1.Meets I := h

theorem State.Meets.snd_mk {α : Type} {a : α} (h : s.Meets I) : (a, s).2.Meets I := h

/-- Records, cells and completions keep what the state meets. -/
theorem State.Meets.of_records (h : s.Meets I) (e : s.Records t) : t.Meets I := by
  obtain ⟨-, -, -, hpod, -, hwvl, himg, hpwr, hbkp, hrst, hlatB, hlatT, -, hq⟩ := State.aside_fields e.aside
  have hlinks : t.hif.links = s.hif.links := by
    have k := congrArg HifState.links e.hif
    exact k
  have hbeat : t.tb.beat = s.tb.beat := by
    have k := congrArg TbState.beat e.tb
    exact k
  have hm : t.hif.mtrBufs = s.hif.mtrBufs := by
    have k := congrArg HifState.mtrBufs e.hif
    exact k
  have hv : t.hif.wavBufs = s.hif.wavBufs := by
    have k := congrArg HifState.wavBufs e.hif
    exact k
  have hoff : t.off = s.off := by
    unfold State.off
    rw [hpod, hwvl, himg, hbkp, hrst, hlatB, hlatT, hq, hbeat, hlinks]
  refine h.of_off (fun k => hoff ▸ k) e.out (fun r k => ?_) (fun _ _ => by rw [hpwr]) (fun _ k => by rw [hm, hv]; exact k) (fun r _ k => ?_)
  · rw [State.port_of_aside e.aside]
    exact k
  · rw [State.port_of_aside e.aside]
    exact k

theorem State.Meets.foldl {α : Type} {f : State → α → State} {l : List α} (h : s.Meets I)
    (hf : ∀ s a, s.Meets I → (f s a).Meets I) : (l.foldl f s).Meets I := by
  induction l generalizing s with
  | nil => exact h
  | cons a l ih => exact ih (hf s a h)

theorem State.Meets.getD {o : Option State} (h : s.Meets I) (ho : ∀ t, o = some t → t.Meets I) : (o.getD s).Meets I := by
  cases o with
  | none => exact h
  | some t => exact ho t rfl

theorem State.Meets.snd {α : Type} {x : α × State} {a : α} (h : x.2.Meets I) (e : x = (a, t)) : t.Meets I := by
  subst e; exact h

theorem State.Meets.fst {α : Type} {x : State × α} {a : α} (h : x.1.Meets I) (e : x = (t, a)) : t.Meets I := by
  subst e; exact h

theorem State.Meets.foldl_snd {α β : Type} {f : α × State → β → α × State} {l : List β} {x : α × State} (h : x.2.Meets I)
    (hf : ∀ x b, x.2.Meets I → (f x b).2.Meets I) : (l.foldl f x).2.Meets I := by
  induction l generalizing x with
  | nil => exact h
  | cons b l ih => exact ih (hf x b h)

theorem State.Meets.modPort {f : Port → Port} (h : s.Meets I) (hf : ∀ x, (f x).gauge = x.gauge := by intro _; rfl)
    (ha : ∀ x, x.pd.asm = none → (f x).pd.asm = none := by intro _ k; exact k) : (s.modPort p f).Meets I := h.setPort (hf _) (ha _)

theorem State.Meets.modEf {f : EfState → EfState} (h : s.Meets I) : (s.modEf p f).Meets I := h.modPort

theorem State.Meets.forPorts {f : State → PortId → State} (h : s.Meets I)
    (hf : ∀ s p, s.Meets I → (f s p).Meets I) : (s.forPorts f).Meets I := h.foldl hf

theorem State.Meets.onExpiry {x : Tmr} {f : State → State} (h : s.Meets I) (hf : ∀ s, s.Meets I → (f s).Meets I) :
    (s.onExpiry p x f).Meets I := (hf _ h.modPort).either h

/-- A change of a port that its gauge may show. -/
theorem State.Meets.gauged {x : Port} (h : s.Meets I) (hI : I.Open) : (s.setPort p x).Meets I :=
  h.of_off id (hg := fun r _ => hI.1 r _) (ha := fun r e => by rw [hI.2] at e; cases e)

/-- The order in which lookups wait lies aside of `State.off` as well. -/
theorem State.Meets.asks {n : Nat} {b : Bool} (h : s.Meets I) :
    State.Meets { s with pod := { s.pod with asked := n, opSince := b } } I := h.of_off id

/-! ### Memories and the queue -/

/-- What a reset leaves on record of itself. -/
def RstState.warm (r : RstState) : BitVec 3 × Bool × Byte := (r.last, r.warmPend, r.warmCount)

/-- How the Timebase runs. -/
def TbState.goes (b : TbState) : Bool × Bool × Bool := (b.running, b.fallback, b.calDone)

/-- What a reset has left standing: its record, how the Timebase runs, and no posted buffer. -/
structure Stand where
  warm : Option (BitVec 3 × Bool × Byte) := none
  goes : Option (Bool × Bool × Bool) := none
  bufs : Bool := false

/-- The queue is `q`, where `canon` holds the memories are in canonical form, and what `wr` names stands. -/
def Off.Sound (canon : Prop) (q : List Instr) (wr : Stand) (o : Off) : Prop :=
  (canon → (o.wvl.cores.toList.all Core.memWf && Mem.wf 0 o.wvl.shared && Mem.wf 0xFF o.img.flash) = true) ∧ o.pending = q
    ∧ (∀ x, wr.warm = some x → o.rst.warm = x) ∧ ∀ x, wr.goes = some x → o.tb.goes = x

/-- Memories in canonical form, the queue, and what a reset has left standing. -/
def Inv.sound (canon : Prop) (q : List Instr) (wr : Stand) : Inv := { off := Off.Sound canon q wr, bufs := wr.bufs }

variable {canon : Prop} {q : List Instr} {wr : Stand}

theorem State.meets_sound_iff : s.Meets (Inv.sound canon q wr) ↔ (canon → s.memWf = true) ∧ s.pending = q
    ∧ (∀ x, wr.warm = some x → s.rst.warm = x) ∧ (∀ x, wr.goes = some x → s.tb.goes = x)
    ∧ (wr.bufs = true → s.hif.mtrBufs = [] ∧ s.hif.wavBufs = []) :=
  ⟨fun h => ⟨h.ok.1, h.ok.2.1, h.ok.2.2.1, h.ok.2.2.2, h.bufs⟩,
    fun ⟨hm, hq, hw, hg, hb⟩ => ⟨⟨hm, hq, hw, hg⟩, List.nil_prefix, fun _ => trivial, nofun, hb, nofun⟩⟩

/-- A change after which the memories are in canonical form if they were before. -/
theorem State.Meets.memories (h : s.Meets (Inv.sound canon q wr)) (hm : s.memWf = true → t.memWf = true) (hq : t.pending = s.pending := by rfl)
    (hr : wr.warm.isSome = true → t.rst.warm = s.rst.warm := by intro _; rfl)
    (hg : wr.goes.isSome = true → t.tb.goes = s.tb.goes := by intro _; rfl)
    (hb : wr.bufs = true → s.hif.mtrBufs = [] ∧ s.hif.wavBufs = [] → t.hif.mtrBufs = [] ∧ t.hif.wavBufs = [] := by intro _ k; exact k) :
    t.Meets (Inv.sound canon q wr) := by
  rw [State.meets_sound_iff] at h ⊢
  obtain ⟨h1, h2, h3, h4, h5⟩ := h
  exact ⟨fun k => hm (h1 k), hq.trans h2, fun x k => (hr (by rw [k]; rfl)).trans (h3 x k), fun x k => (hg (by rw [k]; rfl)).trans (h4 x k), fun k => hb k (h5 k)⟩

/-- A change of units that keeps the cores, the shared RAM, the flash and the queue. -/
theorem State.Meets.sound {tb sto ports hu bud pod ses hif flog wvl twi img pwr bkp rst latB latT out fresh}
    (h : s.Meets (Inv.sound canon q wr)) (hc : wvl.cores = s.wvl.cores := by rfl)
    (hs : wvl.shared = s.wvl.shared := by rfl) (hf : img.flash = s.img.flash := by rfl)
    (hr : wr.warm.isSome = true → rst.warm = s.rst.warm := by intro _; rfl)
    (hg : wr.goes.isSome = true → tb.goes = s.tb.goes := by intro _; rfl)
    (hb : wr.bufs = true → s.hif.mtrBufs = [] ∧ s.hif.wavBufs = [] → hif.mtrBufs = [] ∧ hif.wavBufs = [] := by intro _ k; exact k) :
    (State.mk tb sto ports hu bud pod ses hif flog wvl twi img pwr bkp rst latB latT out fresh s.pending).Meets (Inv.sound canon q wr) :=
  h.memories (State.memWf_of_fields hc hs hf).trans (hr := hr) (hg := hg) (hb := hb)

/-- The memories of a core. -/
def Core.mems (k : Core) : Mem × Mem × Mem × Vector FlowPort 16 := (k.code, k.fetchCode, k.data, k.ports)

theorem Core.memWf_of_mems {k k' : Core} (h : k'.mems = k.mems) : k'.memWf = k.memWf := by
  simp only [Core.mems, Prod.mk.injEq] at h
  obtain ⟨h1, h2, h3, h4⟩ := h
  unfold Core.memWf; rw [h1, h2, h3, h4]

theorem Core.memWf_iff {k : Core} : k.memWf = true ↔ Mem.wf 0 k.code = true ∧ Mem.wf 0 k.fetchCode = true ∧ Mem.wf 0 k.data = true
    ∧ ∀ x : Fin 16, Mem.wf 0 k.ports[x.val].buf = true := by
  simp only [Core.memWf, Bool.and_eq_true, List.all_eq_true, and_assoc]
  refine and_congr_right fun _ => and_congr_right fun _ => and_congr_right fun _ => ⟨fun h x => ?_, fun h y hy => ?_⟩
  · exact h _ (Vector.mem_toList_iff.mpr (Vector.getElem_mem x.isLt))
  · obtain ⟨i, hi, rfl⟩ := Vector.mem_iff_getElem.mp (Vector.mem_toList_iff.mp hy)
    exact h ⟨i, hi⟩

/-- A core may be changed in its memories where they stay in canonical form. -/
theorem State.Meets.modCore_of {c : Fin 4} {f : Core → Core} (h : s.Meets (Inv.sound canon q wr))
    (hf : ∀ k, k.memWf = true → (f k).memWf = true) : (s.modCore c f).Meets (Inv.sound canon q wr) :=
  h.memories fun k => State.memWf_modCore k (hf _ ((State.memWf_iff.1 k).1 c))

theorem State.Meets.modCore {c : Fin 4} {f : Core → Core} (h : s.Meets (Inv.sound canon q wr)) (hf : ∀ k, (f k).mems = k.mems := by intro; rfl) :
    (s.modCore c f).Meets (Inv.sound canon q wr) := h.modCore_of fun k => (Core.memWf_of_mems (hf k)).trans

/-- A flow port may be changed where its buffer stays in canonical form. -/
theorem State.Meets.modFp {c : Fin 4} {x : Fin 16} {f : FlowPort → FlowPort} (h : s.Meets (Inv.sound canon q wr))
    (hf : ∀ y, Mem.wf 0 y.buf = true → Mem.wf 0 (f y).buf = true := by intro _ hb; exact hb) :
    (s.modFp c x f).Meets (Inv.sound canon q wr) := by
  refine h.modCore_of fun k hk => ?_
  rw [Core.memWf_iff] at hk ⊢
  obtain ⟨h1, h2, h3, hp⟩ := hk
  refine ⟨h1, h2, h3, fun y => ?_⟩
  show Mem.wf 0 (k.ports.set x.val (f k.ports[x.val]))[y.val].buf = true
  rw [Vector.getElem_set]
  split
  · exact hf _ (hp x)
  · exact hp y

/-- The image slots keep the flash in canonical form: the invariant's part that the image functions rest on. -/
def ImgState.flashOk (m : ImgState) : Prop := Mem.wf 0xFF m.flash = true

theorem ImgState.flashOk.of_flash {g x : ImgState} (h : g.flashOk) (e : x.flash = g.flash := by rfl) : x.flashOk := by
  unfold ImgState.flashOk; rw [e]; exact h

/-- The flash may be changed where it stays in canonical form. -/
theorem State.Meets.modImg {f : ImgState → ImgState} (h : s.Meets (Inv.sound canon q wr))
    (hf : ∀ g, g.flashOk → (f g).flashOk := by intro _ hb; exact hb.of_flash) :
    (s.modImg f).Meets (Inv.sound canon q wr) := h.memories fun k => by
  rw [State.memWf_iff] at k ⊢
  exact ⟨k.1, k.2.1, hf _ k.2.2⟩

theorem State.Meets.flash (h : s.Meets (Inv.sound canon q wr)) (k : canon) : s.img.flashOk :=
  (State.memWf_iff.1 ((State.meets_sound_iff.1 h).1 k)).2.2

theorem State.Meets.setImg {g : ImgState} (h : s.Meets (Inv.sound canon q wr)) (hg : canon → g.flashOk) :
    State.Meets { s with img := g } (Inv.sound canon q wr) := by
  rw [State.meets_sound_iff] at h ⊢
  refine ⟨fun k => ?_, h.2⟩
  obtain ⟨hc, hs, -⟩ := State.memWf_iff.1 (h.1 k)
  exact State.memWf_iff.2 ⟨hc, hs, hg k⟩

/-- The shared RAM may be changed where it stays in canonical form. -/
theorem State.Meets.shWrite {a : Word} {b : List Byte} (h : s.Meets (Inv.sound canon q wr)) : (s.shWrite a b).Meets (Inv.sound canon q wr) :=
  h.memories fun k => by
    rw [State.memWf_iff] at k ⊢
    exact ⟨k.1, Mem.writeN_wf 0 b _ _ k.2.1, k.2.2⟩

theorem Core.mems_setReg (k : Core) (r : Reg) (v : Word) : (k.setReg r v).mems = k.mems := by
  unfold Core.setReg; split <;> rfl

theorem Core.mems_next (k : Core) : k.next.mems = k.mems := rfl

theorem Core.mems_jump (k : Core) (r : Reg) (v w : Word) : ({ k.setReg r v with pc := w } : Core).mems = k.mems := Core.mems_setReg k r v

theorem Core.mems_result (k : Core) (rd : Reg) (b : Bool) (r : Alu) : (k.result rd b r).mems = k.mems := Core.mems_setReg k rd r.val

theorem Core.mems_upd (k : Core) (i : InsM) (b : Option Word) : (k.upd i b).mems = k.mems := by
  cases b with
  | none => rfl
  | some v => exact Core.mems_setReg k i.rb v

theorem Core.mems_crWrite (k : Core) (c : Fin 4) (n : ℕ) (v : Word) : (k.crWrite c n v).mems = k.mems := by
  unfold Core.crWrite
  dsimp only
  repeat' split
  all_goals rfl

/-! ### The flash -/

theorem Mem.wf_iff_pairwise {d : Byte} {m : Mem} : Mem.wf d m = true ↔ m.Pairwise (·.1 < ·.1) ∧ ∀ x ∈ m, x.2 ≠ d := by
  induction m with
  | nil => simp [Mem.wf]
  | cons x m ih =>
    obtain ⟨k, v⟩ := x
    cases m with
    | nil => simp [Mem.wf]
    | cons y m =>
      obtain ⟨k', v'⟩ := y
      have hmem (hp : ((k', v') :: m).Pairwise (fun a b : ℕ × Byte => a.1 < b.1)) (hk : k < k') (z : ℕ × Byte) (hz : z ∈ (k', v') :: m) :
          k < z.1 := by
        rcases List.mem_cons.1 hz with rfl | hz
        · exact hk
        · exact hk.trans (List.rel_of_pairwise_cons hp hz)
      simp only [Mem.wf, Bool.and_eq_true, decide_eq_true_eq, ih, List.pairwise_cons (a := (k, v)), List.forall_mem_cons (a := (k, v))]
      constructor
      · rintro ⟨⟨hv, hk⟩, hp, hd⟩
        exact ⟨⟨hmem hp hk, hp⟩, hv, hd⟩
      · rintro ⟨⟨hk, hp⟩, hv, hd⟩
        exact ⟨⟨hv, hk _ List.mem_cons_self⟩, hp, hd⟩

theorem Mem.filter_wf {d : Byte} {m : Mem} {f : ℕ × Byte → Bool} (h : Mem.wf d m = true) : Mem.wf d (m.filter f) = true := by
  rw [Mem.wf_iff_pairwise] at h ⊢
  exact ⟨h.1.filter f, fun x hx => h.2 x (List.mem_of_mem_filter hx)⟩

section
variable {g : ImgState}

theorem ImgState.flashOk.erase {kind : ℕ} {b : Bool} (h : g.flashOk) : (g.erase kind b).flashOk := Mem.filter_wf h

theorem ImgState.flashOk.program {a : ℕ} {bs : List Byte} (h : g.flashOk) : (g.program a bs).flashOk := Mem.writeN_wf 0xFF bs _ a h

theorem ImgState.flashOk.foldl {α : Type} {f : ImgState → α → ImgState} {l : List α} (h : g.flashOk)
    (hf : ∀ g a, g.flashOk → (f g a).flashOk) : (l.foldl f g).flashOk := by
  induction l generalizing g with
  | nil => exact h
  | cons a l ih => exact ih (hf g a h)

theorem ImgState.flashOk.either {c : Prop} {_ : Decidable c} {x y : ImgState} (hx : x.flashOk) (hy : y.flashOk) :
    (if c then x else y).flashOk := by split <;> assumption

theorem ImgState.flashOk.dropTrial (h : g.flashOk) : g.dropTrial.flashOk :=
  (h.foldl (f := fun m k => if m.candOf k = 2 then m.setCand k 0 else m) fun _ _ h => h.of_flash.either h).of_flash

theorem ImgState.flashOk.repair (h : g.flashOk) : g.repair.flashOk := h.of_flash

theorem ImgState.flashOk.bootTrial (h : g.flashOk) : g.bootTrial.1.flashOk := by
  unfold ImgState.bootTrial
  dsimp only
  split
  · exact h
  · split
    · exact h.of_flash
    · exact h.dropTrial

theorem ImgState.flashOk.bootCode {ok : Bool → Bool} (h : g.flashOk) : (g.bootCode ok).1.flashOk := by
  unfold ImgState.bootCode
  dsimp only
  split
  · exact h
  · split
    · exact h.dropTrial
    · split
      · exact h.of_flash
      · exact h

theorem ImgState.flashOk.takeCopy {b : Bool} (h : g.flashOk) : (g.takeCopy b).flashOk := by
  unfold ImgState.takeCopy
  split <;> exact h.of_flash

end

/-! ### Commands of the rings and registers, by their descriptions -/

/-- The start of an opcode keeps what the state meets. -/
def CmdSpec.Meets (I : Inv) (k : CmdSpec) : Prop := ∀ s d, s.Meets I → (k.go s d).Meets I

/-- Writes of the register described, if any, keep what the state meets, whether the value is taken or refused. -/
def RegSpec.Meets (I : Inv) (o : Option RegSpec) : Prop :=
  ∀ r, o = some r → ∀ s, s.Meets I → (∀ v, (r.put s v).Meets I) ∧ (r.err s).Meets I

theorem RegSpec.Meets.none : RegSpec.Meets I .none := fun _ e => nomatch e

theorem RegSpec.Meets.either {c : Prop} {_ : Decidable c} {o o' : Option RegSpec} (ho : RegSpec.Meets I o) (ho' : RegSpec.Meets I o') :
    RegSpec.Meets I (if c then o else o') := by split <;> assumption

/-- A register whose two outcomes, its value taken and its value refused, are given in turn; the others follow. -/
theorem RegSpec.Meets.row {c : Prop} {_ : Decidable c} {rw rwl ok get put err} {o : Option RegSpec}
    (hput : ∀ {s v}, s.Meets I → (put s v).Meets I) (herr : ∀ {s}, s.Meets I → (err s).Meets I) (ho : RegSpec.Meets I o) :
    RegSpec.Meets I (if c then .some (RegSpec.mk rw rwl ok get put err) else o) :=
  .either (fun _ e _ h => by cases e; exact ⟨fun _ => hput h, herr h⟩) ho

/-- A register whose writes change no port. -/
theorem RegSpec.Meets.plain {c : Prop} {_ : Decidable c} {rw rwl ok get put err} {o : Option RegSpec} (ho : RegSpec.Meets (Inv.sound canon q wr) o)
    (hput : ∀ s v, (put s v).wvl.cores = s.wvl.cores ∧ (put s v).wvl.shared = s.wvl.shared ∧ (put s v).img.flash = s.img.flash
      ∧ (put s v).pending = s.pending ∧ (put s v).rst.warm = s.rst.warm ∧ (put s v).tb.goes = s.tb.goes
      ∧ (put s v).hif.mtrBufs = s.hif.mtrBufs ∧ (put s v).hif.wavBufs = s.hif.wavBufs := by
        intros; exact ⟨rfl, rfl, rfl, rfl, rfl, rfl, rfl, rfl⟩)
    (herr : ∀ {s}, s.Meets (Inv.sound canon q wr) → (err s).Meets (Inv.sound canon q wr) := by intro _ h; exact h.sound) :
    RegSpec.Meets (Inv.sound canon q wr) (if c then .some (RegSpec.mk rw rwl ok get put err) else o) :=
  .row (fun {s v} h => by
    obtain ⟨hc, hs, hf, hq, hr, hg, hm, hv⟩ := hput s v
    exact h.memories (State.memWf_of_fields hc hs hf).trans hq (fun _ => hr) (fun _ => hg) fun _ k => by rw [hm, hv]; exact k) herr ho

theorem RegSpec.Meets.or {o o' : Option RegSpec} (ho : RegSpec.Meets I o) (ho' : RegSpec.Meets I o') : RegSpec.Meets I (o.or o') := by
  cases o with
  | none => exact ho'
  | some r => exact ho

/-- The write of one register. -/
theorem RegSpec.Meets.write {o : Option RegSpec} {r : RegSpec} {lock : Bool} {v : Word} (ho : RegSpec.Meets I o) (e : o = .some r)
    (h : s.Meets I) : (r.write lock v s).Meets I := by
  unfold RegSpec.write
  extract_lets old n s1
  have h1 : s1.Meets I := State.Meets.either h.frame h
  obtain ⟨hput, herr⟩ := ho r e s1 h1
  exact (hput n).either herr

/-! ### The units of a port, timers and outputs -/

theorem State.Meets.modCc {f : CcState → CcState} (h : s.Meets I)
    (hf : ∀ x, (f x).cls1 = x.cls1 ∧ (f x).cls2 = x.cls2 := by intro _; exact ⟨rfl, rfl⟩) : (s.modCc p f).Meets I :=
  h.modPort fun x => by simp only [Port.gauge, hf]

theorem State.Meets.modPd {f : PdState → PdState} (h : s.Meets I) (hf : ∀ x, (f x).dupRx = x.dupRx := by intro _; rfl)
    (ha : ∀ x, x.asm = none → (f x).asm = none := by intro _ k; simp [k]) : (s.modPd p f).Meets I :=
  h.modPort (fun x => by simp only [Port.gauge, hf]) fun x => ha x.pd

theorem State.Meets.modPol {f : PolState → PolState} (h : s.Meets I) : (s.modPol p f).Meets I := h.modPort

theorem State.Meets.modSwap {f : SwapState → SwapState} (h : s.Meets I) : (s.modSwap p f).Meets I := h.modPort

theorem State.Meets.modPod {f : PodPort → PodPort} (h : s.Meets I) : (s.modPod p f).Meets I := h.modPort

theorem State.Meets.modCnv {f : CnvState → CnvState} (h : s.Meets I) : (s.modCnv p f).Meets I := h.modPort

theorem State.Meets.modWm {f : WmState → WmState} (h : s.Meets I) : (s.modWm p f).Meets I := h.modPort

theorem State.Meets.modMtr {f : MtrState → MtrState} (h : s.Meets I) : (s.modMtr p f).Meets I := h.modPort

theorem State.Meets.start {x : Tmr} (h : s.Meets I) : (s.start p x).Meets I := h.modPort

theorem State.Meets.stop {x : Tmr} (h : s.Meets I) : (s.stop p x).Meets I := h.modPort

theorem State.Meets.stopAll {ts : List Tmr} (h : s.Meets I) : (s.stopAll p ts).Meets I := h.modPort

theorem State.Meets.draw (h : s.Meets I) : s.draw.2.Meets I := h.frame.snd_mk

/-! ### Cells and flows -/

theorem State.Meets.setFlow {f : ℕ} {x : Flow} (h : s.Meets I) : (s.setFlow f x).Meets I :=
  h.of_records (State.Records.refl.setFlow)

theorem State.Meets.modFlow {f : ℕ} {g : Flow → Flow} (h : s.Meets I) : (s.modFlow f g).Meets I :=
  h.of_records (State.Records.refl.modFlow)

theorem State.Meets.takeCell {f i : ℕ} (h : s.Meets I) (e : s.takeCell f = some (i, t)) : t.Meets I :=
  h.of_records (State.Records.refl.takeCell e)

theorem State.Meets.noteRegain (h : s.Meets I) : s.noteRegain.Meets I := h.of_records State.Records.refl.noteRegain

theorem State.Meets.freeCell {f i : ℕ} (h : s.Meets I) : (s.freeCell f i).Meets I :=
  h.of_records (State.Records.refl.freeCell)

theorem State.Meets.queueCell {f : ℕ} {c : Cell} (h : s.Meets I) : (s.queueCell f c).Meets I :=
  h.of_records (State.Records.refl.queueCell)

theorem State.Meets.putCell {f : ℕ} {pay : List Payload} (h : s.Meets I) (e : s.putCell f pay = some t) :
    t.Meets I :=
  h.of_records (State.Records.refl.putCell e)

theorem State.Meets.popCell {f : ℕ} {c : Cell} (h : s.Meets I) (e : s.popCell f = some (c, t)) : t.Meets I :=
  h.of_records (State.Records.refl.popCell e)

/-- The oldest cell of a flow, if it has one, is dropped. -/
theorem State.Meets.popped {f : ℕ} (h : s.Meets I) : (((s.popCell f).map (·.2)).getD s).Meets I :=
  h.getD fun t e => by
    obtain ⟨⟨c, u⟩, e', rfl⟩ := Option.map_eq_some_iff.mp e
    exact h.popCell e'

theorem State.Meets.countNoCredit {f : ℕ} (h : s.Meets I) : (s.countNoCredit f).Meets I := h.modFlow

theorem State.Meets.wait {f : ℕ} {w : Waiter} (h : s.Meets I) : (s.wait f w).Meets I := h.countNoCredit.modFlow

theorem State.Meets.sendCell {f : ℕ} {r : Payload} (h : s.Meets I) : (s.sendCell f r).Meets I := by
  unfold State.sendCell
  split
  next t e => exact h.putCell (Option.ite_none_right_eq_some.mp e).2
  · exact h.wait

theorem State.Meets.passCell {f : ℕ} (h : s.Meets I) (e : s.passCell f = some t) : t.Meets I := by
  obtain ⟨⟨i, u⟩, e', rfl⟩ := Option.map_eq_some_iff.mp e
  exact (h.takeCell e').freeCell

theorem State.Meets.putRecord {f : ℕ} {r : Payload} (h : s.Meets I) (e : s.putRecord f r = some t) : t.Meets I :=
  h.of_records (State.Records.refl.putRecord e)

theorem State.Meets.reserve {f : ℕ} (h : s.Meets I) (e : s.reserve f = some t) : t.Meets I :=
  h.of_records (State.Records.refl.reserve e)

theorem State.Meets.putReserved {f : ℕ} {r : Payload} (h : s.Meets I) (e : s.putReserved f r = some t) :
    t.Meets I :=
  h.of_records (State.Records.refl.putReserved e)

theorem State.Meets.readRecord {f : ℕ} {q : Payload → Bool} (h : s.Meets I) : (s.readRecord f q).Meets I :=
  h.of_records (State.Records.refl.readRecord)

theorem State.Meets.popRecord {f : ℕ} (h : s.Meets I) : (s.popRecord f).Meets I := h.readRecord

theorem State.Meets.emptyFlow {f : ℕ} (h : s.Meets I) : (s.emptyFlow f).Meets I := h.foldl fun _ _ h => h.popped

theorem State.Meets.hostPut {a : Quad} {b : List Byte} (h : s.Meets I) : (s.hostPut a b).Meets I :=
  h.emit.either h.frame

theorem State.Meets.hostFlush (h : s.Meets I) : s.hostFlush.Meets I := (h.frame.foldl fun _ _ h => h.emit).either h

theorem State.Meets.number (h : s.Meets I) : s.number.2.Meets I := h.of_records State.Records.refl.number

/-! ### Events -/

theorem State.Meets.logFault {e : EvRec} (h : s.Meets I) : (s.logFault e).Meets I :=
  h.of_records (State.Records.refl.logFault)

theorem State.Meets.markOoc {f : ℕ} (h : s.Meets I) : (s.markOoc f).Meets I := h.of_records State.Records.refl.markOoc

theorem State.Meets.enterFlow {f : ℕ} {e : EvRec} (h : s.Meets I) : (s.enterFlow f e).Meets I :=
  h.of_records (State.Records.refl.enterFlow)

theorem State.Meets.countIn {e : EvRec} {f : ℕ} (h : s.Meets I) : (s.countIn e f).Meets I :=
  h.of_records (State.Records.refl.countIn)

theorem State.Meets.enter {e : EvRec} {fs : List ℕ} (h : s.Meets I) : (s.enter e fs).Meets I :=
  h.of_records State.Records.refl.enter

theorem State.Meets.rollEra (h : s.Meets I) : s.rollEra.Meets I := h.of_records State.Records.refl.rollEra

theorem State.Meets.enterOne {f : ℕ} {e : EvRec} (h : s.Meets I) : (s.enterOne f e).Meets I :=
  h.of_records (State.Records.refl.enterOne)

theorem State.Meets.flushCtrs {f n : ℕ} (h : s.Meets I) : (State.flushCtrs f n s).Meets I :=
  h.of_records State.Records.refl.flushCtrs

theorem State.Meets.flush {f : ℕ} (h : s.Meets I) : (s.flush f).Meets I := h.of_records State.Records.refl.flush

theorem State.Meets.offer {e : EvRec} (h : s.Meets I) : (s.offer e).Meets I := h.of_records (State.Records.refl.offer)

theorem State.Meets.event {cause port : ℕ} {data : Quad} (h : s.Meets I) : (s.event cause port data).Meets I :=
  h.of_records State.Records.refl.event

theorem State.Meets.eventP {cause sub value : ℕ} (h : s.Meets I) : (s.eventP cause p sub value).Meets I :=
  h.of_records State.Records.refl.eventP

theorem State.Meets.eventD {cause : ℕ} {fs : List (ℕ × ℕ × ℕ)} (h : s.Meets I) : (s.eventD cause fs).Meets I :=
  h.of_records (State.Records.refl.eventD)

theorem State.Meets.eventO {cause : ℕ} {fs : List (ℕ × ℕ × ℕ)} (h : s.Meets I) : (s.eventO cause p fs).Meets I :=
  h.of_records (State.Records.refl.eventO)

theorem State.Meets.ueNote {i w : ℕ} {f : Option ℕ} (h : s.Meets I) : (s.ueNote i w f).Meets I := h.frame.eventD

theorem State.Meets.correct {f : ℕ} {c : Cell} (h : s.Meets I) : (s.correct f c).Meets I := h.either h.modFlow.frame

theorem State.Meets.dropCell {f i : ℕ} (h : s.Meets I) : (s.dropCell f i).Meets I := h.modFlow.freeCell

theorem State.Meets.meet {f : ℕ} {c : Cell} (h : s.Meets I) : (s.meet f c).2.Meets I := by
  unfold State.meet
  dsimp only
  split
  · exact h.correct.snd_mk
  · exact h.correct.modFlow.ueNote.snd_mk

theorem execEventOccurrence_meets {cause port : ℕ} {data : Quad} (h : s.Meets I) :
    Res.Meets I (execEventOccurrence cause port data s) :=
  (h.event.either h).next

theorem execEventFlowFlush_meets {flow : ℕ} (h : s.Meets I) : Res.Meets I (execEventFlowFlush flow s) :=
  (h.flush.either h).next

/-! ### Outstanding commands -/

theorem State.Meets.modOut {sq : Fin 16} {slot : BitVec 12} {f : OutDesc → OutDesc} (h : s.Meets I) :
    (s.modOut sq slot f).Meets I :=
  h.of_records State.Records.refl.modOut

theorem State.Meets.enterTable {d : Desc} {data : List Byte} (h : s.Meets I) (e : s.enterTable d data = some t) :
    t.Meets I :=
  h.of_records (State.Records.refl.enterTable e)

theorem State.Meets.drainSq {sq : Fin 16} {n : ℕ} (h : s.Meets I) : (State.drainSq sq n s).Meets I :=
  h.of_records State.Records.refl.drainSq

theorem State.Meets.drain {sq : Fin 16} (h : s.Meets I) : (s.drain sq).Meets I := h.of_records (State.Records.refl.drain)

theorem State.Meets.finish {d : Desc} {status : ℕ} {result : Quad} (h : s.Meets I) :
    (s.finish d status result).Meets I :=
  h.of_records State.Records.refl.finish

theorem State.Meets.dropCmd {d : Desc} (h : s.Meets I) : (s.dropCmd d).Meets I := h.of_records (State.Records.refl.dropCmd)

theorem State.Meets.endWhere {q : OutDesc → Bool} {status : ℕ} (h : s.Meets I) : (s.endWhere q status).Meets I :=
  h.of_records State.Records.refl.endWhere

theorem State.Meets.endPort {status : ℕ} {but : List ℕ} (h : s.Meets I) : (s.endPort p status but).Meets I :=
  h.of_records State.Records.refl.endPort

theorem State.Meets.finishAll {op status : ℕ} {result : Quad} (h : s.Meets I) :
    (s.finishAll op p status result).Meets I :=
  h.of_records State.Records.refl.finishAll

theorem State.Meets.setAux {d : Desc} {v : ℕ} (h : s.Meets I) : (s.setAux d v).Meets I :=
  h.of_records State.Records.refl.setAux

theorem CmdSpec.Meets.judge {k : CmdSpec} {d : Desc} (hk : k.Meets I) (h : s.Meets I) : (k.judge d s).Meets I := by
  unfold CmdSpec.judge
  split
  · exact h.finish
  · split
    · exact h.modOut.either h.finish
    · exact hk _ _ h.modOut

theorem State.Meets.enterDesc {d : Desc} {data : List Byte} (h : s.Meets I) : (s.enterDesc d data).Meets I := by
  unfold State.enterDesc
  split
  · exact h
  next t e =>
    split
    · exact ((h.enterTable e).dropCmd).finish
    · exact h.enterTable e

theorem State.Meets.cmdLost {c : Cell} (h : s.Meets I) : (s.cmdLost c).Meets I :=
  h.foldl fun _ _ h => h.dropCmd.finish

theorem State.Meets.readCmd {d : Desc} (h : s.Meets I) : (s.readCmd d).Meets I := by
  unfold State.readCmd
  split
  · exact h
  · split
    next t e => exact h.meet.snd e
    next t e => exact (h.meet.snd e).cmdLost

theorem CmdSpec.Meets.start {k : CmdSpec} {op : ℕ} {d : Desc} {data : List Byte} (hk : k.Meets I) (h : s.Meets I) :
    (k.start op d data s).Meets I := by
  unfold CmdSpec.start
  extract_lets d s1
  have h1 : s1.Meets I := h.either h.enterDesc
  split
  · exact h1
  · exact h1.either (h1.readCmd.either (hk.judge h1.readCmd.readRecord.modOut))

/-! ### Sessions -/

theorem State.Meets.setCtx {k : ℕ} {b : List Byte} (h : s.Meets I) : (s.setCtx k b).Meets I := by
  unfold State.setCtx
  split
  · exact h.frame
  · exact h

theorem State.Meets.journal {e : JrnEntry} (h : s.Meets I) : (s.journal e).Meets I := h.sendCell.frame

theorem State.Meets.jrnTaken {e : JrnEntry} (h : s.Meets I) : (s.jrnTaken e).Meets I := by
  unfold State.jrnTaken
  split
  · exact h.modFlow.freeCell
  · exact h.modFlow

theorem State.Meets.closesFirst (h : s.Meets I) : s.closesFirst.Meets I := h.frame

theorem State.Meets.modSes {f : List Byte → List Byte} (h : s.Meets I) : (s.modSes p f).Meets I := by
  unfold State.modSes
  dsimp only
  split
  · exact h
  · split
    · exact h.modMtr.setCtx
    · exact h.modMtr

theorem State.Meets.sesMeter (h : s.Meets I) : (s.sesMeter p).Meets I := h.modSes

theorem State.Meets.sesProfile (h : s.Meets I) : (s.sesProfile p).Meets I := h.modSes

theorem State.Meets.sesHardReset (h : s.Meets I) : (s.sesHardReset p).Meets I := h.modSes

theorem State.Meets.sesContract {c : Contract} (h : s.Meets I) : (s.sesContract p c).Meets I := by
  unfold State.sesContract
  exact h.modSes

theorem State.Meets.openSession (h : s.Meets I) : (s.openSession p).Meets I :=
  h.either h.event.modMtr.frame.sesMeter.sesProfile.journal

theorem State.Meets.storeClose {k : ℕ} {b : List Byte} (h : s.Meets I) : (s.storeClose k b).Meets I :=
  h.setCtx.journal

theorem State.Meets.closeSession {r : EndReason} (h : s.Meets I) : (s.closeSession p r).Meets I := by
  unfold State.closeSession
  dsimp only
  split
  · exact h
  · split
    · exact h.sesMeter.sesProfile.modSes
    · split
      · exact h.sesMeter.sesProfile.modSes.event.modMtr.storeClose
      · exact h.sesMeter.sesProfile.modSes.event.modMtr.modMtr

theorem State.Meets.recycle {k : ℕ} (h : s.Meets I) : (s.recycle k).Meets I := by
  unfold State.recycle
  dsimp only
  split
  · exact h.modMtr.storeClose.either h.modMtr.setCtx
  · split
    · exact h.frame.setCtx
    · exact h.setCtx

theorem State.Meets.timeFix {c0 : Quad} (h : s.Meets I) : (s.timeFix c0).Meets I :=
  h.either ((((h.forPorts fun _ _ h => h.modMtr).frame).journal).eventD)

theorem sessionReadSpec_meets : sessionReadSpec.Meets I := fun _ _ h => h.hostPut.finish

theorem sessionAckSpec_meets : sessionAckSpec.Meets I := fun _ _ h => h.journal

theorem execSessionRead_meets {d : Desc} (h : s.Meets I) : Res.Meets I (execSessionRead d s) :=
  (sessionReadSpec_meets.start h).next

theorem execSessionAck_meets {d : Desc} (h : s.Meets I) : Res.Meets I (execSessionAck d s) :=
  (sessionAckSpec_meets.start h).next

theorem execSessionContextUpdate_meets (h : s.Meets I) : Res.Meets I (execSessionContextUpdate p s) :=
  (h.either h.sesMeter).next

/-! ### The journal -/

theorem State.Meets.checkFull (h : s.Meets I) : s.checkFull.Meets I := h.frame.eventD.either h.frame

theorem State.Meets.afterEntry {e : JrnEntry} (h : s.Meets I) : (s.afterEntry e).Meets I := by
  unfold State.afterEntry
  split
  · split
    · exact h.setCtx
    · exact h
  · exact h.recycle.finish.either h.finish
  · exact h

theorem State.Meets.tryEntry {ok : Bool} (h : s.Meets I) : (s.tryEntry ok).Meets I := by
  fun_cases State.tryEntry s ok with
  | case1 => exact h
  | case2 => exact h
  | case3 => exact h.countNoCredit
  | case4 _ _ _ _ _ _ e => exact (h.passCell e).frame.jrnTaken.emit.afterEntry.checkFull
  | case5 _ _ _ _ _ _ e => exact (h.passCell e).frame
  | case6 _ _ _ _ _ _ e => exact (h.passCell e).frame.eventD
  | case7 _ _ _ _ _ _ e => exact (h.passCell e).frame

theorem execJournalWrite_meets {ok : Bool} (h : s.Meets I) : Res.Meets I (execJournalWrite ok s) :=
  (h.tryEntry.either h).next

theorem execJournalRetry_meets {ok : Bool} (h : s.Meets I) : Res.Meets I (execJournalRetry ok s) :=
  (h.tryEntry.either h).next

theorem execSnapshot_meets (h : s.Meets I) : Res.Meets I (execSnapshot s) := by
  unfold execSnapshot
  refine State.Meets.next ?_
  extract_lets +onlyGivenNames t s1 s2
  have h1 : s1.Meets I := h.forPorts fun _ _ h => h.sesMeter.modSes
  have h2 : s2.Meets I := by
    unfold s2
    refine h1.forPorts fun s _ h => ?_
    split
    · exact h
    · exact h.journal
  exact h2.journal

theorem State.Meets.scanJournal (h : s.Meets I) : s.scanJournal.Meets I := by
  unfold State.scanJournal
  extract_lets +onlyGivenNames l inter closes all src s1 s2 s3 s4
  have h1 : s1.Meets I := h.frame
  have h2 : s2.Meets I := by
    refine h1.foldl fun s _ h => ?_
    split
    · exact h
    · exact h.setCtx.event
  have h3 : s3.Meets I := h2.foldl fun _ _ h => h.journal
  have h4 : s4.Meets I := by
    unfold s4
    split
    · exact h3
    · exact h3.forPorts fun _ _ h => h.modMtr
  exact h4.frame

/-! ### Metering -/

theorem State.Meets.endBuf {b : StreamBuf} (h : s.Meets I) : (s.endBuf b).Meets I := h.finish

theorem State.Meets.fillBuf {b : StreamBuf} {bytes : List Byte} (h : s.Meets I) : (s.fillBuf b bytes).2.Meets I :=
  h.emit.snd_mk

theorem State.Meets.putMerged (h : s.Meets I) : (s.putMerged p).Meets I := by
  unfold State.putMerged
  split
  · exact h
  · split
    · exact h
    next t e => exact (h.putRecord e).modMtr

theorem State.Meets.mtrLost {c : Cell} (h : s.Meets I) : (s.mtrLost p c).Meets I := h.dropCell.modMtr

theorem State.Meets.pumpMtrN {n : ℕ} (h : s.Meets I) : (State.pumpMtrN n s).Meets I := by
  induction n generalizing s with
  | zero => exact h
  | succ n ih =>
    unfold State.pumpMtrN
    split
    · exact h
    next b r e =>
      have hno : I.bufs ≠ true := fun k => by have hk := (h.bufs k); simp [e] at hk
      split
      · exact h
      · split
        · exact ih (h.frame (hb := fun k => absurd k hno)).endBuf
        · split
          · exact h
          · split
            next t e => exact ih (h.meet.snd e).mtrLost
            next t e =>
              have ht : t.Meets I := h.meet.snd e
              split
              · exact ih (ht.fillBuf.popRecord.putMerged.frame (hb := fun k => absurd k hno))
              · exact ih ht.popRecord

theorem State.Meets.pumpMtr (h : s.Meets I) : s.pumpMtr.Meets I := h.either h.pumpMtrN

theorem State.Meets.waveLost {c : Cell} (h : s.Meets I) : (s.waveLost p c).Meets I := by
  unfold State.waveLost
  exact (((h.foldl fun _ _ h => h.dropCell).modFlow).either (h.foldl fun _ _ h => h.dropCell)).modWm

theorem State.Meets.meetFrame (h : s.Meets I) : (s.meetFrame p).2.Meets I := by
  unfold State.meetFrame
  split
  · exact h
  · refine State.Meets.foldl_snd h fun x c hx => ?_
    split
    · exact hx
    · exact hx.meet

theorem State.Meets.popFrame {cells : ℕ} (h : s.Meets I) : (s.popFrame p cells).Meets I :=
  h.foldl fun _ _ h => h.popped

theorem State.Meets.pumpWaveN {n : ℕ} (h : s.Meets I) : (State.pumpWaveN n s).Meets I := by
  induction n generalizing s with
  | zero => exact h
  | succ n ih =>
    unfold State.pumpWaveN
    split
    · exact h
    next b r e =>
      have hno : I.bufs ≠ true := fun k => by have hk := (h.bufs k); simp [e] at hk
      split
      · exact h
      · dsimp only
        split
        · exact ih (h.frame (hb := fun k => absurd k hno)).endBuf
        · split
          next t e => exact ih (h.meetFrame.snd e).waveLost
          next t e => exact ih ((h.meetFrame.snd e).fillBuf.popFrame.frame (hb := fun k => absurd k hno))

theorem State.Meets.pumpWave (h : s.Meets I) : s.pumpWave.Meets I := h.either h.pumpWaveN

theorem State.Meets.intervalEnd (h : s.Meets I) : (s.intervalEnd p).Meets I := by
  unfold State.intervalEnd
  dsimp only
  split
  · exact h.modMtr.sesMeter
  · split
    · exact h.modMtr.sesMeter.modMtr.countNoCredit.modMtr
    · split
      next t e => exact ((h.modMtr.sesMeter.modMtr.putRecord e).pumpMtr).either (h.modMtr.sesMeter.modMtr.putRecord e)
      · exact h.modMtr.sesMeter.modMtr.countNoCredit.modMtr

theorem execMeteringInterval_meets (h : s.Meets I) : Res.Meets I (execMeteringInterval p s) :=
  (h.either h.intervalEnd).next

/-! ### The converter -/

theorem State.Meets.endTrim {status : ℕ} {result : Quad} (h : s.Meets I) : (s.endTrim p status result).Meets I := by
  unfold State.endTrim
  dsimp only
  split
  · exact h
  · exact h.stop.modCnv.finish

theorem State.Meets.setPoint {src : SetSrc} {mv up down : ℕ} (h : s.Meets I) :
    (s.setPoint p src mv up down).Meets I :=
  h.endTrim.modCnv

theorem State.Meets.setPointSlew {src : SetSrc} {mv : ℕ} (h : s.Meets I) : (s.setPointSlew p src mv).Meets I :=
  h.setPoint

theorem State.Meets.cnvStart (h : s.Meets I) : (s.cnvStart p).Meets I := h.modCnv

theorem State.Meets.cnvStop (h : s.Meets I) : (s.cnvStop p).Meets I := h.modCnv

theorem execPhaseShed_meets (h : s.Meets I) : Res.Meets I (execPhaseShed p s) := h.modCnv.next

theorem execSwarmFire_meets {dip : SwarmDip} (h : s.Meets I) : Res.Meets I (execSwarmFire dip s) :=
  (h.modCnv.either h).next

theorem execSwarmEnd_meets (h : s.Meets I) : Res.Meets I (execSwarmEnd p s) := (h.modCnv.either h).next

theorem execPeakLimit_meets {ph : Ph} {mv : ℕ} (h : s.Meets I) : Res.Meets I (execPeakLimit p ph mv s) :=
  (h.modCnv.either h).next

theorem execDividerCorrection_meets {vout vsns : ℤ} (h : s.Meets I) :
    Res.Meets I (execDividerCorrection p vout vsns s) :=
  (h.modCnv.either h).next

theorem execCompensationSample_meets {vout vsns ma : ℤ} (h : s.Meets I) :
    Res.Meets I (execCompensationSample p vout vsns ma s) := by
  unfold execCompensationSample
  dsimp only
  refine State.Meets.next ?_
  split
  · exact (((h.either h.modCnv).modCnv).eventP).either ((h.either h.modCnv).modCnv)
  · exact (h.either h.modCnv).modCnv

theorem setpointTrimSpec_meets : setpointTrimSpec.Meets I := by
  intro s d h
  dsimp only [setpointTrimSpec]
  exact h.setPointSlew.start.modCnv

theorem execSetpointTrim_meets {d : Desc} (h : s.Meets I) : Res.Meets I (execSetpointTrim d s) :=
  (setpointTrimSpec_meets.start h).next

theorem State.Meets.trimDone {vsns shunt : ℤ} (h : s.Meets I) : (s.trimDone p vsns shunt).Meets I := by
  unfold State.trimDone
  dsimp only
  split
  · exact h
  · exact h.endTrim.either h

/-! ### Monitors -/

theorem State.Meets.modMon {m : Fin 32} {f : Wm → Wm} (h : s.Meets I) : (s.modMon p m f).Meets I := h.modWm

theorem State.Meets.track {m : Fin 32} {f : Port → Wm → Wm} (h : s.Meets I) : (s.track p m f).Meets I := h.modMon

theorem State.Meets.trackPeaks (h : s.Meets I) : (s.trackPeaks p).Meets I := h.track.track.track

theorem State.Meets.trackUpdate (h : s.Meets I) : (s.trackUpdate p).Meets I := h.track.track.track

theorem State.Meets.trackShort (h : s.Meets I) : (s.trackShort p).Meets I := h.track

theorem State.Meets.trackTemp (h : s.Meets I) : (s.trackTemp p).Meets I := h.track

theorem execThresholdSettled_meets {m : Fin 32} (h : s.Meets I) : Res.Meets I (execThresholdSettled p m s) :=
  h.modMon.next

theorem State.Meets.capture {m : Fin 32} {e : Edge} (h : s.Meets I) : (s.capture p m e).Meets I := by
  unfold State.capture
  extract_lets +onlyGivenNames q
  split
  · exact h
  · split
    · exact h.modWm
    · extract_lets +onlyGivenNames n f
      split
      · exact h.countNoCredit.modWm
      next t e => exact (h.takeCell (Option.ite_none_right_eq_some.mp e).2).queueCell.modWm

theorem execCaptureFrameEnd_meets {samples : List Byte} (h : s.Meets I) :
    Res.Meets I (execCaptureFrameEnd p samples s) := by
  unfold execCaptureFrameEnd
  dsimp only
  refine State.Meets.next ?_
  split
  · exact h
  · exact (h.modFlow.foldl fun _ _ h => h.sendCell).modWm

theorem State.Meets.wmRecord {m : Fin 32} {e : Edge} {ret : Bool} {code thr : ℕ} (h : s.Meets I) :
    (s.wmRecord p m e ret code thr).Meets I :=
  h.offer

theorem State.Meets.checkRecord {m : Fin 32} {leg : ℕ} {k : LegChk} {err : ℤ} (h : s.Meets I) :
    (s.checkRecord p m leg k err).Meets I :=
  h.eventO

theorem execGeneralMonitorCheck_meets {m : Fin 32} {fail : Option (LegChk × ℤ)} (h : s.Meets I) :
    Res.Meets I (execGeneralMonitorCheck p m fail s) := by
  unfold execGeneralMonitorCheck
  refine State.Meets.next ?_
  split
  · exact h
  · split
    · exact h
    · exact h.either h.modMon.checkRecord

/-! ### The budget -/

theorem State.Meets.latchReneg (h : s.Meets I) : (s.latchReneg p).Meets I := h.modPol

theorem State.Meets.growN {n : ℕ} {done : List PortId} (h : s.Meets I) : (growN n done s).Meets I := by
  induction n generalizing s done with
  | zero => exact h
  | succ n ih =>
    unfold Machine.growN
    dsimp only
    split
    · exact h
    · exact ih (h.either h.modPol)

theorem State.Meets.grantLatch {old : ℕ} (h : s.Meets I) : (s.grantLatch p old).Meets I := h.latchReneg.either h

theorem State.Meets.round (h : s.Meets I) : s.round.Meets I := by
  unfold State.round
  exact ((((h.forPorts fun _ _ h => h.modPol).growN).forPorts fun _ _ h => h.grantLatch).frame).either <|
    ((((h.forPorts fun _ _ h => h.modPol).growN).forPorts fun _ _ h => h.grantLatch).frame).eventD

theorem State.Meets.takeRp (h : s.Meets I) : (s.takeRp p).Meets I := h.modCc.either h.modCc.frame

theorem State.Meets.commitFloor (h : s.Meets I) : (s.commitFloor p).Meets I := by
  unfold State.commitFloor
  exact h.modPol

/-! ### Wake-up -/

theorem State.Meets.entryOver (h : s.Meets I) (he : I.slept.isSome = true → s.pwr.entry ≠ 2) : s.entryOver.Meets I :=
  h.frame (hw := fun k e => absurd e (he k))

theorem State.Meets.abandonWake {src port : ℕ} (h : s.Meets I) (he : I.slept.isSome = true → s.pwr.entry ≠ 2) :
    (s.abandonWake src port).Meets I := by
  unfold State.abandonWake
  dsimp only
  split
  · exact (h.entryOver he).eventD.finish
  · exact (h.entryOver he).eventD

theorem State.Meets.latchWake {src port : ℕ} (h : s.Meets I) : (s.latchWake src port).Meets I := h.frame

theorem State.Meets.wakeSet {src port : ℕ} (h : s.Meets I) : (s.wakeSet src port).Meets I := by
  unfold State.wakeSet
  extract_lets u
  refine h.either ?_
  split
  next e =>
    have hw : (s.abandonWake src port).Meets I := h.abandonWake fun _ k => absurd (e.symm.trans k) (by decide)
    exact h.either (hw.latchWake.either hw)
  · exact h.latchWake.either h

theorem State.Meets.idleExit (h : s.Meets I) : s.idleExit.Meets I := h.frame.eventD.either h

/-! ### The path and its switches -/

theorem State.Meets.pathTo {st : PathSt} (h : s.Meets I) : (s.pathTo p st).Meets I := by
  unfold State.pathTo
  extract_lets +onlyGivenNames old s1 s2 s3
  have h1 : s1.Meets I := h.modEf.modWm
  have h2 : s2.Meets I := h1.modMtr.either h1
  have h3 : s3.Meets I := h2.start.either h2.stop
  exact (h3.either h3.intervalEnd).modMtr.modWm.either h3

theorem State.Meets.openPath (h : s.Meets I) : (s.openPath p).Meets I := by
  unfold State.openPath
  extract_lets s1 s2
  have h1 : s1.Meets I := h.cnvStop
  have h2 : s2.Meets I := h1.modEf
  exact h2.either h2.pathTo

theorem State.Meets.tryPath (h : s.Meets I) : (s.tryPath p).Meets I := h.pathTo.either h

theorem State.Meets.requestPath {r : PathReq} (h : s.Meets I) : (s.requestPath p r).Meets I :=
  h.idleExit.modEf.wakeSet.tryPath

theorem State.Meets.dropWindow (h : s.Meets I) : (s.dropWindow p).Meets I := h.modCc.either h

theorem State.Meets.seeVbus {mv : ℕ} (h : s.Meets I) : (s.seeVbus p mv).Meets I := h.modEf.dropWindow

theorem State.Meets.closeBf (h : s.Meets I) : (s.closeBf p).Meets I := h.pathTo.modEf

theorem State.Meets.openBf (h : s.Meets I) : (s.openBf p).Meets I := by
  unfold State.openBf
  exact h.pathTo.either h.modEf

theorem execVbusUnexpected_meets (h : s.Meets I) : Res.Meets I (execVbusUnexpected p s) :=
  (h.modEf.eventP.either h).next

theorem State.Meets.clearRetry (h : s.Meets I) : (s.clearRetry p).Meets I := h.modEf.modWm

theorem execGoodServiceExpiry_meets (h : s.Meets I) : Res.Meets I (execGoodServiceExpiry p s) :=
  (h.onExpiry fun _ h => h.clearRetry.either h).next

theorem State.Meets.settleIdentity {d : Quad} (h : s.Meets I) : (s.settleIdentity p d).Meets I :=
  h.sesProfile.either (h.sesProfile.modEf.either (h.sesProfile.either h.sesProfile.clearRetry.modEf.event))

/-! ### PD messages -/

theorem State.Meets.meetHead {f : ℕ} (h : s.Meets I) : (s.meetHead f).2.Meets I :=
  State.Meets.foldl_snd h fun _ _ h => h.meet

theorem State.Meets.dropHead {f : ℕ} (h : s.Meets I) : (s.dropHead f).Meets I := h.foldl fun _ _ h => h.dropCell

theorem State.Meets.putMsg {f : ℕ} {r : Payload} {m : PdMsg} (h : s.Meets I) (e : s.putMsg f r m = some t) :
    t.Meets I := by
  unfold State.putMsg at e
  split at e
  · cases e
  · split at e
    · exact h.putCell e
    · obtain ⟨u, e1, e2⟩ := Option.bind_eq_some_iff.mp e
      exact (h.putCell e1).putCell e2

theorem State.Meets.popMsg {f : ℕ} {m : PdMsg} (h : s.Meets I) : (s.popMsg f m).Meets I :=
  h.foldl fun _ _ h => h.popped

theorem PdState.modLane_dupRx (x : PdState) (k : Sopx) (f : PdLane → PdLane) : (x.modLane k f).dupRx = x.dupRx := by cases k <;> rfl

theorem PdState.counts_dupRx (x : PdState) (k : Sopx) (o : TxOutcome) (b : Bool) : (x.counts k o b).dupRx = x.dupRx := by
  unfold PdState.counts
  dsimp only
  split
  · exact PdState.modLane_dupRx _ _ _
  · rfl

theorem PdState.modLane_asm (x : PdState) (k : Sopx) (f : PdLane → PdLane) : (x.modLane k f).asm = x.asm := by cases k <;> rfl

theorem PdState.counts_asm (x : PdState) (k : Sopx) (o : TxOutcome) (b : Bool) : (x.counts k o b).asm = x.asm := by
  unfold PdState.counts
  dsimp only
  split
  · exact PdState.modLane_asm _ _ _
  · rfl

theorem State.Meets.endTx {x : PdTx} {o : TxOutcome} (h : s.Meets I) : (s.endTx p x o).Meets I := by
  have h1 : (s.modPd p fun y => { y.counts x.msg.sopx o (decide (0 < x.tries)) with tx := none }).Meets I :=
    h.modPd (fun y => PdState.counts_dupRx y _ _ _) fun y k => (PdState.counts_asm y _ _ _).trans k
  exact h1.stopAll.emit.popMsg

theorem State.Meets.nextTxN {n : ℕ} (h : s.Meets I) : (State.nextTxN p n s).Meets I := by
  induction n generalizing s with
  | zero => exact h
  | succ n ih =>
    unfold State.nextTxN
    dsimp only
    split
    · exact h
    · split
      · exact (ih h.emit.popMsg).either (h.modPd.start.either h.modPd)
      · exact h

theorem State.Meets.nextTx (h : s.Meets I) : (s.nextTx p).Meets I := h.nextTxN

theorem State.Meets.admitTx (h : s.Meets I) : (s.admitTx p).Meets I := by
  unfold State.admitTx
  split
  · split
    next t e => exact (h.putMsg e).modFlow
    · exact h
  · exact h

theorem State.Meets.pdSend {m : PdMsg} {prod : PdProd} {first : Bool} (h : s.Meets I) :
    (s.pdSend p m prod first).Meets I := by
  unfold State.pdSend
  dsimp only
  split
  · exact h.emit
  · split
    · exact h.emit
    · split
      next t e => exact (h.putMsg (Option.ite_none_right_eq_some.mp e).2).nextTx
      · exact h.wait

theorem State.Meets.laneReset {k : Sopx} (h : s.Meets I) : (s.laneReset p k).Meets I := by
  unfold State.laneReset
  exact (h.stop.either h).modPd fun _ => PdState.modLane_dupRx _ _ _

theorem State.Meets.startFrame (h : s.Meets I) : (s.startFrame p).1.Meets I := by
  unfold State.startFrame
  split
  · split
    · exact h.fst_mk
    · split
      · exact h.endTx.fst_mk
      · split
        next t e =>
          have ht : t.Meets I := h.meetHead.snd e
          split
          · exact ht.endTx.fst_mk
          · exact (ht.laneReset.either ht).modPd.emit.fst_mk
  · exact h.fst_mk

theorem State.Meets.dropFirst (h : s.Meets I) : (s.dropFirst p).1.Meets I := by
  unfold State.dropFirst
  split
  · split
    · exact h.endTx.modPd.fst_mk
    · exact h.fst_mk
  · exact h.fst_mk

theorem State.Meets.dropPending {m : PdMsg} (h : s.Meets I) : (s.dropPending p m).1.Meets I := by
  unfold State.dropPending
  split
  · split
    · exact h.endTx.fst_mk
    · exact h.fst_mk
  · exact h.fst_mk

theorem State.Meets.amsEnd (h : s.Meets I) : (s.amsEnd p).Meets I := h.modPd

theorem State.Meets.amsDone (h : s.Meets I) : (s.amsDone p).Meets I := h.amsEnd.either h

theorem State.Meets.viaPdRx {m : PdMsg} (h : s.Meets I) : (s.viaPdRx p m).Meets I := by
  unfold State.viaPdRx
  split
  next t e => exact (h.putMsg e).popMsg
  · exact h

theorem State.Meets.onChunkReq {m : PdMsg} (h : s.Meets I) : (s.onChunkReq p m).1.Meets I := by
  unfold State.onChunkReq
  split
  · split
    · exact h.fst_mk
    · split
      · exact h.stop.modPd.fst_mk
      · exact h.endTx.fst_mk
  · exact h.fst_mk

theorem State.Meets.onExtended {m : PdMsg} (h : s.Meets I) (hI : I.Open) : (s.onExtended p m).1.Meets I := by
  unfold State.onExtended
  extract_lets +onlyGivenNames q whole
  have hwhole {s : State} {m : PdMsg} {size : ℕ} {b : List Byte} (h : s.Meets I) :
    (whole m size b s).1.Meets I := h.viaPdRx.fst_mk
  clear_value whole
  split
  · exact h.fst_mk
  · split
    · exact h.onChunkReq
    · split
      · exact h.fst_mk
      · split
        · split
          · split
            · exact h.stop.modPd.fst_mk
            · dsimp only
              split
              · exact hwhole h.stop.modPd
              · exact (h.gauged hI).start.pdSend.fst_mk
          · split
            · exact hwhole h
            · split <;> exact h.fst_mk
        · split
          · exact hwhole h
          · split
            · exact h.fst_mk
            · exact (h.gauged hI).start.pdSend.fst_mk

theorem State.Meets.cableRev {m : PdMsg} (h : s.Meets I) : (s.cableRev p m).Meets I := 
  h.modPd (by intro _; split <;> rfl) fun _ k => by split <;> exact k

/-- A message answered with its GoodCRC: first a message of the device's own that it displaces is dropped. -/
def State.answered (s : State) (p : PortId) (m : PdMsg) : State :=
  let t := (if m.sopx = .sop then s.dropFirst p else (s, [])).1
  let u := (t.dropPending p m).1
  u.emit ((u.port p).goodCrcOf p m)

theorem State.Meets.answered {m : PdMsg} (h : s.Meets I) : (s.answered p m).Meets I := by
  unfold State.answered
  have ht : (if m.sopx = .sop then s.dropFirst p else (s, [])).1.Meets I := by
    split
    · exact h.dropFirst
    · exact h
  exact ht.dropPending.emit

/-- What follows the GoodCRC keeps what the state meets then. -/
theorem State.Meets.pdTake_of {m : PdMsg} (hr : ¬ (¬ (s.port p).pdRuns ∨ ¬ (s.port p).sopOk m.sopx)) (h1 : (s.answered p m).Meets I) (hI : I.Open) :
    (s.pdTake p m).1.Meets I := by
  unfold State.answered at h1
  unfold State.pdTake
  extract_lets +onlyGivenNames q
  split
  next k => exact absurd k hr
  · split
    next t n1 eq1 =>
    split
    next u n2 eq2 =>
    rw [eq1] at h1
    dsimp only at h1
    rw [eq2] at h1
    extract_lets +onlyGivenNames s1 soft dup broken s2 s3 s4 s5 n3
    change s1.Meets I at h1
    have h2 : s2.Meets I := h1.laneReset.either (h1.modPd (fun _ => PdState.modLane_dupRx _ _ _) fun y k => (PdState.modLane_asm y _ _).trans k)
    have h4 : s4.Meets I := (h2.modPd.either h2).cableRev
    have h5 : s5.Meets I := h4.stop.modPd.either h4
    split
    · exact (h1.gauged hI).nextTx.fst_mk
    · split
      next v n4 eq3 => exact State.Meets.fst (by split; exacts [h5.onExtended hI, h5.viaPdRx.fst_mk]) eq3

theorem State.Meets.pdTake {m : PdMsg} (h : s.Meets I) (hI : I.Open) : (s.pdTake p m).1.Meets I := by
  by_cases hr : ¬ (s.port p).pdRuns ∨ ¬ (s.port p).sopOk m.sopx
  · unfold State.pdTake
    dsimp -zeta only
    rw [if_pos hr]
    exact h.fst_mk
  · exact h.answered.pdTake_of hr hI

theorem State.Meets.onGoodCrc {k : Sopx} {i : BitVec 3} (h : s.Meets I) : (s.onGoodCrc p k i).1.Meets I := by
  unfold State.onGoodCrc
  dsimp only
  split
  · split
    · exact h.fst_mk
    · split
      next x _ _ _ =>
        have h1 : (s.modPd p fun y =>
            { y.modLane k fun l => { l with txId := l.txId + 1 } with tx := some { x with ph := .chunkWait } }).Meets I :=
          h.modPd (fun y => PdState.modLane_dupRx y _ _) fun y k => (PdState.modLane_asm y _ _).trans k
        exact h1.stop.start.fst_mk
      · exact h.endTx.fst_mk
  · exact h.fst_mk

theorem State.Meets.onTReceive (h : s.Meets I) : (s.onTReceive p).1.Meets I := by
  unfold State.onTReceive
  split
  · split
    · exact h.fst_mk
    · split
      · exact h.modPd.fst_mk
      · exact h.endTx.fst_mk
  · exact h.fst_mk

theorem State.Meets.flushMsg {o : TxOutcome} {m : PdMsg} {prod : PdProd} {tries : ℕ} (h : s.Meets I) :
    (s.flushMsg p o m prod tries).Meets I := by
  have h1 : (s.modPd p fun x => x.counts m.sopx o (decide (0 < tries))).Meets I := 
    h.modPd (fun x => PdState.counts_dupRx x _ _ _) fun y k => (PdState.counts_asm y _ _ _).trans k
  exact h1.emit

theorem State.Meets.flushTx {o : TxOutcome} (h : s.Meets I) : (s.flushTx p o).Meets I := by
  unfold State.flushTx
  extract_lets +onlyGivenNames t s1 s2
  have h1 : s1.Meets I := by
    unfold s1
    refine h.foldl fun s x h => ?_
    split
    · exact h.flushMsg
    · exact h
  have h2 : s2.Meets I := by
    unfold s2
    refine h1.foldl fun s x h => ?_
    split
    · exact h.flushMsg
    · exact h
  exact h2.emptyFlow.modFlow.modPd.stopAll

theorem State.Meets.pdClear {o : TxOutcome} (h : s.Meets I) : (s.pdClear p o).Meets I := h.flushTx.stop.modPd

theorem State.Meets.pdStop (h : s.Meets I) : (s.pdStop p).Meets I := h.pdClear.modPd

theorem execFrameTransmitted_meets (h : s.Meets I) : Res.Meets I (execFrameTransmitted p s) := by
  unfold execFrameTransmitted
  refine State.Meets.next ?_
  split
  · exact h.modPd.start.either h
  · exact h

theorem State.Meets.badFrame (h : s.Meets I) : (s.badFrame p).Meets I := h.modPd.either h

theorem execFrameCrcError_meets (h : s.Meets I) : Res.Meets I (execFrameCrcError p s) := h.badFrame.next

theorem execAmsStartWaitExpiry_meets (h : s.Meets I) : Res.Meets I (execAmsStartWaitExpiry p s) :=
  (h.onExpiry fun _ h => h.modPd).next

theorem execSinktxokRead_meets {r : RpRead} (h : s.Meets I) : Res.Meets I (execSinktxokRead r s) :=
  (h.either (h.modPd.either h.modPd)).next

theorem execCableResetReceived_meets (h : s.Meets I) : Res.Meets I (execCableResetReceived p s) := h.next

/-! ### The sequencer -/

theorem State.Meets.setSeq {x : SeqSt} (h : s.Meets I) : (s.setSeq p x).Meets I := h.modPol

theorem State.Meets.say {m : PdMsg} {first : Bool} (h : s.Meets I) : (s.say p m first).Meets I := h.pdSend

theorem State.Meets.setILim {ma : ℕ} (h : s.Meets I) : (s.setILim p ma).Meets I := h.modCnv.trackPeaks

theorem State.Meets.endEpr {sub : ℕ} (h : s.Meets I) : (s.endEpr p sub).Meets I := h.stop.modPol.eventP.either h

theorem State.Meets.endContract (h : s.Meets I) : (s.endContract p).Meets I := h.endEpr.modPd.modPol.commitFloor

theorem State.Meets.fleetCut (h : s.Meets I) : (s.fleetCut p).Meets I := h.either h.modPod.eventP

theorem State.Meets.amsDrop (h : s.Meets I) : (s.amsDrop p).Meets I := by
  unfold State.amsDrop
  exact (((h.either h.fleetCut.finishAll).stopAll).modPod).modPol

theorem State.Meets.dropPartnerWork (h : s.Meets I) : (s.dropPartnerWork p).Meets I := h.fleetCut.modPod.modPol

theorem State.Meets.seqOff (h : s.Meets I) : (s.seqOff p).Meets I := by
  unfold State.seqOff
  exact h.endContract.dropPartnerWork.stopAll.modPol.modSwap

theorem State.Meets.toStartup (h : s.Meets I) : (s.toStartup p).Meets I := h.modPol

theorem State.Meets.toNoPd {sub : ℕ} (h : s.Meets I) : (s.toNoPd p sub).Meets I := h.modPol.setILim.eventP

theorem State.Meets.toReady (h : s.Meets I) : (s.toReady p).Meets I := h.setSeq.amsEnd

theorem State.Meets.markReneg (h : s.Meets I) : (s.markReneg p).Meets I := h.frame

theorem State.Meets.eprLeave (h : s.Meets I) : (s.eprLeave p).Meets I := h.say.endEpr.either h

theorem State.Meets.sendCaps {first : Bool} (h : s.Meets I) : (s.sendCaps p first).Meets I :=
  ((h.modPol.eprLeave.markReneg.either h.modPol.eprLeave).modPol).say

theorem State.Meets.toSendCaps {first : Bool} (h : s.Meets I) : (s.toSendCaps p first).Meets I :=
  h.modPol.modPol.either h.modPol.sendCaps

theorem State.Meets.hrLanding (h : s.Meets I) : (s.hrLanding p).Meets I := by
  unfold State.hrLanding
  exact (h.closeSession.cnvStop.modSwap.either h).modSwap

theorem State.Meets.hrStart {goal : SeqSt} (h : s.Meets I) : (s.hrStart p goal).Meets I := by
  unfold State.hrStart
  exact h.modPd.pdClear.endContract.dropPartnerWork.stopAll.hrLanding.modPol.modCc.modSwap.either <|
    h.modPd.pdClear.endContract.dropPartnerWork.stopAll.hrLanding.modPol.modCc

theorem State.Meets.hrRequest {goal : SeqSt} (h : s.Meets I) : (s.hrRequest p goal).Meets I := h.hrStart.modPd

theorem State.Meets.hrNote {received : Bool} (h : s.Meets I) : (s.hrNote p received).Meets I :=
  ((h.either h.modPol).eventP).sesHardReset

theorem State.Meets.hrRecord {received : Bool} (h : s.Meets I) : (s.hrRecord p received).Meets I :=
  h.hrNote.finishAll.modCnv.stop.endPort

theorem State.Meets.hrWait (h : s.Meets I) : (s.hrWait p).Meets I := h.modPd.modSwap.start.either h.modPd

theorem State.Meets.vconnOff (h : s.Meets I) : (s.vconnOff p).Meets I := h.modCc.modSwap.either h

theorem State.Meets.vconnApply (h : s.Meets I) : (s.vconnApply p).Meets I := h.modCc.modSwap

theorem State.Meets.toUnattached (h : s.Meets I) : (s.toUnattached p).Meets I := h.modCc.modPd.modPol.takeRp.start

theorem State.Meets.detachDone (h : s.Meets I) : (s.detachDone p).Meets I := h.toUnattached.either h

theorem State.Meets.hrH3 (h : s.Meets I) : (s.hrH3 p).Meets I := by
  unfold State.hrH3
  exact h.openPath.vconnOff.modCc.modSwap

theorem State.Meets.hrH4 (h : s.Meets I) : (s.hrH4 p).Meets I := h.modSwap.start

theorem State.Meets.hrH5 (h : s.Meets I) : (s.hrH5 p).Meets I := h.modSwap.requestPath.either h

theorem execPsHardResetExpiry_meets (h : s.Meets I) : Res.Meets I (execPsHardResetExpiry p s) :=
  (h.onExpiry fun _ h => h.hrH3.either h).next

theorem execSrcRecoverExpiry_meets (h : s.Meets I) : Res.Meets I (execSrcRecoverExpiry p s) :=
  (h.onExpiry fun _ h => h.hrH5).next

theorem State.Meets.sendSoft (h : s.Meets I) : (s.sendSoft p).Meets I := h.say

theorem State.Meets.softReset (h : s.Meets I) : (s.softReset p).Meets I := h.amsDrop.modPol.sendSoft

theorem State.Meets.sinkSoft (h : s.Meets I) : (s.sinkSoft p).Meets I :=
  h.amsDrop.modSwap.setSeq.finishAll.finishAll.sendSoft

theorem State.Meets.sinkReset (h : s.Meets I) : (s.sinkReset p).Meets I := h.sinkSoft.either h.hrRequest

theorem State.Meets.sinkLost (h : s.Meets I) : (s.sinkLost p).Meets I :=
  h.stop.modSwap.amsEnd.eventP.either h.modSwap.hrRequest

theorem State.Meets.notSupported (h : s.Meets I) : (s.notSupported p).Meets I := h.say

theorem State.Meets.oddReady {k : Odd} (h : s.Meets I) : (s.oddReady p k).Meets I := by
  unfold State.oddReady
  split
  · exact h.notSupported
  · exact h.notSupported
  · exact h.softReset

theorem State.Meets.odd {k : Odd} (h : s.Meets I) : (s.odd p k).Meets I := by
  unfold State.odd
  split
  · exact h.either h.hrRequest
  · exact h.softReset
  · exact h.softReset
  · exact h.softReset
  · exact h.softReset
  · exact h.oddReady
  · exact h.hrRequest
  · split
    · exact h.notSupported
    · exact h.notSupported
    · exact h.sinkReset
  · split
    · exact h.notSupported
    · exact h.notSupported
    · exact h.sinkLost.either h.sinkSoft
  · exact h
  · exact h
  · exact h
  · exact h
  · exact h

theorem State.Meets.gotElse {m : PdMsg} (h : s.Meets I) : (s.gotElse p m).Meets I := h.odd

theorem hardResetSpec_meets : hardResetSpec.Meets I := fun _ _ h => h.hrRequest

theorem execHardReset_meets {d : Desc} (h : s.Meets I) : Res.Meets I (execHardReset d s) :=
  (hardResetSpec_meets.start h).next

/-! ### The Pod Table -/

theorem State.Meets.vdmDiscard {sub : ℕ} (h : s.Meets I) : (s.vdmDiscard p sub).Meets I :=
  h.countNoCredit.modPod.eventP

theorem State.Meets.toCores {m : PdMsg} (h : s.Meets I) (e : s.toCores p m = some t) : t.Meets I := by
  unfold State.toCores at e
  dsimp only at e
  split at e
  · exact h.putCell e
  · split at e
    · cases e
    · obtain ⟨u, e1, e2⟩ := Option.bind_eq_some_iff.mp e
      exact (h.putCell e1).putCell e2

theorem State.Meets.jobItem {item : ℕ} {e : PodEntry} (h : s.Meets I) : (s.jobItem p item e).Meets I :=
  h.vdmDiscard.getD fun _ => h.putCell

theorem State.Meets.profChanged {old : Option PodEntry × Bool} (h : s.Meets I) : (s.profChanged p old).Meets I :=
  h.sesProfile.either h.sesProfile.latchReneg

theorem State.Meets.authStart {e : PodEntry} (h : s.Meets I) : (s.authStart p e).Meets I := h.modPod.jobItem.start

theorem State.Meets.authEnd {code : ℕ} (h : s.Meets I) : (s.authEnd p code).Meets I := by
  unfold State.authEnd
  dsimp only
  split
  · exact h
  · exact h.stop.modPod.eventP.profChanged.finishAll

theorem State.Meets.podHit {slot : ℕ} {e : PodEntry} (h : s.Meets I) : (s.podHit p slot e).Meets I := by
  unfold State.podHit
  extract_lets +onlyGivenNames old s1
  have h1 : s1.Meets I := h.modPod
  exact (h1.modPod.eventP.either <| h1.modPod.eventP.authStart.either h1.modPod.eventP).profChanged.finishAll

theorem State.Meets.podMiss {cause sub : ℕ} (h : s.Meets I) : (s.podMiss p cause sub).Meets I :=
  h.modPod.eventP.profChanged.finishAll

theorem State.Meets.noIdentity {sub : ℕ} (h : s.Meets I) : (s.noIdentity p sub).Meets I := by
  unfold State.noIdentity
  exact h.stopAll.modPod.podMiss.settleIdentity

theorem State.Meets.askLookup {r : LookupReq} (h : s.Meets I) : (s.askLookup p r).Meets I := by
  unfold State.askLookup
  exact h.asks.modPod

theorem execIdentityDigest_meets {cable : Bool} (h : s.Meets I) : Res.Meets I (execIdentityDigest p cable s) := by
  unfold execIdentityDigest
  dsimp only
  refine State.Meets.next ?_
  split
  · split
    · exact h
    · exact h.either (h.modPod.askLookup.either h.modPod)
  · split
    · exact h
    · exact h.either (h.modPod.settleIdentity.askLookup.either h.modPod.settleIdentity.podMiss)

theorem State.Meets.sopLookup (h : s.Meets I) : (s.sopLookup p).Meets I := by
  unfold State.sopLookup
  split
  · exact h.podMiss.either h.podHit
  · exact h.podMiss

theorem State.Meets.cableLookup (h : s.Meets I) : (s.cableLookup p).Meets I := by
  unfold State.cableLookup
  dsimp only
  split
  · exact h.modPod.modPod.either h.modPod
  · exact h.modPod

theorem State.Meets.lookup (h : s.Meets I) : (s.lookup p).Meets I := by
  unfold State.lookup
  dsimp only
  split
  · exact h
  · exact h.asks.cableLookup
  · exact h.asks.sopLookup

theorem execPodLookup_meets (h : s.Meets I) : Res.Meets I (execPodLookup p s) := (h.lookup.either h).next

theorem State.Meets.slotTurn (h : s.Meets I) : s.slotTurn.Meets I := by
  unfold State.slotTurn
  extract_lets +onlyGivenNames s1
  have h1 : s1.Meets I := by
    unfold s1
    split
    · exact h.lookup
    · exact h
  exact h1.asks

theorem State.Meets.podReapply {slot : ℕ} {e : PodEntry} (h : s.Meets I) : (s.podReapply p slot e).Meets I :=
  h.modPod.profChanged.either (h.either ((h.modPod.either (h.modPod.authStart.either h.modPod)).profChanged))

theorem State.Meets.podStore {slot : ℕ} {e : Option PodEntry} (h : s.Meets (Inv.sound canon q wr)) : (s.podStore slot e).Meets (Inv.sound canon q wr) := by
  unfold State.podStore
  extract_lets +onlyGivenNames old src s1 same given s2
  have h1 : s1.Meets (Inv.sound canon q wr) := h.sound
  clear_value same
  have h2 : s2.Meets (Inv.sound canon q wr) := by
    refine h1.forPorts fun s _ h => ?_
    dsimp only
    split
    · exact h.podReapply
    · split
      · exact h.modPod.eventP.either h
      · exact h
  exact h2.eventD

theorem State.Meets.podWrite {slot : ℕ} {e : PodEntry} (h : s.Meets (Inv.sound canon q wr)) : (s.podWrite slot e).1.Meets (Inv.sound canon q wr) :=
  h.podStore.either h

theorem execPodReadSlot_meets (h : s.Meets (Inv.sound canon q wr)) : Res.Meets (Inv.sound canon q wr) (execPodReadSlot s) := h.slotTurn.sound.next

theorem execPodWriteSlot_meets (h : s.Meets (Inv.sound canon q wr)) : Res.Meets (Inv.sound canon q wr) (execPodWriteSlot s) := by
  unfold execPodWriteSlot
  extract_lets t
  have ht : t.Meets (Inv.sound canon q wr) := h.slotTurn
  exact State.Meets.next (ht.podWrite.sound)

theorem execPodDeleteSlot_meets (h : s.Meets (Inv.sound canon q wr)) : Res.Meets (Inv.sound canon q wr) (execPodDeleteSlot s) :=
  h.slotTurn.podStore.sound.next

theorem State.Meets.podBlock {first : ℕ} {bs : List (List Byte)} {l : List ℕ} (h : s.Meets (Inv.sound canon q wr)) :
    (s.podBlock first bs l).1.Meets (Inv.sound canon q wr) := by
  induction bs generalizing s first l with
  | nil => exact h
  | cons b r ih =>
    unfold State.podBlock
    dsimp only
    split
    · exact ih h.slotTurn.podStore
    · exact ih h.slotTurn.podWrite

theorem State.Meets.takePods {d : Desc} (h : s.Meets (Inv.sound canon q wr)) : (s.takePods d).Meets (Inv.sound canon q wr) :=
  (h.podBlock.either h.podBlock.hostPut).finish

theorem State.Meets.podBlocksGo (h : s.Meets (Inv.sound canon q wr)) : s.podBlocksGo.Meets (Inv.sound canon q wr) := by
  unfold State.podBlocksGo
  extract_lets +onlyGivenNames l s1
  have h1 : s1.Meets (Inv.sound canon q wr) := by
    unfold s1
    refine h.foldl fun s x h => ?_
    split
    next t e => exact (h.passCell e).takePods
    · exact h
  exact h1.sound

theorem podWriteSpec_meets : podWriteSpec.Meets (Inv.sound canon q wr) := by
  intro s d h
  dsimp only [podWriteSpec]
  split
  next t e => exact (h.passCell (Option.ite_none_left_eq_some.mp e).2).takePods
  · exact h.countNoCredit.sound

theorem execPodWrite_meets {d : Desc} {block : List Byte} (h : s.Meets (Inv.sound canon q wr)) : Res.Meets (Inv.sound canon q wr) (execPodWrite d block s) :=
  (podWriteSpec_meets.start h).next

theorem podRelookupSpec_meets : podRelookupSpec.Meets I := fun _ _ h => h.askLookup

theorem execPodRelookup_meets {d : Desc} (h : s.Meets I) : Res.Meets I (execPodRelookup d s) :=
  (podRelookupSpec_meets.start h).next

theorem authenticateSpec_meets : authenticateSpec.Meets I := by
  intro s d h
  dsimp -zeta only [authenticateSpec]
  split
  · exact h.authStart
  · exact h.finish

theorem execAuthenticate_meets {d : Desc} (h : s.Meets I) : Res.Meets I (execAuthenticate d s) :=
  (authenticateSpec_meets.start h).next

theorem execAuthTimeout_meets (h : s.Meets I) : Res.Meets I (execAuthTimeout p s) := by
  unfold execAuthTimeout
  refine State.Meets.next ?_
  refine h.onExpiry fun s h => ?_
  split
  · exact h
  · exact h.jobItem.authEnd

theorem State.Meets.discSend (h : s.Meets I) : (s.discSend p).Meets I := h.modPod.say

theorem State.Meets.discSilent (h : s.Meets I) : (s.discSilent p).Meets I := by
  unfold State.discSilent
  exact h.stop.modPod.amsEnd.noIdentity.either h.stop.modPod.amsEnd.discSend

theorem State.Meets.discAnswer {m : PdMsg} (h : s.Meets I) : (s.discAnswer p m).Meets I := by
  unfold State.discAnswer
  exact h.stop.modPod.amsEnd.modPod.either <|
    (h.stop.modPod.amsEnd.modPod.noIdentity.either h.stop.modPod.amsEnd.modPod.start).either <|
    h.stop.modPod.amsEnd.noIdentity

theorem State.Meets.fleetSend {k pos : ℕ} (h : s.Meets I) : (s.fleetSend p k pos).Meets I := h.modPod.amsEnd.say

theorem State.Meets.fleetFail {why : ℕ} (h : s.Meets I) : (s.fleetFail p why).Meets I :=
  h.stopAll.modPod.amsEnd.eventP.finishAll

theorem State.Meets.fleetAnswer {m : PdMsg} (h : s.Meets I) : (s.fleetAnswer p m).Meets I := by
  unfold State.fleetAnswer
  dsimp only
  split
  · exact h.fleetFail
  · split
    · exact h.fleetFail
    · split
      · exact h.stopAll.fleetSend.either h.stopAll.fleetFail
      · split
        · split
          · exact h.stopAll.fleetFail
          · exact h.stopAll.modPod.fleetSend
        · exact h.stopAll.modPod.amsEnd.modSes.eventP.finishAll

theorem execFleetModeEntry_meets (h : s.Meets I) : Res.Meets I (execFleetModeEntry p s) :=
  (h.fleetSend.either h).next

theorem execFleetEnterModeTimeout_meets (h : s.Meets I) : Res.Meets I (execFleetEnterModeTimeout p s) :=
  (h.onExpiry fun _ h => h.fleetFail.either h).next

theorem State.Meets.fleetExit (h : s.Meets I) : (s.fleetExit p).Meets I := h.say

theorem fleetModeSpec_meets : fleetModeSpec.Meets I := fun _ _ h => h.fleetSend.either h.fleetExit

theorem execFleetMode_meets {d : Desc} (h : s.Meets I) : Res.Meets I (execFleetMode d s) :=
  (fleetModeSpec_meets.start h).next

theorem State.Meets.fleetExited {ok : Bool} (h : s.Meets I) : (s.fleetExited p ok).Meets I :=
  h.amsEnd.modPod.finishAll.either h.amsEnd.finishAll

theorem State.Meets.vdmRequest {m : PdMsg} (h : s.Meets I) : (s.vdmRequest p m).Meets I := by
  unfold State.vdmRequest
  dsimp only
  split
  · split
    next t e => exact ((h.toCores e).modPod).start
    · exact h.vdmDiscard.say
  · exact h.say

theorem State.Meets.vdmUnstructured {m : PdMsg} (h : s.Meets I) : (s.vdmUnstructured p m).Meets I :=
  ((h.vdmDiscard.getD fun _ => h.toCores).amsEnd).either (h.say.either h.amsEnd)

theorem State.Meets.vdmGot {m : PdMsg} (h : s.Meets I) : (s.vdmGot p m).Meets I := by
  unfold State.vdmGot
  exact h.vdmUnstructured.either <| h.vdmRequest.either <| h.discAnswer.either <| h.fleetAnswer.either <|
    (h.amsEnd.vdmDiscard.getD fun _ => h.amsEnd.toCores).either <| h.odd.either <| h.amsEnd

theorem State.Meets.securityResponse {m : PdMsg} (h : s.Meets I) : (s.securityResponse p m).Meets I :=
  h.amsEnd.vdmDiscard.getD fun _ => h.amsEnd.toCores

theorem execVdmAnswerTimeout_meets (h : s.Meets I) : Res.Meets I (execVdmAnswerTimeout p s) :=
  (h.onExpiry fun _ h => h.modPod.say.either h).next

theorem State.Meets.authLost (h : s.Meets I) : (s.authLost p).Meets I := h.authEnd.either h

theorem State.Meets.vdmMeet (h : s.Meets I) : (s.vdmMeet p).2.Meets I := by
  unfold State.vdmMeet
  exact h.meetHead.dropHead.authLost.either h.meetHead

theorem State.Meets.vdmPop (h : s.Meets I) : (s.vdmPop p).Meets I := h.popped

theorem execVdmtxItem_meets (h : s.Meets I) : Res.Meets I (execVdmtxItem p s) := by
  unfold execVdmtxItem
  refine State.Meets.next ?_
  extract_lets +onlyGivenNames q
  split
  next t e =>
    have ht : t.Meets I := h.vdmMeet.snd e
    split
    · exact ht
    · exact ht.vdmPop.either <| (ht.vdmPop.emit.either <| ht.vdmPop.pdSend.either ht).either <|
        (ht.vdmPop.either <| ht.vdmPop.emit.either ht.vdmPop.stop.modPod.pdSend).either <| ht.either ht.vdmPop

theorem execAuthResult_meets (h : s.Meets I) : Res.Meets I (execAuthResult p s) := by
  unfold execAuthResult
  refine State.Meets.next ?_
  split
  next t e =>
    have ht : t.Meets I := h.vdmMeet.snd e
    split
    · exact ht
    · exact ht.either <| ht.vdmPop.modPod.either <| ht.vdmPop.authEnd.either ht.vdmPop

/-! ### Swaps -/

theorem State.Meets.swapOver (h : s.Meets I) : (s.swapOver p).Meets I := h.stopAll.modSwap.setSeq.amsEnd

theorem State.Meets.waitOver {w : WaitKind} (h : s.Meets I) : (s.waitOver p w).Meets I := h.stop.modPol.either h

theorem State.Meets.swapDone {k : SwapKind} {own : Bool} (h : s.Meets I) : (s.swapDone p k own).Meets I :=
  h.waitOver.finishAll.either (h.waitOver.modSwap.either h)

theorem State.Meets.swapFail {status : ℕ} (h : s.Meets I) : (s.swapFail p status).Meets I := by
  unfold State.swapFail
  exact ((((h.swapOver.waitOver.either h.swapOver.waitOver.modSwap.eventP).finishAll).eventP).start).either <|
    (h.swapOver.waitOver.either h.swapOver.waitOver.modSwap.eventP).finishAll

theorem State.Meets.swapSeq {k : SwapKind} (h : s.Meets I) : (s.swapSeq p k).Meets I := h.either h.setSeq

theorem State.Meets.swapAsk {k : SwapKind} (h : s.Meets I) : (s.swapAsk p k).Meets I := h.modSwap.swapSeq.say

theorem State.Meets.swapStart {k : SwapKind} (h : s.Meets I) : (s.swapStart p k).Meets I :=
  h.swapAsk.either h.modSwap

theorem State.Meets.swapServe {k : SwapKind} (h : s.Meets I) : (s.swapServe p k).Meets I := h.modSwap.swapSeq.say

theorem State.Meets.swapReject {k : SwapKind} (h : s.Meets I) : (s.swapReject p k).Meets I := h.say.eventP

theorem State.Meets.autoReturn (h : s.Meets I) : (s.autoReturn p).Meets I := h.swapAsk.either h

theorem State.Meets.toSink (h : s.Meets I) : (s.toSink p).Meets I := h.modCc.swapOver.modSwap.modPd.start

theorem State.Meets.askBf {why : ℕ} (h : s.Meets I) : (s.askBf p why).Meets I := h.modEf.either h

theorem State.Meets.prAccepted (h : s.Meets I) : (s.prAccepted p).Meets I := by
  unfold State.prAccepted
  dsimp only
  split
  · exact h.stop.modSwap.start
  · exact h.stop.openBf.modEf.modSwap.start
  · exact h.stop

theorem State.Meets.leaveSource (h : s.Meets I) : (s.leaveSource p).Meets I := h.openPath.closeSession.endContract

theorem State.Meets.presentRd (h : s.Meets I) : (s.presentRd p).Meets I := h.modCc

theorem State.Meets.swapS4 (h : s.Meets I) : (s.swapS4 p).Meets I := h.presentRd.modSwap.say

theorem State.Meets.swapToSink (h : s.Meets I) : (s.swapToSink p).Meets I :=
  (h.toSink.modSwap.eventP.askBf.either h.toSink.modSwap.eventP.autoReturn).swapDone

theorem State.Meets.swapT4 (h : s.Meets I) : (s.swapT4 p).Meets I := h.stop.modCc.modSwap.requestPath

theorem State.Meets.swapToSource (h : s.Meets I) : (s.swapToSource p).Meets I :=
  h.modCc.modPd.swapOver.modSwap.stopAll.toStartup.eventP.swapDone

theorem State.Meets.vcAccepted (h : s.Meets I) : (s.vcAccepted p).Meets I :=
  h.stop.modSwap.start.either (h.stop.modSwap.vconnApply.either h.stop.modSwap.sinkReset)

theorem State.Meets.vcDone (h : s.Meets I) : (s.vcDone p).Meets I :=
  ((h.swapOver.eventP.modPol.either h.swapOver.eventP).latchReneg).swapDone

theorem State.Meets.vcGiven (h : s.Meets I) : (s.vcGiven p).Meets I := h.stop.vconnOff.either h.stop.vconnOff.vcDone

theorem State.Meets.gotPrSwap (h : s.Meets I) : (s.gotPrSwap p).Meets I :=
  (h.swapServe.either h.swapReject).either (h.notSupported.either (h.swapServe.either h.swapReject))

theorem State.Meets.gotVconnSwap (h : s.Meets I) : (s.gotVconnSwap p).Meets I := h.swapServe.either h.swapReject

theorem State.Meets.gotGetSinkCap (h : s.Meets I) : (s.gotGetSinkCap p).Meets I := h.say.either h.notSupported

theorem State.Meets.withdraw (h : s.Meets I) : (s.withdraw p).Meets I := by
  unfold State.withdraw
  extract_lets +onlyGivenNames held s1
  have h1 : s1.Meets I := by
    unfold s1
    split
    · exact h.endTx.either h
    · exact h
  exact h1.stop.modSwap.setSeq

theorem roleSwapSpec_meets : roleSwapSpec.Meets I := fun _ _ h => h.swapStart

theorem vconnSwapSpec_meets : vconnSwapSpec.Meets I := fun _ _ h => h.swapStart

theorem execRoleSwap_meets {d : Desc} (h : s.Meets I) : Res.Meets I (execRoleSwap d s) :=
  (roleSwapSpec_meets.start h).next

theorem execVconnSwap_meets {d : Desc} (h : s.Meets I) : Res.Meets I (execVconnSwap d s) :=
  (vconnSwapSpec_meets.start h).next

theorem State.Meets.reevaluate (h : s.Meets I) : (s.reevaluate p).Meets I := by
  unfold State.reevaluate
  dsimp only
  split
  · exact h
  · split
    · split
      · exact h.modSwap.finish
      · split
        · exact h.modSwap.swapAsk
        · exact h.modSwap.finish
    · split
      · exact h.modSwap.finish
      · split
        · exact h.modSwap.swapAsk
        · exact h.modSwap.finish
    · exact h.modSwap

theorem State.Meets.gotWait {k : WaitKind} {giveUp : State → State} (h : s.Meets I) (hg : ∀ s, s.Meets I →
  (giveUp s).Meets I) :
    (s.gotWait p k giveUp).Meets I := by
  unfold State.gotWait
  exact (hg _ h.waitOver).either (h.amsEnd.either h.swapOver).modPol.start

theorem State.Meets.retryWait (h : s.Meets I) : (s.retryWait p).Meets I := by
  unfold State.retryWait
  dsimp only
  split
  · exact h
  · split
    · exact h
    · exact h.modSwap.say
    · exact h.either h.swapAsk
    · exact h.either h.swapAsk

theorem execArmedSetRecompute_meets (h : s.Meets I) : Res.Meets I (execArmedSetRecompute s) :=
  (h.forPorts fun _ _ h => h.modSwap.modWm).next

theorem State.Meets.holdupStart (h : s.Meets I) : (s.holdupStart p).Meets I :=
  h.flushTx.amsDrop.stopAll.modPd.modPod.modPol.setPoint.modCnv.modSwap.emit

theorem State.Meets.frProceed (h : s.Meets I) : (s.frProceed p).Meets I := h.presentRd.modSwap.say.either h

theorem State.Meets.frF3 (h : s.Meets I) : (s.frF3 p).Meets I := h.leaveSource.modSwap.start.askBf.frProceed

theorem execHoldupVbusLow_meets (h : s.Meets I) : Res.Meets I (execHoldupVbusLow p s) := (h.frF3.either h).next

theorem State.Meets.donorFail {why : ℕ} (h : s.Meets I) : (s.donorFail p why).Meets I := by
  unfold State.donorFail
  exact h.eventP.openBf.modEf.hrRequest.modSwap

theorem execTakeoverLimitExpiry_meets (h : s.Meets I) : Res.Meets I (execTakeoverLimitExpiry p s) := by
  unfold execTakeoverLimitExpiry
  exact (h.onExpiry fun _ h => h.donorFail).next

theorem execFrSwapSignalEnd_meets (h : s.Meets I) : Res.Meets I (execFrSwapSignalEnd p s) := (h.start.either h).next

theorem State.Meets.frNoMessage {sub : ℕ} (h : s.Meets I) : (s.frNoMessage p sub).Meets I :=
  ((((h.frF3.either h).presentRd).toSink).eventP).autoReturn

theorem execFrSwapWaitExpiry_meets (h : s.Meets I) : Res.Meets I (execFrSwapWaitExpiry p s) :=
  (h.onExpiry fun _ h => h.frNoMessage.either h).next

theorem State.Meets.gotFrSwap (h : s.Meets I) : (s.gotFrSwap p).Meets I := h.stop.modSwap.say

theorem execBackfeedClose_meets (h : s.Meets I) : Res.Meets I (execBackfeedClose p s) :=
  (h.either (h.closeBf.stop.modSwap.either h.closeBf.stop)).next

theorem execBfeedOnLevelReached_meets (h : s.Meets I) : Res.Meets I (execBfeedOnLevelReached p s) := by
  unfold execBfeedOnLevelReached
  exact (h.modEf.eventP.finishAll.either h).next

theorem State.Meets.bfOpened {c : BfCause} (h : s.Meets I) : (s.bfOpened p c).Meets I := by
  unfold State.bfOpened
  exact h.either (h.openBf.modEf.eventP.donorFail.either (h.openBf.modEf.eventP.start.either h.openBf.modEf.eventP))

theorem execBackfeedOpened_meets {cause : BfCause} (h : s.Meets I) : Res.Meets I (execBackfeedOpened p cause s) :=
  (h.either h.bfOpened).next

theorem execBackfeedReclose_meets (h : s.Meets I) : Res.Meets I (execBackfeedReclose p s) :=
  (h.onExpiry fun _ h => h.modEf.askBf.either h).next

theorem State.Meets.holdupEnd (h : s.Meets I) : s.holdupEnd.Meets I := h.frame.eventD.either h

theorem execReturnCriterion_meets (h : s.Meets I) : Res.Meets I (execReturnCriterion p s) := by
  unfold execReturnCriterion
  extract_lets +onlyGivenNames s1 q s2 s3
  have h1 : s1.Meets I := h.modSwap.holdupEnd
  have h3 : s3.Meets I := (h1.modSwap.requestPath.either h1.modSwap).either h1
  exact (h.either h3.hrH5.modSwap.autoReturn).next

theorem execHoldupReturnRetry_meets (h : s.Meets I) : Res.Meets I (execHoldupReturnRetry p s) :=
  (h.onExpiry fun _ h => h.autoReturn).next

theorem execGetSinkCapStart_meets (h : s.Meets I) : Res.Meets I (execGetSinkCapStart p s) :=
  (h.modSwap.say.either h).next

theorem State.Meets.gotSinkCap {m : PdMsg} (h : s.Meets I) : (s.gotSinkCap p m).Meets I := h.modSwap.stop.amsEnd

theorem vconnSetSpec_meets : vconnSetSpec.Meets I := fun _ _ h => h.vconnApply.either h.vconnOff

theorem execVconnSet_meets {d : Desc} (h : s.Meets I) : Res.Meets I (execVconnSet d s) :=
  (vconnSetSpec_meets.start h).next

theorem execVconnPinSettled_meets (h : s.Meets I) : Res.Meets I (execVconnPinSettled p s) :=
  State.Meets.next <| h.either <| h.modCc.say.either <| h.modCc.vcDone.either <|
    h.modCc.modPol.latchReneg.finishAll.either h.modCc.finishAll.detachDone

theorem backfeedSetSpec_meets : backfeedSetSpec.Meets I := fun _ _ h => h.bfOpened.finish.either h.stop.modEf

theorem execBackfeedSet_meets {d : Desc} (h : s.Meets I) : Res.Meets I (execBackfeedSet d s) :=
  (backfeedSetSpec_meets.start h).next

theorem execPsSourceOnExpiry_meets (h : s.Meets I) : Res.Meets I (execPsSourceOnExpiry p s) := by
  unfold execPsSourceOnExpiry
  refine State.Meets.next ?_
  refine h.onExpiry fun s h => ?_
  split
  · exact h.hrRequest
  · exact h.frNoMessage
  · exact h

theorem execPsSourceOffExpiry_meets (h : s.Meets I) : Res.Meets I (execPsSourceOffExpiry p s) :=
  (h.onExpiry fun _ h => h.hrRequest.either h).next

theorem execVconnSourceTimeoutExpiry_meets (h : s.Meets I) : Res.Meets I (execVconnSourceTimeoutExpiry p s) :=
  (h.onExpiry fun _ h => h.sinkReset.either h).next

theorem execPsTransitionExpiry_meets (h : s.Meets I) : Res.Meets I (execPsTransitionExpiry p s) :=
  (h.onExpiry fun _ h => h.sinkReset.either h).next

theorem execSinkWaitCapExpiry_meets (h : s.Meets I) : Res.Meets I (execSinkWaitCapExpiry p s) :=
  (h.onExpiry fun _ h => h.either (h.say.start.either h.hrRequest)).next

theorem execWaitSpacingExpiry_meets (h : s.Meets I) : Res.Meets I (execWaitSpacingExpiry p s) :=
  (h.onExpiry fun _ h => h.retryWait).next

theorem State.Meets.sinkCaps {m : PdMsg} (h : s.Meets I) : (s.sinkCaps p m).Meets I := h.stop.waitOver.modSwap.say

theorem State.Meets.sinkReady (h : s.Meets I) : (s.sinkReady p).Meets I := h.stop.modSwap.amsEnd.waitOver.eventP

theorem State.Meets.snkAnswered (h : s.Meets I) : (s.snkAnswered p).Meets I := h.modSwap

theorem State.Meets.gotInSink {m : PdMsg} (h : s.Meets I) : (s.gotInSink p m).Meets I := by
  unfold State.gotInSink
  exact (h.stop.modSwap.amsEnd.start.either h.sinkLost).either <| h.sinkCaps.either <| h.snkAnswered.start.either <|
    (h.sinkReady.either h.odd).either <| h.snkAnswered.waitOver.amsEnd.either <|
    (h.snkAnswered.gotWait fun _ h => h.amsEnd).either <| h.gotGetSinkCap.either <| h.gotPrSwap.either <|
    h.gotVconnSwap.either <| h.say.start.either <| h.amsEnd.either <| h.gotElse

theorem State.Meets.gotInSwap {m : PdMsg} (h : s.Meets I) : (s.gotInSwap p m).Meets I := by
  unfold State.gotInSwap
  exact (h.withdraw.gotVconnSwap.either h.withdraw.gotPrSwap).either <| (h.vcAccepted.either h.prAccepted).either <|
    h.swapFail.either <| h.swapFail.either <| (h.stop.gotWait fun _ h => h.swapFail).either <| h.gotFrSwap.either <|
    (h.stop.swapToSink.either (h.swapT4.either (h.vcGiven.either (h.stop.swapToSink.either h.odd)))).either <|
    h.gotGetSinkCap.either <| h.odd.either <| h.odd

theorem State.Meets.swapOutcome {m : PdMsg} {o : TxOutcome} (h : s.Meets I) : (s.swapOutcome p m o).Meets I := by
  unfold State.swapOutcome
  dsimp only
  split
  · exact h.modSwap.setSeq.either h
  · split
    · exact h.swapFail.either ((h.start.either h).either h.odd)
    · split
      · exact h
      · split
        · exact h.modSwap.start
        · split
          · split
            · exact h.vcAccepted
            · exact h.modSwap.frProceed
            · exact h
            · exact h.prAccepted
          · split
            · split
              · exact h.modSwap.start
              · exact h.start
              · exact h.swapToSource
              · exact h.vcDone
              · exact h
            · exact h

/-! ### Policy -/

theorem State.Meets.cableDone (h : s.Meets I) : (s.cableDone p).Meets I := h.stopAll.amsEnd.toSendCaps

theorem State.Meets.eprRefuse {code : ℕ} (h : s.Meets I) : (s.eprRefuse p code).Meets I := h.stop.modPol.say.eventP

theorem State.Meets.eprCableFail (h : s.Meets I) : (s.eprCableFail p).Meets I := h.eprRefuse

theorem State.Meets.cableSend (h : s.Meets I) : (s.cableSend p).Meets I :=
  h.say.either (h.say.modPol.cableDone.either (h.say.eprCableFail.either h.say.modPol.amsEnd))

theorem State.Meets.cableAgain (h : s.Meets I) : (s.cableAgain p).Meets I :=
  h.cableDone.either h.modPol.amsEnd.cableSend

theorem State.Meets.cableTake {m : PdMsg} (h : s.Meets I) : (s.cableTake p m).Meets I := by
  unfold State.cableTake
  dsimp only
  split
  · exact h
  · exact h.modPol.modPd.either h.modPol.modPd.latchReneg

theorem State.Meets.eprChecked (h : s.Meets I) : (s.eprChecked p).Meets I := by
  unfold State.eprChecked
  dsimp only
  split
  · exact h.modPol.say
  · exact h.eprRefuse

theorem State.Meets.gotCable {m : PdMsg} (h : s.Meets I) : (s.gotCable p m).Meets I := by
  unfold State.gotCable
  extract_lets +onlyGivenNames q isId s1 s2
  have h1 : s1.Meets I := h.stop
  have h2 : s2.Meets I := h1.modPol.amsEnd
  exact (h1.cableTake.modPod.cableDone.either <| (h1.cableDone.either h1.start).either <|
    h1.cableDone.either h1).either <|
    (h1.cableTake.eprChecked.either h1.eprCableFail).either <| (h2.cableTake.either h2).either h

theorem State.Meets.cableSilent (h : s.Meets I) : (s.cableSilent p).Meets I :=
  h.cableAgain.either (h.eprCableFail.either h.modPol.amsEnd)

theorem State.Meets.cableOutcome {o : TxOutcome} (h : s.Meets I) : (s.cableOutcome p o).Meets I := by
  unfold State.cableOutcome
  split
  · exact h.start
  · exact h.modPol.either h.cableSilent
  · exact h.cableSilent
  · exact h.cableSilent
  · exact h

theorem State.Meets.cableDue (h : s.Meets I) : (s.cableDue p).Meets I := h.modPol.cableSend.either h

theorem execCableDiscTimeout_meets (h : s.Meets I) : Res.Meets I (execCableDiscTimeout p s) :=
  (h.onExpiry fun _ h => h.cableDone.either h).next

theorem execCableRediscovery_meets (h : s.Meets I) : Res.Meets I (execCableRediscovery p s) :=
  (h.onExpiry fun _ h => h.either (h.start.modPol.cableSend.either h.start)).next

theorem State.Meets.evalReq {m : PdMsg} (h : s.Meets I) : (s.evalReq p m).Meets I := by
  unfold State.evalReq
  extract_lets +onlyGivenNames r s1
  have h1 : s1.Meets I := h.stop.setSeq
  split
  · extract_lets +onlyGivenNames s2 s3 s4
    have h3 : s3.Meets I := (h1.eventP.either h1).modPol
    exact (h3.start.either h3).say
  · exact h1.modPol.say.eventP

theorem State.Meets.accepted {c : Contract} (h : s.Meets I) : (s.accepted p c).Meets I := by
  unfold State.accepted
  extract_lets +onlyGivenNames f held s1 s2 s3 lim s4
  have h1 : s1.Meets I := h.endTrim
  have h3 : s3.Meets I := (h1.modCnv.either h1).modPol
  exact (h3.setILim.either h3).start.start

theorem State.Meets.rejected (h : s.Meets I) : (s.rejected p).Meets I :=
  h.toReady.either (h.hrRequest.either h.setSeq.start)

theorem State.Meets.established {c : Contract} (h : s.Meets I) : (s.established p c).Meets I := by
  unfold State.established
  extract_lets +onlyGivenNames x f fresh w s1 s2 sub v s3 s4 s5 s6 s7
  have h2 : s2.Meets I := h.modPol.setILim.modPd
  have h4 : s4.Meets I := h2.modPol.openSession.eventP
  have h5 : s5.Meets I := (h4.modPol.start.either h4).either h2.eventP
  have h6 : s6.Meets I := h5.sesContract
  exact (h6.start.either h6.stop).toReady

theorem execSrcTransitionExpiry_meets (h : s.Meets I) : Res.Meets I (execSrcTransitionExpiry p s) := by
  unfold execSrcTransitionExpiry
  dsimp only
  refine State.Meets.next ?_
  refine h.onExpiry fun s h => ?_
  split
  · exact h.setPointSlew
  · exact h.leaveSource.modSwap.either h
  · exact h

theorem execTransitionLimitExpiry_meets (h : s.Meets I) : Res.Meets I (execTransitionLimitExpiry p s) :=
  (h.onExpiry fun _ h => h.modPol.eventP.hrRequest.either h).next

theorem State.Meets.eprEnter (h : s.Meets I) : (s.eprEnter p).Meets I := by
  unfold State.eprEnter
  dsimp only
  split
  · exact h.eprRefuse
  · exact h.modPol.say

theorem State.Meets.eprEntered (h : s.Meets I) : (s.eprEntered p).Meets I := h.modPol.eventP.start.stop.toSendCaps

theorem State.Meets.eprCheck (h : s.Meets I) : (s.eprCheck p).Meets I := h.toSendCaps.either h

theorem State.Meets.gotSoftReset (h : s.Meets I) : (s.gotSoftReset p).Meets I := h.amsDrop.modPol.say

theorem State.Meets.gotNotSupported {m : PdMsg} (h : s.Meets I) : (s.gotNotSupported p m).Meets I := by
  unfold State.gotNotSupported
  exact h.modPod.amsEnd.noIdentity.either (h.fleetFail.either (h.stop.amsEnd.either
    (h.securityResponse.either h.amsEnd)))

theorem State.Meets.gotBist {m : PdMsg} (h : s.Meets I) : (s.gotBist p m).Meets I :=
  h.amsEnd.either (h.amsEnd.emit.either (h.amsEnd.modPd.either h.amsEnd))

theorem State.Meets.gotInReady {m : PdMsg} (h : s.Meets I) : (s.gotInReady p m).Meets I := by
  unfold State.gotInReady
  exact h.evalReq.either <| h.toSendCaps.either <| (h.eprEnter.either (h.endEpr.toSendCaps.either h.odd)).either <|
    (h.say.either h.odd).either <| h.say.either <| h.gotGetSinkCap.either <| h.gotPrSwap.either <|
    h.gotVconnSwap.either <| h.gotSinkCap.either <| h.gotNotSupported.either <| h.stop.amsEnd.either <|
    h.odd.either <| h.odd

theorem State.Meets.gotSide {m : PdMsg} (h : s.Meets I) (e : s.gotSide p m = some t) : t.Meets I := by
  unfold State.gotSide at e
  dsimp only at e
  split at e
  · cases e; exact h.gotBist
  · split at e
    · cases e; exact h.vdmGot
    · split at e
      · cases e; exact h.securityResponse
      · split at e
        · cases e; exact h.vdmDiscard.getD fun _ => h.toCores
        · cases e

theorem State.Meets.gotSop {m : PdMsg} (h : s.Meets I) : (s.gotSop p m).Meets I := by
  unfold State.gotSop
  extract_lets +onlyGivenNames s1 q s2
  have h1 : s1.Meets I := h.modPol
  have h2 : s2.Meets I := h1.start.either h1
  split
  · exact h2.amsEnd
  · split
    · exact h2.modSwap
    · split
      · exact h2
      · exact h2
      · exact h2
      · exact h2
      · split
        next t e => exact h2.gotSide e
        · extract_lets +onlyGivenNames soft
          split
          · exact h2.swapReject
          · split
            · exact h2.gotSoftReset.either (h2.stop.evalReq.either h2.gotElse)
            · exact h2.gotSoftReset.either (h2.evalReq.either h2.gotElse)
            · exact h2.gotSoftReset.either h2.gotElse
            · exact h2.gotSoftReset.either h2.gotElse
            · exact h2.gotElse
            · exact h2.gotSoftReset.either h2.gotInReady
            · exact h2.gotSoftReset.either (h2.stop.amsEnd.toSendCaps.either h2.odd)
            · exact h2.gotInSwap
            · exact h2.gotInSwap.either h2.gotInSink
            · exact h2

theorem State.Meets.gotService {m : PdMsg} (h : s.Meets I) : (s.gotService p m).Meets I :=
  (h.amsEnd.vdmDiscard.getD fun _ => h.amsEnd.toCores).either h.amsEnd

theorem State.Meets.dropped {m : PdMsg} {early : Bool} (h : s.Meets I) : (s.dropped p m early).Meets I := by
  unfold State.dropped
  dsimp only
  split
  · exact h.modPol.start.either (h.modPol.setSeq.either h.modPol)
  · exact h.swapOutcome
  · exact h.swapOutcome.either ((h.fleetExited.either (h.modPod.either h.modPod)).either (h.modSwap.either h))

theorem State.Meets.capsOutcome {o : TxOutcome} (h : s.Meets I) : (s.capsOutcome p o).Meets I := by
  unfold State.capsOutcome
  dsimp only
  split
  · exact h.modPol.start.foldl fun _ _ h => h.finish
  · exact h.hrRequest.either (h.start.either h.toNoPd)
  · exact h.hrRequest.either (h.start.either h.toNoPd)
  · exact h

theorem State.Meets.readyAcked {m : PdMsg} (h : s.Meets I) : (s.readyAcked p m).Meets I :=
  (h.fleetExited.either (h.start.either h.start)).either (h.start.either (h.amsEnd.toSendCaps.either h.amsEnd))

theorem State.Meets.outcome {m : PdMsg} {o : TxOutcome} (h : s.Meets I) : (s.outcome p m o).Meets I := by
  unfold State.outcome
  extract_lets +onlyGivenNames q
  have hcaps : ((s.amsEnd p).toSendCaps p true).Meets I := h.amsEnd.toSendCaps
  refine h.cableOutcome.either <| h.either <| h.dropped.either <| (h.softReset.either h).either ?_
  cases q.pol.seq with
  | sendCaps => exact h.capsOutcome.either <| hcaps.either <| h.odd.either h
  | waitRequest => exact hcaps.either <| h.odd.either h
  | negotiate =>
    refine State.Meets.either (State.Meets.either ?_ (h.rejected.either h)) (h.odd.either h)
    split
    · exact h.accepted
    · exact hcaps
  | transition =>
    refine State.Meets.either (State.Meets.either ?_ (h.hrRequest.either h)) h
    split
    · exact h.established
    · exact h
  | ready => exact h.readyAcked.either <| h.odd.either h
  | eprEntry =>
    exact (hcaps.either <| h.either <| h.modPol.cableSend.either <| h.eprEntered.either h).either <| h.odd.either h
  | softReset => exact (h.start.either <| hcaps.either h).either <| h.hrRequest.either h
  | swap => exact h.swapOutcome
  | sink =>
    exact h.swapOutcome.either <| (h.fleetExited.either <| h.start.either <| h.either h.amsEnd).either <|
      (h.sinkLost.either h.odd).either h
  | _ => exact h

theorem State.Meets.note {n : PdNote} (h : s.Meets I) : (s.note p n).Meets I := by
  unfold State.note
  split
  · exact h.fleetExited.either h.amsDone
  · exact h.outcome
  · exact h.fleetExited.either h
  · exact h.cableOutcome.either h.dropped
  · exact h.gotService.either (h.gotSop.either h.gotCable)
  · exact h.odd
  · exact h.odd

theorem State.Meets.idleWork (h : s.Meets I) : (s.idleWork p).Meets I :=
  h.reevaluate.retryWait.autoReturn.eprCheck.cableDue

theorem State.Meets.settle {l : List PdNote} (h : s.Meets I) : (s.settle p l).Meets I :=
  (((h.foldl fun _ _ h => h.note).admitTx).nextTx).idleWork

theorem State.Meets.takePin {pin : Pin} {k : Sopx} (h : s.Meets I) : (s.takePin p pin k).Meets I := h.modCc.either h

theorem execPdMessageReceived_meets {pin : Pin} {f : PdFrame} (h : s.Meets I) (hI : I.Open) :
    Res.Meets I (execPdMessageReceived p pin f s) := by
  unfold execPdMessageReceived
  dsimp only
  refine State.Meets.next ?_
  split
  · exact h
  · exact h.either (h.badFrame.either (h.takePin.either (((h.takePin.pdTake hI).modPd (by intro _; split <;> rfl) (fun _ k => by split <;> exact k) |>.either (h.takePin.pdTake hI)).settle)))

theorem execChannelIdle_meets (h : s.Meets I) : Res.Meets I (execChannelIdle p s) :=
  (h.startFrame.either h.startFrame.settle).next

theorem execGoodcrcReceived_meets {sopx : Sopx} {id : BitVec 3} (h : s.Meets I) :
    Res.Meets I (execGoodcrcReceived p sopx id s) :=
  h.onGoodCrc.settle.next

theorem execTreceiveExpiry_meets (h : s.Meets I) : Res.Meets I (execTreceiveExpiry p s) :=
  (h.onExpiry fun _ h => h.onTReceive.settle).next

theorem execChunkTimerExpiry_meets (h : s.Meets I) : Res.Meets I (execChunkTimerExpiry p s) := by
  unfold execChunkTimerExpiry
  dsimp only
  refine State.Meets.next ?_
  split
  · exact h.stop.modPd.settle.either h.stop
  · refine h.onExpiry fun s h => ?_
    split
    · exact h.endTx.settle.either h
    · exact h

theorem execPdtxMessage_meets {m : PdMsg} {prod : PdProd} (h : s.Meets I) :
    Res.Meets I (execPdtxMessage p m prod s) :=
  h.pdSend.next

theorem execSopOrderedSetRecognised_meets {x : SopSeen} (h : s.Meets I) :
    Res.Meets I (execSopOrderedSetRecognised x s) :=
  ((h.dropFirst.foldl fun _ _ h => h.note).either h).next

theorem execSendSourceCapExpiry_meets (h : s.Meets I) : Res.Meets I (execSendSourceCapExpiry p s) :=
  (h.onExpiry fun _ h => h.sendCaps.either h).next

theorem execSenderResponseExpiry_meets (h : s.Meets I) : Res.Meets I (execSenderResponseExpiry p s) := by
  unfold execSenderResponseExpiry
  dsimp only
  refine State.Meets.next ?_
  refine h.onExpiry fun s h => ?_
  split
  · exact h.hrRequest
  · exact h.hrRequest
  · exact h.swapFail.idleWork.either h
  · exact h.amsEnd.idleWork
  · exact h.sinkLost.either (h.swapFail.idleWork.either h.amsEnd)
  · exact h

theorem execPpsTimeoutExpiry_meets (h : s.Meets I) : Res.Meets I (execPpsTimeoutExpiry p s) :=
  (h.onExpiry fun _ h => h.eventP.hrRequest.either h).next

theorem execEprKeepAliveExpiry_meets (h : s.Meets I) : Res.Meets I (execEprKeepAliveExpiry p s) :=
  (h.onExpiry fun _ h => h.eventP.hrRequest.either h).next

theorem execVdmResponseTimeout_meets (h : s.Meets I) : Res.Meets I (execVdmResponseTimeout p s) :=
  (h.onExpiry fun _ h => h.cableSilent.either (h.discSilent.either (h.fleetFail.either h))).next

theorem execVdmBusyExpiry_meets (h : s.Meets I) : Res.Meets I (execVdmBusyExpiry p s) :=
  (h.onExpiry fun _ h => h.cableAgain.either (h.discSend.either h)).next

theorem execDiscoverIdentityStart_meets (h : s.Meets I) : Res.Meets I (execDiscoverIdentityStart p s) :=
  (h.discSend.either h).next

theorem execAllocationRound_meets (h : s.Meets I) : Res.Meets I (execAllocationRound s) :=
  (h.round.forPorts fun _ _ h => h.sendCaps.either h).next

theorem execRenegotiationCaps_meets (h : s.Meets I) : Res.Meets I (execRenegotiationCaps p s) :=
  (h.toSendCaps.either h).next

theorem State.Meets.shedBudget {n : ℕ} (h : s.Meets I) : (State.shedBudget n s).Meets I := by
  induction n generalizing s with
  | zero => exact h
  | succ n ih =>
    unfold State.shedBudget
    split
    · exact h
    · split
      · exact h
      · exact ih h.hrRequest

theorem execBudgetHardResetExpiry_meets (h : s.Meets I) : Res.Meets I (execBudgetHardResetExpiry s) :=
  (h.frame.shedBudget.either h).next

theorem execConnectorTempRead_meets {deciC : ℤ} (h : s.Meets I) : Res.Meets I (execConnectorTempRead p deciC s) :=
  (h.modPol.modMtr.modPol.latchReneg.either h.modPol.modMtr).next

theorem renegotiateSpec_meets : renegotiateSpec.Meets I := fun _ _ h => h.latchReneg

theorem execRenegotiate_meets {d : Desc} (h : s.Meets I) : Res.Meets I (execRenegotiate d s) :=
  (renegotiateSpec_meets.start h).next

/-! ### Trips -/

theorem State.Meets.detachRecord {st : PortSt} (h : s.Meets I) : (s.detachRecord p st).Meets I := h.eventP.modMtr

theorem State.Meets.presentWin (h : s.Meets I) : (s.presentWin p).Meets I := h.modCc (by intro _; split <;> exact ⟨rfl, rfl⟩)

theorem State.Meets.enterHold {st : PortSt} (h : s.Meets I) : (s.enterHold p st).Meets I := by
  unfold State.enterHold
  extract_lets +onlyGivenNames gone s1 s2 s3 s4
  have h3 : s3.Meets I := h.pdStop.modEf.modCc.modSwap.start
  have h4 : s4.Meets I := h3.detachRecord.either h3
  exact h4.presentWin.either h4

theorem State.Meets.gateRecord {sub mv : ℕ} (h : s.Meets I) : (s.gateRecord p sub mv).Meets I := h.eventP

theorem State.Meets.pathLost {r : EndReason} {hold : Bool} (h : s.Meets I) : (s.pathLost p r hold).Meets I := by
  unfold State.pathLost
  extract_lets +onlyGivenNames q
  cases q.cc.st with
  | attachedSrc | attachedSnk =>
    have h1 : (s.closeSession p r).Meets I := h.closeSession
    refine State.Meets.modSwap (State.Meets.either (h1.hrRequest.either <| h1.hrH3.either h1) ?_)
    exact h1.endContract.dropPartnerWork.stopAll.modPol.hrH3
  | debugAcc => exact h.modSwap.either h.modEf
  | attachWait => exact h.modEf
  | _ => exact h

theorem State.Meets.tripAway {st : PortSt} {r : EndReason} (h : s.Meets I) : (s.tripAway p st r).Meets I := by
  unfold State.tripAway
  exact h.closeSession.hrStart.vconnOff.modPd.either h.closeSession.seqOff.vconnOff.endPort.enterHold

theorem State.Meets.laterCause {x : TripSt} {c : TripCause} (h : s.Meets I) : (s.laterCause p x c).Meets I :=
  (h.modEf.gateRecord.either h.modEf.gateRecord.tripAway).either h

theorem State.Meets.trip {c : TripCause} {mon : Option ℕ} {also : List TripCause} (h : s.Meets I) :
    (s.trip p c mon also).Meets I := by
  unfold State.trip
  dsimp -zeta only
  extract_lets +onlyGivenNames q l gate counted donor dest e s1 s2 s3 s4
  have h1 : s1.Meets I := h.modEf.openPath
  have h2 : s2.Meets I := h1.start.either h1
  have h4 : s4.Meets I := h2.event.gateRecord.either h2.event
  cases q.ef.tripping with
  | some t => exact h.laterCause
  | none =>
    refine h.either <| h4.frF3.either ?_
    cases dest with
    | none => exact h4.pathLost.vconnOff.endPort
    | some st => exact h4.tripAway

theorem State.Meets.fullAction {m : Fin 32} {also : List TripCause} (h : s.Meets I) :
    (s.fullAction p m also).Meets I := by
  unfold State.fullAction
  dsimp only
  split
  · split
    · exact h.modWm.trip
    · exact h.modWm
  · split
    · exact h.modWm.trip
    · exact h.modWm
  · split
    · exact h.modWm.trip
    · exact h.modWm
  · exact h.modWm.bfOpened
  · exact h.modWm.pathTo
  · exact h.modWm

theorem State.Meets.armedActs (h : s.Meets I) : (s.armedActs p).Meets I := by
  unfold State.armedActs
  dsimp only
  split
  · exact h
  · split
    · exact h.fullAction
    · exact h

theorem State.Meets.latchPort {code : ℕ} (h : s.Meets I) : (s.latchPort p code).Meets I :=
  h.openPath.modEf.enterHold.either (h.openPath.modEf.either h.openPath.modEf.tripAway)

theorem State.Meets.tripSignalled (h : s.Meets I) : (s.tripSignalled p).Meets I := by
  unfold State.tripSignalled
  split
  · exact h.seqOff.endPort.enterHold.either h
  · exact h.seqOff.endPort.enterHold.either h

theorem execHardResetSignallingEnd_meets (h : s.Meets I) : Res.Meets I (execHardResetSignallingEnd p s) :=
  (h.emit.hrRecord.hrWait.tripSignalled.either h).next

theorem execHardResetReceived_meets (h : s.Meets I) : Res.Meets I (execHardResetReceived p s) :=
  (h.either (h.hrRecord.hrWait.tripSignalled.either (h.pdClear.eventP.either h.hrStart.hrRecord.hrWait))).next

theorem State.Meets.startUp (h : s.Meets I) : (s.startUp p).Meets I := h.cnvStart.setILim

theorem State.Meets.vconnStart (h : s.Meets I) : (s.vconnStart p).Meets I := h.vconnApply.either h

theorem execGateRiseComplete_meets (h : s.Meets I) : Res.Meets I (execGateRiseComplete p s) := by
  unfold execGateRiseComplete
  dsimp only
  refine State.Meets.next ?_
  split
  · exact h
  · split
    · exact h.pathTo.modEf.vconnStart.startUp.modCc.modPd.modPol.toStartup.eventP
    · exact h.pathTo.modEf.vconnStart.startUp.modCc.modPd.modPol.toStartup.eventP
    · exact h.pathTo.modEf.vconnStart.startUp.modSwap.toStartup.modSwap.either h.pathTo.modEf.vconnStart.startUp.modSwap
    · exact h.pathTo.modEf.startUp

theorem execGateRiseTimeout_meets {mv : ℕ} (h : s.Meets I) : Res.Meets I (execGateRiseTimeout p mv s) :=
  (h.openPath.gateRecord.latchPort.either h).next

theorem execInrushTimeout_meets (h : s.Meets I) : Res.Meets I (execInrushTimeout p s) := (h.trip.either h).next

theorem execSoftstartTimeout_meets (h : s.Meets I) : Res.Meets I (execSoftstartTimeout p s) :=
  (h.trip.either h).next

theorem State.Meets.softEnd (h : s.Meets I) : (s.softEnd p).Meets I := by
  unfold State.softEnd
  exact h.modEf.setILim.modWm

theorem execVbusInBand_meets {mv : ℕ} (h : s.Meets I) : Res.Meets I (execVbusInBand p mv s) := by
  unfold execVbusInBand
  refine State.Meets.next ?_
  extract_lets +onlyGivenNames s1 mv safe s2 q
  have h1 : s1.Meets I := h.seeVbus
  have h2 : s2.Meets I := h1.softEnd.either h1
  split
  · exact h2.either (h2.modPol.start.cableSend.either h2.toSendCaps)
  · exact h2.modSwap.toNoPd.either h2
  · split
    · exact h2.stop.say.either h2
    · exact h2
  · exact h2.modSwap.say.either h2
  · exact h2

theorem State.Meets.portResetDone {status : ℕ} (h : s.Meets I) : (s.portResetDone p status).Meets I :=
  h.foldl fun _ _ h => h.eventP.finish

theorem State.Meets.atSafe0 (h : s.Meets I) : (s.atSafe0 p).Meets I := by
  unfold State.atSafe0
  extract_lets +onlyGivenNames q s1 s2
  have h1 : s1.Meets I := (h.vconnOff.seqOff.endPort.enterHold.either h.hrH4).either h
  exact (h1.swapS4.either h1).presentWin.finishAll.detachDone.portResetDone.tryPath

theorem execVsafe0vProven_meets (h : s.Meets I) : Res.Meets I (execVsafe0vProven p s) := by
  unfold execVsafe0vProven
  dsimp only
  refine State.Meets.next ?_
  split
  · exact h.modEf.pathTo.armedActs.either h.modEf
  · exact h.modEf.pathTo.modEf.atSafe0
  · exact h.modEf.atSafe0.either h.modEf.finishAll.portResetDone
  · exact h.modEf

theorem execPassFetShorted_meets (h : s.Meets I) : Res.Meets I (execPassFetShorted p s) := by
  unfold execPassFetShorted
  dsimp only
  refine State.Meets.next ?_
  split
  · exact h
  · split
    · exact h.eventP.modEf.either h.eventP.latchPort
    · exact h.eventP.latchPort

/-! ### Attach and detach -/

theorem State.Meets.newAttach (h : s.Meets I) : (s.newAttach p).Meets I := by
  unfold State.newAttach
  exact h.modCc.modPod.modPol.modSwap.modEf.modMtr

theorem State.Meets.toAttachWait (h : s.Meets I) : (s.toAttachWait p).Meets I := h.newAttach.modCc

theorem execCcAttachDetected_meets (h : s.Meets I) : Res.Meets I (execCcAttachDetected p s) :=
  (h.either (h.toAttachWait.either (h.newAttach.either h))).next

theorem State.Meets.classRecord {cause : ℕ} (h : s.Meets I) : (s.classRecord p cause).Meets I := h.eventP

theorem State.Meets.toWet {st : PortSt} (h : s.Meets I) : (s.toWet p st).Meets I :=
  h.modCc.modEf.start.either h.modCc.modEf.start.classRecord

theorem State.Meets.toDebugAcc (h : s.Meets I) : (s.toDebugAcc p).Meets I :=
  h.modCc.eventP.modPd.requestPath.either h.modCc.eventP.modPd

theorem State.Meets.toAudioAcc (h : s.Meets I) : (s.toAudioAcc p).Meets I := h.modCc.eventP

theorem State.Meets.verdictHeld (h : s.Meets I) : (s.verdictHeld p).Meets I := by
  unfold State.verdictHeld
  dsimp only
  split
  · exact h
  · split
    · split
      · exact h.requestPath.either h
      · exact h.toDebugAcc
      · exact h.toAudioAcc
      · exact h
    · exact (h.modCc.either h.modCc.modCc.eventP).either h

theorem State.Meets.cableWin (h : s.Meets I) : (s.cableWin p).Meets I := h.modCc (by intro _; split <;> exact ⟨rfl, rfl⟩)

/-- The end of a window: its classes, medians, and no window. -/
def CcState.classed (c : CcState) : CcState :=
  { c with cls1 := classify c.smp1, cls2 := classify c.smp2, med1 := median10 c.smp1, med2 := median10 c.smp2, win := none
           smp1 := [], smp2 := [] }

/-- What follows a window's end keeps what its classes meet. -/
theorem State.Meets.windowEnd_of (h1 : (s.modCc p CcState.classed).Meets I) : (s.windowEnd p).Meets I := by
  unfold State.windowEnd
  extract_lets +onlyGivenNames c k1 k2 v s1 named
  have hnamed : ∀ c, (named c).cls1 = c.cls1 ∧ (named c).cls2 = c.cls2 := fun c => by
    show ((if v = .sink then _ else _ : CcState)).cls1 = _ ∧ ((if v = .sink then _ else _ : CcState)).cls2 = _
    split <;> exact ⟨rfl, rfl⟩
  change s1.Meets I at h1
  clear_value v named
  cases c.st with
  | attachWait =>
    dsimp only
    split
    · exact h1.toWet
    · exact h1.toWet
    · exact (h1.modCc hnamed).verdictHeld
  | unattached =>
    dsimp only
    split
    · exact h1.toWet
    · exact h1.toWet
    · exact h1.modCc.either h1.cableWin
    · exact h1.cableWin
  | wet | foreign =>
    dsimp only
    split
    · exact h1.toWet
    · exact h1.toWet
    · exact h1.modCc.either h1.classRecord.toUnattached
  | holdoff | faultLatched => exact (h1.modCc hnamed).verdictHeld.either <| h1.modCc.either h1.cableWin
  | _ => exact h1

theorem State.Meets.windowEnd (h : s.Meets I) (hI : I.Open) : (s.windowEnd p).Meets I := (h.gauged hI).windowEnd_of

theorem execProbeSample_meets {r1 r2 : Option ℕ} (h : s.Meets I) (hI : I.Open) : Res.Meets I (execProbeSample p r1 r2 s) :=
  (h.either (h.modCc.either ((h.modCc.windowEnd hI).either h.modCc))).next

theorem execReprobeExpiry_meets (h : s.Meets I) : Res.Meets I (execReprobeExpiry p s) := by
  refine State.Meets.next (h.onExpiry fun s h => ?_)
  extract_lets c begin
  have hbegin {w : WinOccasion} : (begin w).Meets I := (h.modCc.either h).start
  split
  · exact hbegin
  · exact hbegin
  · exact hbegin.either h.start
  · exact hbegin.either h.start
  · exact hbegin.either h.start
  · exact h

theorem CcState.report_classes (c : CcState) (pin : Pin) (rep : CcRep) (b : Bool) :
    (c.report pin rep b).cls1 = c.cls1 ∧ (c.report pin rep b).cls2 = c.cls2 := by
  unfold CcState.report
  cases pin <;> (dsimp only; split <;> exact ⟨rfl, rfl⟩)

theorem execCcReportChange_meets {pin : Pin} {r : CcReport} (h : s.Meets I) :
    Res.Meets I (execCcReportChange p pin r s) :=
  (h.modCc (CcState.report_classes · _ _ _)).next

theorem State.Meets.detach (h : s.Meets I) : (s.detach p).Meets I := by
  unfold State.detach
  extract_lets +onlyGivenNames q st s1 s2 s3
  have h1 : s1.Meets I := h.eventP.either h
  have h2 : s2.Meets I := h1.modEf.pathTo.either h1.openPath
  have h3 : s3.Meets I := h2.pathTo.either h2
  exact h3.vconnOff.detachRecord.closeSession.endPort.seqOff.pdStop.stopAll.modCnv.modEf.modSwap.modPol.modCc.detachDone

theorem State.Meets.holdDetach {note : Bool} (h : s.Meets I) : (s.holdDetach p note).Meets I := by
  unfold State.holdDetach
  exact ((h.detachRecord.either h).modPol).modCc

theorem execTpdDebounceExpiry_meets {onVbus : Bool} (h : s.Meets I) :
    Res.Meets I (execTpdDebounceExpiry p onVbus s) := by
  unfold execTpdDebounceExpiry
  dsimp only
  refine State.Meets.next ?_
  split
  · exact h
  · split
    · exact h.detach.either h
    · split
      · exact h.modCc.either h
      · split
        · exact (h.detach.either h).either (h.toUnattached.either h)
        · exact h.detach.either h
        · exact h.detach.either h
        · exact (h.holdDetach.either h).either ((h.holdDetach.either h).either (h.holdDetach.either h))
        · exact (h.holdDetach.either h).either ((h.holdDetach.either h).either (h.holdDetach.either h))
        · exact h

theorem execTccDebounceExpiry_meets (h : s.Meets I) : Res.Meets I (execTccDebounceExpiry p s) := by
  unfold execTccDebounceExpiry
  dsimp only
  refine State.Meets.next ?_
  split
  · exact h.modCc.cableWin
  · exact h.modCc.verdictHeld
  · exact h.modCc.detach.either h.modCc
  · exact h.modCc.holdDetach.either (h.modCc.cableWin.either h.modCc.verdictHeld)
  · exact h.modCc.holdDetach.either (h.modCc.cableWin.either h.modCc.verdictHeld)
  · exact h.modCc

theorem State.Meets.holdOver (h : s.Meets I) : (s.holdOver p).Meets I := by
  unfold State.holdOver
  dsimp only
  split
  · exact h.toWet
  · exact h.toWet
  · exact h.modCc.requestPath
  · exact h.modCc.toDebugAcc
  · exact h.modCc.toAudioAcc
  · exact h.toUnattached.toAttachWait.either h.toUnattached

theorem execHoldoffExpiry_meets (h : s.Meets I) : Res.Meets I (execHoldoffExpiry p s) := by
  unfold execHoldoffExpiry
  refine State.Meets.next ?_
  extract_lets e next
  have hnext {t : State} (ht : t.Meets I) : (next t).Meets I := ht.either (ht.holdOver.either ht.tryPath)
  exact (hnext h.stop.modEf).either ((hnext h.modEf).either h)

theorem execVconnFault_meets {why ma : ℕ} (h : s.Meets I) : Res.Meets I (execVconnFault p why ma s) := by
  unfold execVconnFault
  dsimp only
  refine State.Meets.next ?_
  split
  · exact h
  · exact h.vconnOff.modCc.eventP.latchReneg.finishAll.sinkReset.either h.vconnOff.modCc.eventP.latchReneg.finishAll.idleWork

/-! ### Crossings of the monitors -/

theorem State.Meets.holdupActive (h : s.Meets I) : s.holdupActive.Meets I := h.either h.frame.eventD

theorem State.Meets.wm5Crossed (h : s.Meets I) : (s.wm5Crossed p).Meets I := h.modSwap.modWm.holdupActive

theorem State.Meets.firefly {m : Fin 32} (h : s.Meets I) : (s.firefly p m).Meets I :=
  (h.either h.holdupStart.endPort).either h.fullAction

theorem State.Meets.vconnIn {m : Fin 32} {code : ℕ} (h : s.Meets I) : (s.vconnIn p m code).Meets I :=
  h.modCc.either h

theorem execMonitorCrossing_meets {m : Fin 32} {e : Edge} {code : BitVec 10} (h : s.Meets I) :
    Res.Meets I (execMonitorCrossing p m e code s) := by
  unfold execMonitorCrossing
  refine State.Meets.next ?_
  extract_lets +onlyGivenNames q w
  split
  · exact h
  · extract_lets +onlyGivenNames s1 d drives quiet note s2 s3 s4 s5 s6
    have h2 : s2.Meets I := h.vconnIn.modMon
    have h3 : s3.Meets I := h2.wm5Crossed.either h2
    have h4 : s4.Meets I := h3.modEf.either h3
    have h5 : s5.Meets I := h4.firefly.either (h4.wmRecord.either h4)
    have h6 : s6.Meets I := h5.capture.either h5
    exact h6.wakeSet.either h6

theorem execMonitorReturn_meets {m : Fin 32} {r : MonReturn} (h : s.Meets I) :
    Res.Meets I (execMonitorReturn p m r s) := by
  unfold execMonitorReturn
  refine State.Meets.next ?_
  extract_lets +onlyGivenNames e code w s1 s2 s3 s4 now s5 q s6
  have h2 : s2.Meets I := h.modMon.vconnIn
  have h3 : s3.Meets I := h2.wmRecord.either h2
  have h4 : s4.Meets I := h3.modWm.either h3
  have h5 : s5.Meets I := h4.modEf.either h4
  exact h.either (h5.modWm.either h5).tryPath

theorem State.Meets.monitorFailed {m : Fin 32} {check : ℕ} (h : s.Meets I) :
    (s.monitorFailed p m check).Meets I := by
  unfold State.monitorFailed
  dsimp only
  split
  · exact h.eventO.modMon.openPath.pathLost.vconnOff.endPort
  · exact h.eventO.modMon.openPath.pathLost.vconnOff.endPort
  · exact h.eventO.modMon.openBf.closeSession
  · exact h.eventO.modMon.pathTo.closeSession
  · exact h.eventO.modMon.closeSession

theorem State.Meets.legFailed {m : Fin 32} {leg check : ℕ} (h : s.Meets I) : (s.legFailed p m leg check).Meets I :=
  h.modMon.monitorFailed.either h.modMon

theorem execLegCheck_meets {m : Fin 8} {fail : Option (LegChk × ℤ)} (h : s.Meets I) :
    Res.Meets I (execLegCheck p m fail s) := by
  unfold execLegCheck
  dsimp only
  refine State.Meets.next ?_
  split
  · exact h
  · split
    · exact h
    · split
      · exact h.checkRecord.legFailed
      · exact h.modMon.modWm.tryPath.either h.modMon

theorem State.Meets.testFailed {m : Fin 32} {leg : ℕ} (h : s.Meets I) : (s.testFailed p m leg).Meets I :=
  h.draw.eventO.legFailed.either h.draw.eventO.modMon

theorem monitorTestSpec_meets {leg0 leg1 : Option ℕ} : (monitorTestSpec leg0 leg1).Meets I :=
  fun _ _ h => (h.foldl fun _ _ h => h.testFailed).finish

theorem execMonitorTest_meets {d : Desc} {leg0 leg1 : Option ℕ} (h : s.Meets I) :
    Res.Meets I (execMonitorTest d leg0 leg1 s) :=
  (monitorTestSpec_meets.start h).next

theorem execMeteringSample_meets {uv ua : ℤ} (h : s.Meets I) : Res.Meets I (execMeteringSample p uv ua s) := by
  unfold execMeteringSample
  dsimp only
  refine State.Meets.next ?_
  split
  · exact h
  · split
    · exact h.modMtr.modEf.seeVbus
    · split
      · exact h.modMtr.modEf.seeVbus.trip
      · exact h.modMtr.modEf.seeVbus.trip
      · exact h.modMtr.modEf.seeVbus.bfOpened
      · exact h.modMtr.modEf.seeVbus

theorem State.Meets.senseRecord {sense : Bool} {ph : Option Ph} {r : FailRule} {latch : Bool} (h : s.Meets I) :
    (s.senseRecord p sense ph r latch).Meets I :=
  h.eventO

theorem State.Meets.convFault (h : s.Meets I) : (s.convFault p).Meets I := by
  unfold State.convFault
  exact (h.modEf.closeSession.either h.modEf.closeSession.hrRequest).either <|
    h.modEf.closeSession.openPath.seqOff.vconnOff.endPort.enterHold

theorem State.Meets.declare {x : Ph} {sense : Bool} {r : FailRule} (h : s.Meets I) :
    (s.declare p x sense r).Meets I := by
  unfold State.declare
  exact h.senseRecord.modCnv.trackPeaks.latchReneg.convFault.either h.senseRecord.modCnv.trackPeaks.latchReneg

theorem State.Meets.pathNamed (h : s.Meets I) : (s.pathNamed p).Meets I := h.senseRecord.modCnv.convFault

theorem execPhaseFailureDeclared_meets {ph : Ph} {rule : FailRule} (h : s.Meets I) :
    Res.Meets I (execPhaseFailureDeclared p ph rule s) := by
  unfold execPhaseFailureDeclared
  dsimp only
  refine State.Meets.next ?_
  split
  · exact h
  · split
    · exact h.declare.either h
    · exact h.declare.either h
    · exact h.declare.either h
    · exact h

theorem State.Meets.isoTake {x : Ph} (h : s.Meets I) : (s.isoTake p x).Meets I := h.modCnv

theorem execIsolationCheck_meets {m : IsoMeas} (h : s.Meets I) : Res.Meets I (execIsolationCheck p m s) := by
  unfold execIsolationCheck
  dsimp only
  refine State.Meets.next ?_
  split
  · exact h
  · split
    · exact h.modCnv.isoTake.either h
    · split
      · exact h.modCnv.isoTake
      · exact h.modCnv.isoTake
      · split
        · exact h.modCnv.declare
        · exact h.modCnv.pathNamed

theorem State.Meets.inconsistent (h : s.Meets I) : (s.inconsistent p).Meets I :=
  h.either (h.modCnv.trackPeaks.latchReneg.either (h.pathNamed.either h))

theorem execControlUpdate_meets {m : CnvMeas} (h : s.Meets I) : Res.Meets I (execControlUpdate p m s) := by
  unfold execControlUpdate
  extract_lets +onlyGivenNames c s1 old s2
  have h2 : s2.Meets I := h.seeVbus.modEf.modCnv
  exact (h.either (h2.either h2.trackPeaks).trackUpdate.inconsistent.trimDone).next

theorem execTxslewLimitExpiry_meets (h : s.Meets I) : Res.Meets I (execTxslewLimitExpiry p s) :=
  (h.onExpiry fun _ h => h.either h.eventP.endTrim.hrRequest).next

theorem phaseClearSpec_meets : phaseClearSpec.Meets I :=
  fun _ _ h => (h.modCnv.either h.modCnv.trackPeaks.eventP.latchReneg).finish

theorem execPhaseClear_meets {d : Desc} (h : s.Meets I) : Res.Meets I (execPhaseClear d s) :=
  (phaseClearSpec_meets.start h).next

/-! ### The time base -/

theorem State.Meets.disable {r : EndReason} (h : s.Meets I) : (s.disable p r).Meets I := by
  unfold State.disable
  exact h.openPath.vconnOff.closeSession.seqOff.pdStop.stopAll.modCnv.modEf.modSwap.modCc.holdupEnd

theorem portDisableSpec_meets : portDisableSpec.Meets I := by
  intro s d h
  dsimp -zeta only [portDisableSpec]
  extract_lets +onlyGivenNames p before s1
  have h1 : s1.Meets I := h.disable.endPort
  exact h1.finishAll.either h1

theorem execPortDisable_meets {d : Desc} (h : s.Meets I) : Res.Meets I (execPortDisable d s) :=
  (portDisableSpec_meets.start h).next

theorem portEnableSpec_meets : portEnableSpec.Meets I := fun _ _ h => h.finish.either h.toUnattached.finish

theorem execPortEnable_meets {d : Desc} (h : s.Meets I) : Res.Meets I (execPortEnable d s) :=
  (portEnableSpec_meets.start h).next

theorem clearFaultSpec_meets : clearFaultSpec.Meets I := by
  intro s d h
  dsimp -zeta only [clearFaultSpec]
  extract_lets +onlyGivenNames p e s1
  have h1 : s1.Meets I := h.clearRetry.modEf.stop
  exact (h1.toUnattached.toAttachWait.either h1.toUnattached).finish

theorem execClearFault_meets {d : Desc} (h : s.Meets I) : Res.Meets I (execClearFault d s) :=
  (clearFaultSpec_meets.start h).next

theorem nopSpec_meets : nopSpec.Meets I := fun _ _ h => h.finish

theorem execNop_meets {d : Desc} (h : s.Meets I) : Res.Meets I (execNop d s) := (nopSpec_meets.start h).next

theorem State.Meets.tick (h : s.Meets (Inv.sound canon q wr)) : s.tick.Meets (Inv.sound canon q wr) := h.sound

theorem State.Meets.lossStop (h : s.Meets I) : (s.lossStop p).Meets I :=
  h.either (h.frame.disable.foldl fun _ _ h => h.finish)

theorem execTimebaseLost_meets {noEdge : Bool} (h : s.Meets (Inv.sound canon q {})) : Res.Meets (Inv.sound canon q {}) (execTimebaseLost noEdge s) :=
  (h.either ((h.sound (hg := nofun)).eventD.forPorts fun _ _ h => h.lossStop)).next

theorem State.Meets.calibrate (h : s.Meets (Inv.sound canon q {})) : s.calibrate.Meets (Inv.sound canon q {}) :=
  (h.draw.sound (hg := nofun)).forPorts fun _ _ h => h.draw.modCnv

theorem execTimebaseRestored_meets (h : s.Meets (Inv.sound canon q {})) : Res.Meets (Inv.sound canon q {}) (execTimebaseRestored s) :=
  (h.either ((h.sound (hg := nofun)).calibrate.eventD.forPorts fun _ _ h => ((h.toUnattached.either h).tryPath).idleWork)).next

theorem execCalibrationCycle_meets {us : ℕ} {steps : List ℕ} (h : s.Meets (Inv.sound canon q {})) :
    Res.Meets (Inv.sound canon q {}) (execCalibrationCycle us steps s) :=
  (h.either ((h.sound (hg := nofun)).forPorts fun _ _ h => h.modCnv)).next

theorem execEraWriteRetry_meets {ok : Bool} (h : s.Meets I) : Res.Meets I (execEraWriteRetry ok s) :=
  (h.either h.frame).next

/-! ### Uncorrectable errors -/

theorem State.Meets.setCell {f i : ℕ} {g : Cell → Cell} (h : s.Meets I) : (s.setCell f i g).Meets I := h.modFlow

theorem State.Meets.coreResult {bus : ℕ} {x : TwItem} {k : Fin 4} {status : ℕ} {res : Quad} {rd : List Byte} (h : s.Meets I) :
    (s.coreResult bus x k status res rd).Meets I :=
  h.sendCell

theorem State.Meets.dropGroup {f : ℕ} {g : List ℕ} (h : s.Meets I) : (s.dropGroup f g).Meets I :=
  h.foldl fun _ _ h => h.dropCell

theorem State.Meets.ueAct {f : ℕ} {c : Cell} (h : s.Meets I) : (s.ueAct f c).Meets I := by
  unfold State.ueAct
  extract_lets +onlyGivenNames pt evs
  split
  next c1 g eq =>
  have hdrop : (s.dropGroup f g).Meets I := h.dropGroup
  have hdesc {d : Desc} {s : State} (h : s.Meets I) :
      (((((s.flow f).cells.filter (·.pay.contains (.desc d))).foldl (fun s c => s.dropCell f c.idx)
        (s.modFlow f fun x => { x with waiters := x.waiters.filter (· != .cell
          (.desc d)) }))).finish d stStoreUe 0).Meets I :=
    (h.modFlow.foldl fun _ _ h => h.dropCell).finish
  refine hdrop.odd.either <| State.Meets.either ?_ <| hdrop.authLost.either <| h.mtrLost.either <|
    h.waveLost.either <| h.setCell.either <| h.setCell.cmdLost.either <| h.setCell.either <| h.dropCell.either <|
      State.Meets.either ?_ <| h.setCell.either <| h.dropCell.either ?_
  · split
    · split
      · exact h.endTx.settle.either hdrop.flushMsg.settle
      · exact hdrop.flushMsg.settle
    · exact hdrop
  · exact h.foldl fun _ _ h => hdesc h
  · dsimp only
    split
    · split
      · split
        · exact h.dropCell.finish
        · exact h.dropCell
      · exact h.dropCell.coreResult
    · exact h.dropCell

theorem State.Meets.ueLoose {f : ℕ} (h : s.Meets I) : (s.ueLoose f).Meets I :=
  h.authLost.either (h.modMtr.either (h.endWhere.either (h.endWhere.either h)))

theorem State.Meets.storeUe {i w : ℕ} (h : s.Meets I) : (s.storeUe i w).Meets I := by
  unfold State.storeUe
  split
  · exact h.ueAct.ueNote.either h.ueNote.ueAct
  · split
    · exact h.ueNote.ueLoose
    · exact h.ueNote

theorem State.Meets.headUe {f : ℕ} (h : s.Meets I) : (s.headUe f).Meets I := by
  unfold State.headUe
  dsimp only
  split
  · split
    · exact h.correct.storeUe
    · exact h.correct
  · exact h

theorem execScrubRead_meets {cell : ℕ} {word : Fin 32} {r : EccRes} (h : s.Meets I) :
    Res.Meets I (execScrubRead cell word r s) := by
  unfold execScrubRead
  dsimp only
  refine State.Meets.next ?_
  split
  · exact h
  · split
    · split
      · exact h.frame
      · exact h.frame.frame
      · exact h.frame.storeUe
    · split
      · exact h
      · exact h.modFlow

theorem execCellRewriteCheck_meets {cell : ℕ} {bad : Bool} (h : s.Meets I) :
    Res.Meets I (execCellRewriteCheck cell bad s) := by
  unfold execCellRewriteCheck
  refine State.Meets.next ?_
  split
  · exact h
  · exact h.either <| h.frame.either <| h.frame.eventD.either h.frame.eventD

theorem State.Meets.admitCell {f : ℕ} (h : s.Meets I) : (s.admitCell f).Meets I := by
  unfold State.admitCell
  split
  · split
    next t e => exact (h.putCell e).modFlow
    · exact h
  · exact h

/-! ### The host interface -/

theorem State.Meets.modSq {k : Fin 16} {f : SqState → SqState} (h : s.Meets I) : (s.modSq k f).Meets I := h.frame

theorem State.Meets.modCq {k : Fin 16} {f : CqState → CqState} (h : s.Meets I) : (s.modCq k f).Meets I := h.frame

theorem State.Meets.modEq {f : CqState → CqState} (h : s.Meets I) : (s.modEq f).Meets I := h.frame

theorem State.Meets.hifErr {bit : ℕ} (h : s.Meets I) : (s.hifErr bit).Meets I := h.frame

theorem State.Meets.sqGone {k : Fin 16} (h : s.Meets I) : (s.sqGone k).Meets I := h.modSq.either h

theorem execSqTailDoorbell_meets {sq : Fin 16} {v : Word} (h : s.Meets I) :
    Res.Meets I (execSqTailDoorbell sq v s) :=
  (h.wakeSet.hifErr.either (h.wakeSet.hifErr.either h.wakeSet.modSq)).next

theorem execCqHeadDoorbell_meets {cq : Fin 16} {v : Word} (h : s.Meets I) :
    Res.Meets I (execCqHeadDoorbell cq v s) := by
  unfold execCqHeadDoorbell
  dsimp only
  refine State.Meets.next ?_
  split
  · exact h.wakeSet.hifErr
  · exact h.wakeSet.modCq

theorem execEqHeadDoorbell_meets {v : Word} (h : s.Meets I) : Res.Meets I (execEqHeadDoorbell v s) := by
  unfold execEqHeadDoorbell
  dsimp only
  refine State.Meets.next ?_
  split
  · exact h.wakeSet.hifErr
  · exact h.wakeSet.modEq

theorem execDescriptorFetch_meets {sq : Fin 16} {bytes : List Byte} (h : s.Meets I) :
    Res.Meets I (execDescriptorFetch sq bytes s) :=
  (h.either (h.countNoCredit.either (h.either h.modSq.frame.enterDesc))).next

theorem execHostFetchError_meets {sq : Fin 16} {why : ℕ} (h : s.Meets I) :
    Res.Meets I (execHostFetchError sq why s) :=
  (h.either h.modSq.hifErr.frame.eventD).next

theorem State.Meets.msixSend {v : Fin 32} (h : s.Meets I) : (s.msixSend v).Meets I := h.frame.either h.emit

theorem State.Meets.msixPend {v : Fin 32} (h : s.Meets I) : (s.msixPend v).Meets I := h.frame.msixSend.either h

theorem execMsixUnmask_meets {vec : Fin 32} (h : s.Meets I) : Res.Meets I (execMsixUnmask vec s) :=
  h.frame.msixPend.next

theorem State.Meets.cqDue {k : Fin 16} (h : s.Meets I) : (s.cqDue k).Meets I := h.modCq.msixSend

theorem State.Meets.eqDue {sev : Fin 4} (h : s.Meets I) : (s.eqDue sev).Meets I := h.modEq.msixSend

theorem execModerationTimerExpiry_meets {q : Option (Fin 16)} {sev : Fin 4} (h : s.Meets I) :
    Res.Meets I (execModerationTimerExpiry q sev s) := by
  unfold execModerationTimerExpiry
  dsimp only
  refine State.Meets.next ?_
  split
  · exact h.cqDue.either h
  · exact h.eqDue.either h

theorem State.Meets.writeEntry {c : CqState} {bytes : List Byte} (h : s.Meets I) : (s.writeEntry c bytes).Meets I :=
  h.frame.emit

theorem State.Meets.writeCpl {r : CplRec} (h : s.Meets I) : (s.writeCpl r).Meets I :=
  (h.writeEntry.modCq.cqDue.either h.writeEntry.modCq).sqGone

theorem State.Meets.writeEv {r : EvRec} (h : s.Meets I) : (s.writeEv r).Meets I :=
  h.writeEntry.modEq.frame.eqDue.either h.writeEntry.modEq.frame

theorem execHostRecordWrite_meets (h : s.Meets I) : Res.Meets I (execHostRecordWrite s) := by
  unfold execHostRecordWrite
  dsimp only
  refine State.Meets.next ?_
  split
  · exact h
  · split
    · exact h.foldl fun _ _ h => h.headUe
    · split
      · exact ((h.foldl fun _ _ h => h.headUe).readRecord).writeEv
      · exact ((h.foldl fun _ _ h => h.headUe).readRecord).writeCpl
      · exact (h.foldl fun _ _ h => h.headUe).readRecord

theorem bufferSpec_meets : bufferSpec.Meets (Inv.sound canon q {}) := fun _ _ h => h.endBuf.either ((h.sound (hb := nofun)).pumpMtr.either (h.sound (hb := nofun)).pumpWave)

theorem execBufferDescriptor_meets {d : Desc} (h : s.Meets (Inv.sound canon q {})) : Res.Meets (Inv.sound canon q {}) (execBufferDescriptor d s) :=
  (bufferSpec_meets.start h).next

theorem execStreamFlushExpiry_meets {meter : Bool} (h : s.Meets (Inv.sound canon q {})) :
    Res.Meets (Inv.sound canon q {}) (execStreamFlushExpiry meter s) := by
  unfold execStreamFlushExpiry
  dsimp only
  refine State.Meets.next ?_
  split
  · exact h
  · exact h.either ((h.sound (hb := nofun)).endBuf.pumpMtr.either (h.sound (hb := nofun)).endBuf.pumpWave)

theorem State.Meets.qResult {r : ℕ} (h : s.Meets I) : (s.qResult r).Meets I := h.frame

theorem execQueueCreate_meets (h : s.Meets I) : Res.Meets I (execQueueCreate s) :=
  (h.qResult.either ((h.modSq.either (h.modCq.either h.modEq)).qResult)).next

theorem State.Meets.orphan {q : ℕ → Bool} (h : s.Meets I) : (s.orphan q).Meets I :=
  (h.foldl fun _ _ h => h.modFlow).frame

theorem execDiscardOrphans_meets (h : s.Meets I) : Res.Meets I (execDiscardOrphans s) :=
  (h.qResult.either ((h.foldl fun _ _ h => h.foldl fun _ _ h => h.readRecord).qResult)).next

theorem execRingSelWrite_meets {v : Word} (h : s.Meets I) : Res.Meets I (execRingSelWrite v s) :=
  (h.wakeSet.hifErr.either h.wakeSet.frame).next

theorem execFunctionLevelReset_meets {k : FlrKind} (h : s.Meets (Inv.sound canon q wr)) : Res.Meets (Inv.sound canon q wr) (execFunctionLevelReset k s) :=
  (h.endWhere.orphan.sound (hb := fun _ _ => by cases k <;> exact ⟨rfl, rfl⟩)).next

theorem State.Meets.hostBack (h : s.Meets I) : s.hostBack.Meets I :=
  (((h.hostFlush.foldl fun _ _ h => h.msixPend).pumpMtr).pumpWave).either h

theorem execPciPmStateChange_meets {d3 bme : Bool} (h : s.Meets (Inv.sound canon q wr)) : Res.Meets (Inv.sound canon q wr) (execPciPmStateChange d3 bme s) :=
  h.sound.hostBack.next

theorem execL1EntryRequest_meets (h : s.Meets I) : Res.Meets I (execL1EntryRequest s) :=
  (h.frame.emit.either h).next

theorem execLinkTrained_meets {rate : BitVec 2} (h : s.Meets (Inv.sound canon q wr)) : Res.Meets (Inv.sound canon q wr) (execLinkTrained rate s) :=
  (h.either h.sound.hostBack).next

theorem State.Meets.sendLtr (h : s.Meets I) : s.sendLtr.Meets I := h.emit

theorem execConfigSpaceWrite_meets {w : CfgSpace} (h : s.Meets (Inv.sound canon q wr)) : Res.Meets (Inv.sound canon q wr) (execConfigSpaceWrite w s) := by
  unfold execConfigSpaceWrite
  refine State.Meets.next ?_
  have pend {s : State} (h : s.Meets (Inv.sound canon q wr)) :
    ((List.finRange 32).foldl State.msixPend s).Meets (Inv.sound canon q wr) := h.foldl fun _ _ h => h.msixPend
  cases w with
  | ltrEn b =>
    have h1 : ({ s with hif := { s.hif with ltrEn := b } } : State).Meets (Inv.sound canon q wr) := h.sound
    exact h1.sendLtr.either h1
  | aspmL1 b => exact h.sound
  | msixEn b => exact pend h.sound
  | msixMask b => exact pend h.sound
  | pmeEn b => exact h.sound
  | pmeClear => exact h.sound
  | aerClear m => exact h.sound

/-! ### The fault log -/

theorem faultLogReadSpec_meets : faultLogReadSpec.Meets I :=
  fun _ _ h => (((h.either h.hostPut).frame).either (h.either h.hostPut)).finish

theorem execFaultLogRead_meets {d : Desc} (h : s.Meets I) : Res.Meets I (execFaultLogRead d s) :=
  (faultLogReadSpec_meets.start h).next

theorem State.Meets.modLat {i : Iface} {f : Latches → Latches} (h : s.Meets (Inv.sound canon q wr)) : (s.modLat i f).Meets (Inv.sound canon q wr) := by
  unfold State.modLat
  split
  · exact h.sound
  · exact h.sound

theorem State.Meets.flogLatch {i : Iface} (h : s.Meets (Inv.sound canon q wr)) : (s.flogLatch i).Meets (Inv.sound canon q wr) := by
  unfold State.flogLatch
  split
  · exact h.modLat
  · exact h.modLat

theorem execFlogData0Read_meets {i : Iface} (h : s.Meets (Inv.sound canon q wr)) : Res.Meets (Inv.sound canon q wr) (execFlogData0Read i s) :=
  h.flogLatch.emit.next

theorem State.Meets.flogNext {i : Iface} (h : s.Meets (Inv.sound canon q wr)) : (s.flogNext i).Meets (Inv.sound canon q wr) := by
  unfold State.flogNext
  split
  · exact h.modLat
  · exact h

theorem execFlogData7LastRead_meets {i : Iface} (h : s.Meets (Inv.sound canon q wr)) : Res.Meets (Inv.sound canon q wr) (execFlogData7LastRead i s) :=
  h.emit.flogNext.next

/-! ### Operands -/


end Sys2Proof.Machine
end

section
namespace Sys2Proof.Machine
set_option Elab.async false
variable {s t : State} {p : PortId} {I : Inv} {canon : Prop} {q : List Instr} {wr : Stand}

/-! ### Flow ports of the cores -/

theorem State.Meets.unbind {c : Fin 4} {l : List (Fin 16)} (h : s.Meets (Inv.sound canon q wr)) : (s.unbind c l).Meets (Inv.sound canon q wr) := by
  unfold State.unbind
  extract_lets +onlyGivenNames holders back s1
  have h1 : s1.Meets (Inv.sound canon q wr) := by
    unfold s1
    refine h.foldl fun s x h => ?_
    refine h.foldl fun s x h => ?_
    split
    · exact h.modFlow
    · exact h
  exact ((h1.foldl fun _ _ h => h.freeCell).foldl fun _ _ h => h.modFlow).foldl fun _ _ h => h.modFp

theorem State.Meets.fpDone {c : Fin 4} {x : Fin 16} {r : ℕ} (h : s.Meets (Inv.sound canon q wr)) : (s.fpDone c x r).Meets (Inv.sound canon q wr) := h.modFp

theorem execBind_meets {c : Fin 4} {fp : Fin 16} {v : Word} (h : s.Meets (Inv.sound canon q wr)) : Res.Meets (Inv.sound canon q wr) (execBind c fp v s) :=
  (h.unbind.modFp.fpDone.either (h.unbind.modFp.fpDone.either
    (h.unbind.modFp.fpDone.either h.unbind.modFp.modFp.fpDone))).next

theorem State.Meets.fpCmd {c : Fin 4} {fp : Fin 16} {producer held : Bool} {f : State → State} (h : s.Meets (Inv.sound canon q wr))
    (hf : ∀ s, s.Meets (Inv.sound canon q wr) → (f s).Meets (Inv.sound canon q wr)) : (s.fpCmd c fp producer held f).Meets (Inv.sound canon q wr) := by
  unfold State.fpCmd
  exact h.either (h.fpDone.either (h.fpDone.either (hf _ h)))

theorem State.Meets.fpTake {c : Fin 4} {fp : Fin 16} (h : s.Meets (Inv.sound canon q wr)) : (s.fpTake c fp).Meets (Inv.sound canon q wr) := by
  unfold State.fpTake
  dsimp only
  split
  · exact h.fpDone
  · split
    · exact h.modFp
    · split
      · exact (h.storeUe.dropCell.either h.storeUe).fpDone
      · exact (h.correct.modFlow.modFp fun _ _ => Mem.writeN_wf 0 _ [] 0 rfl).fpDone

theorem State.Meets.fpClaim {c : Fin 4} {fp : Fin 16} (h : s.Meets (Inv.sound canon q wr)) (e : s.fpClaim c fp = some t) :
    t.Meets (Inv.sound canon q wr) := by
  obtain ⟨⟨i, u⟩, e', rfl⟩ := Option.map_eq_some_iff.mp e
  exact ((h.takeCell e').modFp fun _ _ => rfl).fpDone

theorem execTake_meets {c : Fin 4} {fp : Fin 16} (h : s.Meets (Inv.sound canon q wr)) : Res.Meets (Inv.sound canon q wr) (execTake c fp s) :=
  (h.fpCmd fun _ h => h.fpTake).next

theorem State.Meets.fpFree {c : Fin 4} {fp : Fin 16} {r : ℕ} (h : s.Meets (Inv.sound canon q wr)) : (s.fpFree c fp r).Meets (Inv.sound canon q wr) := by
  unfold State.fpFree
  split
  · exact h.freeCell.modFp.fpDone
  · exact h.fpDone

theorem execRelease_meets {c : Fin 4} {fp : Fin 16} (h : s.Meets (Inv.sound canon q wr)) : Res.Meets (Inv.sound canon q wr) (execRelease c fp s) :=
  (h.fpCmd fun _ h => h.fpFree).next

theorem execAbandon_meets {c : Fin 4} {fp : Fin 16} (h : s.Meets (Inv.sound canon q wr)) : Res.Meets (Inv.sound canon q wr) (execAbandon c fp s) :=
  (h.fpCmd fun _ h => h.fpFree).next

theorem execAlloc_meets {c : Fin 4} {fp : Fin 16} (h : s.Meets (Inv.sound canon q wr)) : Res.Meets (Inv.sound canon q wr) (execAlloc c fp s) := by
  refine State.Meets.next (h.fpCmd fun s h => ?_)
  dsimp only
  split
  next t e => exact h.fpClaim (Option.ite_none_right_eq_some.mp e).2
  · exact h.wait.modFp

theorem execCommit_meets {c : Fin 4} {fp : Fin 16} (h : s.Meets (Inv.sound canon q wr)) : Res.Meets (Inv.sound canon q wr) (execCommit c fp s) := by
  refine State.Meets.next (h.fpCmd fun s h => ?_)
  dsimp only
  split
  · exact h.fpDone
  · have put {f : ℕ} {x : Cell} :
      (((s.queueCell f x).modFp c fp fun y => { y with held := none }).fpDone c fp 0).Meets (Inv.sound canon q wr) :=
      h.queueCell.modFp.fpDone
    exact (h.fpFree.either put).either (put.either put)

theorem execCancel_meets {c : Fin 4} {fp : Fin 16} (h : s.Meets (Inv.sound canon q wr)) : Res.Meets (Inv.sound canon q wr) (execCancel c fp s) :=
  (h.modFlow.fpDone.either (h.fpDone.either h.fpDone)).next

theorem execFlowPortWaitDone_meets {c : Fin 4} {fp : Fin 16} (h : s.Meets (Inv.sound canon q wr)) :
    Res.Meets (Inv.sound canon q wr) (execFlowPortWaitDone c fp s) := by
  unfold execFlowPortWaitDone
  dsimp only
  refine State.Meets.next ?_
  split
  · exact h.fpTake
  · split
    · split
      next t e => exact (h.fpClaim e).modFlow
      · exact h
    · exact h

theorem execPortmapApplied_meets (h : s.Meets (Inv.sound canon q wr)) : Res.Meets (Inv.sound canon q wr) (execPortmapApplied p s) :=
  (h.either (((h.foldl fun _ _ h => h.unbind.fpDone.either h.unbind).sound).eventD)).next

/-! ### Crypto jobs -/

theorem State.Meets.modCx {c : Fin 4} {f : Crypto → Crypto} (h : s.Meets (Inv.sound canon q wr)) : (s.modCx c f).Meets (Inv.sound canon q wr) := h.modCore

theorem State.Meets.cxGo {c : Fin 4} (h : s.Meets (Inv.sound canon q wr)) : (s.cxGo c).Meets (Inv.sound canon q wr) := by
  unfold State.cxGo
  extract_lets x t
  have ht : t.Meets (Inv.sound canon q wr) := h.modCx
  exact h.either (ht.sound.either ht)

theorem State.Meets.cxNext {c : Fin 4} (h : s.Meets (Inv.sound canon q wr)) : (s.cxNext c).Meets (Inv.sound canon q wr) := h.sound

theorem State.Meets.freeBytes {a : Word} {k n : ℕ} (h : s.Meets (Inv.sound canon q wr)) : (s.freeBytes a k n).Meets (Inv.sound canon q wr) := by
  induction k generalizing s a n with
  | zero => exact h
  | succ k ih => exact ih h.draw.shWrite

theorem State.Meets.cxCancel {c : Fin 4} (h : s.Meets (Inv.sound canon q wr)) : (s.cxCancel c).Meets (Inv.sound canon q wr) := by
  unfold State.cxCancel
  dsimp only
  split
  · exact h
  · exact (((h.either h.freeBytes).modCx).cxNext).either ((h.either h.freeBytes).modCx)

theorem State.Meets.cxRun {c : Fin 4} {j : CxJob} (h : s.Meets (Inv.sound canon q wr)) : (s.cxRun c j).2.Meets (Inv.sound canon q wr) := by
  unfold State.cxRun
  extract_lets +onlyGivenNames src key aes blocks iv
  split
  · split
    extract_lets +onlyGivenNames s1
    have h1 : s1.Meets (Inv.sound canon q wr) := h.modCx
    split
    · exact h1.shWrite.snd_mk
    · exact h1.snd_mk
  · exact h.snd_mk
  · exact h.frame.shWrite.snd_mk
  · exact h.shWrite.snd_mk
  · exact h.shWrite.snd_mk
  · exact h.shWrite.snd_mk
  · exact h.frame.shWrite.snd_mk
  · exact h.snd_mk

theorem execCryptoJobDone_meets {err : Bool} (h : s.Meets (Inv.sound canon q wr)) : Res.Meets (Inv.sound canon q wr) (execCryptoJobDone err s) := by
  unfold execCryptoJobDone
  refine State.Meets.next ?_
  split
  · exact h
  · split
    · exact h.cxNext
    · dsimp only
      refine State.Meets.cxNext (State.Meets.modCx ?_)
      split
      · exact h
      · split
        · exact h
        · exact h.cxRun

theorem State.Meets.cxStart {c : Fin 4} {op slot : ℕ} {cont final : Bool} (h : s.Meets (Inv.sound canon q wr)) :
    (s.cxStart c op slot cont final).Meets (Inv.sound canon q wr) :=
  h.modCx.cxGo.either h

theorem execSha256_meets {c : Fin 4} {cont final : Bool} (h : s.Meets (Inv.sound canon q wr)) :
    Res.Meets (Inv.sound canon q wr) (execSha256 c cont final s) :=
  h.cxStart.next

theorem execEcdsaVerify_meets {c : Fin 4} {slot : BitVec 3} (h : s.Meets (Inv.sound canon q wr)) :
    Res.Meets (Inv.sound canon q wr) (execEcdsaVerify c slot s) :=
  h.cxStart.next

theorem execEcdsaSign_meets {c : Fin 4} {slot : BitVec 3} (h : s.Meets (Inv.sound canon q wr)) : Res.Meets (Inv.sound canon q wr) (execEcdsaSign c slot s) :=
  h.cxStart.next

theorem execAesCtr_meets {c : Fin 4} {slot : BitVec 3} (h : s.Meets (Inv.sound canon q wr)) : Res.Meets (Inv.sound canon q wr) (execAesCtr c slot s) :=
  h.cxStart.next

theorem execAesCbcEncrypt_meets {c : Fin 4} {slot : BitVec 3} (h : s.Meets (Inv.sound canon q wr)) :
    Res.Meets (Inv.sound canon q wr) (execAesCbcEncrypt c slot s) :=
  h.cxStart.next

theorem execAesCbcDecrypt_meets {c : Fin 4} {slot : BitVec 3} (h : s.Meets (Inv.sound canon q wr)) :
    Res.Meets (Inv.sound canon q wr) (execAesCbcDecrypt c slot s) :=
  h.cxStart.next

theorem execRandom_meets {c : Fin 4} (h : s.Meets (Inv.sound canon q wr)) : Res.Meets (Inv.sound canon q wr) (execRandom c s) := h.cxStart.next

/-! ### Image packages -/

theorem ImgState.flashOk.eraseKind {g : ImgState} {k : ℕ} (h : g.flashOk) : ((g.erase k (!g.activeB k)).setCand k 0).flashOk :=
  (h.erase (kind := k) (b := !g.activeB k)).of_flash

theorem State.Meets.eraseKinds {kinds : ℕ} (h : s.Meets (Inv.sound canon q wr)) : (s.eraseKinds kinds).Meets (Inv.sound canon q wr) :=
  h.modImg fun _ hg => hg.foldl fun _ _ hg => (hg.eraseKind.of_flash.either hg.eraseKind).either hg

theorem State.Meets.stage {pkg : List Byte} (h : s.Meets (Inv.sound canon q wr)) : (s.stage pkg).Meets (Inv.sound canon q wr) := by
  unfold State.stage
  extract_lets man k
  refine h.modImg fun g hg => ?_
  extract_lets +onlyGivenNames b gb src1 g1 gp src2 g2 l gen gs
  have h1 : g1.flashOk := by
    have hb : gb.flashOk := hg.program.foldl fun _ _ h => h.program
    clear_value gb
    exact .either (ImgState.flashOk.of_flash hb) hg
  have h2 : g2.flashOk := by
    have hp : gp.flashOk := h1.program
    clear_value gp
    exact .either (ImgState.flashOk.of_flash hp) h1
  have hs : gs.flashOk := h2.program
  clear_value gs
  exact .either (ImgState.flashOk.of_flash hs) h2

theorem State.Meets.verifyPackage {id : Word} {pkg : List Byte} (h : s.Meets (Inv.sound canon q wr)) :
    (s.verifyPackage id pkg).1.Meets (Inv.sound canon q wr) := by
  unfold State.verifyPackage
  extract_lets +onlyGivenNames man k shut fail r
  have hfail {table row : ℕ} : (fail table row).Meets (Inv.sound canon q wr) := h.eraseKinds.modImg.eventD
  clear_value fail
  split
  · exact hfail.fst_mk
  · dsimp only
    split
    · exact hfail.fst_mk
    · exact h.stage.modImg.eventD.fst_mk

theorem State.Meets.writeBlock {d : Desc} {x : XferState} {off : ℕ} {b : List Byte} {fails : ℕ} (h : s.Meets (Inv.sound canon q wr)) :
    (s.writeBlock d x off b fails).Meets (Inv.sound canon q wr) := by
  unfold State.writeBlock
  exact h.finish.either <| h.finish.either <| h.finish.either <| h.finish.either <| h.modImg.finish.either <|
    h.modImg.finish.either h.verifyPackage.finish

theorem State.Meets.openXfer {d : Desc} {id : Word} {b : List Byte} {fails : ℕ} (h : s.Meets (Inv.sound canon q wr)) :
    (s.openXfer d id b fails).Meets (Inv.sound canon q wr) := by
  unfold State.openXfer
  extract_lets +onlyGivenNames man
  split
  · exact h.finish
  · extract_lets +onlyGivenNames s1
    have h1 : s1.Meets (Inv.sound canon q wr) := by
      unfold s1
      split
      · exact h.endWhere
      · exact h
    exact h1.eraseKinds.modImg.writeBlock

theorem State.Meets.takeBlock {d : Desc} {fails : ℕ} (h : s.Meets (Inv.sound canon q wr)) : (s.takeBlock d fails).Meets (Inv.sound canon q wr) := by
  unfold State.takeBlock
  dsimp only
  split
  · exact h.writeBlock.either (h.openXfer.either h.finish)
  · exact h.openXfer.either h.finish

theorem State.Meets.queueBlock {d : Desc} {fails : ℕ} (h : s.Meets I) : (s.queueBlock d fails).Meets I :=
  h.setAux.foldl fun _ _ h => h.sendCell

theorem State.Meets.imgBlocksGo (h : s.Meets (Inv.sound canon q wr)) : s.imgBlocksGo.Meets (Inv.sound canon q wr) := by
  unfold State.imgBlocksGo
  dsimp only
  split
  · exact h
  · refine h.emptyFlow.modFlow.foldl fun s x h => ?_
    split
    · exact h.takeBlock.either h
    · exact h

theorem imgBlockSpec_meets {fails : ℕ} : (imgBlockSpec fails).Meets (Inv.sound canon q wr) := by
  intro s d h
  dsimp only [imgBlockSpec]
  split
  next t e => exact (h.passCell (Option.ite_none_right_eq_some.mp e).2).takeBlock
  · exact h.queueBlock

theorem execImgBlock_meets {d : Desc} {block : List Byte} {fails : ℕ} (h : s.Meets (Inv.sound canon q wr)) :
    Res.Meets (Inv.sound canon q wr) (execImgBlock d block fails s) :=
  (imgBlockSpec_meets.start h).next

/-! ### The cores -/

theorem State.Meets.coreReset {c : Fin 4} (h : s.Meets (Inv.sound canon q wr)) : (s.coreReset c).Meets (Inv.sound canon q wr) := by
  unfold State.coreReset
  refine h.unbind.cxCancel.modCore_of fun k hk => ?_
  rw [Core.memWf_iff] at hk ⊢
  exact ⟨hk.1, hk.1, rfl, fun x => by simp [Mem.wf]⟩

theorem State.Meets.w0Again {c : Fin 4} (h : s.Meets (Inv.sound canon q wr)) : (s.w0Again c).Meets (Inv.sound canon q wr) :=
  h.closesFirst.imgBlocksGo.either h

theorem State.Meets.coreRun {c : Fin 4} (h : s.Meets (Inv.sound canon q wr)) : (s.coreRun c).Meets (Inv.sound canon q wr) := h.modCore.w0Again

theorem State.Meets.coreStart {c : Fin 4} {reason : ℕ} (h : s.Meets (Inv.sound canon q wr)) : (s.coreStart c reason).Meets (Inv.sound canon q wr) :=
  h.coreRun.modCore.eventD

theorem State.Meets.coreFault {c : Fin 4} {kind : ℕ} (h : s.Meets (Inv.sound canon q wr)) : (s.coreFault c kind).Meets (Inv.sound canon q wr) :=
  h.unbind.modCore.eventD

theorem State.Meets.holdCore {c : Fin 4} {b : Bool} (h : s.Meets (Inv.sound canon q wr)) : (s.holdCore c b).Meets (Inv.sound canon q wr) := by
  unfold State.holdCore
  exact h.either (h.modCore.coreReset.either h.modCore.coreStart)

theorem State.Meets.haltCore {c : Fin 4} {b : Bool} (h : s.Meets (Inv.sound canon q wr)) : (s.haltCore c b).Meets (Inv.sound canon q wr) := by
  unfold State.haltCore
  extract_lets was t
  have ht : t.Meets (Inv.sound canon q wr) := h.modCore fun k => by
    dsimp only
    split
    · split <;> rfl
    · split <;> rfl
  exact ht.w0Again.either ht

theorem State.Meets.restartCore {c : Fin 4} {reason : ℕ} (h : s.Meets (Inv.sound canon q wr)) : (s.restartCore c reason).Meets (Inv.sound canon q wr) := by
  unfold State.restartCore
  exact h.coreReset.either h.coreReset.coreStart

theorem State.Meets.writeWvlCtrl {v : Word} {lock byW0 : Bool} (h : s.Meets (Inv.sound canon q wr)) :
    (s.writeWvlCtrl v lock byW0).Meets (Inv.sound canon q wr) := by
  unfold State.writeWvlCtrl
  refine h.foldl fun s x h => ?_
  exact ((h.either h.modCore.haltCore.holdCore).restartCore).either (h.either h.modCore.haltCore.holdCore)

theorem State.Meets.wvlCfgErr (h : s.Meets (Inv.sound canon q wr)) : s.wvlCfgErr.Meets (Inv.sound canon q wr) := h.sound

theorem State.Meets.wvlWrite {o : ℕ} {v : Word} {lock byW0 : Bool} (h : s.Meets (Inv.sound canon q wr)) :
    (s.wvlWrite o v lock byW0).Meets (Inv.sound canon q wr) := by
  unfold State.wvlWrite
  exact h.writeWvlCtrl.either <| (h.sound.either h.wvlCfgErr).either <|
    (h.either (h.wvlCfgErr.either h.sound)).either <| (h.sound.either h).either <| h

theorem execCoreHold_meets {n : Fin 4} {hold : Bool} (h : s.Meets (Inv.sound canon q wr)) : Res.Meets (Inv.sound canon q wr) (execCoreHold n hold s) :=
  (h.holdCore.either (h.either h.frame)).next

theorem execCoreHalt_meets {n : Fin 4} {halt : Bool} (h : s.Meets (Inv.sound canon q wr)) : Res.Meets (Inv.sound canon q wr) (execCoreHalt n halt s) :=
  (h.haltCore.either (h.either h.frame)).next

theorem execCoreRestart_meets {n : Fin 4} (h : s.Meets (Inv.sound canon q wr)) : Res.Meets (Inv.sound canon q wr) (execCoreRestart n s) := h.restartCore.next

theorem execCoreAutoRestart_meets {c : Fin 4} (h : s.Meets (Inv.sound canon q wr)) : Res.Meets (Inv.sound canon q wr) (execCoreAutoRestart c s) :=
  (h.restartCore.either h).next

theorem execWdkick_meets {c : Fin 4} {v : Word} (h : s.Meets (Inv.sound canon q wr)) : Res.Meets (Inv.sound canon q wr) (execWdkick c v s) :=
  (h.modCore.either h).next

theorem State.Meets.sigSend {c : Fin 4} {v : Word} (h : s.Meets (Inv.sound canon q wr)) : (s.sigSend c v).Meets (Inv.sound canon q wr) :=
  h.foldl fun _ _ h => h.modCore.either h

theorem execSigSend_meets {c : Fin 4} {v : Word} (h : s.Meets (Inv.sound canon q wr)) : Res.Meets (Inv.sound canon q wr) (execSigSend c v s) :=
  (h.sigSend.either h).next

theorem State.Meets.ppDone {c : Fin 4} {w : Word} (h : s.Meets (Inv.sound canon q wr)) :
    (s.modCore c fun k => { k with ppRes := w, ppUnread := true }).Meets (Inv.sound canon q wr) := h.modCore

theorem State.Meets.ppData {c : Fin 4} {g : Core → Vector Byte 64} (h : s.Meets (Inv.sound canon q wr)) :
    (s.modCore c fun k => { k with ppData := g k }).Meets (Inv.sound canon q wr) := h.modCore

theorem State.Meets.ppOp {c : Fin 4} {op : ℕ} (h : s.Meets (Inv.sound canon q wr)) : (s.ppOp c op).Meets (Inv.sound canon q wr) := by
  unfold State.ppOp
  extract_lets s1 k slot done b
  have h1 : s1.Meets (Inv.sound canon q wr) := h.slotTurn.either h
  have hdone {t : State} {st why : ℕ} (ht : t.Meets (Inv.sound canon q wr)) : (done t st why).Meets (Inv.sound canon q wr) := ht.ppDone
  clear_value done s1 b slot
  split
  · exact hdone h1.ppData
  · split
    · split
      · exact hdone h1
      · split
        · exact hdone h1.podStore
        · exact hdone h1.podWrite
    · exact h1

theorem execPpRead_meets {c : Fin 4} (h : s.Meets (Inv.sound canon q wr)) : Res.Meets (Inv.sound canon q wr) (execPpRead c s) := (h.ppOp.either h).next

theorem execPpWrite_meets {c : Fin 4} (h : s.Meets (Inv.sound canon q wr)) : Res.Meets (Inv.sound canon q wr) (execPpWrite c s) := (h.ppOp.either h).next

theorem execPpDelete_meets {c : Fin 4} (h : s.Meets (Inv.sound canon q wr)) : Res.Meets (Inv.sound canon q wr) (execPpDelete c s) := (h.ppOp.either h).next

/-! ### Register reads -/

theorem State.Meets.prtClear {a : ℕ} (h : s.Meets I) (hI : I.Open) : (s.prtClear p a).Meets I :=
  (h.gauged hI).either (h.modPol.either (h.modSwap.either (h.modCnv.either (h.modEf.either (h.modEf.either h)))))

theorem State.Meets.prtLatch {i : Iface} {a : ℕ} (h : s.Meets (Inv.sound canon q wr)) : (s.prtLatch i p a).Meets (Inv.sound canon q wr) := by
  unfold State.prtLatch
  exact h.modLat

theorem State.Meets.readEffect {i : Iface} {a : ℕ} (h : s.Meets (Inv.sound canon q wr)) : (s.readEffect i a).Meets (Inv.sound canon q wr) := by
  unfold State.readEffect
  exact h.modLat.either <| h.modLat.either <| h.frame.either <| h.frame.either <| h.modFlow.either <|
    h.modFlow.either <| h.flogNext.either <| (h.prtClear ⟨fun _ _ => trivial, rfl⟩).prtLatch.either <| h.frame.either <| h.modLat.either <|
    h.modLat.either <| h.modLat.either <| h

theorem State.Meets.busRead {i : Iface} {a : ℕ} (h : s.Meets (Inv.sound canon q wr)) : (s.busRead i a).2.Meets (Inv.sound canon q wr) := by
  unfold State.busRead
  exact (h.flogLatch.either h).readEffect

theorem execRcRead_meets {i : Iface} {off : BitVec 20} (h : s.Meets (Inv.sound canon q wr)) : Res.Meets (Inv.sound canon q wr) (execRcRead i off s) :=
  h.busRead.emit.next

theorem execLoLatchRead_meets {i : Iface} {off : BitVec 20} (h : s.Meets (Inv.sound canon q wr)) :
    Res.Meets (Inv.sound canon q wr) (execLoLatchRead i off s) :=
  h.busRead.emit.next

/-! ### Register writes -/

theorem State.Meets.violate (h : s.Meets I) : s.violate.Meets I := h.frame

theorem State.Meets.modHif {f : HifState → HifState} (h : s.Meets (Inv.sound canon q wr))
    (hb : ∀ x, (f x).mtrBufs = x.mtrBufs ∧ (f x).wavBufs = x.wavBufs := by intro _; exact ⟨rfl, rfl⟩) : (s.modHif f).Meets (Inv.sound canon q wr) :=
  h.sound (hb := fun _ k => by rw [(hb _).1, (hb _).2]; exact k)

theorem State.Meets.setQIrq {v : Word} (h : s.Meets (Inv.sound canon q wr)) : (s.setQIrq v).Meets (Inv.sound canon q wr) :=
  h.modHif.either (h.modCq.either (h.modEq.either h))

theorem State.Meets.ifNotLive {f : HifState → HifState} (h : s.Meets (Inv.sound canon q wr))
    (hb : ∀ x, (f x).mtrBufs = x.mtrBufs ∧ (f x).wavBufs = x.wavBufs := by intro _; exact ⟨rfl, rfl⟩) : (s.ifNotLive f).Meets (Inv.sound canon q wr) :=
  h.either (h.modHif hb)

theorem State.Meets.msixWrite {o : ℕ} {v : Word} (h : s.Meets (Inv.sound canon q wr)) : (s.msixWrite o v).Meets (Inv.sound canon q wr) := h.modHif.msixPend

theorem State.Meets.stoErr {bit : ℕ} (h : s.Meets I) : (s.stoErr bit).Meets I := h.frame

theorem State.Meets.flowCfg {lock : Bool} {f : ℕ} {v : Word} (h : s.Meets I) : (s.flowCfg lock f v).Meets I := by
  unfold State.flowCfg
  extract_lets +onlyGivenNames x s1 r cap tooHigh low min s2 s3
  have h1 : s1.Meets I := h.violate.either h
  have h2 : s2.Meets I := h1.stoErr.either h1
  have h3 : s3.Meets I := h2.stoErr.either h2
  exact (h3.stoErr.either h3).either (((h3.stoErr.either h3).modFlow).noteRegain)

theorem State.Meets.budErr {bit : ℕ} (h : s.Meets I) : (s.budErr bit).Meets I := h.frame

theorem State.Meets.limitWrite {lock : Bool} {v : Word} (h : s.Meets I) : (s.limitWrite lock v).Meets I := by
  unfold State.limitWrite
  exact ((h.violate.either h).budErr).either <| ((h.violate.either h).budErr).either <|
    ((h.violate.either h).frame).either <|
    (execAllocationRound_meets (((h.violate.either h).frame).frame)).st ((h.violate.either h).frame)

theorem State.Meets.ccCfg {v : Word} (h : s.Meets I) : (s.ccCfg p v).Meets I := by
  unfold State.ccCfg
  extract_lets +onlyGivenNames was s1 s2
  have h1 : s1.Meets I := h.modCc
  have h2 : s2.Meets I := h1.either <| h1.modPd.either h1.pdStop
  exact h1.either <| h2.either <| (h2.either h2.requestPath).either h2.openPath

theorem State.Meets.polWrite {f : PolState → PolState} (h : s.Meets I) : (s.polWrite p f).Meets I := by
  unfold State.polWrite
  exact h.modPol.either h.modPol.latchReneg

theorem State.Meets.prtW1c {a : ℕ} {v : Word} (h : s.Meets I) : (s.prtW1c p a v).Meets I := by
  unfold State.prtW1c
  exact h.modCc.either <| h.modPol.either <| h.modSwap.either <| h.modCnv.either <| h.modEf.either <|
    h.modWm.either <| h.modMtr.either <| h.modWm.either <| h

theorem State.Meets.retrack (h : s.Meets I) : (s.retrack p).Meets I := h.trackShort.trackPeaks.trackUpdate.trackTemp

theorem State.Meets.wmCfg {m : Fin 32} {v : Word} (h : s.Meets I) : (s.wmCfg p m v).Meets I :=
  h.modMon.retrack.either h.modMon

theorem State.Meets.wmStat {m : Fin 32} {v : Word} (h : s.Meets I) : (s.wmStat p m v).Meets I := h.modMon

theorem State.Meets.modPodT {f : PodState → PodState} (h : s.Meets (Inv.sound canon q wr)) : (s.modPodT f).Meets (Inv.sound canon q wr) := h.sound

theorem State.Meets.modTwi {f : TwiState → TwiState} (h : s.Meets I) : (s.modTwi f).Meets I := h.frame

theorem State.Meets.modTwc {n : Fin 4} {f : Twc → Twc} (h : s.Meets I) : (s.modTwc n f).Meets I := h.modTwi

theorem State.Meets.tcfgWrite {v : Word} (h : s.Meets I) : (s.tcfgWrite v).Meets I := h.modTwi

theorem State.Meets.twcCfg {n : Fin 4} {v : Word} (h : s.Meets I) : (s.twcCfg n v).Meets I := h.modTwc

theorem State.Meets.twiW1c {o : ℕ} {v : Word} (h : s.Meets I) : (s.twiW1c o v).Meets I :=
  h.modTwi.either (h.modTwc.either h)

theorem State.Meets.mapSel {v : ℕ} (h : s.Meets I) : (s.mapSel v).Meets I := h.modTwi.either h.modTwi

theorem execTwtMapSelWrite_meets {v : Byte} (h : s.Meets I) : Res.Meets I (execTwtMapSelWrite v s) :=
  (h.mapSel.either h.modTwi).next

theorem State.Meets.modBkp {f : BkpState → BkpState} (h : s.Meets (Inv.sound canon q wr)) : (s.modBkp f).Meets (Inv.sound canon q wr) := h.sound

theorem State.Meets.modPwr {f : PwrState → PwrState} (h : s.Meets I)
    (hw : I.slept.isSome = true → s.pwr.entry = 2 → (f s.pwr).sleeps = s.pwr.sleeps := by intro _ _; rfl) : (s.modPwr f).Meets I :=
  h.frame (hw := hw)

theorem State.Meets.bkpErr (h : s.Meets (Inv.sound canon q wr)) : s.bkpErr.Meets (Inv.sound canon q wr) := h.modBkp

theorem State.Meets.bkpW1c {v : Word} (h : s.Meets (Inv.sound canon q wr)) : (s.bkpW1c v).Meets (Inv.sound canon q wr) := h.modBkp

theorem State.Meets.writeBits {a : ℕ} {v : Word} (h : s.Meets (Inv.sound canon q wr)) : (s.writeBits a v).Meets (Inv.sound canon q wr) := by
  unfold State.writeBits
  exact h.modHif.either <| (h.sound.either h).either <| h.msixWrite.either <| h.frame.either <| h.frame.either <|
    (h.frame.either h).either <| h.prtW1c.either <| (h.wmStat.either h).either <| (h.modPodT.either h).either <|
    h.twiW1c.either <| h.bkpW1c.either <| h

theorem hifSpec_meets {a : ℕ} : RegSpec.Meets (Inv.sound canon q wr) (hifSpec a) :=
  .row (fun h => h.modHif.sendLtr.either h.modHif) (·.hifErr) <| .plain <| .plain <| .row (·.modHif) (·.hifErr) <|
    .row (·.ifNotLive) id <| .row (·.ifNotLive) id <| .row (·.ifNotLive) (·.hifErr) <| .row (·.setQIrq) id .none

theorem stoSpec_meets {i : Iface} {a : ℕ} : RegSpec.Meets (Inv.sound canon q wr) (stoSpec i a) :=
  .row (·.frame) (·.stoErr) <| .row (·.frame.noteRegain) (·.stoErr) <| .row (·.modLat) (·.stoErr) .none

theorem glbSpec_meets {i : Iface} {a : ℕ} : RegSpec.Meets (Inv.sound canon q wr) (glbSpec i a) :=
  .plain <| .row (fun h => h.sound.forPorts fun _ _ h => h.trackTemp) (·.budErr) <| .row (·.modLat) id <| .plain <| .row
    (·.modLat) id <| .plain .none

theorem ccSpec_meets {a : ℕ} : RegSpec.Meets I (ccSpec p a) :=
  .row (·.ccCfg) (·.modCc) <| .row (·.modCc) (·.modCc) <| .row (·.modPd) id .none

theorem polSpec_meets {a : ℕ} : RegSpec.Meets I (polSpec p a) :=
  .row (·.polWrite) (·.modPol) <| .row (·.polWrite) (·.modPol) <| .row (·.modPol) (·.modPol) <| .row (·.modSwap)
    (·.modSwap) .none

theorem cnvSpec_meets {a : ℕ} : RegSpec.Meets I (cnvSpec p a) :=
  .row (·.modCnv) (·.modCnv) <| .row (·.modCnv) (·.modCnv) <| .row (·.modCnv) (·.modCnv) <| .row (·.modCnv)
    (·.modCnv) <|
    .row (·.modCnv) (·.modCnv) <| .row (·.modCnv) (·.modCnv) <| .row (·.modCnv) (·.modCnv) <| .row (·.modCnv)
      (·.modCnv) <| .row (·.modCnv) (·.modCnv) <| .row (·.modCnv) (·.modCnv) .none

theorem efSpec_meets {a : ℕ} : RegSpec.Meets I (efSpec p a) :=
  .row (·.modEf.trackShort) (·.modEf) <| .row (·.modEf) (·.modEf) <| .row (·.modEf) (·.modEf) <| .row (·.modEf)
    (·.modEf) <| .row (·.modEf) (·.modEf) .none

theorem wmSpec_meets {a : ℕ} : RegSpec.Meets I (wmSpec p a) :=
  .row (·.modWm.trackPeaks.trackTemp) (·.modWm) <| .row (·.modWm) (·.modWm) .none

theorem mtrSpec_meets {a : ℕ} : RegSpec.Meets I (mtrSpec p a) :=
  .row (·.modMtr) (·.modMtr) <| .row (·.modMtr) (·.modMtr) <| .row (·.modMtr) (·.modMtr) .none

theorem prtSpec_meets {a : ℕ} : RegSpec.Meets I (prtSpec p a) :=
  ccSpec_meets.or <| polSpec_meets.or <| cnvSpec_meets.or <| efSpec_meets.or <| wmSpec_meets.or mtrSpec_meets

theorem wmcSpec_meets {m : Fin 32} {o : ℕ} : RegSpec.Meets I (wmcSpec p m o) :=
  .row (fun h => h.modWm.either h.modMon) (·.modWm) <| .row (fun h => h.modWm.either h.wmCfg) (·.modWm) <|
    .row (fun h => h.modWm.either h.modMon.armedActs) (·.modWm) .none

theorem podSpec_meets {o : ℕ} : RegSpec.Meets (Inv.sound canon q wr) (podSpec o) :=
  .plain <| .plain <| .plain <| .plain <| .plain <| .plain <| .plain <| .plain .none

theorem twiSpec_meets {o : ℕ} : RegSpec.Meets (Inv.sound canon q wr) (twiSpec o) :=
  .row (fun h => h.frame.either h.frame) (·.frame) <| .row (fun h => h.frame.either h.frame) (·.frame) <| .plain <|
    .plain <| .either (.plain <| .row (fun h => h.frame.either h.frame) (·.frame) .none) .none

theorem bkpSpec_meets {o : ℕ} : RegSpec.Meets (Inv.sound canon q wr) (bkpSpec o) :=
  .plain <| .plain <| .plain <| .plain <| .plain <| .plain <| .plain .none

theorem pwrSpec_meets {o : ℕ} : RegSpec.Meets (Inv.sound canon q wr) (pwrSpec o) :=
  .row (fun h => h.modPwr.either h.modPwr.idleExit) (·.bkpErr) <| .plain <| .plain .none

theorem regSpec_meets {i : Iface} {a : ℕ} : RegSpec.Meets (Inv.sound canon q wr) (regSpec i a) :=
  hifSpec_meets.either <| stoSpec_meets.either <| glbSpec_meets.either <| prtSpec_meets.either <| wmcSpec_meets.either <|
    podSpec_meets.either <| RegSpec.Meets.none.either <| twiSpec_meets.either <| bkpSpec_meets.either <|
      pwrSpec_meets.either .none

theorem State.Meets.writePlain {i : Iface} {lock : Bool} {a : ℕ} {v : Word} (h : s.Meets (Inv.sound canon q wr)) :
    (s.writePlain i lock a v).Meets (Inv.sound canon q wr) := by
  unfold State.writePlain
  split
  next r e => exact regSpec_meets.write e h
  · exact h.flowCfg.either <| h.limitWrite.either <| (h.violate.either h).wvlWrite.either h.writeBits

/-! ### Images -/

theorem State.Meets.applyPairs {lock : Bool} {l : List (ℕ × List Byte)} (h : s.Meets (Inv.sound canon q wr)) :
    (s.applyPairs lock l).Meets (Inv.sound canon q wr) := by
  unfold State.applyPairs
  exact (h.foldl fun _ _ h => h.writePlain).modHif

theorem State.Meets.applySettings {powerOn : Bool} (h : s.Meets (Inv.sound canon q wr)) : (s.applySettings powerOn).Meets (Inv.sound canon q wr) := by
  unfold State.applySettings
  exact (h.applyPairs.foldl fun _ _ h => h.modMtr.either (h.sound.either h)).either <|
    (h.applyPairs.foldl fun _ _ h => h.modMtr.either (h.sound.either h)).modHif

theorem State.Meets.writePodImage {b : Bool} (h : s.Meets (Inv.sound canon q wr)) : (s.writePodImage b).Meets (Inv.sound canon q wr) :=
  h.foldl fun _ _ h => h.either h.podStore

theorem State.Meets.loadCode {c : Fin 4} {b : Bool} (h : s.Meets (Inv.sound canon q wr)) : (s.loadCode c b).Meets (Inv.sound canon q wr) := by
  unfold State.loadCode
  refine h.modCore_of fun k hk => ?_
  rw [Core.memWf_iff] at hk ⊢
  exact ⟨Mem.writeN_wf 0 _ [] 0 rfl, Mem.writeN_wf 0 _ [] 0 rfl, hk.2.2⟩

theorem State.Meets.endCoreDescs {c : Fin 4} (h : s.Meets I) : (s.endCoreDescs c).Meets I := h.endWhere

theorem State.Meets.reloadCore {c : Fin 4} {b : Bool} (h : s.Meets (Inv.sound canon q wr)) : (s.reloadCore c b).Meets (Inv.sound canon q wr) := by
  unfold State.reloadCore
  exact (h.endCoreDescs.coreReset.loadCode.coreRun.either h.endCoreDescs.coreReset.loadCode.coreStart).modImg

theorem State.Meets.migrate (h : s.Meets (Inv.sound canon q wr)) : s.migrate.Meets (Inv.sound canon q wr) :=
  h.either (h.modImg fun _ hg => ((hg.either hg.erase.of_flash).erase).program).modImg.eventD

theorem State.Meets.activated (h : s.Meets (Inv.sound canon q wr)) : s.activated.Meets (Inv.sound canon q wr) := by
  unfold State.activated
  dsimp only
  split
  · exact ((((h.modImg fun _ hg => hg.takeCopy).applyPairs.either h).modImg).eventD).finish
  · exact (((h.modImg fun _ hg => hg.takeCopy).applyPairs.either h).modImg).eventD

theorem State.Meets.fellBack {kinds reason : ℕ} (h : s.Meets (Inv.sound canon q wr)) : (s.fellBack kinds reason).Meets (Inv.sound canon q wr) := by
  unfold State.fellBack
  extract_lets +onlyGivenNames was s1 s2 s3 s4 s5
  have h1 : s1.Meets (Inv.sound canon q wr) := h.modImg
  have h3 : s3.Meets (Inv.sound canon q wr) := (h1.modImg fun _ hg => hg.takeCopy).applyPairs.either h1
  have h4 : s4.Meets (Inv.sound canon q wr) := h3.modImg.eventD
  have h5 : s5.Meets (Inv.sound canon q wr) := by
    unfold s5
    split
    · exact h4.finish
    · exact h4
  split
  · exact h5.finish
  · exact h5

theorem State.Meets.fallBack {reason : ℕ} (h : s.Meets (Inv.sound canon q wr)) : (s.fallBack reason).Meets (Inv.sound canon q wr) := by
  unfold State.fallBack
  extract_lets +onlyGivenNames s1 s2
  have h1 : s1.Meets (Inv.sound canon q wr) := h.modImg
  have h2 : s2.Meets (Inv.sound canon q wr) := h1.writePodImage.either h1
  exact h.either <| h2.reloadCore.either h2.fellBack

theorem State.Meets.faultHook (h : s.Meets (Inv.sound canon q wr)) : s.faultHook.Meets (Inv.sound canon q wr) := h.fallBack

theorem execCoreReady_meets {n : Fin 4} {ok : Bool} (h : s.Meets (Inv.sound canon q wr)) : Res.Meets (Inv.sound canon q wr) (execCoreReady n ok s) :=
  (h.either ((h.fellBack.either h.reloadCore).either (h.fallBack.either
    (h.modImg.migrate.activated.either h.reloadCore)))).next

theorem imgActivateSpec_meets : imgActivateSpec.Meets (Inv.sound canon q wr) := by
  intro s d h
  dsimp -zeta only [imgActivateSpec]
  extract_lets +onlyGivenNames k
  split
  · exact h.finish
  · extract_lets +onlyGivenNames s1 v s2
    have h1 : s1.Meets (Inv.sound canon q wr) := h.modImg fun g hg => by
      extract_lets g1
      have h1 : g1.flashOk := hg.foldl fun _ _ hg => hg.of_flash.either hg
      exact ImgState.flashOk.of_flash h1
    have h2 : s2.Meets (Inv.sound canon q wr) := h1.eventD
    exact h2.finish.either (((h2.writePodImage.either h2).reloadCore).either ((h2.writePodImage.either h2).activated))

theorem execImgActivate_meets {d : Desc} (h : s.Meets (Inv.sound canon q wr)) : Res.Meets (Inv.sound canon q wr) (execImgActivate d s) :=
  (imgActivateSpec_meets.start h).next

theorem State.Meets.confirmTrial (h : s.Meets (Inv.sound canon q wr)) : s.confirmTrial.Meets (Inv.sound canon q wr) := by
  unfold State.confirmTrial
  extract_lets m k sec t
  have ht : t.Meets (Inv.sound canon q wr) := h.modImg fun g hg => by
    extract_lets +onlyGivenNames g1 g2
    have h1 : g1.flashOk := hg
    have h2 : g2.flashOk := h1.foldl fun _ _ hg => hg.of_flash.either hg
    exact h2
  exact ht.eventD

theorem imgConfirmSpec_meets : imgConfirmSpec.Meets (Inv.sound canon q wr) := fun _ _ h => h.fallBack.either h.confirmTrial.finish

theorem execImgConfirm_meets {d : Desc} (h : s.Meets (Inv.sound canon q wr)) : Res.Meets (Inv.sound canon q wr) (execImgConfirm d s) :=
  (imgConfirmSpec_meets.start h).next

theorem execHealthWindowExpiry_meets (h : s.Meets (Inv.sound canon q wr)) : Res.Meets (Inv.sound canon q wr) (execHealthWindowExpiry s) :=
  (h.fallBack.either h).next

/-! ### Power states -/

theorem State.Meets.heldSources (h : s.Meets I) : s.heldSources.Meets I := by
  unfold State.heldSources
  extract_lets +onlyGivenNames rd mon
  clear_value rd
  extract_lets +onlyGivenNames s1 s2
  have h1 : s1.Meets I := by
    cases rd with
    | none => exact h
    | some p => exact h.wakeSet
  have h2 : s2.Meets I := h1.wakeSet.either h1
  exact h2.wakeSet.either h2

theorem State.Meets.enterSleep {target reqBy : ℕ} (h : s.Meets (Inv.sound canon q wr)) : (s.enterSleep target reqBy).Meets (Inv.sound canon q wr) :=
  (h.frame (hw := nofun)).heldSources

theorem powerStateSpec_meets : powerStateSpec.Meets (Inv.sound canon q wr) := fun _ _ h => h.enterSleep

theorem execPowerState_meets {d : Desc} (h : s.Meets (Inv.sound canon q wr)) : Res.Meets (Inv.sound canon q wr) (execPowerState d s) :=
  (powerStateSpec_meets.start h).next

theorem State.Meets.abandonEntry {why row : ℕ} (h : s.Meets (Inv.sound canon q wr)) : (s.abandonEntry why row).Meets (Inv.sound canon q wr) := by
  unfold State.abandonEntry
  dsimp only
  split
  · exact (h.entryOver nofun).modPwr.eventD.finish.either (h.entryOver nofun).modPwr.eventD.finish
  · exact (h.entryOver nofun).modPwr.eventD

theorem State.Meets.flushHost (h : s.Meets I) : s.flushHost.Meets I :=
  h.foldl fun _ _ h => (execHostRecordWrite_meets h).st h

theorem State.memWf_default : ({} : State).memWf = true := resetKeepsInvariants.1

theorem State.Meets.coreOff (h : s.Meets (Inv.sound canon q {})) : s.coreOff.Meets (Inv.sound canon q {}) := h.memories (hr := nofun) (hg := nofun) (hb := nofun) (hm := fun k => by
  have hd := State.memWf_iff.1 State.memWf_default
  exact State.memWf_iff.2 ⟨hd.1, hd.2.1, (State.memWf_iff.1 k).2.2⟩)

theorem State.Meets.hibernatePins (h : s.Meets I) : s.hibernatePins.Meets I :=
  h.forPorts fun _ _ h => h.modCc.either h

theorem State.Meets.commitSleep (h : s.Meets (Inv.sound canon q {})) : s.commitSleep.Meets (Inv.sound canon q {}) := by
  unfold State.commitSleep
  extract_lets +onlyGivenNames w t s1 s2 s3
  have h1 : s1.Meets (Inv.sound canon q {}) := h.modPwr nofun
  have h2 : s2.Meets (Inv.sound canon q {}) := h1.eventD.either h1
  have h3 : s3.Meets (Inv.sound canon q {}) := by
    unfold s3
    split
    · exact h2.finish
    · exact h2
  exact h3.modPwr.either h3.flushHost.coreOff.modPwr.hibernatePins

theorem execQuiesceComplete_meets (h : s.Meets (Inv.sound canon q {})) : Res.Meets (Inv.sound canon q {}) (execQuiesceComplete s) := by
  unfold execQuiesceComplete
  refine State.Meets.next ?_
  split
  · exact h
  · split
    · exact h.abandonEntry
    · exact h.commitSleep

theorem execQuiesceTimeout_meets (h : s.Meets (Inv.sound canon q wr)) : Res.Meets (Inv.sound canon q wr) (execQuiesceTimeout s) :=
  (h.abandonEntry.either h).next

theorem execDozeTimerExpiry_meets (h : s.Meets (Inv.sound canon q wr)) : Res.Meets (Inv.sound canon q wr) (execDozeTimerExpiry s) :=
  (h.enterSleep.either h).next

theorem execHibernateTimerExpiry_meets (h : s.Meets (Inv.sound canon q wr)) : Res.Meets (Inv.sound canon q wr) (execHibernateTimerExpiry s) :=
  (h.enterSleep.either h).next

theorem execIdleEntry_meets (h : s.Meets I) : Res.Meets I (execIdleEntry s) := (h.modPwr.eventD.either h).next

theorem State.Meets.wakeRecord {left ms : ℕ} (h : s.Meets I) : (s.wakeRecord left ms).Meets I := h.eventD

theorem State.Meets.woken {ms : ℕ} (h : s.Meets (Inv.sound canon q wr)) : (s.woken ms).Meets (Inv.sound canon q wr) := h.modPwr nofun

theorem State.Meets.recheckLegs (h : s.Meets I) : s.recheckLegs.Meets I := h.forPorts fun _ _ h => h.modWm

theorem execWakeFromDoze_meets (h : s.Meets (Inv.sound canon q wr)) : Res.Meets (Inv.sound canon q wr) (execWakeFromDoze s) :=
  (h.either (h.modPwr.recheckLegs.wakeRecord.woken.forPorts fun _ _ h => h.tryPath)).next

theorem execWakeFromHibernate_meets (h : s.Meets (Inv.sound canon q wr)) : Res.Meets (Inv.sound canon q wr) (execWakeFromHibernate s) :=
  (h.modPwr.either h).next

theorem execHibernateCcWake_meets (h : s.Meets I) : Res.Meets I (execHibernateCcWake p s) :=
  (h.wakeSet.either h).next

theorem execPerstRise_meets (h : s.Meets I) : Res.Meets I (execPerstRise s) := (h.wakeSet.either h).next

theorem execBusinRiseWake_meets (h : s.Meets I) : Res.Meets I (execBusinRiseWake s) := h.wakeSet.next

theorem execAddressMatchWake_meets {addr : BitVec 8} (h : s.Meets I) :
    Res.Meets I (execAddressMatchWake addr s) := by
  unfold execAddressMatchWake
  refine State.Meets.next ?_
  split
  · exact h
  · exact h.modPwr.wakeSet.either h.wakeSet

theorem State.Meets.bkpRecord {cause : ℕ} {fs : List (ℕ × ℕ × ℕ)} (h : s.Meets (Inv.sound canon q wr)) :
    (s.bkpRecord cause fs).Meets (Inv.sound canon q wr) :=
  h.modBkp.either h.eventD

theorem State.Meets.alarmCheck (h : s.Meets (Inv.sound canon q wr)) : s.alarmCheck.Meets (Inv.sound canon q wr) := h.either h.modBkp.bkpRecord.wakeSet

theorem execCalAlarm_meets (h : s.Meets (Inv.sound canon q wr)) : Res.Meets (Inv.sound canon q wr) (execCalAlarm s) := h.alarmCheck.next

theorem State.Meets.setCalendar {v : Quad} {by_ : ℕ} (h : s.Meets (Inv.sound canon q wr)) : (s.setCalendar v by_).Meets (Inv.sound canon q wr) :=
  h.modBkp.eventD.timeFix.alarmCheck

theorem calSetSpec_meets : calSetSpec.Meets (Inv.sound canon q wr) := fun _ _ h => h.setCalendar.finish

theorem execCalSet_meets {d : Desc} (h : s.Meets (Inv.sound canon q wr)) : Res.Meets (Inv.sound canon q wr) (execCalSet d s) :=
  (calSetSpec_meets.start h).next

theorem State.Meets.bkpCtrl {v : Word} (h : s.Meets (Inv.sound canon q wr)) : (s.bkpCtrl v).Meets (Inv.sound canon q wr) :=
  h.either (h.bkpErr.either h.setCalendar)

theorem execBkpSet_meets {v : Word} (h : s.Meets (Inv.sound canon q wr)) : Res.Meets (Inv.sound canon q wr) (execBkpSet v s) := h.wakeSet.bkpCtrl.next

theorem execCalendarTrim_meets (h : s.Meets (Inv.sound canon q wr)) : Res.Meets (Inv.sound canon q wr) (execCalendarTrim s) := (h.either h.modBkp).next

theorem execCalendarOscFail_meets (h : s.Meets (Inv.sound canon q wr)) : Res.Meets (Inv.sound canon q wr) (execCalendarOscFail s) :=
  (h.either h.modBkp.frame.bkpRecord).next

theorem execCalendarOscReturn_meets (h : s.Meets (Inv.sound canon q wr)) : Res.Meets (Inv.sound canon q wr) (execCalendarOscReturn s) := h.modBkp.next

theorem execTamper_meets {x : TamperLevel} (h : s.Meets (Inv.sound canon q wr)) : Res.Meets (Inv.sound canon q wr) (execTamper x s) :=
  (h.modBkp.either (h.either h.modBkp.bkpRecord.wakeSet)).next

theorem State.Meets.clearTamper {v : Word} (h : s.Meets (Inv.sound canon q wr)) : (s.clearTamper v).Meets (Inv.sound canon q wr) := h.modBkp

theorem execTamperLatchClear_meets {v : Word} (h : s.Meets (Inv.sound canon q wr)) : Res.Meets (Inv.sound canon q wr) (execTamperLatchClear v s) :=
  h.wakeSet.clearTamper.next

theorem execVbatMeasure_meets {mv : ℕ} (h : s.Meets (Inv.sound canon q wr)) : Res.Meets (Inv.sound canon q wr) (execVbatMeasure mv s) :=
  (h.either (h.modBkp.eventD.either h.modBkp)).next

theorem execBackupSupplySwitch_meets {onVbat : Bool} (h : s.Meets (Inv.sound canon q wr)) :
    Res.Meets (Inv.sound canon q wr) (execBackupSupplySwitch onVbat s) :=
  h.modBkp.next

/-! ### Reset and boot -/

theorem State.Meets.hrSignal (h : s.Meets I) : (s.hrSignal p).Meets I := h.either h.modPd.pdClear.emit.hrNote

theorem State.Meets.stopPort {r : EndReason} (h : s.Meets I) : (s.stopPort p r).Meets I := by
  unfold State.stopPort
  dsimp only
  split
  · exact h.hrSignal.openBf.closeSession.seqOff.vconnOff.enterHold
  · exact h.openBf.openPath.vconnOff.either h.hrSignal.openBf.disable

theorem State.Meets.clearMonitors (h : s.Meets I) : (s.clearMonitors p).Meets I := h.modWm

theorem State.Meets.forgetPort (h : s.Meets I) : (s.forgetPort p).Meets I := h.modCnv.modEf.clearMonitors

theorem portResetSpec_meets : portResetSpec.Meets I := by
  intro s d h
  dsimp -zeta only [portResetSpec]
  extract_lets +onlyGivenNames p before s1 s2
  have h1 : s1.Meets I := h.setAux.endWhere
  have h2 : s2.Meets I := h1.stopPort.forgetPort
  exact ((h2.either h2.toUnattached).portResetDone).either (h2.either h2.toUnattached)

theorem execPortReset_meets {d : Desc} (h : s.Meets I) : Res.Meets I (execPortReset d s) :=
  (portResetSpec_meets.start h).next

theorem State.Meets.fallbackRecord {kinds reason : ℕ} (h : s.Meets I) : (s.fallbackRecord kinds reason).Meets I :=
  h.either h.eventD

theorem State.Meets.readSettings (h : s.Meets (Inv.sound canon q wr)) : s.readSettings.Meets (Inv.sound canon q wr) :=
  h.modImg fun _ hg => hg.takeCopy.either hg.takeCopy

theorem State.Meets.trialAtBoot (h : s.Meets (Inv.sound canon q wr)) : s.trialAtBoot.Meets (Inv.sound canon q wr) := by
  unfold State.trialAtBoot
  exact h.modImg

theorem State.Meets.startCores (h : s.Meets (Inv.sound canon q wr)) : s.startCores.Meets (Inv.sound canon q wr) := by
  unfold State.startCores
  exact (h.foldl fun _ _ h => h.coreReset.loadCode).coreRun

theorem State.Meets.resetKeys (h : s.Meets (Inv.sound canon q wr)) : s.resetKeys.Meets (Inv.sound canon q wr) := h.sound

theorem State.Meets.loadUp {powerOn : Bool} (h : s.Meets (Inv.sound canon q wr)) : (s.loadUp powerOn).Meets (Inv.sound canon q wr) :=
  h.readSettings.startCores.resetKeys.migrate.readSettings.applySettings.trialAtBoot

theorem State.Meets.bootDone (h : s.Meets (Inv.sound canon q wr)) : s.bootDone.Meets (Inv.sound canon q wr) := h.modHif.modPwr.eventD

theorem State.Meets.enablePorts (h : s.Meets I) : s.enablePorts.Meets I :=
  h.forPorts fun _ _ h => h.either (h.budErr.either (h.frame.either h.toUnattached))

theorem State.Meets.loadPod (h : s.Meets (Inv.sound canon q wr)) : s.loadPod.Meets (Inv.sound canon q wr) := by
  unfold State.loadPod
  exact h.modPodT

theorem State.Meets.wakeRecords (h : s.Meets (Inv.sound canon q wr)) : s.wakeRecords.Meets (Inv.sound canon q wr) := by
  unfold State.wakeRecords
  extract_lets +onlyGivenNames w woke s1 late s2 s3
  have h1 : s1.Meets (Inv.sound canon q wr) := h.eventD.either h
  have h2 : s2.Meets (Inv.sound canon q wr) := h1.modBkp.foldl fun _ _ h => h.event
  have h3 : s3.Meets (Inv.sound canon q wr) := by
    unfold s3
    split
    · exact h2.modPwr.eventD
    · exact h2
  exact h3.wakeRecord.woken.either h3

theorem State.Meets.rescue {why : ℕ} (h : s.Meets (Inv.sound canon q wr)) : (s.rescue why).Meets (Inv.sound canon q wr) :=
  h.coreRun.sound.modHif.modPwr.eventD

theorem State.Meets.bootOn {i : BootIn} (h : s.Meets (Inv.sound canon q wr)) : (s.bootOn i).Meets (Inv.sound canon q wr) := by
  unfold State.bootOn
  extract_lets +onlyGivenNames m gen
  split
  next m1 k4 e1 =>
  split
  next m2 k5 bad e2 =>
  have hm (hg : s.img.flashOk) : m2.flashOk := by
    have h0 : m.flashOk := .either hg hg.repair
    have h1 : m1.flashOk := by simpa only [e1] using h0.bootTrial
    simpa only [e2] using h1.bootCode (ok := fun b => if b then i.codeBOk else i.codeAOk)
  extract_lets +onlyGivenNames era src1 src2 src3 s1 s2 s3 s4
  have h1 : s1.Meets (Inv.sound canon q wr) := (h.setImg fun k => hm (h.flash k)).sound
  have h2 : s2.Meets (Inv.sound canon q wr) := h1.either h1.event
  have h3 : s3.Meets (Inv.sound canon q wr) := h2.either h2.eventD
  have h4 : s4.Meets (Inv.sound canon q wr) := h3.fallbackRecord.fallbackRecord
  exact h4.rescue.either h4.loadUp.loadPod.wakeRecords.bootDone.enablePorts

theorem State.Meets.powerReset {cause : ℕ} {lost : Bool} (h : s.Meets (Inv.sound canon q {})) : (s.powerReset cause lost).Meets (Inv.sound canon q {}) := by
  unfold State.powerReset
  extract_lets +onlyGivenNames w kept src t
  have ht : t.Meets (Inv.sound canon q {}) := h.coreOff.sound (hr := nofun)
  exact ht.sound.either ht.modBkp

theorem execPowerOnReset_meets {cause : Fin 8} {boot : BootIn} (h : s.Meets (Inv.sound canon q {})) :
    Res.Meets (Inv.sound canon q {}) (execPowerOnReset cause boot s) :=
  (h.either (h.powerReset.calibrate.bootOn.either (h.powerReset.sound (hr := nofun)))).next

theorem execCrystalStartTimeout_meets (h : s.Meets (Inv.sound canon q {})) : Res.Meets (Inv.sound canon q {}) (execCrystalStartTimeout s) := by
  unfold execCrystalStartTimeout
  dsimp only
  refine State.Meets.next ?_
  split
  · exact h
  · exact (h.sound (hg := nofun)).bootOn.eventD

theorem State.Meets.clearRwl (h : s.Meets (Inv.sound canon q wr)) : s.clearRwl.Meets (Inv.sound canon q wr) := by
  unfold State.clearRwl
  extract_lets +onlyGivenNames z put s1
  have h1 : s1.Meets (Inv.sound canon q wr) := h.modHif
  refine State.Meets.forPorts (State.Meets.memories (s := s1) h1 (fun k => ?_) rfl (fun _ => by simp only [RstState.warm])) fun _ _ h => h.modPort
  obtain ⟨hc, hs, hf⟩ := State.memWf_iff.1 k
  refine State.memWf_iff.2 ⟨fun c => (Core.memWf_of_mems ?_).trans (hc c), hs, hf⟩
  show Core.mems (Vector.ofFn _)[c.val] = _
  rw [Vector.getElem_ofFn]
  rfl

theorem State.Meets.warmEnd (h : s.Meets (Inv.sound canon q wr)) : s.warmEnd.Meets (Inv.sound canon q { wr with bufs := true }) := by
  unfold State.warmEnd
  have h1 : (s.endWhere (fun _ => true) stAbortedDeviceReset).Meets (Inv.sound canon q wr) := h.endWhere
  generalize s.endWhere (fun _ => true) stAbortedDeviceReset = t at h1 ⊢
  rw [State.meets_sound_iff] at h1 ⊢
  obtain ⟨hm, hq, hw, hg, -⟩ := h1
  exact ⟨hm, hq, hw, hg, fun _ => ⟨rfl, rfl⟩⟩

theorem State.Meets.warmBus {n : Fin 4} (h : s.Meets I) : (s.warmBus n).Meets I := by
  unfold State.warmBus
  extract_lets +onlyGivenNames c s1
  have h1 : s1.Meets I := by
    unfold s1
    split
    · split
      · exact h.coreResult
      · exact h
    · exact h
  exact h1.modTwc

theorem State.Meets.warmPort (h : s.Meets I) : (s.warmPort p).Meets I := by
  unfold State.warmPort
  exact h.modCnv.modEf.clearMonitors.modWm

/-- A warm reset leaves its record, and no posted buffer. -/
theorem State.Meets.warmRun {l : BitVec 3} {b : Bool} {n : Byte} (h : s.Meets (Inv.sound canon q { wr with warm := some (l, b, n) })) :
    s.warmRun.Meets (Inv.sound canon q { wr with warm := some (if s.rst.warmBy = 2 then 6 else 5, false, satInc n), bufs := true }) := by
  unfold State.warmRun
  extract_lets +onlyGivenNames r live s1 s2 s3 s4 src s5
  have h1 : s1.Meets (Inv.sound canon q { wr with warm := some (l, b, n) }) := h.modHif.eventD
  have h2 : s2.Meets (Inv.sound canon q { wr with warm := some (l, b, n), bufs := true }) := (h1.forPorts fun _ _ h => h.stopPort).warmEnd
  have h3 : s3.Meets (Inv.sound canon q { wr with warm := some (l, b, n), bufs := true }) := h2.foldl fun _ _ h => h.warmBus
  have h4 : s4.Meets (Inv.sound canon q { wr with warm := some (l, b, n), bufs := true }) := h3.modTwi
  have h5 : s5.Meets (Inv.sound canon q { wr with warm := some (if s.rst.warmBy = 2 then 6 else 5, false, satInc n), bufs := true }) := by
    clear_value s4
    rw [State.meets_sound_iff] at h4 ⊢
    obtain ⟨hm, hq, hw, hg, hb⟩ := h4
    have hc : s4.rst.warmCount = n := congrArg (·.2.2) (hw _ rfl)
    have hw5 : s5.rst.warm = (if s.rst.warmBy = 2 then 6 else 5, false, satInc s4.rst.warmCount) := rfl
    exact ⟨hm, hq, fun x e => by rw [← Option.some.inj e, ← hc, hw5], hg, hb⟩
  generalize { wr with warm := some (if s.rst.warmBy = 2 then 6 else 5, false, satInc n), bufs := true } = wr' at h5 ⊢
  clear_value s5
  split
  next m k4 e =>
  have hm (hg : s5.img.flashOk) : m.flashOk := by simpa only [e] using hg.bootTrial
  have h6 := h5.clearRwl.setImg fun k => hm (h5.flash k)
  extract_lets +onlyGivenNames s6 s7 rst s8 s9
  have h7 : s7.Meets (Inv.sound canon q wr') := h6.fallbackRecord.forPorts fun _ _ h => h.warmPort
  have h9 : s9.Meets (Inv.sound canon q wr') := h7.sound.loadUp
  exact h7.rescue.either (h9.loadPod.either h9).bootDone.enablePorts

/-- What stands may be forgotten, and the record of the last reset taken note of. -/
theorem State.Meets.forget (h : s.Meets (Inv.sound canon q wr)) : s.Meets (Inv.sound canon q {}) := by
  rw [State.meets_sound_iff] at h ⊢
  exact ⟨h.1, h.2.1, nofun, nofun, nofun⟩

theorem State.Meets.recorded (h : s.Meets (Inv.sound canon q {})) : s.Meets (Inv.sound canon q { warm := some s.rst.warm }) := by
  rw [State.meets_sound_iff] at h ⊢
  exact ⟨h.1, h.2.1, fun _ e => Option.some.inj e, nofun, nofun⟩

theorem State.Meets.warmRun_any (h : s.Meets (Inv.sound canon q {})) : s.warmRun.Meets (Inv.sound canon q {}) :=
  (State.Meets.warmRun (wr := {}) h.recorded).forget

theorem State.Meets.warmRequest {by_ : ℕ} {force : Bool} (h : s.Meets (Inv.sound canon q {})) : (s.warmRequest by_ force).Meets (Inv.sound canon q {}) := by
  unfold State.warmRequest
  extract_lets +onlyGivenNames s1 src s2
  have h1 : s1.Meets (Inv.sound canon q {}) := (h.abandonWake nofun).either <| h.latchWake.either h
  have h2 : s2.Meets (Inv.sound canon q {}) := h1.sound (hr := nofun)
  exact h2.warmRun_any.either h2

theorem State.Meets.hifRst {i : Iface} {v : Word} (h : s.Meets (Inv.sound canon q {})) : (s.hifRst i v).Meets (Inv.sound canon q {}) :=
  h.hifErr.either (h.either h.warmRequest)

theorem execWarmReset_meets {i : Iface} {v : Word} (h : s.Meets (Inv.sound canon q {})) : Res.Meets (Inv.sound canon q {}) (execWarmReset i v s) :=
  ((h.hifRst.either h.modTwi).either h.wakeSet.hifRst).next

theorem execWarmResetProceed_meets (h : s.Meets (Inv.sound canon q {})) : Res.Meets (Inv.sound canon q {}) (execWarmResetProceed s) :=
  (h.warmRun_any.either h).next

/-! ### Two-wire controllers -/

theorem twiXferSpec_meets : twiXferSpec.Meets I := fun _ _ h => h.sendCell

theorem execTwiXfer_meets {d : Desc} {wdata : List Byte} (h : s.Meets I) : Res.Meets I (execTwiXfer d wdata s) :=
  (twiXferSpec_meets.start h).next

theorem State.Meets.twTell {n : Fin 4} {x : TwItem} {status : ℕ} {res : Quad} {rd : List Byte} (h : s.Meets I) :
    (s.twTell n x status res rd).Meets I := by
  unfold State.twTell
  split
  · exact h.coreResult
  · split
    · exact h.either ((h.either h.hostPut).finish)
    · exact h

theorem State.Meets.twEnd {n : Fin 4} {x : TwItem} {status moved : ℕ} {at_ : Option (ℕ × ℕ)} {rd : List Byte} (h : s.Meets I) :
    (s.twEnd n x status moved at_ rd).Meets I :=
  h.modTwc.twTell

theorem State.Meets.twLoss {n : Fin 4} {x : TwItem} {byte bit phase moved : ℕ} (h : s.Meets I) :
    (s.twLoss n x byte bit phase moved).Meets I :=
  h.modTwc.eventD.modTwc.either h.modTwc.eventD.twEnd

theorem State.Meets.twLossAt {n : Fin 4} {x : TwItem} {status byte phase moved : ℕ} (h : s.Meets I) :
    (s.twLossAt n x status byte phase moved).Meets I := by
  unfold State.twLossAt
  exact h.modTwc.eventD.twEnd

theorem State.Meets.twRun {n : Fin 4} {x : TwItem} {r : TwcRes} (h : s.Meets I) : (s.twRun n x r).Meets I := by
  unfold State.twRun
  dsimp only
  split
  · exact h.modTwc.emit.twEnd
  · exact h.modTwc.emit.twEnd
  · exact h.modTwc.emit.twLoss
  · exact h.modTwc.emit.twLossAt
  · exact h.modTwc.emit.twLossAt
  · exact h.modTwc.emit.twEnd
  · exact h.modTwc.emit
  · exact h.modTwc.emit

theorem execTwcItem_meets {n : Fin 4} {r : TwcRes} (h : s.Meets I) : Res.Meets I (execTwcItem n r s) := by
  unfold execTwcItem
  dsimp only
  refine State.Meets.next ?_
  split
  · exact h
  · split
    · exact h.headUe
    · split
      · exact h.headUe
      · exact h.headUe.popRecord.either <| h.headUe.popRecord.twEnd.either <| h.headUe.popRecord.twEnd.either <|
          h.headUe.popRecord.twEnd.either <| h.headUe.either <| h.headUe.modTwc.either <| h.headUe.popRecord.twRun

theorem execArbRetry_meets {n : Fin 4} {r : TwcRes} (h : s.Meets I) : Res.Meets I (execArbRetry n r s) := by
  unfold execArbRetry
  dsimp only
  refine State.Meets.next ?_
  split
  · exact h.either (h.modTwc.either h.twRun)
  · exact h

theorem execStretchTimeout_meets {n : Fin 4} {moved : ℕ} (h : s.Meets I) :
    Res.Meets I (execStretchTimeout n moved s) := by
  unfold execStretchTimeout
  dsimp only
  refine State.Meets.next ?_
  split
  · exact h.either h.modTwc.twEnd
  · exact h

theorem State.Meets.recovered {n : Fin 4} {sda scl : Bool} (h : s.Meets I) : (s.recovered n sda scl).Meets I :=
  h.modTwc

theorem execBusRecovery_meets {n : Fin 4} {sda scl : Bool} {pulses : ℕ} (h : s.Meets I) :
    Res.Meets I (execBusRecovery n sda scl pulses s) := by
  unfold execBusRecovery
  dsimp only
  refine State.Meets.next ?_
  split
  · exact h
  · split
    · exact h.recovered
    · split
      · exact h.recovered.modTwc.eventD.twEnd
      · exact h.recovered.modTwc.eventD

theorem execQuarantineRetry_meets {n : Fin 4} {sda scl : Bool} {pulses : ℕ} (h : s.Meets I) :
    Res.Meets I (execQuarantineRetry n sda scl pulses s) :=
  (h.either (h.recovered.modTwc.either h.recovered.modTwc.modTwc.eventD)).next

theorem execTwcInband_meets {n : Fin 4} {bytes : List Byte} (h : s.Meets I) :
    Res.Meets I (execTwcInband n bytes s) :=
  (h.either h.eventD).next

/-! ### The commands of the rings -/

theorem portSpec_meets {leg0 leg1 : Option ℕ} {op : ℕ} {k : CmdSpec} (e : portSpec leg0 leg1 op = some k) :
    k.Meets I := by
  unfold portSpec at e
  split at e <;> cases e
  exacts [portEnableSpec_meets, portDisableSpec_meets, portResetSpec_meets, clearFaultSpec_meets, hardResetSpec_meets,
    renegotiateSpec_meets, setpointTrimSpec_meets, roleSwapSpec_meets, vconnSwapSpec_meets, vconnSetSpec_meets,
      backfeedSetSpec_meets,
    phaseClearSpec_meets, podRelookupSpec_meets, authenticateSpec_meets, fleetModeSpec_meets, monitorTestSpec_meets]

theorem devSpec_meets {op : ℕ} {k : CmdSpec} (e : devSpec op = some k) : k.Meets (Inv.sound canon q wr) := by
  unfold devSpec at e
  split at e <;> cases e
  exacts [nopSpec_meets, sessionReadSpec_meets, sessionAckSpec_meets, calSetSpec_meets, podWriteSpec_meets,
    twiXferSpec_meets,
    faultLogReadSpec_meets, imgBlockSpec_meets, imgActivateSpec_meets, imgConfirmSpec_meets, powerStateSpec_meets]

theorem specOf_spec {leg0 leg1 : Option ℕ} {op : ℕ} {k : CmdSpec} (e : specOf leg0 leg1 op = some k) : k.Meets (Inv.sound canon q wr) :=
  (Option.or_eq_some_iff.mp e).elim portSpec_meets fun e => devSpec_meets e.2

theorem execDeferredStart_meets {sq : Fin 16} {slot : BitVec 12} (h : s.Meets (Inv.sound canon q wr)) :
    Res.Meets (Inv.sound canon q wr) (execDeferredStart sq slot s) := by
  unfold execDeferredStart
  refine State.Meets.next ?_
  split
  · exact h
  · split
    · exact h
    · dsimp only
      split
      next k e => exact (specOf_spec e).judge h.draw
      · exact h.draw

theorem execDeferTimeout_meets {sq : Fin 16} {slot : BitVec 12} (h : s.Meets I) :
    Res.Meets I (execDeferTimeout sq slot s) := by
  unfold execDeferTimeout
  refine State.Meets.next ?_
  split
  · exact h
  · split
    · exact h
    · split
      · exact h.finish
      · exact h

theorem execCommandTimeLimitExpiry_meets {sq : Fin 16} {slot : BitVec 12} (h : s.Meets I) :
    Res.Meets I (execCommandTimeLimitExpiry sq slot s) := by
  unfold execCommandTimeLimitExpiry
  refine State.Meets.next ?_
  split
  · exact h
  · exact h.either (h.openBf.modEf.finish.either (h.portResetDone.either h))

theorem execJournalScan_meets (h : s.Meets I) : Res.Meets I (execJournalScan s) :=
  (h.either (h.scanJournal.forPorts fun _ _ h => h.tryPath)).next

theorem execCreditReturn_meets {flow : ℕ} (h : s.Meets (Inv.sound canon q wr)) : Res.Meets (Inv.sound canon q wr) (execCreditReturn flow s) :=
  State.Meets.next <| h.either <| h.admitTx.nextTx.either <| h.putMerged.either <| h.admitCell.pumpWave.either <|
    h.podBlocksGo.either <| h.imgBlocksGo.either <| h.admitCell.either h

theorem State.Meets.deleteSq {k : Fin 16} (h : s.Meets (Inv.sound canon q wr)) : (s.deleteSq k).Meets (Inv.sound canon q wr) :=
  (((h.modSq.foldl fun _ _ h => h.finish).sound (hb := fun _ k => by simp [k])).foldl fun _ _ h => h.endBuf).sqGone

theorem execQueueDelete_meets (h : s.Meets (Inv.sound canon q wr)) : Res.Meets (Inv.sound canon q wr) (execQueueDelete s) :=
  (h.qResult.either (h.deleteSq.qResult.either
    ((h.qResult.either h.modCq.orphan.qResult).either h.modEq.qResult))).next

/-! ### Register accesses on the buses -/

theorem State.Meets.lockWrite {i : Iface} {v : Word} (h : s.Meets (Inv.sound canon q {})) : (s.lockWrite i v).Meets (Inv.sound canon q {}) :=
  h.modHif.sound.either h.modHif

theorem State.Meets.qctrlWrite {v : Word} (h : s.Meets (Inv.sound canon q {})) : (s.qctrlWrite v).Meets (Inv.sound canon q {}) := by
  unfold State.qctrlWrite
  exact ((execQueueCreate_meets h).st h).either <| ((execQueueDelete_meets h).st h).either <|
    ((execDiscardOrphans_meets h).st h).either <| h

theorem State.Meets.podCtrl {v : Word} (h : s.Meets (Inv.sound canon q {})) : (s.podCtrl v).Meets (Inv.sound canon q {}) := by
  unfold State.podCtrl
  exact ((execPodReadSlot_meets h).st h).either <| ((execPodWriteSlot_meets h).st h).either <|
    ((execPodDeleteSlot_meets h).st h).either <| h

theorem State.Meets.doorbell {o : ℕ} {v : Word} (h : s.Meets I) : (s.doorbell o v).Meets I := by
  unfold State.doorbell
  exact ((execSqTailDoorbell_meets h).st h).either <| ((execCqHeadDoorbell_meets h).st h).either <|
    ((execEqHeadDoorbell_meets h).st h).either <| h

theorem State.Meets.writeReg {i : Iface} {a : ℕ} {v : Word} (h : s.Meets (Inv.sound canon q {})) : (s.writeReg i a v).Meets (Inv.sound canon q {}) := by
  unfold State.writeReg
  exact ((execRingSelWrite_meets h).st h).either <| h.qctrlWrite.either <| h.hifRst.either <| h.lockWrite.either <|
    h.podCtrl.either <| h.bkpCtrl.either <| h.clearTamper.either <| h.doorbell.either <| h.writePlain

theorem State.Meets.twtWrite {a : ℕ} {v : Word} (h : s.Meets (Inv.sound canon q {})) : (s.twtWrite a v).Meets (Inv.sound canon q {}) := by
  unfold State.twtWrite
  split
  · exact h.modTwi
  · exact h.mapSel.either h.writeReg

theorem State.Meets.ifaceWrite {i : Iface} {a : ℕ} {v : Word} (h : s.Meets (Inv.sound canon q {})) : (s.ifaceWrite i a v).Meets (Inv.sound canon q {}) :=
  h.twtWrite.either h.wakeSet.writeReg

theorem execRegisterWrite_meets {i : Iface} {off : BitVec 20} {v : Word} (h : s.Meets (Inv.sound canon q {})) :
    Res.Meets (Inv.sound canon q {}) (execRegisterWrite i off v s) :=
  (h.hifErr.either h.ifaceWrite).next

theorem execLimitWrite_meets {i : Iface} {v : Word} (h : s.Meets (Inv.sound canon q {})) : Res.Meets (Inv.sound canon q {}) (execLimitWrite i v s) :=
  h.ifaceWrite.next

theorem execLockSet_meets {i : Iface} {v : Word} (h : s.Meets (Inv.sound canon q {})) : Res.Meets (Inv.sound canon q {}) (execLockSet i v s) :=
  h.ifaceWrite.next

/-! ### The two-wire target -/

theorem State.Meets.twtStart (h : s.Meets I) : s.twtStart.Meets I := h.modTwi

theorem State.Meets.twtApply {base size n ptr : ℕ} {bs : List Byte} (h : s.Meets (Inv.sound canon q {})) :
    (State.twtApply base size n ptr bs s).Meets (Inv.sound canon q {}) := by
  induction n generalizing s ptr bs with
  | zero => exact h
  | succ n ih =>
    unfold State.twtApply
    exact h.either (h.modTwi.emit.either (h.either (ih h.twtWrite)))

theorem State.Meets.twtWriteBytes {addr base size : ℕ} {bs : List Byte} (h : s.Meets (Inv.sound canon q {})) :
    (s.twtWriteBytes addr base size bs).Meets (Inv.sound canon q {}) := by
  unfold State.twtWriteBytes
  exact h.either (h.emit.either (h.twtApply.either (h.modTwi.emit.either (h.emit.either
    (h.modTwi.emit.eventD.either h.twtApply)))))

theorem execTwtRegisterWrite_meets {addr : BitVec 7} {bytes : List Byte} (h : s.Meets (Inv.sound canon q {})) :
    Res.Meets (Inv.sound canon q {}) (execTwtRegisterWrite addr bytes s) := by
  unfold execTwtRegisterWrite
  dsimp only
  refine State.Meets.next ?_
  split
  · exact h.twtStart.emit
  · exact h.twtStart.either h.twtStart.emit
  · exact h.twtStart.twtWriteBytes

theorem State.Meets.twtWord {d : ℕ} (h : s.Meets (Inv.sound canon q {})) : (s.twtWord d).2.Meets (Inv.sound canon q {}) := by
  unfold State.twtWord
  split
  · exact h
  · split
    · exact h
    · exact h.busRead

theorem State.Meets.twtReadN {base size n ptr : ℕ} {w : Word} (h : s.Meets (Inv.sound canon q {})) :
    (State.twtReadN base size n ptr w s).2.Meets (Inv.sound canon q {}) := by
  induction n generalizing s ptr w with
  | zero => exact h
  | succ n ih =>
    unfold State.twtReadN
    dsimp only
    refine ih (State.Meets.either (State.Meets.flogNext ?_) ?_) <;>
    · split
      · exact h.twtWord
      · exact h

theorem execTwtRegisterRead_meets {addr : BitVec 7} {bytes : List Byte} {n : ℕ} (h : s.Meets (Inv.sound canon q {})) :
    Res.Meets (Inv.sound canon q {}) (execTwtRegisterRead addr bytes n s) := by
  unfold execTwtRegisterRead
  refine State.Meets.next ?_
  extract_lets s1
  have h1 : s1.Meets (Inv.sound canon q {}) := h.twtStart
  split
  · dsimp only
    refine h1.emit.either (State.Meets.emit (State.Meets.twtReadN ?_))
    split
    · exact h1
    · exact h1.twtWord
  · exact h1.emit

theorem State.Meets.delivered {l : List (ℕ × Payload)} (h : s.Meets I) : (s.delivered l).Meets I := by
  unfold State.delivered
  exact (h.foldl fun _ _ h => h.readRecord).modTwi

theorem execTwtEventRead_meets {addr : BitVec 7} {n : ℕ} (h : s.Meets I) :
    Res.Meets I (execTwtEventRead addr n s) := by
  unfold execTwtEventRead
  dsimp only
  refine State.Meets.next ?_
  split
  · exact (((h.twtStart.foldl fun _ _ h => h.headUe).delivered).emit).either <|
      ((h.twtStart.foldl fun _ _ h => h.headUe).delivered).emit
  · exact h.twtStart.emit

theorem execAlertResponse_meets (h : s.Meets I) : Res.Meets I (execAlertResponse s) :=
  (h.twtStart.emit.either h.twtStart.modTwi.emit).next

theorem State.Meets.sendRequest (h : s.Meets I) : s.sendRequest.Meets I := h.twtStart.modTwi.emit

theorem execInBandRequest_meets (h : s.Meets I) : Res.Meets I (execInBandRequest s) := (h.sendRequest.either h).next

theorem execIbrResendExpiry_meets (h : s.Meets I) : Res.Meets I (execIbrResendExpiry s) :=
  (h.sendRequest.either h).next

theorem execTwtTimeout_meets {addr : BitVec 7} {n : ℕ} (h : s.Meets I) : Res.Meets I (execTwtTimeout addr n s) :=
  (h.twtStart.either h.twtStart.modTwi.eventD).next

/-! ### Execution on a core -/

theorem State.Meets.sync {c : Fin 4} {cause detail : ℕ} {epc eaddr : Word} {kind : ℕ} (h : s.Meets (Inv.sound canon q {})) :
    (s.sync c cause detail epc eaddr kind).Meets (Inv.sound canon q {}) :=
  h.modCore.coreFault.faultHook.either h.modCore

theorem State.Meets.eccRecord {c : Fin 4} {cause mem : ℕ} {a : Word} (h : s.Meets I) :
    (s.eccRecord c cause mem a).Meets I :=
  h.eventD

theorem State.Meets.instr {c : Fin 4} {f : Fetch} {legal : Bool} {body : State → State} (h : s.Meets (Inv.sound canon q {}))
    (hb : ∀ s, s.Meets (Inv.sound canon q {}) → (body s).Meets (Inv.sound canon q {})) : (s.instr c f legal body).Meets (Inv.sound canon q {}) := by
  unfold State.instr
  extract_lets +onlyGivenNames k r
  split
  · exact h
  · split
    · exact h.sync
    · split
      · exact h.sync
      · split
        · exact h.eccRecord.sync
        · extract_lets s1
          have h1 : s1.Meets (Inv.sound canon q {}) := h.eccRecord.either h
          exact h1.sync.either (hb _ h1)

theorem State.Meets.onCore {c : Fin 4} {f : Fetch} {legal : Bool} {g : Core → Core} (h : s.Meets (Inv.sound canon q {}))
    (hg : ∀ k, (g k).mems = k.mems := by intro; rfl) :
    (s.onCore c f legal g).Meets (Inv.sound canon q {}) :=
  h.instr fun _ h => h.modCore hg

theorem State.Meets.fpCommand {c : Fin 4} {i : Fin 16} {op : ℕ} (h : s.Meets (Inv.sound canon q {})) : (s.fpCommand c i op).Meets (Inv.sound canon q {}) := by
  unfold State.fpCommand
  exact ((execTake_meets h).st h).either <| ((execRelease_meets h).st h).either <|
    ((execAlloc_meets h).st h).either <| ((execCommit_meets h).st h).either <|
    ((execAbandon_meets h).st h).either <| ((execCancel_meets h).st h).either <| h

theorem State.Meets.fpWrite {c : Fin 4} {o : ℕ} {v : Word} (h : s.Meets (Inv.sound canon q {})) : (s.fpWrite c o v).Meets (Inv.sound canon q {}) :=
  ((execBind_meets h).st h).either (h.fpCommand.either h)

theorem State.Meets.cxWrite {c : Fin 4} {o : ℕ} {v : Word} (h : s.Meets (Inv.sound canon q {})) : (s.cxWrite c o v).Meets (Inv.sound canon q {}) :=
  h.modCx.either (h.modCx.either (h.modCx.either (h.modCx.either (h.modCx.either (h.cxGo.either h)))))

theorem State.Meets.localRead {c : Fin 4} {o : ℕ} (h : s.Meets (Inv.sound canon q {})) : (s.localRead c o).2.Meets (Inv.sound canon q {}) := by
  unfold State.localRead
  dsimp only
  split
  · exact h.modCore.snd_mk
  · repeat' split
    all_goals exact h

theorem State.Meets.localWrite {c : Fin 4} {o : ℕ} {v : Word} (h : s.Meets (Inv.sound canon q {})) : (s.localWrite c o v).Meets (Inv.sound canon q {}) :=
  h.modCore.either (h.modCore.either (h.modCore.either (h.sigSend.either (h.modCore.either h))))

theorem State.Meets.ppStore {c : Fin 4} {o : ℕ} {b : List Byte} (h : s.Meets (Inv.sound canon q {})) : (s.ppStore c o b).Meets (Inv.sound canon q {}) :=
  h.ppData.either (h.modCore.either (h.ppOp.either h))

theorem State.Meets.busLoad {c : Fin 4} {r : Range} {a size : ℕ} (h : s.Meets (Inv.sound canon q {})) :
    (s.busLoad c r a size).2.Meets (Inv.sound canon q {}) := by
  unfold State.busLoad
  extract_lets +onlyGivenNames k part
  cases r with
  | pod => exact (h.modCore.either h).snd_mk
  | localR => exact h.localRead.snd_mk
  | _ => exact h.snd_mk

theorem State.Meets.busStore {c : Fin 4} {r : Range} {a : ℕ} {b : List Byte} (h : s.Meets (Inv.sound canon q {})) :
    (s.busStore c r a b).Meets (Inv.sound canon q {}) := by
  unfold State.busStore
  cases r with
  | code =>
    refine h.modCore_of fun k hk => ?_
    rw [Core.memWf_iff] at hk ⊢
    exact ⟨Mem.writeN_wf 0 b _ _ hk.1, hk.2⟩
  | data =>
    refine h.modCore_of fun k hk => ?_
    rw [Core.memWf_iff] at hk ⊢
    exact ⟨hk.1, hk.2.1, Mem.writeN_wf 0 b _ _ hk.2.2.1, hk.2.2.2⟩
  | shared =>
    refine h.memories fun k => ?_
    rw [State.memWf_iff] at k ⊢
    exact ⟨k.1, Mem.writeN_wf 0 b _ _ k.2.1, k.2.2⟩
  | other n =>
    refine h.modCore_of fun k hk => ?_
    rw [Core.memWf_iff] at hk ⊢
    exact ⟨Mem.writeN_wf 0 b _ _ hk.1, Mem.writeN_wf 0 b _ _ hk.1, hk.2.2⟩
  | fpReg => exact h.fpWrite
  | fpBuf => exact h.modFp fun y hy => Mem.writeN_wf 0 b y.buf (a % 256) hy
  | pod => exact h.ppStore
  | crypto => exact h.cxWrite
  | localR => exact h.localWrite
  | wvl => exact h.wvlWrite
  | rom => exact h
  | none => exact h

theorem State.Meets.dataCe {c : Fin 4} {f : Fetch} {a : Word} (h : s.Meets I) : (s.dataCe c f a).Meets I := by
  unfold State.dataCe
  split
  · exact h.eccRecord.either h
  · exact h

/-! ### Arithmetic and logic -/

theorem State.Meets.aluR {c : Fin 4} {f : Fetch} {i : InsR} {g : Core → Word → Word → Alu} (h : s.Meets (Inv.sound canon q {})) :
    (s.aluR c f i g).Meets (Inv.sound canon q {}) :=
  h.onCore fun _ => Core.mems_result _ _ _ _

theorem State.Meets.aluShift {c : Fin 4} {f : Fetch} {i : InsR} {x : Shift} (h : s.Meets (Inv.sound canon q {})) :
    (s.aluShift c f i x).Meets (Inv.sound canon q {}) :=
  h.aluR

theorem State.Meets.aluShiftImm {c : Fin 4} {f : Fetch} {i : InsR} {x : Shift} (h : s.Meets (Inv.sound canon q {})) :
    (s.aluShiftImm c f i x).Meets (Inv.sound canon q {}) :=
  h.onCore fun _ => Core.mems_result _ _ _ _

theorem State.Meets.aluOne {c : Fin 4} {f : Fetch} {i : InsR} {g : Word → Word} (h : s.Meets (Inv.sound canon q {})) :
    (s.aluOne c f i g).Meets (Inv.sound canon q {}) :=
  h.onCore fun _ => Core.mems_result _ _ _ _

theorem State.Meets.aluFlags {c : Fin 4} {f : Fetch} {i : InsR} {g : Word → Word → Alu} (h : s.Meets (Inv.sound canon q {})) :
    (s.aluFlags c f i g).Meets (Inv.sound canon q {}) :=
  h.onCore fun _ => Core.mems_result _ _ _ _

theorem State.Meets.aluI {c : Fin 4} {f : Fetch} {i : InsI} {imm : Word} {g : Word → Word → Alu} (h : s.Meets (Inv.sound canon q {})) :
    (s.aluI c f i imm g).Meets (Inv.sound canon q {}) :=
  h.onCore fun _ => Core.mems_result _ _ _ _

theorem State.Meets.aluIFlags {c : Fin 4} {f : Fetch} {i : InsI} {imm : Word} {g : Word → Word → Alu} (h : s.Meets (Inv.sound canon q {})) :
    (s.aluIFlags c f i imm g).Meets (Inv.sound canon q {}) :=
  h.onCore fun _ => Core.mems_result _ _ _ _

theorem execAdd_meets {c : Fin 4} {f : Fetch} {i : InsR} (h : s.Meets (Inv.sound canon q {})) : Res.Meets (Inv.sound canon q {}) (execAdd c f i s) :=
  h.aluR.next

theorem execSub_meets {c : Fin 4} {f : Fetch} {i : InsR} (h : s.Meets (Inv.sound canon q {})) : Res.Meets (Inv.sound canon q {}) (execSub c f i s) :=
  h.aluR.next

theorem execAdc_meets {c : Fin 4} {f : Fetch} {i : InsR} (h : s.Meets (Inv.sound canon q {})) : Res.Meets (Inv.sound canon q {}) (execAdc c f i s) :=
  h.aluR.next

theorem execSbc_meets {c : Fin 4} {f : Fetch} {i : InsR} (h : s.Meets (Inv.sound canon q {})) : Res.Meets (Inv.sound canon q {}) (execSbc c f i s) :=
  h.aluR.next

theorem execAnd_meets {c : Fin 4} {f : Fetch} {i : InsR} (h : s.Meets (Inv.sound canon q {})) : Res.Meets (Inv.sound canon q {}) (execAnd c f i s) :=
  h.aluR.next

theorem execOr_meets {c : Fin 4} {f : Fetch} {i : InsR} (h : s.Meets (Inv.sound canon q {})) : Res.Meets (Inv.sound canon q {}) (execOr c f i s) :=
  h.aluR.next

theorem execXor_meets {c : Fin 4} {f : Fetch} {i : InsR} (h : s.Meets (Inv.sound canon q {})) : Res.Meets (Inv.sound canon q {}) (execXor c f i s) :=
  h.aluR.next

theorem execAndn_meets {c : Fin 4} {f : Fetch} {i : InsR} (h : s.Meets (Inv.sound canon q {})) : Res.Meets (Inv.sound canon q {}) (execAndn c f i s) :=
  h.aluR.next

theorem execSll_meets {c : Fin 4} {f : Fetch} {i : InsR} (h : s.Meets (Inv.sound canon q {})) : Res.Meets (Inv.sound canon q {}) (execSll c f i s) :=
  h.aluShift.next

theorem execSrl_meets {c : Fin 4} {f : Fetch} {i : InsR} (h : s.Meets (Inv.sound canon q {})) : Res.Meets (Inv.sound canon q {}) (execSrl c f i s) :=
  h.aluShift.next

theorem execSra_meets {c : Fin 4} {f : Fetch} {i : InsR} (h : s.Meets (Inv.sound canon q {})) : Res.Meets (Inv.sound canon q {}) (execSra c f i s) :=
  h.aluShift.next

theorem execRor_meets {c : Fin 4} {f : Fetch} {i : InsR} (h : s.Meets (Inv.sound canon q {})) : Res.Meets (Inv.sound canon q {}) (execRor c f i s) :=
  h.aluShift.next

theorem execSlli_meets {c : Fin 4} {f : Fetch} {i : InsR} (h : s.Meets (Inv.sound canon q {})) : Res.Meets (Inv.sound canon q {}) (execSlli c f i s) :=
  h.aluShiftImm.next

theorem execSrli_meets {c : Fin 4} {f : Fetch} {i : InsR} (h : s.Meets (Inv.sound canon q {})) : Res.Meets (Inv.sound canon q {}) (execSrli c f i s) :=
  h.aluShiftImm.next

theorem execSrai_meets {c : Fin 4} {f : Fetch} {i : InsR} (h : s.Meets (Inv.sound canon q {})) : Res.Meets (Inv.sound canon q {}) (execSrai c f i s) :=
  h.aluShiftImm.next

theorem execRori_meets {c : Fin 4} {f : Fetch} {i : InsR} (h : s.Meets (Inv.sound canon q {})) : Res.Meets (Inv.sound canon q {}) (execRori c f i s) :=
  h.aluShiftImm.next

theorem execMul_meets {c : Fin 4} {f : Fetch} {i : InsR} (h : s.Meets (Inv.sound canon q {})) : Res.Meets (Inv.sound canon q {}) (execMul c f i s) :=
  h.aluR.next

theorem execMulhu_meets {c : Fin 4} {f : Fetch} {i : InsR} (h : s.Meets (Inv.sound canon q {})) : Res.Meets (Inv.sound canon q {}) (execMulhu c f i s) :=
  h.aluR.next

theorem execMulhs_meets {c : Fin 4} {f : Fetch} {i : InsR} (h : s.Meets (Inv.sound canon q {})) : Res.Meets (Inv.sound canon q {}) (execMulhs c f i s) :=
  h.aluR.next

theorem execDivu_meets {c : Fin 4} {f : Fetch} {i : InsR} (h : s.Meets (Inv.sound canon q {})) : Res.Meets (Inv.sound canon q {}) (execDivu c f i s) :=
  h.aluR.next

theorem execDivs_meets {c : Fin 4} {f : Fetch} {i : InsR} (h : s.Meets (Inv.sound canon q {})) : Res.Meets (Inv.sound canon q {}) (execDivs c f i s) :=
  h.aluR.next

theorem execRemu_meets {c : Fin 4} {f : Fetch} {i : InsR} (h : s.Meets (Inv.sound canon q {})) : Res.Meets (Inv.sound canon q {}) (execRemu c f i s) :=
  h.aluR.next

theorem execRems_meets {c : Fin 4} {f : Fetch} {i : InsR} (h : s.Meets (Inv.sound canon q {})) : Res.Meets (Inv.sound canon q {}) (execRems c f i s) :=
  h.aluR.next

theorem execCmp_meets {c : Fin 4} {f : Fetch} {i : InsR} (h : s.Meets (Inv.sound canon q {})) : Res.Meets (Inv.sound canon q {}) (execCmp c f i s) :=
  h.aluFlags.next

theorem execTst_meets {c : Fin 4} {f : Fetch} {i : InsR} (h : s.Meets (Inv.sound canon q {})) : Res.Meets (Inv.sound canon q {}) (execTst c f i s) :=
  h.aluFlags.next

theorem execMin_meets {c : Fin 4} {f : Fetch} {i : InsR} (h : s.Meets (Inv.sound canon q {})) : Res.Meets (Inv.sound canon q {}) (execMin c f i s) :=
  h.aluR.next

theorem execMax_meets {c : Fin 4} {f : Fetch} {i : InsR} (h : s.Meets (Inv.sound canon q {})) : Res.Meets (Inv.sound canon q {}) (execMax c f i s) :=
  h.aluR.next

theorem execMinu_meets {c : Fin 4} {f : Fetch} {i : InsR} (h : s.Meets (Inv.sound canon q {})) : Res.Meets (Inv.sound canon q {}) (execMinu c f i s) :=
  h.aluR.next

theorem execMaxu_meets {c : Fin 4} {f : Fetch} {i : InsR} (h : s.Meets (Inv.sound canon q {})) : Res.Meets (Inv.sound canon q {}) (execMaxu c f i s) :=
  h.aluR.next

theorem execClz_meets {c : Fin 4} {f : Fetch} {i : InsR} (h : s.Meets (Inv.sound canon q {})) : Res.Meets (Inv.sound canon q {}) (execClz c f i s) :=
  h.aluOne.next

theorem execRev_meets {c : Fin 4} {f : Fetch} {i : InsR} (h : s.Meets (Inv.sound canon q {})) : Res.Meets (Inv.sound canon q {}) (execRev c f i s) :=
  h.aluOne.next

theorem execSextb_meets {c : Fin 4} {f : Fetch} {i : InsR} (h : s.Meets (Inv.sound canon q {})) : Res.Meets (Inv.sound canon q {}) (execSextb c f i s) :=
  h.aluOne.next

theorem execSexth_meets {c : Fin 4} {f : Fetch} {i : InsR} (h : s.Meets (Inv.sound canon q {})) : Res.Meets (Inv.sound canon q {}) (execSexth c f i s) :=
  h.aluOne.next

theorem execAddi_meets {c : Fin 4} {f : Fetch} {i : InsI} (h : s.Meets (Inv.sound canon q {})) : Res.Meets (Inv.sound canon q {}) (execAddi c f i s) :=
  h.aluI.next

theorem execAndi_meets {c : Fin 4} {f : Fetch} {i : InsI} (h : s.Meets (Inv.sound canon q {})) : Res.Meets (Inv.sound canon q {}) (execAndi c f i s) :=
  h.aluI.next

theorem execOri_meets {c : Fin 4} {f : Fetch} {i : InsI} (h : s.Meets (Inv.sound canon q {})) : Res.Meets (Inv.sound canon q {}) (execOri c f i s) :=
  h.aluI.next

theorem execXori_meets {c : Fin 4} {f : Fetch} {i : InsI} (h : s.Meets (Inv.sound canon q {})) : Res.Meets (Inv.sound canon q {}) (execXori c f i s) :=
  h.aluI.next

theorem execCmpi_meets {c : Fin 4} {f : Fetch} {i : InsI} (h : s.Meets (Inv.sound canon q {})) : Res.Meets (Inv.sound canon q {}) (execCmpi c f i s) :=
  h.aluIFlags.next

theorem execTsti_meets {c : Fin 4} {f : Fetch} {i : InsI} (h : s.Meets (Inv.sound canon q {})) : Res.Meets (Inv.sound canon q {}) (execTsti c f i s) :=
  h.aluIFlags.next

theorem execLui_meets {c : Fin 4} {f : Fetch} {i : InsI} (h : s.Meets (Inv.sound canon q {})) : Res.Meets (Inv.sound canon q {}) (execLui c f i s) :=
  (h.onCore fun _ => Core.mems_result _ _ _ _).next

theorem execAddpc_meets {c : Fin 4} {f : Fetch} {i : InsI} (h : s.Meets (Inv.sound canon q {})) : Res.Meets (Inv.sound canon q {}) (execAddpc c f i s) :=
  (h.onCore fun _ => Core.mems_result _ _ _ _).next

/-! ### Loads and stores -/

theorem State.Meets.loadM {c : Fin 4} {f : Fetch} {i : InsM} {size : ℕ} {g : ℕ → Word} (h : s.Meets (Inv.sound canon q {})) :
    (s.loadM c f i size g).Meets (Inv.sound canon q {}) := by
  refine h.instr fun s h => ?_
  dsimp only
  split
  · exact h.sync
  · exact h.dataCe.busLoad.modCore fun k => (Core.mems_next _).trans ((Core.mems_setReg _ i.rt _).trans (Core.mems_upd k i _))

theorem State.Meets.storeM {c : Fin 4} {f : Fetch} {i : InsM} {size : ℕ} (h : s.Meets (Inv.sound canon q {})) :
    (s.storeM c f i size).Meets (Inv.sound canon q {}) := by
  refine h.instr fun s h => ?_
  dsimp only
  split
  · exact h.sync
  · exact (h.dataCe.modCore fun k => (Core.mems_next _).trans (Core.mems_upd k i _)).busStore

theorem execLb_meets {c : Fin 4} {f : Fetch} {i : InsM} (h : s.Meets (Inv.sound canon q {})) : Res.Meets (Inv.sound canon q {}) (execLb c f i s) :=
  h.loadM.next

theorem execLbu_meets {c : Fin 4} {f : Fetch} {i : InsM} (h : s.Meets (Inv.sound canon q {})) : Res.Meets (Inv.sound canon q {}) (execLbu c f i s) :=
  h.loadM.next

theorem execLh_meets {c : Fin 4} {f : Fetch} {i : InsM} (h : s.Meets (Inv.sound canon q {})) : Res.Meets (Inv.sound canon q {}) (execLh c f i s) :=
  h.loadM.next

theorem execLhu_meets {c : Fin 4} {f : Fetch} {i : InsM} (h : s.Meets (Inv.sound canon q {})) : Res.Meets (Inv.sound canon q {}) (execLhu c f i s) :=
  h.loadM.next

theorem execLw_meets {c : Fin 4} {f : Fetch} {i : InsM} (h : s.Meets (Inv.sound canon q {})) : Res.Meets (Inv.sound canon q {}) (execLw c f i s) :=
  h.loadM.next

theorem execSb_meets {c : Fin 4} {f : Fetch} {i : InsM} (h : s.Meets (Inv.sound canon q {})) : Res.Meets (Inv.sound canon q {}) (execSb c f i s) :=
  h.storeM.next

theorem execSh_meets {c : Fin 4} {f : Fetch} {i : InsM} (h : s.Meets (Inv.sound canon q {})) : Res.Meets (Inv.sound canon q {}) (execSh c f i s) :=
  h.storeM.next

theorem execSw_meets {c : Fin 4} {f : Fetch} {i : InsM} (h : s.Meets (Inv.sound canon q {})) : Res.Meets (Inv.sound canon q {}) (execSw c f i s) :=
  h.storeM.next

theorem execAmo_meets {c : Fin 4} {f : Fetch} {rd ra rb : Reg} {op : BitVec 2} {z : BitVec 12} (h : s.Meets (Inv.sound canon q {})) :
    Res.Meets (Inv.sound canon q {}) (execAmo c f rd ra rb op z s) := by
  unfold execAmo
  dsimp only
  refine State.Meets.next ?_
  refine h.instr fun s h => ?_
  split
  · exact h.sync
  · exact h.sync.either (h.dataCe.shWrite.modCore fun _ => (Core.mems_next _).trans (Core.mems_setReg _ rd _))

/-! ### System instructions -/

theorem execBcc_meets {c : Fin 4} {f : Fetch} {cond : BitVec 4} {off : BitVec 22} (h : s.Meets (Inv.sound canon q {})) :
    Res.Meets (Inv.sound canon q {}) (execBcc c f cond off s) :=
  h.onCore.next

theorem execBl_meets {c : Fin 4} {f : Fetch} {off : BitVec 26} (h : s.Meets (Inv.sound canon q {})) : Res.Meets (Inv.sound canon q {}) (execBl c f off s) :=
  (h.onCore fun k => Core.mems_jump k 14 _ _).next

theorem execJalr_meets {c : Fin 4} {f : Fetch} {rd ra : Reg} {z : BitVec 18} (h : s.Meets (Inv.sound canon q {})) :
    Res.Meets (Inv.sound canon q {}) (execJalr c f rd ra z s) :=
  (h.instr fun _ h => h.sync.either (h.modCore fun k => Core.mems_jump k rd _ _)).next

theorem execTrap_meets {c : Fin 4} {f : Fetch} {i : InsS} (h : s.Meets (Inv.sound canon q {})) : Res.Meets (Inv.sound canon q {}) (execTrap c f i s) :=
  (h.instr fun _ h => h.sync).next

theorem execBrk_meets {c : Fin 4} {f : Fetch} {i : InsS} (h : s.Meets (Inv.sound canon q {})) : Res.Meets (Inv.sound canon q {}) (execBrk c f i s) :=
  (h.instr fun _ h => h.sync).next

theorem execRfe_meets {c : Fin 4} {f : Fetch} {i : InsS} (h : s.Meets (Inv.sound canon q {})) : Res.Meets (Inv.sound canon q {}) (execRfe c f i s) :=
  h.onCore.next

theorem execWait_meets {c : Fin 4} {f : Fetch} {i : InsS} (h : s.Meets (Inv.sound canon q {})) : Res.Meets (Inv.sound canon q {}) (execWait c f i s) :=
  (h.instr fun _ h => h.modCore).next

theorem execFence_meets {c : Fin 4} {f : Fetch} {i : InsS} (h : s.Meets (Inv.sound canon q {})) : Res.Meets (Inv.sound canon q {}) (execFence c f i s) :=
  State.Meets.next (h.instr fun _ h => h.modCore_of fun k hk => by
    rw [Core.memWf_iff] at hk ⊢
    exact ⟨hk.1, hk.1, hk.2.2⟩)

theorem execCrr_meets {c : Fin 4} {f : Fetch} {i : InsS} (h : s.Meets (Inv.sound canon q {})) : Res.Meets (Inv.sound canon q {}) (execCrr c f i s) :=
  (h.instr fun _ h => h.modCore fun k => (Core.mems_next _).trans (Core.mems_setReg k i.reg _)).next

theorem execCrw_meets {c : Fin 4} {f : Fetch} {i : InsS} (h : s.Meets (Inv.sound canon q {})) : Res.Meets (Inv.sound canon q {}) (execCrw c f i s) :=
  (h.onCore fun k => (Core.mems_next _).trans (Core.mems_crWrite k c _ _)).next

theorem State.Meets.resume {c : Fin 4} (h : s.Meets (Inv.sound canon q {})) : (s.resume c).Meets (Inv.sound canon q {}) := h.modCore.either h

theorem execWaitResume_meets {c : Fin 4} (h : s.Meets (Inv.sound canon q {})) : Res.Meets (Inv.sound canon q {}) (execWaitResume c s) := h.resume.next

theorem execTcmpMatch_meets {c : Fin 4} (h : s.Meets (Inv.sound canon q {})) : Res.Meets (Inv.sound canon q {}) (execTcmpMatch c s) :=
  (h.resume.either h).next

theorem execInterruptTaken_meets {c : Fin 4} (h : s.Meets (Inv.sound canon q {})) : Res.Meets (Inv.sound canon q {}) (execInterruptTaken c s) := by
  unfold execInterruptTaken
  dsimp only
  refine State.Meets.next ?_
  split
  · exact h.resume.modCore.either h.resume
  · exact h.resume

theorem execWatchdogExpiry_meets {c : Fin 4} (h : s.Meets (Inv.sound canon q {})) : Res.Meets (Inv.sound canon q {}) (execWatchdogExpiry c s) :=
  (h.either (h.coreFault.faultHook.either (h.modCore fun _ => by dsimp only; split <;> rfl))).next

/-! ### Fetch -/

theorem State.Meets.undefinedWord {c : Fin 4} (h : s.Meets (Inv.sound canon q {})) : (s.undefinedWord c).Meets (Inv.sound canon q {}) := by
  unfold State.undefinedWord
  split
  · exact (h.instr fun _ h => h).either h
  · exact h

theorem State.Meets.idle (h : s.Meets (Inv.sound canon q {})) : s.idle.Meets (Inv.sound canon q {}) := h.tick.foldl fun _ _ h => h.undefinedWord

/-! ### The step -/

theorem exec_meets {c : Instr} (h : s.Meets (Inv.sound canon q {})) : Res.Meets (Inv.sound canon q {}) (exec c s) := by
  have hI : (Inv.sound canon q {}).Open := ⟨fun _ _ => trivial, rfl⟩
  unfold exec
  split
  exacts [execNop_meets h, execPortEnable_meets h, execPortDisable_meets h, execPortReset_meets h,
    execClearFault_meets h, execHardReset_meets h, execRenegotiate_meets h, execSetpointTrim_meets h,
    execRoleSwap_meets h, execVconnSwap_meets h, execVconnSet_meets h, execBackfeedSet_meets h,
    execPhaseClear_meets h, execSessionRead_meets h, execSessionAck_meets h, execCalSet_meets h,
    execPodWrite_meets h, execPodRelookup_meets h, execAuthenticate_meets h, execFleetMode_meets h,
    execMonitorTest_meets h, execTwiXfer_meets h, execFaultLogRead_meets h, execImgBlock_meets h,
    execImgActivate_meets h, execImgConfirm_meets h, execPowerState_meets h, execBufferDescriptor_meets h,
    execDeferredStart_meets h, execDeferTimeout_meets h, execSqTailDoorbell_meets h,
    execCqHeadDoorbell_meets h, execEqHeadDoorbell_meets h, execDescriptorFetch_meets h,
    execHostFetchError_meets h, execHostRecordWrite_meets h, execModerationTimerExpiry_meets h,
    execMsixUnmask_meets h, execStreamFlushExpiry_meets h, execQueueCreate_meets h, execQueueDelete_meets h,
    execDiscardOrphans_meets h, execRingSelWrite_meets h, execFunctionLevelReset_meets h,
    execPciPmStateChange_meets h, execL1EntryRequest_meets h, execRegisterWrite_meets h, execRcRead_meets h,
    execLoLatchRead_meets h, execLimitWrite_meets h, execLockSet_meets h, execFlogData0Read_meets h,
    execFlogData7LastRead_meets h, execPodReadSlot_meets h, execPodWriteSlot_meets h,
    execPodDeleteSlot_meets h, execWarmReset_meets h, execWarmResetProceed_meets h, execBkpSet_meets h,
    execTamperLatchClear_meets h, execCoreHold_meets h, execCoreHalt_meets h, execCoreRestart_meets h,
    execTwtMapSelWrite_meets h, execEventOccurrence_meets h, execEventFlowFlush_meets h,
    execCreditReturn_meets h, execScrubRead_meets h, execCellRewriteCheck_meets h, execTimebaseLost_meets h,
    execTimebaseRestored_meets h, execCalibrationCycle_meets h, execEraWriteRetry_meets h,
    execCcAttachDetected_meets h, execProbeSample_meets h hI, execReprobeExpiry_meets h,
    execTccDebounceExpiry_meets h, execTpdDebounceExpiry_meets h, execVconnFault_meets h,
    execHoldoffExpiry_meets h, execPdMessageReceived_meets h hI, execGoodcrcReceived_meets h,
    execFrameCrcError_meets h, execTreceiveExpiry_meets h, execChannelIdle_meets h, execPdtxMessage_meets h,
    execHardResetReceived_meets h, execHardResetSignallingEnd_meets h, execCableResetReceived_meets h,
    execChunkTimerExpiry_meets h, execAmsStartWaitExpiry_meets h, execSinktxokRead_meets h,
    execSendSourceCapExpiry_meets h, execSenderResponseExpiry_meets h, execSrcTransitionExpiry_meets h,
    execTransitionLimitExpiry_meets h, execPpsTimeoutExpiry_meets h, execEprKeepAliveExpiry_meets h,
    execCableDiscTimeout_meets h, execVdmBusyExpiry_meets h, execVdmResponseTimeout_meets h,
    execVbusInBand_meets h, execAllocationRound_meets h, execRenegotiationCaps_meets h,
    execBudgetHardResetExpiry_meets h, execConnectorTempRead_meets h, execCableRediscovery_meets h,
    execWaitSpacingExpiry_meets h, execPsHardResetExpiry_meets h, execSrcRecoverExpiry_meets h,
    execPsSourceOnExpiry_meets h, execPsSourceOffExpiry_meets h, execPsTransitionExpiry_meets h,
    execSinkWaitCapExpiry_meets h, execVconnSourceTimeoutExpiry_meets h, execFrSwapWaitExpiry_meets h,
    execTakeoverLimitExpiry_meets h, execHoldupVbusLow_meets h, execBackfeedClose_meets h,
    execReturnCriterion_meets h, execHoldupReturnRetry_meets h, execArmedSetRecompute_meets h,
    execGetSinkCapStart_meets h, execDiscoverIdentityStart_meets h, execFleetModeEntry_meets h,
    execFleetEnterModeTimeout_meets h, execIdentityDigest_meets h, execPodLookup_meets h,
    execAuthResult_meets h, execAuthTimeout_meets h, execVdmtxItem_meets h, execVdmAnswerTimeout_meets h,
    execControlUpdate_meets h, execPhaseShed_meets h, execSwarmFire_meets h, execSwarmEnd_meets h,
    execPeakLimit_meets h, execPhaseFailureDeclared_meets h, execIsolationCheck_meets h,
    execDividerCorrection_meets h, execCompensationSample_meets h, execTxslewLimitExpiry_meets h,
    execVsafe0vProven_meets h, execGateRiseComplete_meets h, execGateRiseTimeout_meets h,
    execInrushTimeout_meets h, execSoftstartTimeout_meets h, execVbusUnexpected_meets h,
    execPassFetShorted_meets h, execGoodServiceExpiry_meets h, execBackfeedOpened_meets h,
    execBackfeedReclose_meets h, execMonitorCrossing_meets h, execMonitorReturn_meets h,
    execThresholdSettled_meets h, execLegCheck_meets h, execGeneralMonitorCheck_meets h,
    execMeteringSample_meets h, execMeteringInterval_meets h, execSessionContextUpdate_meets h,
    execSnapshot_meets h, execJournalWrite_meets h, execJournalRetry_meets h, execJournalScan_meets h,
    execAdd_meets h, execSub_meets h, execAdc_meets h, execSbc_meets h, execAnd_meets h, execOr_meets h,
    execXor_meets h, execAndn_meets h, execSll_meets h, execSrl_meets h, execSra_meets h,
    execRor_meets h, execSlli_meets h, execSrli_meets h, execSrai_meets h, execRori_meets h,
    execMul_meets h, execMulhu_meets h, execMulhs_meets h, execDivu_meets h, execDivs_meets h,
    execRemu_meets h, execRems_meets h, execCmp_meets h, execTst_meets h, execMin_meets h,
    execMax_meets h, execMinu_meets h, execMaxu_meets h, execClz_meets h, execRev_meets h,
    execSextb_meets h, execSexth_meets h, execAddi_meets h, execAndi_meets h, execOri_meets h,
    execXori_meets h, execCmpi_meets h, execTsti_meets h, execLui_meets h, execAddpc_meets h,
    execLb_meets h, execLbu_meets h, execLh_meets h, execLhu_meets h, execLw_meets h, execSb_meets h,
    execSh_meets h, execSw_meets h, execBcc_meets h, execBl_meets h, execJalr_meets h, execAmo_meets h,
    execTrap_meets h, execRfe_meets h, execWait_meets h, execFence_meets h, execCrr_meets h,
    execCrw_meets h, execBrk_meets h, execWaitResume_meets h, execInterruptTaken_meets h,
    execTcmpMatch_meets h, execWatchdogExpiry_meets h, execCoreAutoRestart_meets h, execWdkick_meets h,
    execSigSend_meets h, execPortmapApplied_meets h, execBind_meets h, execTake_meets h,
    execRelease_meets h, execAlloc_meets h, execCommit_meets h, execAbandon_meets h, execCancel_meets h,
    execFlowPortWaitDone_meets h, execPpRead_meets h, execPpWrite_meets h, execPpDelete_meets h,
    execSha256_meets h, execEcdsaVerify_meets h, execEcdsaSign_meets h, execAesCtr_meets h,
    execAesCbcEncrypt_meets h, execAesCbcDecrypt_meets h, execRandom_meets h, execCryptoJobDone_meets h,
    execTwtRegisterWrite_meets h, execTwtRegisterRead_meets h, execTwtEventRead_meets h,
    execAlertResponse_meets h, execInBandRequest_meets h, execIbrResendExpiry_meets h,
    execTwtTimeout_meets h, execTwcItem_meets h, execArbRetry_meets h, execStretchTimeout_meets h,
    execBusRecovery_meets h, execQuarantineRetry_meets h, execTwcInband_meets h, execCoreReady_meets h,
    execHealthWindowExpiry_meets h, execIdleEntry_meets h, execQuiesceComplete_meets h,
    execQuiesceTimeout_meets h, execDozeTimerExpiry_meets h, execHibernateTimerExpiry_meets h,
    execWakeFromDoze_meets h, execWakeFromHibernate_meets h, execHibernateCcWake_meets h,
    execAddressMatchWake_meets h, execPerstRise_meets h, execBusinRiseWake_meets h,
    execCalendarTrim_meets h, execCalendarOscFail_meets h, execCalAlarm_meets h, execTamper_meets h,
    execVbatMeasure_meets h, execBackupSupplySwitch_meets h, execPowerOnReset_meets h,
    execCrystalStartTimeout_meets h, execCcReportChange_meets h, execSopOrderedSetRecognised_meets h,
    execFrSwapSignalEnd_meets h, execFrameTransmitted_meets h, execVconnPinSettled_meets h,
    execBfeedOnLevelReached_meets h, execCommandTimeLimitExpiry_meets h, execConfigSpaceWrite_meets h,
    execLinkTrained_meets h, execCalendarOscReturn_meets h, execCaptureFrameEnd_meets h]

theorem step_meets (h : s.Meets (Inv.sound canon s.pending {})) : Res.Meets (Inv.sound canon s.pending.tail {}) (step s) := by
  rw [State.meets_sound_iff] at h
  unfold step
  split
  · next a rest e =>
    rw [e]
    exact exec_meets (State.meets_sound_iff.2 ⟨h.1, rfl, nofun, nofun, nofun⟩)
  · next e =>
    rw [e]
    exact (State.Meets.idle (State.meets_sound_iff.2 ⟨h.1, e, nofun, nofun, nofun⟩)).next

/-! ### O57 and O59 -/

/-- Settles O57: the canonical form is part of what every operation keeps. -/
theorem stepKeepsMemories : Obligations.StepKeepsMemories := by
  unfold Obligations.StepKeepsMemories
  intro s t hs ht
  obtain ⟨u, hu, hm⟩ := (step_meets (canon := True) (State.meets_sound_iff.2 ⟨fun _ => hs, rfl, nofun, nofun, nofun⟩)).ok
  cases hu.symm.trans ht
  exact (State.meets_sound_iff.1 hm).1 trivial

/-- Settles O59: the queue is part of what every operation keeps, whatever the memories hold. -/
theorem everyStepAnswers : Obligations.EveryStepAnswers := by
  unfold Obligations.EveryStepAnswers
  intro s
  obtain ⟨t, ht, hq⟩ := (step_meets (canon := False) (State.meets_sound_iff.2 ⟨False.elim, rfl, nofun, nofun, nofun⟩)).ok
  exact ⟨t, ht, (State.meets_sound_iff.1 hq).2.1⟩

/-! ### O54 -/

/-- What happens on a port keeps whatever the state off the ports meets. -/
theorem exec_meets_of_ofPort {c : Instr} (hc : c.ofPort = true) (hI : I.Open) (h : s.Meets I) : Res.Meets I (exec c s) := by
  unfold Instr.ofPort at hc
  split at hc
  exacts [execCcAttachDetected_meets h, execProbeSample_meets h hI, execReprobeExpiry_meets h, execTccDebounceExpiry_meets h,
    execTpdDebounceExpiry_meets h, execVconnFault_meets h, execHoldoffExpiry_meets h, execPdMessageReceived_meets h hI,
    execGoodcrcReceived_meets h, execFrameCrcError_meets h, execTreceiveExpiry_meets h, execChannelIdle_meets h,
    execPdtxMessage_meets h, execHardResetReceived_meets h, execHardResetSignallingEnd_meets h, h.next,
    execChunkTimerExpiry_meets h, execAmsStartWaitExpiry_meets h, execSinktxokRead_meets h, execSendSourceCapExpiry_meets h,
    execSenderResponseExpiry_meets h, execSrcTransitionExpiry_meets h, execTransitionLimitExpiry_meets h,
    execPpsTimeoutExpiry_meets h, execEprKeepAliveExpiry_meets h, execCableDiscTimeout_meets h, execVdmBusyExpiry_meets h,
    execVdmResponseTimeout_meets h, execVbusInBand_meets h, execRenegotiationCaps_meets h, execConnectorTempRead_meets h,
    execCableRediscovery_meets h, execWaitSpacingExpiry_meets h, execPsHardResetExpiry_meets h, execSrcRecoverExpiry_meets h,
    execPsSourceOnExpiry_meets h, execPsSourceOffExpiry_meets h, execPsTransitionExpiry_meets h, execSinkWaitCapExpiry_meets h,
    execVconnSourceTimeoutExpiry_meets h, execFrSwapWaitExpiry_meets h, execTakeoverLimitExpiry_meets h, execHoldupVbusLow_meets h,
    execBackfeedClose_meets h, execReturnCriterion_meets h, execHoldupReturnRetry_meets h, execGetSinkCapStart_meets h,
    execDiscoverIdentityStart_meets h, execFleetModeEntry_meets h, execFleetEnterModeTimeout_meets h, execIdentityDigest_meets h,
    execPodLookup_meets h, execAuthResult_meets h, execAuthTimeout_meets h, execVdmtxItem_meets h, execVdmAnswerTimeout_meets h,
    execControlUpdate_meets h, execPhaseShed_meets h, execSwarmFire_meets h, execSwarmEnd_meets h, execPeakLimit_meets h,
    execPhaseFailureDeclared_meets h, execIsolationCheck_meets h, execDividerCorrection_meets h, execCompensationSample_meets h,
    execTxslewLimitExpiry_meets h, execVsafe0vProven_meets h, execGateRiseComplete_meets h, execGateRiseTimeout_meets h,
    execInrushTimeout_meets h, execSoftstartTimeout_meets h, execVbusUnexpected_meets h, execPassFetShorted_meets h,
    execGoodServiceExpiry_meets h, execBackfeedOpened_meets h, execBackfeedReclose_meets h, execMonitorCrossing_meets h,
    execMonitorReturn_meets h, execThresholdSettled_meets h, execLegCheck_meets h, execGeneralMonitorCheck_meets h,
    execMeteringSample_meets h, execMeteringInterval_meets h, execSessionContextUpdate_meets h, execHibernateCcWake_meets h,
    execCcReportChange_meets h, execSopOrderedSetRecognised_meets h, execFrSwapSignalEnd_meets h, execFrameTransmitted_meets h,
    execVconnPinSettled_meets h, execBfeedOnLevelReached_meets h, execCaptureFrameEnd_meets h, nomatch hc]

/-- Settles O54: the part off the ports, taken as it stood before the event, is kept. -/
theorem portFrame : Obligations.PortFrame := by
  unfold Obligations.PortFrame
  intro c s t hc e
  obtain ⟨u, hu, hm⟩ := (exec_meets_of_ofPort hc ⟨fun _ _ => trivial, rfl⟩ (State.Meets.self (s := s))).ok
  cases hu.symm.trans e
  have ho := hm.ok
  simp only [State.off, Off.mk.injEq] at ho
  obtain ⟨himg, hwvl, hpod, hbkp, hlatB, hlatT, hrst, hq, -, -⟩ := ho
  refine ⟨himg, hwvl, ?_, hbkp, hlatB, hlatT, hrst, hq⟩
  rw [PodState.mk.injEq] at hpod ⊢
  simp_all

end Sys2Proof.Machine
end

section
/-! PROOF of O11 and O12 (16 R456, R457, R466, Tables 16-10 and 16-11). What the boundaries of instructions do to a core, and what its reset and
start do. A reset's and a start's other work (flow ports, crypto, waiting image blocks) leaves the rest of each core as it is. -/
namespace Sys2Proof.Machine

variable {s t : State} {c : Fin 4} {q : PortId}

/-! ### What lies outside the cores' own registers -/

/-- What `State.unbind` keeps: every part of the state that neither the flows nor the flow ports hold. -/
theorem State.unbind_keeps {β : Type} (v : State → β) (hv : ∀ {s t : State}, t.aside = s.aside → v t = v s)
    (hfp : ∀ (s : State) (x : Fin 16) (f : FlowPort → FlowPort), v (s.modFp c x f) = v s) (l : List (Fin 16)) : v (s.unbind c l) = v s := by
  unfold State.unbind
  extract_lets holders back s1 s2 s3
  have h1 : v s1 = v s := foldl_keeps v _ (fun s f => foldl_keeps v _ (fun s i => by
    split
    · exact hv (State.modFlow_aside _)
    · rfl) _ _) _ _
  have h2 : v s2 = v s1 := foldl_keeps v _ (fun s h => hv (State.freeCell_aside _)) _ _
  have h3 : v s3 = v s2 := foldl_keeps v _ (fun s x => hv (State.modFlow_aside _)) _ _
  exact (foldl_keeps v _ (fun s x => hfp s x _) _ _).trans (h3.trans (h2.trans h1))

/-- A core but for its flow ports and its crypto context. -/
def Core.own (k : Core) : Core := { k with ports := Vector.replicate 16 {}, cx := {} }

theorem Core.own_fields {k k' : Core} (h : k.own = k'.own) : k.ecause = k'.ecause ∧ k.epc = k'.epc ∧ k.code = k'.code ∧ k.hold = k'.hold
    ∧ k.haltReq = k'.haltReq ∧ k.autoRst = k'.autoRst ∧ k.restarts = k'.restarts ∧ k.finfo = k'.finfo ∧ k.fpc = k'.fpc := by
  simp only [Core.own, Core.mk.injEq] at h
  simp only [h, and_self]

theorem State.own_modCore (n : Fin 4) (f : Core → Core) (hf : ∀ k, (f k).own = k.own) :
    ((s.modCore c f).core n).own = (s.core n).own := by
  rw [State.core_modCore]
  split
  · exact hf _
  · rfl

theorem State.unbind_own (n : Fin 4) (l : List (Fin 16)) : ((s.unbind c l).core n).own = (s.core n).own :=
  State.unbind_keeps (fun s => (s.core n).own) (fun h => congrArg Core.own (State.core_of_aside h n))
    (fun _ _ _ => State.own_modCore n _ fun _ => rfl) l

theorem State.unbind_port (l : List (Fin 16)) (q : PortId) : (s.unbind c l).port q = s.port q :=
  State.unbind_keeps (fun s => s.port q) (fun h => State.port_of_aside h q) (fun _ _ _ => rfl) l

theorem State.img_of_aside (h : t.aside = s.aside) : t.img = s.img := by
  obtain ⟨-, -, -, -, -, -, himg, -⟩ := State.aside_fields h
  exact himg

theorem State.unbind_img (l : List (Fin 16)) : (s.unbind c l).img = s.img :=
  State.unbind_keeps State.img State.img_of_aside (fun _ _ _ => rfl) l

/-! ### The boundaries of instructions -/

theorem State.irqPend_setSt (x : CoreSt) : (s.modCore c fun k => { k with st := x }).irqPend c = s.irqPend c := by
  have h (i : Fin 16) : (s.modCore c fun k => { k with st := x }).fpReady c i = s.fpReady c i := by
    unfold State.fpReady State.waitingFor
    simp only [State.core_modCore_self]
    rfl
  unfold State.irqPend
  simp only [State.core_modCore_self, h]
  rfl

theorem State.irqLine_setSt (x : CoreSt) : (s.modCore c fun k => { k with st := x }).irqLine c = s.irqLine c := by
  unfold State.irqLine
  rw [State.irqPend_setSt, State.core_modCore_self]

/-- The lowest pending line of IRQ_MASK is the one taken. -/
theorem State.irqLine_lowest {l : Nat} (hl : l < 20) (h : (s.irqPend c &&& (s.core c).irqMask).getLsbD l = true)
    (hlow : ∀ m, m < l → (s.irqPend c &&& (s.core c).irqMask).getLsbD m = false) : s.irqLine c = some l := by
  unfold State.irqLine
  rw [List.find?_range_eq_some]
  simp only [BitVec.getLsbD_and] at h hlow
  exact ⟨h, List.mem_range.2 hl, fun m hm => congrArg (!·) (hlow m hm)⟩

theorem State.resume_of_run (h : (s.core c).st = .run) : s.resume c = s := by
  unfold State.resume
  rw [if_neg (by rw [h]; simp)]

theorem State.resume_of_wait (h : (s.core c).st = .wait) (hl : (s.irqLine c).isSome = true) :
    s.resume c = s.modCore c fun k => { k with st := .run } := by
  unfold State.resume
  rw [if_pos ⟨h, hl⟩]

theorem State.irqLine_isSome_of {l : Nat} (h : (s.irqPend c &&& (s.core c).irqMask).getLsbD l = true) : (s.irqLine c).isSome = true := by
  rw [State.irqLine_isSome]
  intro h0
  rw [h0] at h
  simp at h

theorem State.executes_of {c : Fin 4} (h : (s.core c).st = .run) (h1 : s.pwr.st ≠ .doze) (h2 : s.pwr.st ≠ .hibernate) : s.executes c = true := by
  simp [State.executes, h, h1, h2]

theorem execInterruptTaken_eq {l : Nat} (hl : s.irqLine c = some l) (hst : (s.core c).st = .run ∨ (s.core c).st = .wait)
    (h1 : s.pwr.st ≠ .doze) (h2 : s.pwr.st ≠ .hibernate) (hie : (s.core c).status.getLsbD 0 = true)
    (hexl : (s.core c).status.getLsbD 2 = false) :
    execInterruptTaken c s = .next (s.modCore c fun k => { k.except 9 l k.pc 0 with st := .run }) := by
  unfold execInterruptTaken
  refine congrArg Host.Outcome.next ?_
  rcases hst with hst | hst
  · rw [State.resume_of_run hst]
    dsimp only
    rw [hl]
    dsimp only
    rw [if_pos ⟨State.executes_of hst h1 h2, hie, fun h => Bool.false_ne_true (hexl.symm.trans h)⟩]
    exact State.modCore_congr (by rw [← hst]; rfl)
  · rw [State.resume_of_wait hst (by rw [hl]; rfl)]
    dsimp only
    rw [State.irqLine_setSt, hl]
    dsimp only
    rw [State.core_modCore_self, if_pos ⟨State.executes_of (by rw [State.core_modCore_self]) h1 h2, hie,
      fun h => Bool.false_ne_true (hexl.symm.trans h)⟩, State.modCore_modCore]
    exact State.modCore_congr rfl

/-- The timer line is pending while TCMP lies behind the count. -/
theorem State.irqPend_timer (h : (s.core c).tcmp ≤ s.now) : (s.irqPend c).getLsbD 17 = true := by
  unfold State.irqPend
  dsimp only
  rw [BitVec.getLsbD_ofNat, foldl_two_pow_testBit]
  simp [h]

/-- A core's FAULT outside a trial: the core's state and records, and nothing of any port. -/
theorem State.coreFault_faultHook (kind : Nat) (htrial : s.img.inTrial = false) :
    (((s.coreFault c kind).faultHook).core c).st = .fault
      ∧ (((s.coreFault c kind).faultHook).core c).finfo = BitVec.ofNat 32 ((s.core c).ecause.fld 7 0 + 256 * kind)
      ∧ (((s.coreFault c kind).faultHook).core c).fpc = (s.core c).epc
      ∧ ∀ q, ((s.coreFault c kind).faultHook).port q = s.port q := by
  have himg : (s.coreFault c kind).img = s.img := by
    unfold State.coreFault
    dsimp only
    rw [State.img_of_aside (State.eventD_aside _), State.modCore_img, State.unbind_img]
  have hook : (s.coreFault c kind).faultHook = s.coreFault c kind := by
    unfold State.faultHook State.fallBack
    rw [himg, htrial]
    exact if_pos (Or.inl Bool.false_ne_true)
  obtain ⟨hcause, hepc, -⟩ := Core.own_fields (State.unbind_own (s := s) (c := c) c (List.finRange 16))
  rw [hook]
  unfold State.coreFault
  simp only [State.core_of_aside (State.eventD_aside _), State.core_modCore_self, hcause, hepc]
  exact ⟨trivial, trivial, trivial, fun q => by
    rw [State.eventD_port, State.modCore_port, State.unbind_port]⟩

/-- A core that runs or waits, outside DOZE and HIBERNATE, where the watchdog has been kicked, and where it has not. -/
theorem execWatchdogExpiry_awake (hst : (s.core c).st = .run ∨ (s.core c).st = .wait) (h1 : s.pwr.st ≠ .doze) (h2 : s.pwr.st ≠ .hibernate) :
    execWatchdogExpiry c s = .next (if ¬ (s.core c).wdKicked then (s.coreFault c 2).faultHook
      else s.modCore c fun k => let k := { k with wdKicked := false }
        if k.exl then k else { k.except 10 0 k.pc 0 with st := .run }) := by
  unfold execWatchdogExpiry
  refine congrArg Host.Outcome.next ?_
  dsimp only
  rw [if_neg (by simp [hst, h1, h2])]

theorem State.sync_double (cause detail : Nat) (epc eaddr : Word) (kind : Nat) (h : (s.core c).status.getLsbD 2 = true) :
    s.sync c cause detail epc eaddr kind = ((s.modCore c fun k => k.except cause detail epc eaddr).coreFault c kind).faultHook := by
  unfold State.sync
  exact if_pos h

/-- Settles O11: a line is taken through `execInterruptTaken_eq`, and every FAULT through `State.coreFault_faultHook`. -/
theorem coreBoundaries : Obligations.CoreBoundaries := by
  unfold Obligations.CoreBoundaries
  refine ⟨fun s c => ⟨fun l hl hp hlow hst h1 h2 hie hexl => execInterruptTaken_eq (State.irqLine_lowest hl hp hlow) hst h1 h2 hie hexl,
    fun hst ⟨l, _, hp⟩ => ?_, fun hst htc hm => ?_, fun hst h1 h2 hk hexl => ?_, fun hst h1 h2 hk htrial => ?_⟩,
    fun s c f hc hf hexl htrial => ?_⟩
  · exact congrArg Host.Outcome.next (State.resume_of_wait hst (State.irqLine_isSome_of hp))
  · have hl : (s.irqLine c).isSome = true := State.irqLine_isSome_of (l := 17) (by rw [BitVec.getLsbD_and, State.irqPend_timer htc, hm]; rfl)
    exact congrArg Host.Outcome.next ((if_pos htc).trans (State.resume_of_wait hst hl))
  · refine (execWatchdogExpiry_awake hst h1 h2).trans (congrArg Host.Outcome.next ?_)
    rw [hk, if_neg (by simp)]
    refine State.modCore_congr ?_
    exact (if_neg (fun h => Bool.false_ne_true (hexl.symm.trans h))).trans rfl
  · refine ⟨_, (execWatchdogExpiry_awake hst h1 h2).trans (congrArg Host.Outcome.next (if_pos (by rw [hk]; simp))), ?_⟩
    obtain ⟨hf, hi, hpc, -⟩ := State.coreFault_faultHook (c := c) 2 htrial
    exact ⟨hf, hi, hpc⟩
  · refine ⟨_, congrArg Host.Outcome.next ((State.instr_ok _ hc hf).trans (State.sync_double _ _ _ _ _ hexl)), ?_⟩
    obtain ⟨hst, hi, -, hp⟩ := State.coreFault_faultHook (c := c) (s := s.modCore c fun k => k.except 8 0 (s.core c).pc 0) 1 htrial
    refine ⟨hst, hi.trans ?_, hp⟩
    rw [State.core_modCore_self]
    rfl

/-! ### Reset and start -/

theorem State.wvl_of_aside (h : t.aside = s.aside) : t.wvl = s.wvl := by
  obtain ⟨-, -, -, -, -, hwvl, -⟩ := State.aside_fields h
  exact hwvl

@[simp] theorem State.modImg_wvl (f : ImgState → ImgState) : (s.modImg f).wvl = s.wvl := rfl

@[simp] theorem State.finish_wvl (d : Desc) (n : Nat) (r : Quad) : (s.finish d n r).wvl = s.wvl := State.wvl_of_aside (State.finish_aside d n r)

@[simp] theorem State.eraseKinds_wvl (n : Nat) : (s.eraseKinds n).wvl = s.wvl := rfl

@[simp] theorem State.stage_wvl (pkg : List Byte) : (s.stage pkg).wvl = s.wvl := rfl

@[simp] theorem State.verifyPackage_wvl (id : Word) (pkg : List Byte) : (s.verifyPackage id pkg).1.wvl = s.wvl := by
  unfold State.verifyPackage
  extract_lets +onlyGivenNames man k shut fail r
  have hfail (table row : Nat) : (fail table row).wvl = s.wvl := by
    unfold fail
    rw [State.wvl_of_aside (State.eventD_aside _)]
    rfl
  split
  · exact hfail 4 r
  · dsimp only
    split
    · exact hfail 5 _
    · exact (State.wvl_of_aside (State.eventD_aside _)).trans (State.stage_wvl pkg)

@[simp] theorem State.writeBlock_wvl (d : Desc) (x : XferState) (off : Nat) (b : List Byte) (n : Nat) :
    (s.writeBlock d x off b n).wvl = s.wvl := by
  unfold State.writeBlock
  extract_lets got s1 x' s2
  split_ifs
  · exact State.finish_wvl ..
  · exact State.finish_wvl ..
  · exact State.finish_wvl ..
  · exact State.finish_wvl ..
  · exact State.finish_wvl ..
  · exact (State.finish_wvl ..).trans (State.verifyPackage_wvl _ _)
  · exact State.finish_wvl ..

@[simp] theorem State.openXfer_wvl (d : Desc) (id : Word) (b : List Byte) (n : Nat) : (s.openXfer d id b n).wvl = s.wvl := by
  unfold State.openXfer
  dsimp only
  split
  · exact State.finish_wvl ..
  · rw [State.writeBlock_wvl, State.modImg_wvl, State.eraseKinds_wvl]
    split
    · exact State.wvl_of_aside (State.endWhere_aside _ _)
    · rfl

@[simp] theorem State.takeBlock_wvl (d : Desc) (n : Nat) : (s.takeBlock d n).wvl = s.wvl := by
  unfold State.takeBlock
  dsimp only
  split
  · split_ifs <;> simp
  · split_ifs <;> simp

theorem State.emptyFlow_wvl (f : Nat) : (s.emptyFlow f).wvl = s.wvl :=
  congrArg Off.wvl (State.Meets.emptyFlow State.Meets.self).ok

theorem State.imgBlocksGo_wvl : s.imgBlocksGo.wvl = s.wvl := by
  unfold State.imgBlocksGo
  dsimp only
  split
  · rfl
  · refine (foldl_keeps State.wvl _ (fun s o => ?_) _ _).trans ((State.wvl_of_aside (State.modFlow_aside _)).trans (State.emptyFlow_wvl _))
    split
    · split
      · exact State.takeBlock_wvl ..
      · rfl
    · rfl

theorem State.core_w0Again (n : Fin 4) : (s.w0Again c).core n = s.core n := by
  unfold State.w0Again
  split
  · exact congrArg (fun w : WvlState => w.cores[n.val]) (State.imgBlocksGo_wvl (s := s.closesFirst))
  · rfl

theorem State.freeBytes_core (a : Word) (k m : Nat) (n : Fin 4) : (State.freeBytes s a k m).core n = s.core n := by
  induction k generalizing s a m with
  | zero => rfl
  | succ k ih =>
    unfold State.freeBytes
    exact ih _ _

theorem State.own_modCx (n : Fin 4) (f : Crypto → Crypto) : ((s.modCx c f).core n).own = (s.core n).own :=
  State.own_modCore n _ fun _ => rfl

theorem State.cxCancel_own (n : Fin 4) : ((s.cxCancel c).core n).own = (s.core n).own := by
  unfold State.cxCancel
  split
  · rfl
  · next j _ =>
    extract_lets s1 s2
    have h1 : (s1.core n).own = (s.core n).own := by
      unfold s1
      split
      · rfl
      · rw [State.freeBytes_core]
    have h2 : (s2.core n).own = (s.core n).own := (State.own_modCx n _).trans h1
    clear_value s2
    split
    · exact h2
    · exact h2

/-- What a reset leaves of a core. -/
def Core.afterReset (c : Fin 4) (k : Core) : Core :=
  { pc := if c = 0 then 0xF0000000 else 0, code := k.code, fetchCode := k.code, hold := k.hold, haltReq := k.haltReq
    autoRst := k.autoRst, restarts := k.restarts, finfo := k.finfo, fpc := k.fpc, st := .reset }

theorem Core.afterReset_congr {k k' : Core} (h : k.own = k'.own) : k.afterReset c = k'.afterReset c := by
  obtain ⟨-, -, h1, h2, h3, h4, h5, h6, h7⟩ := Core.own_fields h
  unfold Core.afterReset
  rw [h1, h2, h3, h4, h5, h6, h7]

theorem State.coreReset_core : (s.coreReset c).core c = (s.core c).afterReset c := by
  unfold State.coreReset
  dsimp only
  rw [State.core_modCore_self]
  exact Core.afterReset_congr ((State.cxCancel_own c).trans (State.unbind_own c _))

theorem State.coreStart_core (n : Nat) : (s.coreStart c n).core c =
    { s.core c with st := if (s.core c).haltReq then .halted else .run, restarts := satInc (s.core c).restarts } := by
  unfold State.coreStart State.coreRun
  dsimp only
  rw [State.core_of_aside (State.eventD_aside _), State.core_modCore_self, State.core_w0Again, State.core_modCore_self]

theorem satInc_four (x : BitVec 4) : satInc x = if x = 15 then 15 else x + 1 := by
  revert x; decide

theorem State.restartCore_held (n : Nat) (h : (s.core c).hold = true) : s.restartCore c n = s.coreReset c := by
  unfold State.restartCore
  dsimp only
  rw [State.coreReset_core]
  exact if_pos h

theorem State.restartCore_free (n : Nat) (h : (s.core c).hold = false) : s.restartCore c n = (s.coreReset c).coreStart c n := by
  unfold State.restartCore
  dsimp only
  rw [State.coreReset_core, if_neg (by rw [show ((s.core c).afterReset c).hold = (s.core c).hold from rfl, h]; exact Bool.false_ne_true)]

theorem State.restartCore_core (n : Nat) (h : (s.core c).hold = false) : (s.restartCore c n).core c =
    { (s.core c).afterReset c with st := if (s.core c).haltReq then .halted else .run, restarts := satInc (s.core c).restarts } := by
  rw [State.restartCore_free n h, State.coreStart_core, State.coreReset_core]
  rfl

theorem execCoreHold_free {b : Bool} (hl : s.hif.lock = false) (hc : c ≠ 0) (h : (s.core c).hold = !b) :
    execCoreHold c b s = .next (if b then (s.modCore c fun k => { k with hold := true }).coreReset c
      else (s.modCore c fun k => { k with hold := false }).coreStart c 4) := by
  unfold execCoreHold State.holdCore
  rw [if_pos (by rw [hl]; exact Bool.false_ne_true), if_neg (by rw [h]; simp [hc])]

theorem execCoreHalt_free {b : Bool} (hl : s.hif.lock = false) : execCoreHalt c b s = .next (s.haltCore c b) := by
  unfold execCoreHalt
  rw [if_pos (by rw [hl]; exact Bool.false_ne_true)]

/-- Settles O12: a reset leaves `Core.afterReset` and a start sets the state and counts. -/
theorem coreControl : Obligations.CoreControl := by
  unfold Obligations.CoreControl
  intro s c k zeroed started
  have hz : zeroed (k.afterReset c) := ⟨rfl, rfl, rfl, rfl, rfl, rfl, rfl, rfl, rfl, rfl, rfl, rfl, rfl, rfl, rfl, rfl⟩
  have hs (n : Nat) (h : k.hold = false) : started ((s.restartCore c n).core c) := by
    rw [State.restartCore_core n h]
    exact ⟨hz, rfl, satInc_four _⟩
  refine ⟨fun hl hc hh => ?_, fun hl hc hh => ?_, fun hl hst => ?_, fun hl hst => ?_, fun hl hst => ?_, fun hh => ⟨_, rfl, hs 2 hh⟩,
    fun hh => ⟨_, congrArg Host.Outcome.next (State.restartCore_held 2 hh), ?_⟩, fun hst ha hh => ⟨_, congrArg Host.Outcome.next (if_pos ⟨hst, ha⟩), hs 1 hh⟩⟩
  · refine ⟨_, execCoreHold_free hl hc hh, ?_⟩
    rw [if_pos rfl, State.coreReset_core, State.core_modCore_self]
    exact ⟨hz, rfl, rfl⟩
  · refine ⟨_, execCoreHold_free hl hc hh, ?_⟩
    rw [if_neg Bool.false_ne_true, State.coreStart_core, State.core_modCore_self]
    exact ⟨rfl, rfl⟩
  · refine (execCoreHalt_free hl).trans (congrArg Host.Outcome.next ?_)
    unfold State.haltCore
    exact (if_neg (fun h => h.2 rfl)).trans (State.modCore_congr (by simp [show (s.core c).st = .run from hst]))
  · refine (execCoreHalt_free hl).trans (congrArg Host.Outcome.next ?_)
    unfold State.haltCore
    exact (if_neg (fun h => h.2 rfl)).trans (State.modCore_congr (by simp [show (s.core c).st = .wait from hst]))
  · refine ⟨_, execCoreHalt_free hl, ?_, fun n hn => ?_⟩
    · unfold State.haltCore
      dsimp only
      rw [if_pos ⟨hst, Bool.false_ne_true⟩, State.core_w0Again, State.core_modCore_self]
      simp [show (s.core c).st = .halted from hst, k]
    · unfold State.haltCore
      dsimp only
      rw [if_pos ⟨hst, Bool.false_ne_true⟩, State.core_w0Again, State.core_modCore_ne _ (Ne.symm hn)]
  · rw [State.coreReset_core]
    exact ⟨hz, rfl⟩

end Sys2Proof.Machine
end

section
/-! PROOF of O13 (16 R446, R457, R459, R463, R464, Tables 16-14 to 16-16): the ports by which a core reaches the watchdog, the other cores, the
Pod Table and the flows. -/
namespace Sys2Proof.Machine

variable {s t : State} {c : Fin 4}

/-! ### Words, bytes and slots -/

theorem Word.put_getLsbD (w : Word) {lo k v i : Nat} (hk : 0 < k) (hi : i < 32) : (w.put (lo + k - 1) lo v).getLsbD i =
    if lo ≤ i ∧ i < lo + k then v.testBit (i - lo) else w.getLsbD i := by
  unfold Word.put
  have hw : lo + k - 1 + 1 - lo = k := by omega
  simp only [hw, BitVec.getLsbD_or, BitVec.getLsbD_and, BitVec.getLsbD_not, BitVec.getLsbD_ofNat, Nat.testBit_shiftLeft,
    Nat.testBit_two_pow_sub_one, hi, decide_true, Bool.true_and]
  split
  · next h => simp [h.1, show i - lo < k by omega]
  · next h =>
    by_cases h1 : lo ≤ i
    · simp [h1, show ¬ i - lo < k by omega]
    · simp [h1]

/-- A field reads what was put into it. -/
theorem Word.fld_put (w : Word) {lo k v : Nat} (hk : 0 < k) (hlo : lo + k ≤ 32) (hv : v < 2 ^ k) :
    (w.put (lo + k - 1) lo v).fld (lo + k - 1) lo = v := by
  unfold Word.fld
  refine Nat.eq_of_testBit_eq fun i => ?_
  rw [show lo + k - 1 + 1 - lo = k by omega, Nat.testBit_mod_two_pow, Nat.testBit_shiftRight, BitVec.testBit_toNat]
  by_cases hi : i < k
  · rw [Word.put_getLsbD w hk (by omega), if_pos ⟨by omega, by omega⟩, decide_eq_true hi, Bool.true_and, Nat.add_sub_cancel_left]
  · rw [decide_eq_false hi, Bool.false_and, Nat.testBit_lt_two_pow (hv.trans_le (Nat.pow_le_pow_right (by decide) (by omega)))]

theorem getBytes_one (bs : List Byte) (i : Nat) : getBytes bs i 1 = [bs.getD i 0] := by
  unfold getBytes
  rcases h : bs.drop i with _ | ⟨b, r⟩
  · have hl : bs.length ≤ i := List.drop_eq_nil_iff.1 h
    simp [hl]
  · have hb : bs[i]? = some b := by rw [← List.head?_drop, h]; rfl
    simp [hb]

theorem podGet_podPut (l : List (Nat × PodEntry)) (slot : Nat) (e : Option PodEntry) : podGet (podPut l slot e) slot = e := by
  unfold podGet podPut
  have h1 : (l.filter fun x => decide (x.1 < slot)).find? (fun x => x.1 == slot) = none := by
    simp only [List.find?_eq_none, List.mem_filter, decide_eq_true_eq, beq_iff_eq]
    exact fun x hx => Nat.ne_of_lt hx.2
  have h2 : (l.filter fun x => decide (slot < x.1)).find? (fun x => x.1 == slot) = none := by
    simp only [List.find?_eq_none, List.mem_filter, decide_eq_true_eq, beq_iff_eq]
    exact fun x hx => Nat.ne_of_gt hx.2
  rw [List.find?_append, List.find?_append, h1, h2]
  cases e <;> simp

/-! ### The signals and the Pod port -/

theorem State.core_modCore_if (b : Bool) (m n : Fin 4) (f : Core → Core) :
    (if b then s.modCore m f else s).core n = if b ∧ m = n then f (s.core n) else s.core n := by
  cases b
  · simp
  · simp [State.core_modCore]

theorem State.foldl_core_modCore (b : Fin 4 → Bool) (f : Core → Core) (l : List (Fin 4)) (hl : l.Nodup) (n : Fin 4) :
    (l.foldl (fun s m => if b m then s.modCore m f else s) s).core n = if n ∈ l ∧ b n then f (s.core n) else s.core n := by
  induction l generalizing s with
  | nil => simp
  | cons m l ih =>
    rw [List.nodup_cons] at hl
    rw [List.foldl_cons, ih hl.2, State.core_modCore_if]
    by_cases hm : m = n
    · subst hm
      simp [hl.1]
    · simp [hm, Ne.symm hm]

theorem State.sigSend_core (v : Word) (n : Fin 4) : (s.sigSend c v).core n =
    { s.core n with sigSrc := if v.getLsbD n.val then (s.core n).sigSrc ||| BitVec.ofNat 4 (2 ^ c.val) else (s.core n).sigSrc } := by
  unfold State.sigSend Word.bit
  rw [State.foldl_core_modCore _ _ _ (List.nodup_finRange 4)]
  cases h : v.getLsbD n.val <;> simp [List.mem_finRange]

/-- A turn of the slot operations leaves the cores and the entries. -/
theorem State.slotTurn_off : s.slotTurn.off = s.off := (State.Meets.slotTurn State.Meets.self).ok

theorem State.slotTurn_core (n : Fin 4) : s.slotTurn.core n = s.core n :=
  congrArg (fun o : Off => o.wvl.cores[n.val]) State.slotTurn_off

theorem State.slotTurn_slots : s.slotTurn.pod.slots = s.pod.slots := congrArg (fun o : Off => o.pod.slots) State.slotTurn_off

theorem State.slotTurn_check (slot : Nat) (e : PodEntry) : s.slotTurn.pod.check slot e = s.pod.check slot e :=
  congrArg (fun o : Off => o.pod.check slot e) State.slotTurn_off

theorem State.Meets.podStore_of {I : Inv} {slot : Nat} {e : Option PodEntry}
    (h : State.Meets { s with pod := { s.pod with slots := podPut s.pod.slots slot e } } I) : (s.podStore slot e).Meets I := by
  unfold State.podStore
  extract_lets +onlyGivenNames old src s1 same given s2
  have h1 : s1.Meets I := h
  clear_value same
  have h2 : s2.Meets I := h1.forPorts fun s p hs => by
    dsimp only
    split
    · exact hs.podReapply
    · split
      · exact hs.modPod.eventP.either hs
      · exact hs
  exact h2.eventD

/-- A stored entry: the slots, and nothing of any core. -/
theorem State.podStore_off (slot : Nat) (e : Option PodEntry) : (s.podStore slot e).off =
    { s.off with pod := { s.off.pod with slots := podPut s.pod.slots slot e } } :=
  (State.Meets.podStore_of (s := s) (I := { off := (· = { s.off with pod := { s.off.pod with slots := podPut s.pod.slots slot e } }) })
    ⟨rfl, List.nil_prefix, fun _ => trivial, nofun, nofun, nofun⟩).ok

theorem State.podStore_core (slot : Nat) (e : Option PodEntry) (n : Fin 4) : (s.podStore slot e).core n = s.core n :=
  congrArg (fun o : Off => o.wvl.cores[n.val]) (State.podStore_off slot e)

theorem State.podStore_slots (slot : Nat) (e : Option PodEntry) : (s.podStore slot e).pod.slots = podPut s.pod.slots slot e :=
  congrArg (fun o : Off => o.pod.slots) (State.podStore_off slot e)

/-- The result of a slot operation as a core finds it. -/
def Core.ppDone (k : Core) (status reason : Nat) : Core := { k with ppRes := podResultWord status reason, ppUnread := true }

theorem State.ppOp_read : s.ppOp c 1 = (s.slotTurn.modCore c fun k => { k with ppData := Vector.ofFn fun i =>
    (getBytes (((podGet s.pod.slots ((s.core c).ppSlot.toNat % 4096)).map PodEntry.bytes).getD []) i.val 1).getD 0 0 }).modCore c
      (·.ppDone 0 0) := by
  unfold State.ppOp
  rw [if_pos (Or.inl rfl)]
  dsimp only
  rw [State.slotTurn_core, State.slotTurn_slots]
  rfl

theorem State.ppOp_refused {op : Nat} (hc : c ≠ 0) (hop : op = 2 ∨ op = 3) : s.ppOp c op = s.modCore c (·.ppDone 0x0010 0) := by
  unfold State.ppOp
  rw [if_neg (show ¬ (op = 1 ∨ c = 0 ∧ (op = 2 ∨ op = 3)) by rintro (h | h); omega; exact hc h.1)]
  dsimp only
  rw [if_neg (by omega), if_pos hop, if_pos hc]
  rfl

theorem State.ppOp_delete : s.ppOp 0 3 = (s.slotTurn.podStore ((s.core 0).ppSlot.toNat % 4096) none).modCore 0 (·.ppDone 0 0) := by
  unfold State.ppOp
  rw [if_pos (Or.inr ⟨rfl, Or.inr rfl⟩)]
  dsimp only
  rw [if_neg (by decide), if_pos (by decide), if_neg (by decide), if_pos rfl, State.slotTurn_core]
  rfl

theorem State.ppOp_write (h : s.pod.check ((s.core 0).ppSlot.toNat % 4096) { bytes := (s.core 0).ppData.toList } = 0) :
    s.ppOp 0 2 = (s.slotTurn.podStore ((s.core 0).ppSlot.toNat % 4096) (some { bytes := (s.core 0).ppData.toList })).modCore 0
      (·.ppDone 0 0) := by
  unfold State.ppOp
  rw [if_pos (Or.inr ⟨rfl, Or.inl rfl⟩)]
  dsimp only
  rw [if_neg (by decide), if_pos (by decide), if_neg (by decide), if_neg (by decide), State.slotTurn_core]
  have hc : s.slotTurn.pod.check ((s.core 0).ppSlot.fld 11 0) { bytes := (s.core 0).ppData.toList } = 0 := (State.slotTurn_check _ _).trans h
  unfold State.podWrite
  rw [hc]
  rfl

theorem ofFn_getBytes_toList {b : List Byte} (h : b.length = 64) :
    (Vector.ofFn fun i : Fin 64 => (getBytes b i.val 1).getD 0 0).toList = b := by
  refine List.ext_getElem (by simp [h]) fun i h1 h2 => ?_
  simp [getBytes_one, h2]

/-! ### The flow ports -/

theorem State.fp_of_aside (h : t.aside = s.aside) (x : Fin 16) : t.fp c x = s.fp c x := by
  unfold State.fp
  rw [State.core_of_aside h]

theorem State.fp_modFp (x y : Fin 16) (f : FlowPort → FlowPort) :
    (s.modFp c x f).fp c y = if x = y then f (s.fp c y) else s.fp c y := by
  unfold State.fp State.modFp
  rw [State.core_modCore_self]
  dsimp only
  rw [Vector.getElem_set]
  by_cases h : x = y
  · subst h
    rw [if_pos rfl, if_pos rfl]
  · rw [if_neg h, if_neg fun e => h (Fin.ext e)]

@[simp] theorem State.fp_modFp_self (x : Fin 16) (f : FlowPort → FlowPort) : (s.modFp c x f).fp c x = f (s.fp c x) := by
  rw [State.fp_modFp, if_pos rfl]

@[simp] theorem State.fp_fpDone (x : Fin 16) (r : Nat) :
    (s.fpDone c x r).fp c x = { s.fp c x with busy := false, wait := none, result := BitVec.ofNat 4 r } := State.fp_modFp_self ..

theorem State.modFp_flow (x : Fin 16) (f : FlowPort → FlowPort) (n : Nat) : (s.modFp c x f).flow n = s.flow n := rfl

/-- Bindings end in the flows first and in the flow ports last. -/
theorem State.unbind_eq (l : List (Fin 16)) : ∃ u, u.aside = s.aside ∧
    s.unbind c l = l.foldl (fun s x => s.modFp c x fun y => { y with busy := false, wait := none, held := none, bound := false }) u := by
  unfold State.unbind
  extract_lets holders back s1 s2 s3
  have h1 : s1.aside = s.aside := foldl_keeps State.aside _ (fun s f => foldl_keeps State.aside _ (fun s i => by
    split
    · exact State.modFlow_aside _
    · rfl) _ _) _ _
  have h2 : s2.aside = s1.aside := foldl_keeps State.aside _ (fun s h => State.freeCell_aside _) _ _
  have h3 : s3.aside = s2.aside := foldl_keeps State.aside _ (fun s x => State.modFlow_aside _) _ _
  exact ⟨s3, h3.trans (h2.trans h1), rfl⟩

/-- A binding that ends leaves nothing waiting and nothing held. -/
theorem State.fp_unbind_one (x : Fin 16) :
    (s.unbind c [x]).fp c x = { s.fp c x with busy := false, wait := none, held := none, bound := false } := by
  obtain ⟨u, hu, e⟩ := State.unbind_eq (s := s) (c := c) [x]
  rw [e, List.foldl_cons, List.foldl_nil, State.fp_modFp_self, State.fp_of_aside hu]

theorem State.mayBind_wmsg (producer : Bool) : s.mayBind c fWmsg producer = true := rfl

/-- A command that fits its flow port. -/
theorem State.fpCmd_fits {x : Fin 16} {producer held : Bool} (f : State → State) (hb : (s.fp c x).busy = false)
    (hbound : (s.fp c x).bound = true) (hp : (s.fp c x).producer = producer) (hh : (s.fp c x).held.isSome = held) :
    s.fpCmd c x producer held f = f s := by
  unfold State.fpCmd
  simp [hb, hbound, hp, hh]

theorem State.fpCmd_unbound {x : Fin 16} (producer held : Bool) (f : State → State) (hb : (s.fp c x).busy = false)
    (hbound : (s.fp c x).bound = false) : s.fpCmd c x producer held f = s.fpDone c x 3 := by
  unfold State.fpCmd
  simp [hb, hbound]

/-- A cell of WMSG for the core is taken. -/
theorem State.fpTake_cell {x : Fin 16} {cell : Cell} {r : List Cell} (hf : (s.fp c x).flowNo = fWmsg) (hw : s.waitingFor c fWmsg = cell :: r)
    (hue : cell.ue = none) : ((s.fpTake c x).fp c x).held = some { cell with ce := [] } ∧ ((s.fpTake c x).fp c x).result = 0
      ∧ ((s.fpTake c x).fp c x).busy = false := by
  unfold State.fpTake
  dsimp only
  rw [hf, State.mayBind_wmsg, if_neg (by simp), hw]
  dsimp only
  rw [hue]
  dsimp only
  rw [State.fp_fpDone, State.fp_modFp_self]
  exact ⟨rfl, rfl, rfl⟩

theorem State.fpTake_empty {x : Fin 16} (hf : (s.fp c x).flowNo = fWmsg) (hw : s.waitingFor c fWmsg = []) :
    s.fpTake c x = s.modFp c x fun y => { y with busy := true, wait := some 1 } := by
  unfold State.fpTake
  dsimp only
  rw [hf, State.mayBind_wmsg, if_neg (by simp), hw]

/-- The held cell goes, and the command's result stands. -/
theorem State.fpFree_held {x : Fin 16} {cell : Cell} (n : Nat) (hh : (s.fp c x).held = some cell) :
    ((s.fpFree c x n).fp c x).held = none ∧ ((s.fpFree c x n).fp c x).result = BitVec.ofNat 4 n := by
  unfold State.fpFree
  rw [hh]
  dsimp only
  rw [State.fp_fpDone, State.fp_modFp_self]
  exact ⟨rfl, rfl⟩

theorem State.fpClaim_credit {x : Fin 16} (hf : (s.fp c x).flowNo = fWmsg) (hc : 0 < s.credit fWmsg) :
    ∃ t, s.fpClaim c x = some t ∧ (t.fp c x).held.isSome = true ∧ (t.fp c x).buf = [] ∧ (t.fp c x).result = 0 := by
  unfold State.fpClaim State.takeCell
  rw [hf, if_neg (by omega)]
  refine ⟨_, rfl, ?_⟩
  rw [State.fp_fpDone, State.fp_modFp_self]
  exact ⟨rfl, rfl, rfl⟩

theorem State.flow_modFlow {f : Nat} (hf : f < 117) (g : Flow → Flow) : (s.modFlow f g).flow f = g (s.flow f) := by
  unfold State.modFlow State.setFlow
  rw [dif_pos hf]
  simp [State.flow, hf]

theorem execCommit_wmsg {x : Fin 16} {cell : Cell} (hb : (s.fp c x).busy = false) (hbound : (s.fp c x).bound = true)
    (hp : (s.fp c x).producer = true) (hf : (s.fp c x).flowNo = fWmsg) (hh : (s.fp c x).held = some cell)
    (h0 : (s.fp c x).buf.readN 0 0 1 = [0]) :
    ∃ t, execCommit c x s = .next t ∧ (t.fp c x).held = none ∧ (t.fp c x).result = 0
      ∧ ((t.flow fWmsg).cells.getLast?.map Cell.dest) = some 0 := by
  unfold execCommit
  rw [State.fpCmd_fits _ hb hbound hp (by rw [hh]; rfl)]
  dsimp only
  rw [hh, hf]
  dsimp only
  have h256 : (s.fp c x).buf.readN 0 0 256 = 0 :: (s.fp c x).buf.readN 0 1 255 :=
    congrArg (· :: (s.fp c x).buf.readN 0 1 255) (List.cons.inj h0).1
  have hdest : getLE ((s.fp c x).buf.readN 0 0 256) 0 1 = 0 := by rw [h256]; rfl
  rw [if_pos rfl, if_neg (by rw [hdest]; decide)]
  refine ⟨_, rfl, ?_⟩
  rw [State.fp_fpDone, State.fp_modFp_self]
  refine ⟨rfl, rfl, ?_⟩
  show ((s.queueCell fWmsg _).flow fWmsg).cells.getLast?.map Cell.dest = some 0
  unfold State.queueCell
  rw [State.flow_modFlow (by decide)]
  simp only [List.getLast?_concat, Option.map_some, Cell.dest]
  rw [h256]
  rfl

/-- The port map's field of a port. -/
theorem State.assigned_portmapApplied {p : PortId} (hrx : (s.flow (fVdmRx p)).held = 0) (htx : (s.flow (fVdmTx p)).held = 0)
    (h : s.wvl.portmap.toNat / 4 ^ p.val % 4 ≠ s.assigned p) :
    ∃ t, execPortmapApplied p s = .next t ∧ t.assigned p = s.wvl.portmap.toNat / 4 ^ p.val % 4 := by
  have hfld : s.wvl.portmap.fld (2 * p.val + 1) (2 * p.val) = s.wvl.portmap.toNat / 4 ^ p.val % 4 := by
    have hw : 2 * p.val + 1 + 1 - 2 * p.val = 2 := by omega
    calc s.wvl.portmap.fld (2 * p.val + 1) (2 * p.val)
        = s.wvl.portmap.toNat / 2 ^ (2 * p.val) % 2 ^ (2 * p.val + 1 + 1 - 2 * p.val) :=
          congrArg (· % _) (Nat.shiftRight_eq_div_pow _ _)
      _ = s.wvl.portmap.toNat / 2 ^ (2 * p.val) % 2 ^ 2 := by rw [hw]
      _ = s.wvl.portmap.toNat / 4 ^ p.val % 4 := congrArg (s.wvl.portmap.toNat / · % 4) (Nat.pow_mul 2 2 p.val)
  refine ⟨_, rfl, ?_⟩
  dsimp only
  rw [hfld, if_neg (by simp [h, hrx, htx])]
  unfold State.assigned
  rw [State.wvl_of_aside (State.eventD_aside _)]
  exact Word.fld_put _ (k := 2) (by decide) (by omega) (Nat.mod_lt _ (by decide))

/-- Settles O13: each access is the operation of its port, and each command of a bound flow port fits. -/
theorem corePorts : Obligations.CorePorts := by
  unfold Obligations.CorePorts
  refine ⟨⟨fun s c hx => ⟨fun v => congrArg Host.Outcome.next (if_pos hx), fun v => ⟨_, congrArg Host.Outcome.next (if_pos hx), State.sigSend_core v⟩,
    ⟨_, congrArg Host.Outcome.next ((if_pos hx).trans State.ppOp_read), ?_⟩, fun hc => ⟨congrArg Host.Outcome.next ((if_pos hx).trans (State.ppOp_refused hc (Or.inl rfl))),
      congrArg Host.Outcome.next ((if_pos hx).trans (State.ppOp_refused hc (Or.inr rfl)))⟩, fun hc => ?_, fun hc hk => ?_⟩,
    fun s p hrx htx => State.assigned_portmapApplied hrx htx⟩, fun s c x => ?_⟩
  · rw [State.core_modCore_self, State.core_modCore_self]
    refine ⟨rfl, rfl, State.slotTurn_slots, fun e he hl => ?_⟩
    rw [he]
    exact ofFn_getBytes_toList hl
  · subst hc
    refine ⟨_, congrArg Host.Outcome.next ((if_pos hx).trans State.ppOp_delete), ?_, ?_⟩
    · rw [State.core_modCore_self]; rfl
    · rw [State.modCore_pod, State.podStore_slots, podGet_podPut]
  · subst hc
    refine ⟨_, congrArg Host.Outcome.next ((if_pos hx).trans (State.ppOp_write hk)), ?_, ?_⟩
    · rw [State.core_modCore_self]; rfl
    · rw [State.modCore_pod, State.podStore_slots, podGet_podPut]
  · intro y
    refine ⟨fun v hv => ?_, fun v hv hf => ?_, fun hb hbound => ?_, fun hb hbound hf => ⟨fun hp hh hw => ?_, fun hp hh cell r hw hue => ?_,
      fun hp cell hh => ?_, fun hp hh hwait hcr => ?_, fun hp cell hh h0 => execCommit_wmsg hb hbound hp hf hh h0, fun hp cell hh => ?_⟩,
      fun hw => ?_, fun hw hf cell r hr hue => ?_⟩
    · refine ⟨_, rfl, ?_⟩
      dsimp only
      rw [if_pos (by rw [Word.bit, hv]; exact Bool.false_ne_true), State.fp_fpDone, State.fp_modFp_self, State.fp_unbind_one]
      exact ⟨rfl, rfl, rfl⟩
    · refine ⟨_, rfl, ?_⟩
      dsimp only
      rw [if_neg (by rw [Word.bit, hv]; simp), show v.fld 7 0 = fWmsg from hf, State.mayBind_wmsg, if_neg (by simp), if_neg (by simp),
        State.fp_fpDone, State.fp_modFp_self]
      exact ⟨rfl, rfl⟩
    · exact ⟨congrArg Host.Outcome.next (State.fpCmd_unbound _ _ _ hb hbound), congrArg Host.Outcome.next (State.fpCmd_unbound _ _ _ hb hbound),
        congrArg Host.Outcome.next (State.fpCmd_unbound _ _ _ hb hbound), congrArg Host.Outcome.next (State.fpCmd_unbound _ _ _ hb hbound),
        congrArg Host.Outcome.next (State.fpCmd_unbound _ _ _ hb hbound)⟩
    · exact congrArg Host.Outcome.next ((State.fpCmd_fits _ hb hbound hp (by rw [hh]; rfl)).trans (State.fpTake_empty hf hw))
    · obtain ⟨h1, h2, -⟩ := State.fpTake_cell hf hw hue
      exact ⟨_, congrArg Host.Outcome.next (State.fpCmd_fits _ hb hbound hp (by rw [hh]; rfl)), h1, h2⟩
    · exact ⟨_, congrArg Host.Outcome.next (State.fpCmd_fits _ hb hbound hp (by rw [hh]; rfl)), State.fpFree_held 0 hh⟩
    · obtain ⟨t, ht, h1⟩ := State.fpClaim_credit hf hcr
      refine ⟨t, congrArg Host.Outcome.next ((State.fpCmd_fits _ hb hbound hp (by rw [hh]; rfl)).trans ?_), h1⟩
      dsimp only
      rw [show (s.fp c x).flowNo = fWmsg from hf, hwait]
      simp only [List.isEmpty_nil, if_true, ht]
    · exact ⟨_, congrArg Host.Outcome.next (State.fpCmd_fits _ hb hbound hp (by rw [hh]; rfl)), State.fpFree_held 0 hh⟩
    · refine ⟨_, congrArg Host.Outcome.next (if_pos hw), ?_⟩
      rw [State.fp_fpDone]
      exact ⟨rfl, rfl⟩
    · obtain ⟨h1, -, h2⟩ := State.fpTake_cell hf hr hue
      exact ⟨_, congrArg Host.Outcome.next (if_pos hw), h1, h2⟩

end Sys2Proof.Machine
end

section
/-! PROOF of O14 (16 R465, Tables 16-19 and 16-20): a crypto job from its start to its end. -/
namespace Sys2Proof.Machine

variable {s t : State} {c : Fin 4}

/-- The job that CX_GO latches. -/
def Crypto.latch (x : Crypto) (op : Word) : CxJob := { op, src := x.src, len := x.len, dst := x.dst, aux := x.aux }

/-- A context whose job has started. -/
def Crypto.go (x : Crypto) : Crypto := { x with busy := true, done := false, job := some (x.latch x.op) }

/-- A context whose job has ended with a result. -/
def Crypto.ended (x : Crypto) (r : Nat) : Crypto := { x with busy := false, done := true, res := BitVec.ofNat 2 r, job := none }

def State.setEngine (s : State) (e : Option (Fin 4)) : State := { s with wvl := { s.wvl with engine := e } }

theorem State.core_setEngine (e : Option (Fin 4)) (n : Fin 4) : (s.setEngine e).core n = s.core n := rfl

theorem State.core_modCx_self (f : Crypto → Crypto) : (s.modCx c f).core c = { s.core c with cx := f (s.core c).cx } :=
  State.core_modCore_self _

theorem State.cxGo_idle (hb : (s.core c).cx.busy = false) :
    s.cxGo c = (s.modCx c Crypto.go).setEngine (if s.wvl.engine = none then some c else s.wvl.engine) := by
  unfold State.cxGo
  dsimp only
  rw [if_neg (by rw [hb]; exact Bool.false_ne_true)]
  cases he : s.wvl.engine with
  | none => exact if_pos (congrArg Option.isNone he)
  | some d =>
    refine (if_neg (by rw [show (s.modCx c _).wvl.engine = s.wvl.engine from rfl, he]; exact Bool.false_ne_true)).trans ?_
    rw [if_neg (by simp), ← he]
    rfl

/-- A job started on an idle context: the registers are latched, and a free engine takes it. -/
theorem State.cxStart_eq (op slot : Nat) (cont final : Bool) (h : s.executes c = true) (hb : (s.core c).cx.busy = false) :
    ∃ u : State, s.cxStart c op slot cont final = u.setEngine (if s.wvl.engine = none then some c else s.wvl.engine)
      ∧ (u.core c).cx.busy = true ∧ (u.core c).cx.done = false
      ∧ (u.core c).cx.job = some ((s.core c).cx.latch (BitVec.ofNat 32 (op + 16 * b2n cont + 32 * b2n final + 256 * slot)))
      ∧ u.wvl.shared = s.wvl.shared := by
  unfold State.cxStart
  rw [if_pos h, State.cxGo_idle (by rw [State.core_modCx_self]; exact hb)]
  refine ⟨_, rfl, ?_⟩
  rw [State.core_modCx_self, State.core_modCx_self]
  exact ⟨rfl, rfl, rfl, rfl⟩

/-- A job's end: its context is done with the result, and the engine goes to the next context that waits. -/
def State.cxEnd (s : State) (d : Fin 4) (r : Nat) : State := (s.modCx d (·.ended r)).cxNext d

theorem State.cxEnd_core (d : Fin 4) (r : Nat) : ((s.cxEnd d r).core d).cx = (s.core d).cx.ended r :=
  congrArg Core.cx (State.core_modCx_self (s := s) (c := d) (·.ended r))

theorem four_next_ne (d : Fin 4) : d ≠ d + 1 ∧ d ≠ d + 2 ∧ d ≠ d + 3 := by
  revert d; decide

theorem State.cxEnd_engine (d : Fin 4) (r : Nat) :
    (s.cxEnd d r).wvl.engine = [d + 1, d + 2, d + 3].find? fun k => (s.core k).cx.job.isSome := by
  have hne (n : Fin 4) (hn : d ≠ n) : ((s.modCx d (·.ended r)).core n).cx = (s.core n).cx := congrArg Core.cx (State.core_modCore_ne _ hn)
  have hd : ((s.modCx d (·.ended r)).core d).cx.job = none := by rw [State.core_modCx_self]; rfl
  show [d + 1, d + 2, d + 3, d].find? (fun k => ((s.modCx d (·.ended r)).core k).cx.job.isSome) = _
  simp only [List.find?_cons, List.find?_nil, hd, Option.isSome_none, hne _ (four_next_ne d).1, hne _ (four_next_ne d).2.1, hne _ (four_next_ne d).2.2]

theorem execCryptoJobDone_of {d : Fin 4} {j : CxJob} (err : Bool) (he : s.wvl.engine = some d) (hj : (s.core d).cx.job = some j) :
    execCryptoJobDone err s = .next (let x := if s.cxBad j then (2, s) else if err then (3, s) else s.cxRun d j; x.2.cxEnd d x.1) := by
  unfold execCryptoJobDone
  rw [he]
  dsimp only
  rw [hj]
  rfl

theorem State.cxRun_cbc {d : Fin 4} {j : CxJob} (h : j.kind = 5) : s.cxRun d j = (0, s.shWrite j.dst
    (aesCbcEnc ((beBytes 32 (((s.wvl.keys[j.slot]?.getD none).getD 0)).toNat).take 16) (s.shRead j.aux 16)
      (blocksOf (j.len.toNat / 16) (s.shRead j.src j.len.toNat)))) := by
  unfold State.cxRun
  dsimp only
  rw [h]
  rfl

/-- Settles O14: `State.cxStart_eq` for the seven jobs, and `execCryptoJobDone_of` for the four ends. -/
theorem cryptoJobs : Obligations.CryptoJobs := by
  unfold Obligations.CryptoJobs
  intro s c hx hb started
  have hs (i : Instr) (op slot n : Nat) (cont final : Bool) (hi : exec i s = .next (s.cxStart c op slot cont final))
      (hn : op + 16 * b2n cont + 32 * b2n final + 256 * slot = n) : started i n := by
    obtain ⟨u, hu, h1, h2, h3, h4⟩ := State.cxStart_eq op slot cont final hx hb
    exact ⟨_, hi.trans (congrArg _ hu), h1, h2, h3.trans (by rw [hn]; rfl), rfl, h4⟩
  refine ⟨fun cont final => hs _ 1 0 _ cont final rfl (by cases cont <;> cases final <;> rfl),
    fun k => ⟨hs _ 2 k.toNat _ false false rfl rfl, hs _ 3 k.toNat _ false false rfl rfl, hs _ 4 k.toNat _ false false rfl rfl,
      hs _ 5 k.toNat _ false false rfl rfl, hs _ 6 k.toNat _ false false rfl rfl⟩, hs _ 7 0 _ false false rfl rfl,
    fun d j he hj hbad err => ?_, fun d j he hj hbad => ?_, fun d j he hj hbad hk => ?_⟩
  · refine ⟨_, execCryptoJobDone_of err he hj, ?_⟩
    rw [hbad, if_pos rfl]
    dsimp only
    rw [State.cxEnd_core]
    exact ⟨rfl, rfl, rfl, rfl, State.cxEnd_engine d 2⟩
  · refine ⟨_, execCryptoJobDone_of true he hj, ?_⟩
    rw [hbad, if_neg Bool.false_ne_true, if_pos rfl]
    dsimp only
    rw [State.cxEnd_core]
    exact ⟨rfl, rfl⟩
  · refine ⟨_, execCryptoJobDone_of false he hj, ?_⟩
    rw [hbad, if_neg Bool.false_ne_true, if_neg Bool.false_ne_true, State.cxRun_cbc hk]
    dsimp only
    rw [State.cxEnd_core]
    exact ⟨rfl, rfl, rfl⟩

end Sys2Proof.Machine
end

section
/-! REFUTATION of O15 (14 Table 14-6). -/
namespace Sys2Proof.Machine

/-- PORT_DISABLE for port 3, which is UNATTACHED with its path OFF while a partner's supply holds VBUS at 5 V. -/
def disableDesc : Desc := { port := 3, tag := 5, op := 0x03 }

def disableState : State :=
  ({ State.reset with hif.table := [({ d := disableDesc } : OutDesc)] }).modPort 3 fun q => { q with cc.st := .unattached, ef.vbusMv := 5000 }

/-- The phase in which a command leaves its descriptor; an ended one has left the table. -/
def Res.phase (r : Res) (s : State) : Option DPhase := ((r.st s).outDesc disableDesc.sq disableDesc.slot).map OutDesc.ph

/-- Refutes O15: PORT_DISABLE completes once the path is OFF and VBUS at or below 800 mV; the statement has it complete on the path alone, so it
fails of a port whose path is OFF already while VBUS stands at 5 V: there the command goes on running. -/
theorem not_portCommands : ¬ Obligations.PortCommands := by
  unfold Obligations.PortCommands
  rintro ⟨h, -⟩
  obtain ⟨-, -, -, -, -, hdisable, -⟩ := h disableState disableDesc (by decide +kernel)
  have e := congrArg (Res.phase · disableState)
    (hdisable (by decide +kernel) (by decide +kernel) (by decide +kernel) (by decide +kernel))
  exact absurd e (by decide +kernel)

end Sys2Proof.Machine
end

section
/-! REFUTATION of O16 (07 Swap commands). -/
namespace Sys2Proof.Machine

/-- ROLE_SWAP to the sink role for port 3, a source in READY with a contract, while a VCONN_Swap of its is under way. -/
def swapDesc : Desc := { port := 3, tag := 5, op := 0x09, params := 1 :: List.replicate 51 0 }

def swapState : State :=
  ({ State.reset with hif.table := [({ d := swapDesc } : OutDesc)] }).modPort 3 fun q =>
    { q with cc.st := .attachedSrc, pol.seq := .ready, pol.contract := some {}, swap.cfg := 1, swap.snkValid := false, swap.kind := .vconn }

/-- Refutes O16: while another swap of the port is under way the command only notes that it is withdrawn (`State.swapStart`); the statement has it
ask the partner at once, whatever `swap.kind` is. -/
theorem not_exclusionGroupCommands : ¬ Obligations.ExclusionGroupCommands := by
  unfold Obligations.ExclusionGroupCommands
  intro h
  obtain ⟨-, hswap, -⟩ := h swapState swapDesc
  have e := congrArg (fun r : Res => ((r.st swapState).port 3).swap.withdrawn)
    (hswap (by decide +kernel) (by decide +kernel) (by decide +kernel) (by decide +kernel))
  exact absurd e (by decide +kernel)

end Sys2Proof.Machine
end

section
/-! REFUTATIONS of O17, O18, O19, O20, O22 and O23: a completion that is lost. A completion is due a record of its flow, and the outstanding table
keeps it until the flow is open (`State.drainSq`). But the number that the record takes may be the first of a new era, and the event of the new
era (02 R48) enters EVH and EVS between that look and the record. Where the flows share two last cells, the event takes both, and the
completion goes nowhere: its descriptor has left the table, and no flow holds its record. -/
-- One declaration after another: elaborated side by side, the many short proofs of this file take more threads than the check has memory for.
set_option Elab.async false

namespace Sys2Proof.Machine

/-- The era's last number is used. EVH and EVS of class 1 and CPL of class 0 have no reservation and share the pool's last two cells. -/
def lastCells : State :=
  { State.reset with
    rst.booted := true, twi.tcfg := 0x80, tb.seqCount := 2 ^ 40
    sto.flows := ((((State.reset.sto.flows.set (fEvh 1) { cls := 1, cap := 8 }).set (fEvs 1) { cls := 1, cap := 8 }).set (fCpl 0)
      { cls := 1, cap := 8 }).set (fMtr 0) { cls := 0, dShared := 13312 }).set (fMtr 1) { cls := 1, dPool := 1422 } }

/-- The record is not the completion of a descriptor with this tag. -/
def Payload.notCplOf (d : Desc) : Payload → Bool
  | .cpl r => r.tag != d.tag
  | _ => true

/-- A completion is lost: neither the table nor the completion flow of its class holds anything of its tag. -/
def State.lost (t : State) (d : Desc) : Bool :=
  (t.hif.table.all fun o => o.d.tag != d.tag) && (t.flow (fCpl (d.cls.toNat % 3))).records.all (Payload.notCplOf d)

theorem State.not_ended_of_lost {t : State} {d : Desc} {status : Nat} {r : Quad} (h : t.lost d = true) : ¬ t.ended d status r := by
  simp only [State.lost, Bool.and_eq_true, List.all_eq_true, bne_iff_ne] at h
  rintro (⟨o, ho, rfl, -⟩ | ⟨x, hx, -, -, htag, -⟩)
  · exact h.1 o ho rfl
  · exact bne_iff_ne.1 (h.2 _ hx) htag

/-- A command after which a completion is lost did not end. -/
theorem not_ended_of_next {i : Instr} {s t : State} {d : Desc} {status : Nat} {r : Quad} (hl : (Res.st (exec i s) s).lost d = true)
    (ht : exec i s = .next t) : ¬ t.ended d status r := by
  rw [ht] at hl
  exact State.not_ended_of_lost hl

/-! ### O17 -/

def readDesc : Desc := { port := 3, tag := 5, op := 0x10 }

/-- SESSION_READ of context 0, which holds an unacknowledged session. -/
def readState : State :=
  { lastCells with hif.table := [({ d := readDesc } : OutDesc)], ses.recovDone := true
                   ses.ctxs := lastCells.ses.ctxs.set 0 (putLE (putLE (List.replicate 256 0) 1 1 3) 8 8 77) }

/-- Refutes O17: SESSION_READ at the turn of an era, on the pool's last cells, loses its completion. -/
theorem not_recordCommands : ¬ Obligations.RecordCommands := by
  unfold Obligations.RecordCommands
  intro h
  obtain ⟨-, hread, -⟩ := h readState readDesc
  obtain ⟨t, ht, -, -, hend⟩ := hread (by decide +kernel) (by decide +kernel) (by decide +kernel) (by decide +kernel) (by decide +kernel)
    (by decide +kernel)
  exact not_ended_of_next (by decide +kernel) ht hend

/-! ### O18 -/

def podDesc : Desc := { port := 3, tag := 5, op := 0x20, params := putLE (List.replicate 52 0) 10 2 1 }

def podState : State := { lastCells with hif.table := [({ d := podDesc } : OutDesc)] }

/-- Refutes O18: POD_WRITE of one entry with a wrong check word, at the turn of an era and on the pool's last cells, loses its completion. -/
theorem not_podCommands : ¬ Obligations.PodCommands := by
  unfold Obligations.PodCommands
  rintro ⟨h, -⟩
  obtain ⟨hwrite, -⟩ := h podState podDesc
  obtain ⟨-, -, hbad⟩ := hwrite (List.replicate 64 1) (by decide +kernel) (by decide +kernel) (by decide +kernel) (by decide +kernel)
    (by decide +kernel) (by decide +kernel) (by decide +kernel) (by decide +kernel) (by decide +kernel) (by decide +kernel)
  obtain ⟨t, ht, -, hend⟩ := hbad (by decide +kernel) 1 (by decide +kernel) (by decide)
  exact not_ended_of_next (by decide +kernel) ht hend

/-! ### O19 -/

def bufferDesc : Desc := { port := 0xFF, tag := 5, op := 0 }

def bufferState : State := { lastCells with hif.table := [({ d := bufferDesc } : OutDesc)] }

/-- Refutes O19: a posted buffer of no length, at the turn of an era and on the pool's last cells, loses its BAD_PARAM. -/
theorem not_deviceCommands : ¬ Obligations.DeviceCommands := by
  unfold Obligations.DeviceCommands
  rintro ⟨h, -⟩
  obtain ⟨-, -, -, hbuf⟩ := h bufferState bufferDesc
  obtain ⟨-, -, hbad⟩ := hbuf (by decide +kernel)
  obtain ⟨t, ht, hend⟩ := hbad (by decide +kernel)
  exact not_ended_of_next (by decide +kernel) ht hend

/-! ### O20 -/

def blockDesc : Desc :=
  { port := 0xFF, tag := 5, op := 0x40, params := putLE (putLE (putLE (List.replicate 52 0) 8 4 4096) 12 4 16) 16 4 9 }

/-- W0 runs, no transfer is open, and IMG draws on a pool of its own. -/
def blockState : State :=
  { lastCells.modCore 0 fun k => { k with st := .run } with
    hif.table := [({ d := blockDesc } : OutDesc)], sto.flows := lastCells.sto.flows.set fImg { cls := 0, cap := 8 } }

/-- Refutes O20: a block of no open transfer, at the turn of an era and on the pool's last cells, loses its completion. -/
theorem not_imageCommands : ¬ Obligations.ImageCommands := by
  unfold Obligations.ImageCommands
  rintro ⟨h, -⟩
  obtain ⟨-, hblock⟩ := h blockState blockDesc (List.replicate 16 1) 0 (by decide +kernel) (by decide +kernel) (by decide +kernel)
    (by decide +kernel) (by decide +kernel) (by decide +kernel) (by decide +kernel) (by decide +kernel) (by decide +kernel) (by decide +kernel)
    (by decide +kernel)
  obtain ⟨hnone, -⟩ := hblock (by decide +kernel) (by decide +kernel) (by decide +kernel) (by decide +kernel)
  obtain ⟨t, ht, -, hend⟩ := hnone (by decide +kernel) (by decide +kernel)
  exact not_ended_of_next (by decide +kernel) ht hend

/-! ### O22 -/

/-- A completion that waits in the table, and the cell that holds seven others of its flow. -/
def waitingCpl : OutDesc := { d := { port := 3, slot := 7, tag := 8, op := 0x01 }, ph := .done }

def cplCell : Cell := { pay := List.replicate 7 (.cpl { tag := 9 }) }

/-- The last place of the cell is the one that the fetch reserves, and the waiting completion takes it; the number after that is the first of a
new era. -/
def fetchState : State :=
  { lastCells with
    hif.ready := true, hif.bme := true, hif.link := some 0, hif.table := [waitingCpl], tb.seqCount := 2 ^ 40 - 1
    hif.sq := lastCells.hif.sq.set 0 { st := .live, tail := 1, cfg := 0x001F0000 }
    sto.flows := lastCells.sto.flows.set (fCpl 0) { cls := 1, cap := 8, cells := [cplCell] } }

/-- A descriptor of an opcode that Table 14-1 does not have. -/
def badFetch : List Byte := [0x7F, 0, 3, 0, 5] ++ List.replicate 59 0

/-- Refutes O22: a descriptor fetched with BAD_OPCODE loses its completion, its reserved place having gone to one that waited before it. -/
theorem not_hostFetch : ¬ Obligations.HostFetch := by
  unfold Obligations.HostFetch
  intro h
  obtain ⟨hfetch, -⟩ := h fetchState 0 (by decide +kernel)
  obtain ⟨-, hbad⟩ := hfetch badFetch (by decide +kernel) (by decide +kernel)
  obtain ⟨t, ht, hend, -⟩ := hbad (by decide +kernel) (by decide +kernel)
  exact not_ended_of_next (by decide +kernel) ht hend

/-! ### O23 -/

def flushDesc : Desc := { port := 0xFF, tag := 5, op := 0, params := putLE (List.replicate 52 0) 12 4 100 }

def flushState : State :=
  { lastCells with hif.table := [({ d := flushDesc, ph := .running } : OutDesc)], hif.mtrBufs := [{ d := flushDesc, firstT := some 0 }] }

/-- Refutes O23: a buffer flushed at the turn of an era, on the pool's last cells, loses its completion. -/
theorem not_hostWrites : ¬ Obligations.HostWrites := by
  unfold Obligations.HostWrites
  rintro ⟨-, h⟩
  obtain ⟨hmtr, -⟩ := h flushState { d := flushDesc, firstT := some 0 } [] (by decide +kernel) (by decide +kernel) (by decide +kernel)
  obtain ⟨t, ht, -, hend⟩ := hmtr rfl
  exact not_ended_of_next (by decide +kernel) ht hend

end Sys2Proof.Machine
end

section
/-! REFUTATIONS of O31, O34, O36 and O43: a state for each in which the model does something else than one clause says. -/
namespace Sys2Proof.Machine

/-! ### O31 (04 R107, 07 R204) -/

/-- A port that gives VCONN away in an accepted VCONN_Swap, while the pin has not settled from the time VCONN was applied to it. -/
def settlingState : State :=
  State.reset.modPort 3 fun q =>
    { q with cc.vconnBusy := true, cc.vconnOn := true, pol.seq := .swap, swap.kind := .vconn, swap.accepted := true, swap.vcGive := true }

/-- Refutes O31: the PS_RDY of a VCONN_Swap is the device's to send only where it takes VCONN (`swap.vcGive` is 0); where it gives VCONN away,
a pin that settles sends nothing, and the statement does not tell the two apart. -/
theorem not_ccEvents : ¬ Obligations.CcEvents := by
  unfold Obligations.CcEvents
  rintro ⟨-, h⟩
  obtain ⟨-, -, -, hsettled, -⟩ := h settlingState 3
  have e := congrArg (fun r : Res => (r.st settlingState).out.length)
    (hsettled (by decide +kernel) (by decide +kernel) (by decide +kernel) (by decide +kernel) (by decide +kernel))
  exact absurd e (by decide +kernel)

/-! ### O34 (06 R156) -/

/-- A source in SEND_CAPS whose PRT_POL_LIM has been written since its last capabilities were built. -/
def capsState : State := (State.reset.start 3 .sendCap).modPort 3 fun q => { q with pol.seq := .sendCaps, pol.lim := 0, pol.grant := 100 }

/-- Refutes O34: the capabilities that go again are built from the registers as they now stand (`State.sendCaps` takes them over first), while
the statement has the list of the values taken over before. -/
theorem not_policyTimers : ¬ Obligations.PolicyTimers := by
  unfold Obligations.PolicyTimers
  intro h
  obtain ⟨hcaps, -⟩ := h capsState 3
  obtain ⟨t, ht, -, hsent⟩ := hcaps (by decide +kernel) (by decide +kernel)
  have e : (Res.st (exec (.sendSourceCapExpiry 3) capsState) capsState).port 3 = t.port 3 := congrArg (fun r : Res => (r.st capsState).port 3) ht
  rw [← e] at hsent
  exact absurd hsent (by decide +kernel)

/-! ### O36 (07 Table 7-8) -/

/-- H2 of a Hard Reset on a port whose path is OFF already, with GATE on: `pathsOk` excludes it, the statement does not. -/
def gateState : State := (State.reset.start 3 .psHardReset).modPort 3 fun q => { q with swap.hrStep := 2, ef.path := .off, ef.gateOn := true }

/-- Refutes O36: H3 opens the path, which changes nothing of a path that is OFF; the statement has GATE off for every state. -/
theorem not_swapTimers : ¬ Obligations.SwapTimers := by
  unfold Obligations.SwapTimers
  rintro ⟨h, -⟩
  obtain ⟨-, -, -, -, -, -, -, -, -, -, -, hh3, -⟩ := h gateState 3
  obtain ⟨t, ht, -, -, -, -, hgate, -⟩ := hh3 (by decide +kernel) (by decide +kernel)
  have e : ((Res.st (exec (.psHardResetExpiry 3) gateState) gateState).port 3).ef.gateOn = (t.port 3).ef.gateOn :=
    congrArg (fun r : Res => ((r.st gateState).port 3).ef.gateOn) ht
  rw [← e] at hgate
  exact absurd hgate (by decide +kernel)

/-! ### O43 (12 R365, R372) -/

/-- The acknowledgement of the session in context 0, whose entry waits to be written, while a closed session of port 3 waits for a context. -/
def ackState : State :=
  (({ State.reset with
      ses.pend := [.ack 7 0 0 0]
      ses.ctxs := State.reset.ses.ctxs.set 0 (putLE (putLE (List.replicate 256 0) 1 1 3) 8 8 7) } : State).modCore 0 fun k =>
    { k with st := .run }).modMtr 3 fun m => { m with waiting := [{ id := 8, closed := true, body := List.replicate 256 0, port := 3 }] }

/-- Refutes O43: an acknowledged context goes to the closed session that waits for one, whose CLOSE entry then joins the journal's queue
(`State.recycle`); the statement has only the written entry leave it. -/
theorem not_meteringAndJournal : ¬ Obligations.MeteringAndJournal := by
  unfold Obligations.MeteringAndJournal
  rintro ⟨-, h⟩
  obtain ⟨hwrite, -⟩ := h ackState
  obtain ⟨hok, -⟩ := hwrite (.ack 7 0 0 0) [] (by decide +kernel) (by decide +kernel) (by decide +kernel) [] (by decide +kernel)
  obtain ⟨t, ht, -, hpend, -⟩ := hok (by decide +kernel)
  have e : (Res.st (exec (.journalWrite true) ackState) ackState).ses.pend.length = t.ses.pend.length :=
    congrArg (fun r : Res => (r.st ackState).ses.pend.length) ht
  rw [hpend] at e
  exact absurd e (by decide +kernel)

end Sys2Proof.Machine
end

section
/-! PROOF of O21 (13 Doorbells), of a device that is awake. -/
namespace Sys2Proof.Machine

variable {s : State}

theorem State.pwr_of_awake (h : s.awake = true) : s.pwr.st = .run ∧ s.pwr.entry = 0 := by
  simpa [State.awake] using h

/-- A wake source does nothing to a device that is awake. -/
theorem State.wakeSet_of_awake (h : s.awake = true) (src port : Nat) : s.wakeSet src port = s := by
  obtain ⟨hst, hentry⟩ := State.pwr_of_awake h
  simp [State.wakeSet, hst, hentry]

/-- An error noted in HIF_ERR. -/
theorem State.hifErr_eq (b : Nat) : s.hifErr b = { s with hif := { s.hif with err := s.hif.err ||| BitVec.ofNat 32 (2 ^ b) } } := rfl

section
variable {c : CqState} {i : Nat}

/-- The entries of a CQ or of the EQ between its head and an index. -/
def CqState.upTo (c : CqState) (i : Nat) : Nat := (i + qDepth c.cfg - c.head) % qDepth c.cfg

theorem CqState.newHead_absent (h : c.st = .absent) : c.newHead i = .inl 2 := by simp [CqState.newHead, h]

theorem CqState.newHead_beyond (h : c.st ≠ .absent) (hi : qDepth c.cfg ≤ i) : c.newHead i = .inl 3 := by simp [CqState.newHead, h, hi]

theorem CqState.newHead_ahead (h : c.st ≠ .absent) (hi : i < qDepth c.cfg) (hu : c.upTo c.tail < c.upTo i) : c.newHead i = .inl 4 := by
  unfold CqState.upTo at hu
  simp [CqState.newHead, h, hu, Nat.not_le.2 hi]

theorem CqState.newHead_moved (h : c.st ≠ .absent) (hi : i < qDepth c.cfg) (hu : c.upTo i ≤ c.upTo c.tail) :
    c.newHead i = .inr { c with head := i, db := BitVec.ofNat 12 i } := by
  unfold CqState.upTo at hu
  simp [CqState.newHead, h, Nat.not_le.2 hi, Nat.not_lt.2 hu]

end

/-! ### The three doorbells -/

section
variable {k : Fin 16} {v : Word}

theorem execSqTailDoorbell_absent (ha : s.awake = true) (h : s.hif.sq[k.val].st = .absent) : execSqTailDoorbell k v s = .next (s.hifErr 2) := by
  unfold execSqTailDoorbell
  rw [State.wakeSet_of_awake ha]
  exact congrArg Host.Outcome.next (if_pos h)

theorem execSqTailDoorbell_live (ha : s.awake = true) (h : s.hif.sq[k.val].st ≠ .absent) : execSqTailDoorbell k v s = .next
    (if qDepth s.hif.sq[k.val].cfg ≤ v.toNat % 4096 then s.hifErr 3
     else s.modSq k fun q => { q with tail := v.toNat % 4096, db := BitVec.ofNat 12 (v.toNat % 4096) }) := by
  unfold execSqTailDoorbell
  rw [State.wakeSet_of_awake ha]
  exact congrArg Host.Outcome.next (if_neg h)

theorem execCqHeadDoorbell_err {b : Nat} (ha : s.awake = true) (h : s.hif.cq[k.val].newHead (v.toNat % 4096) = .inl b) :
    execCqHeadDoorbell k v s = .next (s.hifErr b) := by
  unfold execCqHeadDoorbell
  rw [State.wakeSet_of_awake ha]
  dsimp only
  rw [show v.fld 11 0 = v.toNat % 4096 from rfl, h]

theorem execCqHeadDoorbell_moved {c : CqState} (ha : s.awake = true) (h : s.hif.cq[k.val].newHead (v.toNat % 4096) = .inr c) :
    execCqHeadDoorbell k v s = .next (s.modCq k fun _ => c) := by
  unfold execCqHeadDoorbell
  rw [State.wakeSet_of_awake ha]
  dsimp only
  rw [show v.fld 11 0 = v.toNat % 4096 from rfl, h]

theorem execEqHeadDoorbell_err {b : Nat} (ha : s.awake = true) (h : s.hif.eq.newHead (v.toNat % 4096) = .inl b) :
    execEqHeadDoorbell v s = .next (s.hifErr b) := by
  unfold execEqHeadDoorbell
  rw [State.wakeSet_of_awake ha]
  dsimp only
  rw [show v.fld 11 0 = v.toNat % 4096 from rfl, h]

theorem execEqHeadDoorbell_moved {c : CqState} (ha : s.awake = true) (h : s.hif.eq.newHead (v.toNat % 4096) = .inr c) :
    execEqHeadDoorbell v s = .next (s.modEq fun _ => c) := by
  unfold execEqHeadDoorbell
  rw [State.wakeSet_of_awake ha]
  dsimp only
  rw [show v.fld 11 0 = v.toNat % 4096 from rfl, h]

end

/-- Settles O21: by what the tail doorbell does with an index, and by what `CqState.newHead` does with one for the head doorbells. -/
theorem hostDoorbells : Obligations.HostDoorbells := by
  unfold Obligations.HostDoorbells
  intro s k v ha
  refine ⟨execSqTailDoorbell_absent ha, fun h hi => ?_, fun h hi => ?_, fun h => ?_, fun h hi => ?_, fun h hi hu => ?_, fun h hi hu => ?_,
    fun h => ?_, fun h hi hu => ?_⟩
  · exact (execSqTailDoorbell_live ha h).trans (congrArg Host.Outcome.next (if_pos hi))
  · exact (execSqTailDoorbell_live ha h).trans (congrArg Host.Outcome.next (if_neg (Nat.not_le.2 hi)))
  · exact execCqHeadDoorbell_err ha (CqState.newHead_absent h)
  · exact execCqHeadDoorbell_err ha (CqState.newHead_beyond h hi)
  · exact execCqHeadDoorbell_err ha (CqState.newHead_ahead h hi hu)
  · exact execCqHeadDoorbell_moved ha (CqState.newHead_moved h hi hu)
  · exact execEqHeadDoorbell_err ha (CqState.newHead_absent h)
  · exact execEqHeadDoorbell_moved ha (CqState.newHead_moved h hi hu)

end Sys2Proof.Machine
end

section
/-! PROOF of O46 (19 Backup domain and calendar, Tamper inputs). -/
namespace Sys2Proof.Machine

variable {s : State}

/-! ### Records and wakes leave the backup domain -/

@[simp] theorem State.wakeSet_bkp (src port : Nat) : (s.wakeSet src port).bkp = s.bkp :=
  congrArg Off.bkp (State.Meets.wakeSet State.Meets.self).ok

@[simp] theorem State.eventD_bkp (cause : Nat) (fs : List (Nat × Nat × Nat)) : (s.eventD cause fs).bkp = s.bkp :=
  congrArg Off.bkp (State.Meets.eventD State.Meets.self).ok

@[simp] theorem State.eventD_ses (cause : Nat) (fs : List (Nat × Nat × Nat)) : (s.eventD cause fs).ses = s.ses := by
  obtain ⟨-, -, -, -, hses, -⟩ := State.aside_fields (State.eventD_aside (s := s) (cause := cause) fs)
  exact hses

/-- A record of the backup domain may wait there for the next boot; nothing else of it changes. -/
theorem State.bkpRecord_bkp (cause : Nat) (fs : List (Nat × Nat × Nat)) :
    (s.bkpRecord cause fs).bkp = { s.bkp with late := (s.bkpRecord cause fs).bkp.late } := by
  unfold State.bkpRecord
  split
  · rfl
  · rw [State.eventD_bkp]

@[simp] theorem State.bkpRecord_ses (cause : Nat) (fs : List (Nat × Nat × Nat)) : (s.bkpRecord cause fs).ses = s.ses := by
  unfold State.bkpRecord
  split
  · rfl
  · exact State.eventD_ses _ _

/-! ### The calendar -/

/-- The trim as the model counts it, and as a sign-extended byte. -/
theorem Word.trim_signExtend (w : Word) : BitVec.ofInt 64 (sgn 8 (w.fld 7 0)) = (w.setWidth 8).signExtend 64 := by
  have h : BitVec.ofNat 8 (w.fld 7 0) = w.setWidth 8 := by
    apply BitVec.eq_of_toNat_eq
    simp [Word.fld]
  unfold sgn
  rw [h]
  rfl

/-- When the alarm is due: its enable, a valid calendar, and a calendar at or past it. -/
def BkpState.due (b : BkpState) : Prop :=
  b.alarmHi.getLsbD 16 = true ∧ b.valid = true ∧ b.alarmLo.toNat + 2 ^ 32 * (b.alarmHi.toNat % 65536) ≤ b.cal.toNat / 65536

theorem State.alarmCheck_of_due (h : s.bkp.due) : s.alarmCheck = ((s.modBkp fun b =>
    { b with alarmHi := b.alarmHi &&& 0xFFFF, alarmFlag := true }).bkpRecord 0x0C06 [(28, 4, s.bkp.alarmLo.toNat)]).wakeSet 5 :=
  if_neg (not_not.2 h)

theorem State.alarmCheck_of_not_due (h : ¬ s.bkp.due) : s.alarmCheck = s := if_pos h

theorem State.alarmCheck_bkp (h : s.bkp.due) : s.alarmCheck.bkp =
    { s.bkp with alarmHi := s.bkp.alarmHi &&& 0xFFFF, alarmFlag := true, late := s.alarmCheck.bkp.late } := by
  rw [State.alarmCheck_of_due h, State.wakeSet_bkp, State.bkpRecord_bkp]
  rfl

/-! ### The calendar's oscillator, the tamper inputs and VBAT -/

theorem execCalendarOscFail_stopped (h : s.bkp.oscStopped = true) : execCalendarOscFail s = .next s :=
  congrArg Host.Outcome.next (if_pos h)

theorem execCalendarOscFail_running (h : s.bkp.oscStopped = false) : ∃ t, execCalendarOscFail s = .next t ∧ t.bkp.oscStopped = true
    ∧ t.bkp.valid = false ∧ t.bkp.oscFail = true ∧ t.bkp.cal = s.bkp.cal ∧ t.ses.unknown = true := by
  refine ⟨_, congrArg Host.Outcome.next (if_neg (by simp [h])), ?_⟩
  rw [State.bkpRecord_bkp, State.bkpRecord_ses]
  exact ⟨rfl, rfl, rfl, rfl, rfl⟩

/-- The backup domain after an enabled tamper input has been asserted. -/
def State.tampered (s : State) (i : Fin 2) : BkpState :=
  let b := s.bkp
  let ts := if !b.lat.getLsbD i.val then s.cal else if i.val = 0 then b.ts0 else b.ts1
  let cnt := satInc (if i.val = 0 then b.tcnt0 else b.tcnt1)
  { b with
    lat := b.lat ||| BitVec.ofNat 2 (2 ^ i.val), live := b.live ||| BitVec.ofNat 2 (2 ^ i.val)
    gp := if b.tampCfg.bit (8 * i.val + 2) then Vector.replicate 8 0 else b.gp
    tcnt0 := if i.val = 0 then cnt else b.tcnt0, tcnt1 := if i.val = 0 then b.tcnt1 else cnt
    ts0 := if i.val = 0 then ts else b.ts0, ts1 := if i.val = 0 then b.ts1 else ts }

/-- The bit of an input, as the model writes it. -/
theorem tamperBit_eq : ∀ i : Fin 2, BitVec.ofNat 2 (2 ^ i.val) = BitVec.twoPow 2 i.val := by decide

theorem execTamper_released (i : Fin 2) :
    execTamper ⟨i, false⟩ s = .next (s.modBkp fun b => { b with live := b.live &&& ~~~BitVec.ofNat 2 (2 ^ i.val) }) := rfl

theorem execTamper_ignored {i : Fin 2} (h : s.bkp.tampCfg.getLsbD (8 * i.val) = false ∨ s.bkp.live.getLsbD i.val = true) :
    execTamper ⟨i, true⟩ s = .next s :=
  congrArg Host.Outcome.next ((if_neg (by simp)).trans (if_pos (h.imp_left fun e => by simp [Word.bit, e])))

theorem execTamper_latched {i : Fin 2} (he : s.bkp.tampCfg.getLsbD (8 * i.val) = true) (hl : s.bkp.live.getLsbD i.val = false) :
    ∃ t, execTamper ⟨i, true⟩ s = .next t ∧ t.bkp = { s.tampered i with late := t.bkp.late } := by
  refine ⟨_, congrArg Host.Outcome.next ((if_neg (by simp)).trans (if_neg (by simp [Word.bit, he, hl]))), ?_⟩
  rw [State.wakeSet_bkp, State.bkpRecord_bkp]
  rfl

theorem execVbatMeasure_awake {mv : Nat} (h : s.pwr.st = .run ∨ s.pwr.st = .idle) :
    ∃ t, execVbatMeasure mv s = .next t ∧ t.bkp.vbatMv = mv ∧ t.bkp.vbatLow = decide (mv < 2000) := by
  refine ⟨_, congrArg Host.Outcome.next (if_neg fun hn => h.elim hn.1 hn.2), ?_⟩
  dsimp only
  split
  · rw [State.eventD_bkp]
    exact ⟨rfl, rfl⟩
  · exact ⟨rfl, rfl⟩

theorem execVbatMeasure_asleep {mv : Nat} (h : s.pwr.st = .doze ∨ s.pwr.st = .hibernate) : execVbatMeasure mv s = .next s :=
  congrArg Host.Outcome.next (if_pos (by rcases h with h | h <;> simp [h]))

/-- Settles O46: by what each event of the backup domain does to it, records and wakes apart. -/
theorem calendarAndBackup : Obligations.CalendarAndBackup := by
  unfold Obligations.CalendarAndBackup
  intro s b at_ due
  refine ⟨fun h => ?_, fun h => ⟨congrArg Host.Outcome.next (if_pos h), execCalendarOscFail_stopped h⟩, execCalendarOscFail_running, rfl,
    ⟨fun h => ?_, fun h => ?_⟩, fun i => ?_, fun i => execTamper_ignored, fun i he hl => ?_, fun mv => execVbatMeasure_awake,
    fun mv => execVbatMeasure_asleep, fun v => rfl⟩
  · refine congrArg Host.Outcome.next ((if_neg (by simp [b] at h; simp [h])).trans ?_)
    rw [← Word.trim_signExtend]
    rfl
  · refine ⟨s.alarmCheck, rfl, ?_⟩
    rw [State.alarmCheck_bkp h]
    refine ⟨rfl, ?_, rfl⟩
    simp
  · exact congrArg Host.Outcome.next (State.alarmCheck_of_not_due h)
  · refine ⟨_, execTamper_released i, ?_, rfl, rfl, rfl, rfl⟩
    rw [← tamperBit_eq]
    rfl
  · obtain ⟨t, ht, hb⟩ := execTamper_latched he hl
    refine ⟨t, ht, ?_⟩
    rw [hb, ← tamperBit_eq]
    refine ⟨rfl, rfl, ?_⟩
    match i with
    | 0 => simp [State.tampered, b]
    | 1 => simp [State.tampered, b]

end Sys2Proof.Machine
end

section
/-! PROOF of O27 (00 Notation, 22 Blocks, Fault-log window). The registers of a port stand at its sector of the map, so a read of one is
a read of `prtRead` and its effect is `prtClear` and `prtLatch`, the latter changing the read latches alone. -/
namespace Sys2Proof.Machine

variable {s : State} {i : Iface} {p q : PortId}

/-! ### The read latches -/

theorem State.lat_modLat (f : Latches → Latches) (j : Iface) : (s.modLat i f).lat j = if i = j then f (s.lat j) else s.lat j := by
  cases i <;> cases j <;> rfl

@[simp] theorem State.port_modLat (f : Latches → Latches) : (s.modLat i f).port q = s.port q := by cases i <;> rfl

@[simp] theorem State.out_modLat (f : Latches → Latches) : (s.modLat i f).out = s.out := by cases i <;> rfl

@[simp] theorem State.port_prtLatch (a : Nat) : (s.prtLatch i p a).port q = s.port q := State.port_modLat _

@[simp] theorem State.out_prtLatch (a : Nat) : (s.prtLatch i p a).out = s.out := State.out_modLat _

/-! ### The sector of a port -/

/-- The address of the register of port p at offset o. -/
def portReg (p : PortId) (o : Nat) : Nat := 0x4000 + 0x400 * p.val + o

theorem portReg_bounds {o : Nat} (h : o < 0x400) : 0x4000 ≤ portReg p o ∧ portReg p o < 0x8000 := by
  have := p.isLt
  unfold portReg
  omega

theorem portAt_portReg {o : Nat} (h : o < 0x400) : portAt ((portReg p o - 0x4000) / 0x400) = p := by
  have := p.isLt
  refine Fin.ext ?_
  show (0x4000 + 0x400 * p.val + o - 0x4000) / 0x400 % 16 = p.val
  omega

theorem portReg_mod {o : Nat} (h : o < 0x400) : portReg p o % 0x400 = o := by
  unfold portReg
  omega

theorem State.readReg_portReg {o : Nat} (h : o < 0x400) : s.readReg i (portReg p o) = s.prtRead p i o := by
  obtain ⟨h1, h2⟩ := portReg_bounds (p := p) h
  rw [State.readReg, if_neg (by omega), if_neg (by omega), if_neg (by omega), if_pos h2, portAt_portReg h, portReg_mod h]

theorem State.readEffect_portReg {o : Nat} (h : o < 0x400) : s.readEffect i (portReg p o) = (s.prtClear p o).prtLatch i p o := by
  obtain ⟨h1, h2⟩ := portReg_bounds (p := p) h
  unfold State.readEffect
  dsimp only
  rw [if_neg (by omega), if_neg (by omega), if_neg (by omega), if_neg (by omega), if_neg (by omega), if_neg (by omega),
    if_neg (by omega), if_pos ⟨h1, h2⟩, portAt_portReg h, portReg_mod h]

/-- What a clear-on-read register of a port leaves: one update of that port, which empties the register. -/
theorem State.prtClear_clears {o : Nat} (h : o ∈ [0x068, 0x098, 0x0A8, 0x138, 0x168, 0x16C]) :
    ∃ x, s.prtClear p o = s.setPort p x ∧ ∀ t : State, t.port p = x → t.prtRead p i o = 0 := by
  simp only [List.mem_cons, List.not_mem_nil, or_false] at h
  obtain rfl | rfl | rfl | rfl | rfl | rfl := h <;> exact ⟨_, rfl, fun t ht => by simp only [State.prtRead, State.efRead, ht]; rfl⟩

/-- A clear-on-read register of a port answers its value, and is cleared; no other port is seen. -/
theorem exec_rcRead_portReg {a : BitVec 20} {o : Nat} (ha : a.toNat = portReg p o) (h : o ∈ [0x068, 0x098, 0x0A8, 0x138, 0x168, 0x16C]) :
    ∃ t, exec (.rcRead i a) s = .next t ∧ t.out = s.out ++ [.readData i a.toNat (s.readReg i a.toNat)] ∧ t.readReg i a.toNat = 0
      ∧ ∀ r, r ≠ p → t.port r = s.port r := by
  have ho : o < 0x400 ∧ o % 4 = 0 := by
    simp only [List.mem_cons, List.not_mem_nil, or_false] at h
    omega
  have hal : aligned a = portReg p o := by
    rw [aligned, ha, portReg]
    omega
  have h22 : portReg p o ≠ 0x2200 := by have := portReg_bounds (p := p) ho.1; omega
  obtain ⟨x, hx, hz⟩ := State.prtClear_clears (s := s) (p := p) (i := i) h
  refine ⟨_, rfl, ?_⟩
  rw [hal, ha, State.busRead, if_neg h22]
  dsimp only
  rw [State.readEffect_portReg ho.1, State.readReg_portReg ho.1, hx]
  refine ⟨by simp [State.emit], ?_, fun r hr => ?_⟩
  · rw [State.readReg_portReg ho.1]
    exact hz _ ((State.port_prtLatch _).trans (State.port_setPort_self _))
  · exact (State.port_prtLatch _).trans (State.port_setPort_ne _ hr.symm)

/-- The address the statement writes is that of the port's register. -/
theorem portReg_word {o : BitVec 20} (h : o.toNat < 0x400) : (0x4000 + 0x400 * BitVec.ofNat 20 p.val + o).toNat = portReg p o.toNat := by
  have := p.isLt
  rw [portReg]
  bv_omega

/-! ### The fault-log window -/

theorem State.flogLatch_of_find {x : Nat × EvRec}
    (h : s.flog.ring.find? (fun y => decide ((s.lat i).flogSel.toNat ≤ y.1)) = some x) :
    s.flogLatch i = s.modLat i fun l => { l with flogEnt := some x, flogSel := BitVec.ofNat 32 x.1 } := by
  rw [State.flogLatch, h]

theorem State.flogLatch_of_none (h : s.flog.ring.find? (fun y => decide ((s.lat i).flogSel.toNat ≤ y.1)) = none) :
    s.flogLatch i = s.modLat i fun l => { l with flogEnt := none } := by
  rw [State.flogLatch, h]

theorem State.flogData_of_some {x : Nat × EvRec} (k : Nat) (h : (s.lat i).flogEnt = some x) :
    s.flogData i k = BitVec.ofNat 32 (getLE (logBytes x.2) (4 * k) 4) := by
  rw [State.flogData, h]

theorem State.flogData_of_none (k : Nat) (h : (s.lat i).flogEnt = none) : s.flogData i k = 0 := by
  rw [State.flogData, h]

theorem State.flogNext_of_some {x : Nat × EvRec} (h : (s.lat i).flogEnt = some x) :
    s.flogNext i = s.modLat i fun l => { l with flogSel := BitVec.ofNat 32 (x.1 + 1) } := by
  rw [State.flogNext, h]

theorem exec_flogData0Read_of_find {x : Nat × EvRec}
    (h : s.flog.ring.find? (fun y => decide ((s.lat i).flogSel.toNat ≤ y.1)) = some x) :
    exec (.flogData0Read i) s = .next ((s.modLat i fun l => { l with flogEnt := some x, flogSel := BitVec.ofNat 32 x.1 }).emit
      (.readData i 0x2200 (BitVec.ofNat 32 (getLE (logBytes x.2) 0 4)))) := by
  show Host.Outcome.next ((s.flogLatch i).emit (.readData i 0x2200 ((s.flogLatch i).flogData i 0))) = _
  rw [State.flogLatch_of_find h, State.flogData_of_some 0 (by rw [State.lat_modLat, if_pos rfl])]

theorem exec_flogData0Read_of_none (h : s.flog.ring.find? (fun y => decide ((s.lat i).flogSel.toNat ≤ y.1)) = none) :
    exec (.flogData0Read i) s = .next ((s.modLat i fun l => { l with flogEnt := none }).emit (.readData i 0x2200 0)) := by
  show Host.Outcome.next ((s.flogLatch i).emit (.readData i 0x2200 ((s.flogLatch i).flogData i 0))) = _
  rw [State.flogLatch_of_none h, State.flogData_of_none 0 (by rw [State.lat_modLat, if_pos rfl])]

theorem exec_flogData7LastRead {x : Nat × EvRec} (h : (s.lat i).flogEnt = some x) :
    exec (.flogData7LastRead i) s = .next ((s.emit (.readData i 0x221C (BitVec.ofNat 32 (getLE (logBytes x.2) 28 4)))).modLat i
      fun l => { l with flogSel := BitVec.ofNat 32 (x.1 + 1) }) := by
  show Host.Outcome.next ((s.emit (.readData i 0x221C (s.flogData i 7))).flogNext i) = _
  rw [State.flogData_of_some 7 h, State.flogNext_of_some (x := x) (by cases i <;> exact h)]

/-- Settles O27: by the map of a port's registers, and by what stands behind the fault-log selector. -/
theorem registerReads : Obligations.RegisterReads := by
  unfold Obligations.RegisterReads
  intro s i
  refine ⟨rfl, rfl, fun p o ho => ?_, ⟨_, rfl, ?_, fun u hu => ?_, fun j hj => ?_⟩, ⟨_, rfl, ?_⟩, fun x hx => exec_flogData0Read_of_find hx,
    fun h => exec_flogData0Read_of_none ?_, fun x hx => exec_flogData7LastRead hx⟩
  · have hlt : o.toNat < 0x400 := by
      simp only [List.mem_cons, List.not_mem_nil, or_false] at ho
      omega
    exact exec_rcRead_portReg (portReg_word hlt) ho
  · exact congrArg (· ++ [_]) (State.out_modLat (s := s) _)
  · refine (congrArg Latches.tbHi hu).trans ?_
    cases i <;> rfl
  · exact (State.lat_modLat _ j).trans (if_neg hj.symm)
  · cases i <;> rfl
  · refine List.find?_eq_none.2 fun y hy => ?_
    simpa using h y hy

end Sys2Proof.Machine
end

section
/-! PROOF of O53 (01 Port slice). Each command of a slice is made of updates of its port; a run of such updates is one update. -/
namespace Sys2Proof.Machine

variable {s t : State} {p : PortId}

/-- t is s but for port p. -/
def State.OnlyPort (s : State) (p : PortId) (t : State) : Prop := ∃ x, t = s.setPort p x

theorem State.OnlyPort.refl : s.OnlyPort p s := ⟨s.port p, by simp [State.setPort, ← State.ports_get]⟩

/-- An update of the port keeps the relation; `modCc`, `modPd`, `start`, `stop` and the like are such updates. -/
theorem State.OnlyPort.setPort (h : s.OnlyPort p t) {x : Port} : s.OnlyPort p (t.setPort p x) := by
  obtain ⟨y, rfl⟩ := h
  exact ⟨x, State.setPort_setPort y x⟩

theorem State.OnlyPort.ite {c : Prop} [Decidable c] {u : State} (ht : s.OnlyPort p t) (hu : s.OnlyPort p u) :
    s.OnlyPort p (if c then t else u) := by
  split <;> assumption

/-! ### Operations of a slice -/

theorem State.OnlyPort.onExpiry {τ : Tmr} {f : State → State} (hf : ∀ u, s.OnlyPort p u → s.OnlyPort p (f u)) :
    s.OnlyPort p (s.onExpiry p τ f) :=
  .ite (hf _ (State.OnlyPort.refl.setPort)) .refl

theorem State.OnlyPort.newAttach (h : s.OnlyPort p t) : s.OnlyPort p (t.newAttach p) :=
  h.setPort.setPort.setPort.setPort.setPort.setPort

theorem State.OnlyPort.toAttachWait (h : s.OnlyPort p t) : s.OnlyPort p (t.toAttachWait p) := h.newAttach.setPort

theorem State.OnlyPort.badFrame (h : s.OnlyPort p t) : s.OnlyPort p (t.badFrame p) := .ite h.setPort h

theorem State.OnlyPort.clearRetry (h : s.OnlyPort p t) : s.OnlyPort p (t.clearRetry p) := h.setPort.setPort

theorem State.OnlyPort.askBf (h : s.OnlyPort p t) {why : Nat} : s.OnlyPort p (t.askBf p why) := .ite h.setPort h

/-! ### The commands -/

/-- A new occasion of a window, or none where one stands, and the re-probe timer again. -/
theorem State.OnlyPort.beginWindow (h : s.OnlyPort p t) {c : Prop} [Decidable c] {f : CcState → CcState} :
    s.OnlyPort p ((if c then t.modCc p f else t).start p .reprobe) :=
  (State.OnlyPort.ite h.setPort h).setPort

theorem reprobeExpiry_onlyPort : s.OnlyPort p (Res.st (execReprobeExpiry p s) s) := by
  unfold execReprobeExpiry
  simp only [Res.st]
  refine State.OnlyPort.onExpiry fun u hu => ?_
  split
  · exact hu.beginWindow
  · exact hu.beginWindow
  · exact .ite hu.beginWindow hu.setPort
  · exact .ite hu.beginWindow hu.setPort
  · exact .ite hu.beginWindow hu.setPort
  · exact hu

theorem frameTransmitted_onlyPort : s.OnlyPort p (Res.st (execFrameTransmitted p s) s) := by
  show s.OnlyPort p (match (s.port p).pd.tx with
    | some x => if x.ph = .wire then (s.modPd p fun y => { y with tx := some { x with ph := .waitCrc } }).start p .tReceive else s
    | none => s)
  split
  · exact .ite (State.OnlyPort.refl.setPort.setPort) .refl
  · exact .refl

theorem exec_onlyPort {c : Instr} (hc : c.ofSlice = some p) : s.OnlyPort p (Res.st (exec c s) s) := by
  have base : s.OnlyPort p s := .refl
  cases c <;> try cases hc
  case ccAttachDetected => exact .ite base (.ite base.toAttachWait (.ite base.newAttach base))
  case reprobeExpiry => exact reprobeExpiry_onlyPort
  case frameCrcError => exact base.badFrame
  case amsStartWaitExpiry =>
    simp only [exec, execAmsStartWaitExpiry, Res.st]
    refine State.OnlyPort.onExpiry fun u hu => ?_
    exact hu.setPort
  case sinktxokRead => exact .ite base (.ite base.setPort base.setPort)
  case connectorTempRead => exact .ite base.setPort.setPort.setPort.setPort base.setPort.setPort
  case phaseShed => exact base.setPort
  case swarmFire => exact .ite base.setPort base
  case swarmEnd => exact .ite base.setPort base
  case peakLimit => exact .ite base.setPort base
  case dividerCorrection => exact .ite base.setPort base
  case goodServiceExpiry =>
    simp only [exec, execGoodServiceExpiry, Res.st]
    refine State.OnlyPort.onExpiry fun u hu => ?_
    exact .ite hu.clearRetry hu
  case backfeedReclose =>
    simp only [exec, execBackfeedReclose, Res.st]
    refine State.OnlyPort.onExpiry fun u hu => ?_
    exact .ite hu.setPort.askBf hu
  case thresholdSettled => exact base.setPort
  case ccReportChange => exact base.setPort
  case frSwapSignalEnd => exact .ite base.setPort base
  case frameTransmitted => exact frameTransmitted_onlyPort

/-- Settles O53: every command of a slice is a run of updates of its port. -/
theorem sliceFrame : Obligations.SliceFrame := by
  unfold Obligations.SliceFrame
  intro c p s t hc ht
  have h : s.OnlyPort p (Res.st (exec c s) s) := exec_onlyPort hc
  rw [ht] at h
  obtain ⟨x, rfl⟩ := h
  exact ⟨rfl, fun r hr => State.port_setPort_ne x hr.symm⟩

end Sys2Proof.Machine
end

section
/-! PROOF of O25 (00 Notation, 17 Target port, 22 Lock). The registers whose write does more than keep a value, in `writeReg`, are none of
those that `regSpec` describes. -/
namespace Sys2Proof.Machine

variable {s : State} {i : Iface} {a : Nat} {v : Word} {r : RegSpec}

/-- A register with storage is written as its specification says. -/
theorem State.writeReg_of_regSpec (h : regSpec i a = some r) : s.writeReg i a v = r.write s.hif.lock v s := by
  have ne : ∀ b, regSpec i b = none → a ≠ b := fun b hb e => by rw [e, hb] at h; cases h
  have hlt : ¬ (0xF000 ≤ a ∧ a < 0x10000) := fun ⟨h1, h2⟩ => by
    rw [regSpec] at h
    repeat rw [if_neg (by omega)] at h
    cases h
  rw [State.writeReg, if_neg (ne 0x04 rfl), if_neg (ne 0x34 rfl), if_neg (ne 0x60 rfl), if_neg (ne 0x70 rfl), if_neg (ne 0xA024 rfl),
    if_neg (ne 0xD020 rfl), if_neg (ne 0xD028 rfl), if_neg hlt, State.writePlain, h]

/-- Two words differ under a mask where their difference meets it. -/
theorem Word.and_ne_and_iff {x y m : Word} : x &&& m ≠ y &&& m ↔ (x ^^^ y) &&& m ≠ 0 := by
  rw [not_iff_not, BitVec.eq_of_getLsbD_eq_iff, BitVec.eq_of_getLsbD_eq_iff]
  refine forall₂_congr fun k hk => ?_
  simp only [BitVec.getLsbD_and, BitVec.getLsbD_xor]
  cases x.getLsbD k <;> cases y.getLsbD k <;> simp

theorem RegSpec.write_eq (r : RegSpec) (lock : Bool) (v : Word) (s : State) :
    r.write lock v s =
      let m := if lock then r.rw else r.rw ||| r.rwl
      let n := (r.get s &&& ~~~m) ||| (v &&& m)
      let u : State := if lock = true ∧ (v ^^^ r.get s) &&& r.rwl ≠ 0 then { s with hif := { s.hif with viol := true } } else s
      if r.ok n = true then r.put u n else r.err u := by
  unfold RegSpec.write
  simp only [Word.and_ne_and_iff]
  rfl

/-- An aligned access by the host to a device that is awake. -/
theorem exec_registerWrite_bar0 {off : BitVec 20} (ha : s.awake = true) (h4 : off.toNat % 4 = 0) :
    exec (.registerWrite .bar0 off v) s = .next (s.writeReg .bar0 off.toNat v) := by
  refine congrArg Host.Outcome.next ((if_neg (not_not.2 h4)).trans ?_)
  rw [State.ifaceWrite, if_neg (by decide), State.wakeSet_of_awake ha]

theorem exec_registerWrite_twt {off : BitVec 20} (h4 : off.toNat % 4 = 0) :
    exec (.registerWrite .twt off v) s = .next (s.twtWrite off.toNat v) :=
  congrArg Host.Outcome.next ((if_neg (not_not.2 h4)).trans (if_pos rfl))

theorem State.twtWrite_of_none (h : s.twtMay a = none) : s.twtWrite a v = { s with twi := { s.twi with wrRefused := true } } := by
  rw [State.twtWrite, h]
  rfl

/-- A register all of whose bits are RW takes the value written. -/
theorem RegSpec.write_all {lock : Bool} (hrw : r.rw = BitVec.allOnes 32) (hrwl : r.rwl = 0) (hok : r.ok v = true) :
    r.write lock v s = r.put s v := by
  have hn : regMerge r.rw r.rwl lock (r.get s) v = v := by
    have hm : (if lock then r.rw else r.rw ||| r.rwl) = BitVec.allOnes 32 := by cases lock <;> simp [hrw, hrwl]
    show r.get s &&& ~~~(if lock then r.rw else r.rw ||| r.rwl) ||| v &&& (if lock then r.rw else r.rw ||| r.rwl) = v
    rw [hm, BitVec.not_allOnes, BitVec.and_zero, BitVec.zero_or, BitVec.and_allOnes]
  have hv : ¬ (lock = true ∧ v &&& r.rwl ≠ r.get s &&& r.rwl) := by simp [hrwl]
  rw [RegSpec.write, hn, if_neg hv, if_pos hok]

/-- The supervisor writes the general-purpose words of the backup domain at map 2. -/
theorem State.twtMay_gp (k : Fin 8) (hmap : s.twi.tver.toNat = 2) (hcfg : s.twi.tcfg.getLsbD 5 = true) :
    s.twtMay (0xD040 + 4 * k.val) = some 0xFFFFFFFF := by
  have hrow : twtRow (0xD040 + 4 * k.val) = some (2, some (2, 0xFFFFFFFF)) := by decide +revert
  rw [State.twtMay, hrow]
  exact if_pos ⟨hmap.ge, hcfg⟩

theorem State.writeReg_gp (k : Fin 8) :
    s.writeReg .twt (0xD040 + 4 * k.val) v = { s with bkp := { s.bkp with gp := s.bkp.gp.set k.val v } } := by
  have hspec : regSpec .twt (0xD040 + 4 * k.val) =
      some { rw := 0xFFFFFFFF, get := fun s => s.bkp.gp[k.val], put := fun s v => s.modBkp fun b => { b with gp := b.gp.set k.val v } } := by
    fin_cases k <;> rfl
  rw [State.writeReg_of_regSpec hspec, RegSpec.write_all rfl rfl rfl]
  rfl

/-- Settles O25: by the ways a write takes through the two interfaces. -/
theorem registerWrites : Obligations.RegisterWrites := by
  unfold Obligations.RegisterWrites
  intro s off v
  refine ⟨fun i h4 => congrArg Host.Outcome.next (if_pos h4), fun ha h4 r hr => ?_, fun h4 hno => ?_, fun k hk hmap hcfg => ?_⟩
  · rw [exec_registerWrite_bar0 ha h4, State.writeReg_of_regSpec hr, RegSpec.write_eq]
  · rw [exec_registerWrite_twt h4, State.twtWrite_of_none hno]
  · have hne : 0xD040 + 4 * k.val ≠ 0xC010 := by omega
    rw [exec_registerWrite_twt (by omega), hk, State.twtWrite, State.twtMay_gp k hmap hcfg]
    dsimp only
    rw [if_neg hne, show v &&& 0xFFFFFFFF = v from BitVec.and_allOnes (x := v), State.writeReg_gp]

end Sys2Proof.Machine
end

section
/-! SUPPORT. What messages, the end of a contract and the ways out of a source leave of a port: `s.Rests b t` says that t keeps of every
port of s its budget target, its monitors, its latch and retry count, a path that is opening, a converter at rest and what is known of
its phases; with b also a Hard Reset that waits to go out. The power state and the budget stay too. -/
-- One declaration after another: elaborated side by side, the many short proofs of this file take more threads than the check has memory for.
set_option Elab.async false

namespace Sys2Proof.Machine

/-- What a converter keeps: rest, no trim, and what is known of its phases and its path. -/
structure CnvState.Rests (c d : CnvState) : Prop where
  run : c.run = false → d.run = false
  trim : c.trim = none → d.trim = none
  pathFail : d.pathFail = c.pathFail
  known : ∀ x, (d.ph x).failed = (c.ph x).failed ∧ (d.ph x).sense = (c.ph x).sense
  active : ∀ x, (c.ph x).active = false → (d.ph x).active = false
  total : (∃ x, (c.ph x).failed = true) → c.shuntTotal = true → d.shuntTotal = true

/-- What a path guard keeps: its latch and retry count, and a path that is opening. -/
structure EfState.Rests (e f : EfState) : Prop where
  latch : f.latch = e.latch
  retryCnt : f.retryCnt = e.retryCnt
  path : e.path = .opening → f.path = .opening ∧ f.gateOn = e.gateOn

structure Port.Rests (b : Bool) (x y : Port) : Prop where
  target : y.pol.target = x.pol.target
  mons : y.wm.m = x.wm.m
  acts : y.wm.ffActive = x.wm.ffActive
  ef : x.ef.Rests y.ef
  cnv : x.cnv.Rests y.cnv
  pend : b = true → x.pd.hrPend = true → y.pd.hrPend = true

structure State.Rests (b : Bool) (s t : State) : Prop where
  port : ∀ r, (s.port r).Rests b (t.port r)
  pwr : t.pwr = s.pwr
  bud : t.bud = s.bud

theorem CnvState.Rests.refl {c : CnvState} : c.Rests c := ⟨id, id, rfl, fun _ => ⟨rfl, rfl⟩, fun _ => id, fun _ => id⟩

theorem CnvState.Rests.trans {c d e : CnvState} (h : c.Rests d) (k : d.Rests e) : c.Rests e :=
  ⟨k.run ∘ h.run, k.trim ∘ h.trim, k.pathFail.trans h.pathFail,
    fun x => ⟨(k.known x).1.trans (h.known x).1, (k.known x).2.trans (h.known x).2⟩, fun x => k.active x ∘ h.active x,
    fun hx ht => k.total (hx.imp fun x e => (h.known x).1.trans e) (h.total hx ht)⟩

theorem EfState.Rests.refl {e : EfState} : e.Rests e := ⟨rfl, rfl, fun k => ⟨k, rfl⟩⟩

theorem EfState.Rests.trans {e f g : EfState} (h : e.Rests f) (k : f.Rests g) : e.Rests g :=
  ⟨k.latch.trans h.latch, k.retryCnt.trans h.retryCnt, fun hp => ⟨(k.path (h.path hp).1).1, (k.path (h.path hp).1).2.trans (h.path hp).2⟩⟩

theorem Port.Rests.refl {b : Bool} {x : Port} : x.Rests b x := ⟨rfl, rfl, rfl, .refl, .refl, fun _ => id⟩

theorem Port.Rests.trans {b : Bool} {x y z : Port} (h : x.Rests b y) (k : y.Rests b z) : x.Rests b z :=
  ⟨k.target.trans h.target, k.mons.trans h.mons, k.acts.trans h.acts, h.ef.trans k.ef, h.cnv.trans k.cnv, fun hb => k.pend hb ∘ h.pend hb⟩

variable {b : Bool} {s t u : State} {p : PortId}

theorem State.Rests.refl : s.Rests b s := ⟨fun _ => .refl, rfl, rfl⟩

theorem State.Rests.trans (h : s.Rests b t) (k : t.Rests b u) : s.Rests b u :=
  ⟨fun r => (h.port r).trans (k.port r), k.pwr.trans h.pwr, k.bud.trans h.bud⟩

/-- Records, cells and completions. -/
theorem State.Rests.records (h : s.Rests b t) (k : t.Records u) : s.Rests b u := by
  obtain ⟨hports, -, hbud, -, -, -, -, hpwr, -⟩ := State.aside_fields k.aside
  refine h.trans ⟨fun r => ?_, hpwr, hbud⟩
  rw [State.port_of_aside k.aside]
  exact .refl

theorem State.Rests.setPort {x : Port} (h : s.Rests b t) (hx : (t.port p).Rests b x) : s.Rests b (t.setPort p x) := by
  refine h.trans ⟨fun r => ?_, rfl, rfl⟩
  rw [State.port_setPort]
  split
  next e => rw [← e]; exact hx
  · exact .refl

theorem State.Rests.either {c : Prop} {_ : Decidable c} (h : s.Rests b t) (k : s.Rests b u) : s.Rests b (if c then t else u) := by
  split <;> assumption

theorem State.Rests.foldl {α : Type} {g : State → α → State} {l : List α} (h : s.Rests b t)
    (hg : ∀ u a, s.Rests b u → s.Rests b (g u a)) : s.Rests b (l.foldl g t) := by
  induction l generalizing t with
  | nil => exact h
  | cons a l ih => exact ih (hg t a h)

theorem State.Rests.forPorts {g : State → PortId → State} (h : s.Rests b t) (hg : ∀ u r, s.Rests b u → s.Rests b (g u r)) :
    s.Rests b (t.forPorts g) := h.foldl hg

/-- A change of units that `State.Rests` does not speak of. -/
theorem State.Rests.frame {tb sto hu pod ses hif flog wvl twi img bkp rst latB latT out fresh pending} (h : s.Rests b t) :
    s.Rests b (State.mk tb sto t.ports hu t.bud pod ses hif flog wvl twi img t.pwr bkp rst latB latT out fresh pending) :=
  h.trans ⟨fun _ => .refl, rfl, rfl⟩

theorem State.Rests.emit {o : Out} (h : s.Rests b t) : s.Rests b (t.emit o) := h.frame

/-! ### Changes of a port -/

theorem State.Rests.modCc {f : CcState → CcState} (h : s.Rests b t) : s.Rests b (t.modCc p f) := h.setPort ⟨rfl, rfl, rfl, .refl, .refl, fun _ => id⟩

theorem State.Rests.modPod {f : PodPort → PodPort} (h : s.Rests b t) : s.Rests b (t.modPod p f) := h.setPort ⟨rfl, rfl, rfl, .refl, .refl, fun _ => id⟩

theorem State.Rests.modSwap {f : SwapState → SwapState} (h : s.Rests b t) : s.Rests b (t.modSwap p f) :=
  h.setPort ⟨rfl, rfl, rfl, .refl, .refl, fun _ => id⟩

theorem State.Rests.modMtr {f : MtrState → MtrState} (h : s.Rests b t) : s.Rests b (t.modMtr p f) :=
  h.setPort ⟨rfl, rfl, rfl, .refl, .refl, fun _ => id⟩

theorem State.Rests.modPol {f : PolState → PolState} (h : s.Rests b t) (hf : ∀ x, (f x).target = x.target := by intro _; rfl) :
    s.Rests b (t.modPol p f) := h.setPort ⟨hf _, rfl, rfl, .refl, .refl, fun _ => id⟩

theorem State.Rests.modPd {f : PdState → PdState} (h : s.Rests b t)
    (hf : ∀ x, b = true → x.hrPend = true → (f x).hrPend = true := by intro _ _ hx; exact hx) : s.Rests b (t.modPd p f) :=
  h.setPort ⟨rfl, rfl, rfl, .refl, .refl, hf _⟩

theorem State.Rests.modWm {f : WmState → WmState} (h : s.Rests b t) (hm : ∀ x, (f x).m = x.m := by intro _; rfl)
    (ha : ∀ x, (f x).ffActive = x.ffActive := by intro _; rfl) : s.Rests b (t.modWm p f) :=
  h.setPort ⟨rfl, hm _, ha _, .refl, .refl, fun _ => id⟩

theorem State.Rests.modEf {f : EfState → EfState} (h : s.Rests b t)
    (hf : (t.port p).ef.Rests (f (t.port p).ef) := by exact ⟨rfl, rfl, fun k => ⟨k, rfl⟩⟩) : s.Rests b (t.modEf p f) :=
  h.setPort ⟨rfl, rfl, rfl, hf, .refl, fun _ => id⟩

theorem State.Rests.modCnv {f : CnvState → CnvState} (h : s.Rests b t) (hf : (t.port p).cnv.Rests (f (t.port p).cnv)) : s.Rests b (t.modCnv p f) :=
  h.setPort ⟨rfl, rfl, rfl, .refl, hf, fun _ => id⟩

theorem State.Rests.start {x : Tmr} (h : s.Rests b t) : s.Rests b (t.start p x) := h.setPort ⟨rfl, rfl, rfl, .refl, .refl, fun _ => id⟩

theorem State.Rests.stop {x : Tmr} (h : s.Rests b t) : s.Rests b (t.stop p x) := h.setPort ⟨rfl, rfl, rfl, .refl, .refl, fun _ => id⟩

theorem State.Rests.stopAll {l : List Tmr} (h : s.Rests b t) : s.Rests b (t.stopAll p l) := h.setPort ⟨rfl, rfl, rfl, .refl, .refl, fun _ => id⟩

/-! ### Records and the ends of commands -/

theorem State.Rests.event {cause port : Nat} {d : Quad} (h : s.Rests b t) : s.Rests b (t.event cause port d) := h.records State.Records.refl.event

theorem State.Rests.eventP {cause sub v : Nat} (h : s.Rests b t) : s.Rests b (t.eventP cause p sub v) := h.records State.Records.refl.eventP

theorem State.Rests.eventD {cause : Nat} {fs : List (Nat × Nat × Nat)} (h : s.Rests b t) : s.Rests b (t.eventD cause fs) :=
  h.records State.Records.refl.eventD

theorem State.Rests.eventO {cause : Nat} {fs : List (Nat × Nat × Nat)} (h : s.Rests b t) : s.Rests b (t.eventO cause p fs) :=
  h.records State.Records.refl.eventO

theorem State.Rests.finish {d : Desc} {status : Nat} {r : Quad} (h : s.Rests b t) : s.Rests b (t.finish d status r) :=
  h.records State.Records.refl.finish

theorem State.Rests.finishAll {op status : Nat} {r : Quad} (h : s.Rests b t) : s.Rests b (t.finishAll op p status r) :=
  h.records State.Records.refl.finishAll

theorem State.Rests.endPort {status : Nat} {but : List Nat} (h : s.Rests b t) : s.Rests b (t.endPort p status but) :=
  h.records State.Records.refl.endPort

theorem State.Rests.modFlow {f : Nat} {g : Flow → Flow} (h : s.Rests b t) : s.Rests b (t.modFlow f g) := h.records State.Records.refl.modFlow

theorem State.Rests.countNoCredit {f : Nat} (h : s.Rests b t) : s.Rests b (t.countNoCredit f) := by
  exact h.modFlow

theorem State.Rests.popped {f : Nat} (h : s.Rests b t) : s.Rests b (((t.popCell f).map (·.2)).getD t) := by
  cases e : t.popCell f with
  | none => exact h
  | some x => exact h.records (State.Records.refl.popCell e)

theorem State.Records.popMsg {f : Nat} {m : PdMsg} : s.Records (s.popMsg f m) := by
  refine State.Records.foldl .refl fun u _ hu => ?_
  cases e : u.popCell f with
  | none => exact hu
  | some x => exact hu.popCell e

theorem State.Records.putMsg {f : Nat} {r : Payload} {m : PdMsg} (e : s.putMsg f r m = some t) : s.Records t := by
  unfold State.putMsg at e
  split at e
  · cases e
  · split at e
    · exact State.Records.refl.putCell e
    · obtain ⟨v, e1, e2⟩ := Option.bind_eq_some_iff.mp e
      exact (State.Records.refl.putCell e1).putCell e2

theorem State.Rests.popMsg {f : Nat} {m : PdMsg} (h : s.Rests b t) : s.Rests b (t.popMsg f m) := h.records State.Records.popMsg

theorem State.Rests.emptyFlow {f : Nat} (h : s.Rests b t) : s.Rests b (t.emptyFlow f) := h.foldl fun _ _ h => h.popped

theorem State.Rests.putMsg {f : Nat} {r : Payload} {m : PdMsg} (h : s.Rests b t) (e : t.putMsg f r m = some u) : s.Rests b u :=
  h.records (State.Records.putMsg e)

theorem State.Rests.sendCell {f : Nat} {r : Payload} (h : s.Rests b t) : s.Rests b (t.sendCell f r) := by
  unfold State.sendCell
  split
  next u e => exact h.records (State.Records.refl.putCell (Option.ite_none_right_eq_some.mp e).2)
  · exact h.countNoCredit.modFlow

/-! ### PD messages -/

theorem PdState.counts_hrPend (x : PdState) (k : Sopx) (o : TxOutcome) (c : Bool) : (x.counts k o c).hrPend = x.hrPend := by
  unfold PdState.counts
  dsimp only
  split
  · cases k <;> rfl
  · rfl

theorem State.Rests.flushMsg {o : TxOutcome} {m : PdMsg} {prod : PdProd} {n : Nat} (h : s.Rests b t) : s.Rests b (t.flushMsg p o m prod n) := by
  have k : s.Rests b (t.modPd p fun x => x.counts m.sopx o (decide (0 < n))) := h.modPd fun x _ hx => (PdState.counts_hrPend x _ _ _).trans hx
  exact k.emit

theorem State.Rests.nextTx (h : s.Rests b t) : s.Rests b (t.nextTx p) := by
  unfold State.nextTx
  generalize (t.flow (fPdTx p)).cells.length + 1 = n
  induction n generalizing t with
  | zero => exact h
  | succ n ih =>
    unfold State.nextTxN
    dsimp only
    split
    · exact h
    · split
      · exact (ih h.emit.popMsg).either (h.modPd.start.either h.modPd)
      · exact h

theorem State.Rests.pdSend {m : PdMsg} {prod : PdProd} {first : Bool} (h : s.Rests b t) : s.Rests b (t.pdSend p m prod first) := by
  unfold State.pdSend
  dsimp only
  split
  · exact h.emit
  · split
    · exact h.emit
    · split
      next u e => exact (h.putMsg (Option.ite_none_right_eq_some.mp e).2).nextTx
      · exact h.countNoCredit.modFlow

theorem State.Rests.say {m : PdMsg} {first : Bool} (h : s.Rests b t) : s.Rests b (t.say p m first) := h.pdSend

theorem State.Rests.flushTx {o : TxOutcome} (h : s.Rests b t) : s.Rests b (t.flushTx p o) := by
  unfold State.flushTx
  extract_lets +onlyGivenNames x s1 s2
  have h1 : s.Rests b s1 := h.foldl fun u r h => by
    split
    · exact h.flushMsg
    · exact h
  have h2 : s.Rests b s2 := h1.foldl fun u r h => by
    split
    · exact h.flushMsg
    · exact h
  exact h2.emptyFlow.modFlow.modPd.stopAll

theorem State.Rests.pdClear {o : TxOutcome} (h : s.Rests b t) : s.Rests b (t.pdClear p o) := h.flushTx.stop.modPd

/-- The PD layer stops, and with it a Hard Reset that waits. -/
theorem State.Rests.pdStop (h : s.Rests false t) : s.Rests false (t.pdStop p) :=
  h.pdClear.modPd fun _ k => absurd k (by decide)

/-! ### The sequencer -/

theorem State.Rests.latchReneg (h : s.Rests b t) : s.Rests b (t.latchReneg p) := h.modPol fun _ => by split <;> rfl

theorem State.Rests.endEpr {sub : Nat} (h : s.Rests b t) : s.Rests b (t.endEpr p sub) := h.stop.modPol.eventP.either h

theorem State.Rests.commitFloor (h : s.Rests b t) : s.Rests b (t.commitFloor p) := by
  unfold State.commitFloor
  exact h.modPol

theorem State.Rests.endContract (h : s.Rests b t) : s.Rests b (t.endContract p) := h.endEpr.modPd.modPol.commitFloor

theorem State.Rests.fleetCut (h : s.Rests b t) : s.Rests b (t.fleetCut p) := h.either h.modPod.eventP

theorem State.Rests.dropPartnerWork (h : s.Rests b t) : s.Rests b (t.dropPartnerWork p) := h.fleetCut.modPod.modPol

theorem State.Rests.seqOff (h : s.Rests b t) : s.Rests b (t.seqOff p) := by
  unfold State.seqOff
  exact h.endContract.dropPartnerWork.stopAll.modPol.modSwap

theorem State.Rests.markReneg (h : s.Rests b t) : s.Rests b (t.markReneg p) := h.frame

theorem State.Rests.eprLeave (h : s.Rests b t) : s.Rests b (t.eprLeave p) := h.say.endEpr.either h

theorem State.Rests.sendCaps {first : Bool} (h : s.Rests b t) : s.Rests b (t.sendCaps p first) :=
  ((h.modPol.eprLeave.markReneg.either h.modPol.eprLeave).modPol).say

/-! ### Sessions -/

theorem State.Rests.setCtx {k : Nat} {l : List Byte} (h : s.Rests b t) : s.Rests b (t.setCtx k l) := by
  unfold State.setCtx
  split
  · exact h.frame
  · exact h

theorem State.Rests.journal {e : JrnEntry} (h : s.Rests b t) : s.Rests b (t.journal e) := h.sendCell.frame

theorem State.Rests.modSes {f : List Byte → List Byte} (h : s.Rests b t) : s.Rests b (t.modSes p f) := by
  unfold State.modSes
  dsimp only
  split
  · exact h
  · split
    · exact h.modMtr.setCtx
    · exact h.modMtr

theorem State.Rests.sesMeter (h : s.Rests b t) : s.Rests b (t.sesMeter p) := h.modSes

theorem State.Rests.sesProfile (h : s.Rests b t) : s.Rests b (t.sesProfile p) := h.modSes

theorem State.Rests.storeClose {k : Nat} {l : List Byte} (h : s.Rests b t) : s.Rests b (t.storeClose k l) := h.setCtx.journal

theorem State.Rests.closeSession {r : EndReason} (h : s.Rests b t) : s.Rests b (t.closeSession p r) := by
  unfold State.closeSession
  dsimp only
  split
  · exact h
  · split
    · exact h.sesMeter.sesProfile.modSes
    · split
      · exact h.sesMeter.sesProfile.modSes.event.modMtr.storeClose
      · exact h.sesMeter.sesProfile.modSes.event.modMtr.modMtr

/-! ### The converter and the path -/

theorem CnvState.phases_any {c : CnvState} (h : ∃ x, (c.ph x).failed = true) : (phases.any fun x => (c.ph x).failed) = true := by
  obtain ⟨x, hx⟩ := h
  exact List.any_eq_true.2 ⟨x, by cases x <;> simp [phases], hx⟩

theorem State.Rests.cnvStop (h : s.Rests b t) : s.Rests b (t.cnvStop p) :=
  h.modCnv ⟨fun _ => rfl, id, rfl, fun x => by cases x <;> exact ⟨rfl, rfl⟩, fun x _ => by cases x <;> rfl, 
    fun hx _ => CnvState.phases_any (hx.imp fun x e => by cases x <;> exact e)⟩

/-- A path that is not opening may go to any state, and any path to OPENING. -/
theorem State.Rests.pathOpening (h : s.Rests b t) (hp : (t.port p).ef.path ≠ .opening) : s.Rests b (t.pathTo p .opening) := by
  unfold State.pathTo
  extract_lets +onlyGivenNames old s1 s2 s3
  have h1 : s.Rests b s1 := (h.modEf ⟨rfl, rfl, fun e => absurd e hp⟩).modWm
  exact h1.stop

theorem State.Rests.openPath (h : s.Rests b t) : s.Rests b (t.openPath p) := by
  unfold State.openPath
  extract_lets s1 s2
  have h1 : s.Rests b s1 := h.cnvStop
  have h2 : s.Rests b s2 := h1.modEf
  split
  · exact h2
  next e => exact h2.pathOpening fun k => e (.inr k)

theorem State.Rests.vconnOff (h : s.Rests b t) : s.Rests b (t.vconnOff p) := h.modCc.modSwap.either h

theorem State.Rests.hrLanding (h : s.Rests b t) : s.Rests b (t.hrLanding p) := by
  unfold State.hrLanding
  exact (h.closeSession.cnvStop.modSwap.either h).modSwap

theorem State.Rests.hrStart {goal : SeqSt} (h : s.Rests b t) : s.Rests b (t.hrStart p goal) := by
  unfold State.hrStart
  exact h.modPd.pdClear.endContract.dropPartnerWork.stopAll.hrLanding.modPol.modCc.modSwap.either <|
    h.modPd.pdClear.endContract.dropPartnerWork.stopAll.hrLanding.modPol.modCc

theorem State.Rests.hrRequest {goal : SeqSt} (h : s.Rests b t) : s.Rests b (t.hrRequest p goal) := h.hrStart.modPd fun _ _ _ => rfl

theorem State.Rests.hrH3 (h : s.Rests b t) : s.Rests b (t.hrH3 p) := by
  unfold State.hrH3
  exact h.openPath.vconnOff.modCc.modSwap

theorem State.Rests.pathLost {r : EndReason} {hold : Bool} (h : s.Rests b t) : s.Rests b (t.pathLost p r hold) := by
  unfold State.pathLost
  extract_lets +onlyGivenNames q
  cases q.cc.st with
  | attachedSrc | attachedSnk =>
    have h1 : s.Rests b (t.closeSession p r) := h.closeSession
    refine State.Rests.modSwap (State.Rests.either (h1.hrRequest.either <| h1.hrH3.either h1) ?_)
    exact h1.endContract.dropPartnerWork.stopAll.modPol.hrH3
  | debugAcc => exact h.modSwap.either h.modEf
  | attachWait => exact h.modEf
  | _ => exact h

theorem State.Rests.detachRecord {st : PortSt} (h : s.Rests b t) : s.Rests b (t.detachRecord p st) := h.eventP.modMtr

theorem State.Rests.presentWin (h : s.Rests b t) : s.Rests b (t.presentWin p) := h.modCc

theorem State.Rests.enterHold {st : PortSt} (h : s.Rests false t) : s.Rests false (t.enterHold p st) := by
  unfold State.enterHold
  extract_lets +onlyGivenNames gone s1 s2 s3 s4
  have h3 : s.Rests false s3 := h.pdStop.modEf.modCc.modSwap.start
  have h4 : s.Rests false s4 := h3.detachRecord.either h3
  exact h4.presentWin.either h4

theorem State.Rests.tripAway {st : PortSt} {r : EndReason} (h : s.Rests false t) : s.Rests false (t.tripAway p st r) := by
  unfold State.tripAway
  exact (h.closeSession.hrStart.vconnOff.modPd fun _ k => absurd k (by decide)).either h.closeSession.seqOff.vconnOff.endPort.enterHold

theorem State.Rests.leaveSource (h : s.Rests b t) : s.Rests b (t.leaveSource p) := h.openPath.closeSession.endContract

theorem State.Rests.askBf {n : Nat} (h : s.Rests b t) : s.Rests b (t.askBf p n) := h.modEf.either h

theorem State.Rests.frProceed (h : s.Rests b t) : s.Rests b (t.frProceed p) := by
  unfold State.frProceed
  exact h.modCc.modSwap.say.either h

theorem State.Rests.frF3 (h : s.Rests b t) : s.Rests b (t.frF3 p) := h.leaveSource.modSwap.start.askBf.frProceed

theorem State.Rests.gateRecord {sub mv : Nat} (h : s.Rests b t) : s.Rests b (t.gateRecord p sub mv) := h.eventP

/-! ### A message handed over

It changes the PD layer and the timers of its port, of which none stops; otherwise it leaves records. -/

/-- The part of a port that a message handed over leaves. -/
def Port.hushed (x : Port) : Port := { x with pd := {}, tmr := [] }

structure State.Said (p : PortId) (s t : State) : Prop where
  port : (t.port p).hushed = (s.port p).hushed
  runs : ∀ x, s.runs p x = true → t.runs p x = true
  other : ∀ r, r ≠ p → t.port r = s.port r
  rest : t.aside.2 = s.aside.2

theorem State.Said.refl : s.Said p s := ⟨rfl, fun _ => id, fun _ _ => rfl, rfl⟩

theorem State.Said.trans (h : s.Said p t) (k : t.Said p u) : s.Said p u :=
  ⟨k.port.trans h.port, fun x => k.runs x ∘ h.runs x, fun r hr => (k.other r hr).trans (h.other r hr), k.rest.trans h.rest⟩

theorem State.Said.records (h : s.Said p t) (k : t.Records u) : s.Said p u :=
  h.trans ⟨by rw [State.port_of_aside k.aside], fun x hx => by unfold State.runs; rw [State.port_of_aside k.aside]; exact hx,
    fun r _ => State.port_of_aside k.aside r, congrArg Prod.snd k.aside⟩

theorem State.Said.modPd {f : PdState → PdState} (h : s.Said p t) : s.Said p (t.modPd p f) :=
  h.trans ⟨by rw [State.modPd_eq, State.port_setPort_self]; rfl, fun x hx => by
      unfold State.runs at hx ⊢; rw [State.modPd_eq, State.port_setPort_self]; exact hx,
    fun r hr => State.port_setPort_ne _ hr.symm, rfl⟩

theorem State.Said.start {x : Tmr} (h : s.Said p t) : s.Said p (t.start p x) :=
  h.trans ⟨by rw [State.start_eq, State.port_setPort_self]; rfl, fun y hy => by
      unfold State.runs at hy ⊢
      rw [State.start_eq, State.port_setPort_self]
      simp only [insertNew, List.contains_iff_mem] at hy ⊢
      split
      · exact hy
      · exact List.mem_append_left _ hy,
    fun r hr => State.port_setPort_ne _ hr.symm, rfl⟩

theorem State.Said.either {c : Prop} {_ : Decidable c} (h : s.Said p t) (k : s.Said p u) : s.Said p (if c then t else u) := by
  split <;> assumption

theorem State.Said.nextTx (h : s.Said p t) : s.Said p (t.nextTx p) := by
  unfold State.nextTx
  generalize (t.flow (fPdTx p)).cells.length + 1 = n
  induction n generalizing t with
  | zero => exact h
  | succ n ih =>
    unfold State.nextTxN
    dsimp only
    split
    · exact h
    · split
      · exact (ih ((h.records State.Records.refl.emit).records State.Records.popMsg)).either (h.modPd.start.either h.modPd)
      · exact h

theorem State.Said.pdSend {m : PdMsg} {prod : PdProd} {first : Bool} (h : s.Said p t) : s.Said p (t.pdSend p m prod first) := by
  unfold State.pdSend
  dsimp only
  split
  · exact h.records State.Records.refl.emit
  · split
    · exact h.records State.Records.refl.emit
    · split
      next u e => exact (h.records (State.Records.putMsg (Option.ite_none_right_eq_some.mp e).2)).nextTx
      · exact h.records State.Records.refl.modFlow.modFlow

theorem State.said {m : PdMsg} {first : Bool} : s.Said p (s.say p m first) := State.Said.refl.pdSend

end Sys2Proof.Machine
end

section
/-! PROOF of O35 (06 Budget allocator, Table 6-2). -/
namespace Sys2Proof.Machine

variable {s t : State} {p : PortId}

/-! ### The allocation round -/

/-- Where each port is changed by itself, a port ends as its own change leaves it. -/
theorem State.port_forPorts {f : State → PortId → State} {g : PortId → Port → Port} (hf : ∀ u r, f u r = u.setPort r (g r (u.port r))) :
    (s.forPorts f).port p = g p (s.port p) := by
  have hl (l : List PortId) (hn : l.Nodup) (s : State) : (l.foldl f s).port p = if p ∈ l then g p (s.port p) else s.port p := by
    induction l generalizing s with
    | nil => simp
    | cons r l ih =>
      rw [List.nodup_cons] at hn
      rw [List.foldl_cons, ih hn.2, hf, State.port_setPort]
      by_cases hr : r = p
      · subst hr
        simp [hn.1]
      · simp [hr, Ne.symm hr]
  rw [State.forPorts, hl _ (List.nodup_finRange 16), if_pos (List.mem_finRange p)]

theorem State.Rests.grantLatch {b : Bool} {old : Nat} (h : s.Rests b t) : s.Rests b (t.grantLatch p old) := h.latchReneg.either h

theorem State.Rests.growN {b : Bool} {n : Nat} {done : List PortId} (h : s.Rests b t) : s.Rests b (growN n done t) := by
  induction n generalizing t done with
  | zero => exact h
  | succ n ih =>
    unfold Machine.growN
    dsimp only
    split
    · exact h
    · exact ih (h.either h.modPol)

/-- A port's allocation as a round first sets it: the target, C and the grant not above the target. -/
def PolState.aim (f target : Nat) (x : PolState) : PolState :=
  { x with target, commit := if x.contract.isSome ∨ x.pendCtr.isSome then max f x.commit else f
           grant := if target < x.grant then target else max x.grant f }

/-- The ports with the targets that a round gives them. -/
def State.aimed (s : State) : State :=
  s.forPorts fun u p => u.modPol p (PolState.aim (s.floor p) (((s.targets s.demandOf).lookup p).getD 0))

theorem State.aimed_target : (s.aimed.port p).pol.target = ((s.targets s.demandOf).lookup p).getD 0 :=
  congrArg (·.pol.target) (State.port_forPorts (s := s)
    (g := fun p x => { x with pol := x.pol.aim (s.floor p) (((s.targets s.demandOf).lookup p).getD 0) }) fun _ _ => rfl)

theorem State.aimed_bud : s.aimed.bud = s.bud := by
  unfold State.aimed
  refine State.forPorts_keeps State.bud _ (fun u r => ?_) s
  rw [State.modPol_eq, State.setPort_bud]

/-- After the targets a round changes grants and latches renegotiations, and notes that it has run. -/
theorem State.round_rests : ∃ v, s.aimed.Rests true v ∧ State.Rests true { v with bud := { v.bud with ran := true } } s.round := by
  unfold State.round
  extract_lets +onlyGivenNames dem old tg s1 s2 g g' s3 s4
  have h1 : s.aimed.Rests true s1 := State.Rests.refl
  have h3 : s.aimed.Rests true s3 := h1.growN.forPorts fun _ _ h => h.grantLatch
  clear_value s3
  exact ⟨s3, h3, State.Rests.refl.either State.Rests.refl.eventD⟩

/-- Then capabilities go from the ports that are due. -/
theorem execAllocationRound_rests : s.round.Rests true (Res.st (execAllocationRound s) s) := by
  unfold execAllocationRound
  simp only [Res.st]
  generalize s.round = u
  refine State.Rests.forPorts State.Rests.refl fun v r h => ?_
  exact h.sendCaps.either h

theorem Res.next_eq (t : State) : (.next t : Res) = .next (Res.st (.next t) s) := rfl

theorem execAllocationRound_next : execAllocationRound s = .next (Res.st (execAllocationRound s) s) := by
  unfold execAllocationRound
  exact Res.next_eq _

theorem execAllocationRound_bud : (Res.st (execAllocationRound s) s).bud = { s.bud with ran := true } := by
  obtain ⟨v, hv, hr⟩ := State.round_rests (s := s)
  have hb : v.bud = s.bud := hv.bud.trans State.aimed_bud
  rw [execAllocationRound_rests.bud, hr.bud, ← hb]

theorem execAllocationRound_target : ((Res.st (execAllocationRound s) s).port p).pol.target = ((s.targets s.demandOf).lookup p).getD 0 := by
  obtain ⟨v, hv, hr⟩ := State.round_rests (s := s)
  rw [(execAllocationRound_rests.port p).target, (hr.port p).target]
  exact (hv.port p).target.trans State.aimed_target

/-! ### Capabilities -/

/-- The policy of a port once EPR mode has ended, where it had begun. -/
theorem State.endEpr_hushed (sub : Nat) :
    ∃ e, ((s.endEpr p sub).port p).hushed = { (s.port p).hushed with pol := { (s.port p).pol with eprMode := e } } := by
  unfold State.endEpr
  split
  · refine ⟨false, ?_⟩
    rw [State.eventP_port, State.modPol_eq, State.port_setPort_self, State.stop_eq, State.port_setPort_self]
    rfl
  · exact ⟨(s.port p).pol.eprMode, rfl⟩

theorem State.eprLeave_hushed : ∃ e, ((s.eprLeave p).port p).hushed = { (s.port p).hushed with pol := { (s.port p).pol with eprMode := e } } := by
  unfold State.eprLeave
  extract_lets q
  split
  · have hsay := (State.said (s := s) (p := p) (m := q.dataMsg .sop 10 (leBytes 4 (5 * 2 ^ 24))) (first := true)).port
    generalize s.say p (q.dataMsg .sop 10 (leBytes 4 (5 * 2 ^ 24))) true = u at hsay ⊢
    have hpol : (u.port p).pol = (s.port p).pol := by
      have k := congrArg Port.pol hsay
      exact k
    obtain ⟨e, he⟩ := State.endEpr_hushed (s := u) (p := p) 2
    refine ⟨e, he.trans ?_⟩
    rw [hsay, hpol]
  · exact ⟨(s.port p).pol.eprMode, rfl⟩

/-- Capabilities sent: the sequencer's state stays, and no renegotiation is latched any more. -/
theorem State.sendCaps_hushed (first : Bool) : ∃ x : PolState, ((s.sendCaps p first).port p).hushed = { (s.port p).hushed with pol := x }
    ∧ x.seq = (s.port p).pol.seq ∧ x.reneg = false := by
  unfold State.sendCaps
  extract_lets +onlyGivenNames s1 q epr l s2 s3
  obtain ⟨e, h1⟩ : ∃ e, (s1.port p).hushed = { (s.port p).hushed with
      pol := { (s.port p).pol with cfgNow := (s.port p).pol.cfg, limNow := (s.port p).pol.lim, eprMode := e } } := by
    obtain ⟨e, he⟩ := State.eprLeave_hushed (s := s.modPol p fun x => { x with cfgNow := x.cfg, limNow := x.lim }) (p := p)
    rw [State.modPol_eq, State.port_setPort_self] at he
    exact ⟨e, he⟩
  have h2 : s2.port p = s1.port p := by
    unfold s2
    split <;> rfl
  have hpol : (s1.port p).pol = { (s.port p).pol with cfgNow := (s.port p).pol.cfg, limNow := (s.port p).pol.lim, eprMode := e } := by
    have k := congrArg Port.pol h1
    exact k
  refine ⟨(s3.port p).pol, ?_, ?_, ?_⟩
  · rw [State.said.port]
    have k : (s3.port p).hushed = { (s2.port p).hushed with pol := (s3.port p).pol } := by
      unfold s3
      rw [State.modPol_eq, State.port_setPort_self]
      rfl
    rw [k, h2, h1]
  · unfold s3
    rw [State.modPol_eq, State.port_setPort_self, h2, hpol]
  · unfold s3
    rw [State.modPol_eq, State.port_setPort_self]

/-- On the way to SEND_CAPS of what was there only the policy, the PD layer and the timers change. -/
theorem State.toSendCaps_hushed (first : Bool) : ∃ x : PolState, ((s.toSendCaps p first).port p).hushed = { (s.port p).hushed with pol := x }
    ∧ x.seq = .sendCaps ∧ ((s.port p).pol.firstDone = true → x.reneg = false) := by
  unfold State.toSendCaps
  extract_lets x s1
  split
  next h =>
    refine ⟨((s1.modPol p fun x => { x with capsDue := true }).port p).pol, ?_, ?_, fun k => absurd k h.2⟩
    · unfold s1
      simp only [State.modPol_eq, State.port_setPort_self]
      rfl
    · simp only [s1, State.modPol_eq, State.port_setPort_self]
  next h =>
    obtain ⟨y, hy, hseq, hreneg⟩ := State.sendCaps_hushed (s := s1) (p := p) first
    refine ⟨y, hy.trans ?_, hseq.trans ?_, fun _ => hreneg⟩
    · unfold s1
      simp only [State.modPol_eq, State.port_setPort_self]
      rfl
    · simp only [s1, State.modPol_eq, State.port_setPort_self]

theorem State.toSendCaps_pol (first : Bool) : ((s.toSendCaps p first).port p).pol.seq = .sendCaps
    ∧ ((s.port p).pol.firstDone = true → ((s.toSendCaps p first).port p).pol.reneg = false) := by
  obtain ⟨x, hx, hseq, hreneg⟩ := State.toSendCaps_hushed (s := s) (p := p) first
  have k : ((s.toSendCaps p first).port p).pol = x := by
    have k := congrArg Port.pol hx
    exact k
  rw [k]
  exact ⟨hseq, hreneg⟩

theorem State.toSendCaps_ef (first : Bool) : ((s.toSendCaps p first).port p).ef = (s.port p).ef := by
  obtain ⟨x, hx, -⟩ := State.toSendCaps_hushed (s := s) (p := p) first
  have k := congrArg Port.ef hx
  exact k

/-! ### VBUS in band -/

theorem State.say_ef (m : PdMsg) (first : Bool) : ((s.say p m first).port p).ef = (s.port p).ef := by
  have k := congrArg Port.ef (State.said (s := s) (p := p) (m := m) (first := first)).port
  exact k

theorem State.say_pol (m : PdMsg) (first : Bool) : ((s.say p m first).port p).pol = (s.port p).pol := by
  have k := congrArg Port.pol (State.said (s := s) (p := p) (m := m) (first := first)).port
  exact k

theorem State.setILim_port (ma : Nat) : ∃ c w, (s.setILim p ma).port p = { s.port p with cnv := c, wm := w } := by
  refine ⟨((s.setILim p ma).port p).cnv, ((s.setILim p ma).port p).wm, ?_⟩
  simp [State.setILim, State.trackPeaks, State.track, State.modMon]

/-- The end of a soft-start. -/
theorem State.softEnd_port : ∃ c w, (s.softEnd p).port p = { s.port p with cnv := c, wm := w, ef := { (s.port p).ef with softStart := false } } := by
  unfold State.softEnd
  extract_lets u
  have hu : ∃ c w, u.port p = { s.port p with cnv := c, wm := w, ef := { (s.port p).ef with softStart := false } } := by
    obtain ⟨c, w, h⟩ := State.setILim_port (s := s.modEf p fun e => { e with softStart := false }) (p := p) (s.port p).rpLimit
    rw [State.modEf_eq, State.port_setPort_self] at h
    exact ⟨c, w, h⟩
  obtain ⟨c, w, h⟩ := hu
  clear_value u
  rw [State.modWm_eq, State.port_setPort_self, h]
  exact ⟨c, _, rfl⟩

/-- What a reading of VBUS leaves of a port: its roles, its path, the sequencer and any swap. -/
structure Port.Seen (x y : Port) : Prop where
  vconnOn : y.cc.vconnOn = x.cc.vconnOn
  pd : y.pd = x.pd
  pol : y.pol = x.pol
  swap : y.swap = x.swap
  path : y.ef.path = x.ef.path
  tmr : y.tmr = x.tmr
  softStart : y.ef.softStart = true → x.ef.softStart = true

theorem State.seeVbus_seen (mv : Nat) : (s.port p).Seen ((s.seeVbus p mv).port p) := by
  unfold State.seeVbus State.dropWindow
  split
  · simp only [State.modEf_eq, State.modCc_eq, State.port_setPort_self]
    exact ⟨rfl, rfl, rfl, rfl, rfl, rfl, id⟩
  · simp only [State.modEf_eq, State.port_setPort_self]
    exact ⟨rfl, rfl, rfl, rfl, rfl, rfl, id⟩

theorem State.seeVbus_harness (mv : Nat) : ((s.seeVbus p mv).port p).harnessMv ((s.seeVbus p mv).port p).ef.shuntMa
    = (s.port p).harnessMv (s.port p).ef.shuntMa := by
  unfold State.seeVbus State.dropWindow
  split <;> simp only [State.modEf_eq, State.modCc_eq, State.port_setPort_self] <;> rfl

/-- The port with VBUS read: at vSafe5V a soft-start of a path that is ON has ended. -/
def State.atBand (s : State) (p : PortId) (mv : Nat) (safe : Bool) : State :=
  if ((s.seeVbus p mv).port p).ef.softStart ∧ safe ∧ ((s.seeVbus p mv).port p).ef.path = .on then (s.seeVbus p mv).softEnd p
  else s.seeVbus p mv

theorem State.atBand_seen (mv : Nat) (safe : Bool) : (s.port p).Seen ((s.atBand p mv safe).port p) := by
  have h := State.seeVbus_seen (s := s) (p := p) mv
  unfold State.atBand
  split
  · obtain ⟨c, w, e⟩ := State.softEnd_port (s := s.seeVbus p mv) (p := p)
    rw [e]
    exact ⟨h.vconnOn, h.pd, h.pol, h.swap, h.path, h.tmr, nofun⟩
  · exact h

theorem State.atBand_softStart {mv : Nat} (hon : (s.port p).ef.path = .on) : ((s.atBand p mv true).port p).ef.softStart = false := by
  have hpath := (State.seeVbus_seen (s := s) (p := p) mv).path.trans hon
  unfold State.atBand
  split
  · obtain ⟨c, w, e⟩ := State.softEnd_port (s := s.seeVbus p mv) (p := p)
    rw [e]
  next h => simpa [hpath] using h

section
variable {mv : Nat}

/-- What the sequencer does with VBUS as it was read. -/
def State.onBand (s : State) (p : PortId) (mv : Int) (safe : Bool) : State :=
  let q := s.port p
  match q.pol.seq with
  | .startup =>
    if ¬ safe ∨ q.ef.path ≠ .on then s
    else if q.cc.vconnOn ∧ q.pd.cfgNow.bit 1 then ((s.modPol p fun x => { x with seq := .cableDisc, cableReq := 1 }).start p .cableDisc).cableSend p
    else s.toSendCaps p true
  | .hardReset => if safe ∧ q.swap.hrStep = 6 then (s.modSwap p fun w => { w with hrStep := 0 }).toNoPd p 2 else s
  | .transition =>
    match q.pol.pendCtr with
    | some c => if s.runs p .transLimit ∧ ¬ s.runs p .srcTrans ∧ ¬ q.cnv.slewing ∧ c.inBand mv then (s.stop p .transLimit).say p (q.ctrl 6) else s
    | none => s
  | .swap =>
    if safe ∧ q.swap.kind = .toSource ∧ q.swap.step = 4 ∧ q.ef.path = .on then (s.modSwap p fun w => { w with step := 5 }).say p (q.ctrl 6) else s
  | _ => s

theorem execVbusInBand_eq (h1 : 4750 ≤ (mv : Int) - (s.port p).harnessMv (s.port p).ef.shuntMa)
    (h2 : (mv : Int) - (s.port p).harnessMv (s.port p).ef.shuntMa ≤ 5500) :
    execVbusInBand p mv s = .next ((s.atBand p mv true).onBand p ((mv : Int) - (s.port p).harnessMv (s.port p).ef.shuntMa) true) := by
  have hsafe : inSafe5 ((mv : Int) - (s.port p).harnessMv (s.port p).ef.shuntMa) = true := by simp [inSafe5, h1, h2]
  show Host.Outcome.next ((s.atBand p mv (inSafe5 ((mv : Int) - ((s.seeVbus p mv).port p).harnessMv ((s.seeVbus p mv).port p).ef.shuntMa))).onBand p
    ((mv : Int) - ((s.seeVbus p mv).port p).harnessMv ((s.seeVbus p mv).port p).ef.shuntMa)
    (inSafe5 ((mv : Int) - ((s.seeVbus p mv).port p).harnessMv ((s.seeVbus p mv).port p).ef.shuntMa))) = _
  rw [State.seeVbus_harness, hsafe]

end

/-- The cable is asked, where its SOP' may be. -/
theorem State.askCable (hv : (s.port p).cc.vconnOn = true) (hc : (s.port p).pd.cfgNow.getLsbD 1 = true) :
    ∃ (m : PdMsg) (u : State), ((s.modPol p fun x => { x with seq := .cableDisc, cableReq := 1 }).start p .cableDisc).cableSend p = u.say p m true
      ∧ (u.port p).pol = { (s.port p).pol with seq := .cableDisc, cableReq := 1 } ∧ (u.port p).ef = (s.port p).ef ∧ u.runs p .cableDisc = true := by
  generalize hu : (s.modPol p fun x => { x with seq := .cableDisc, cableReq := 1 }).start p .cableDisc = u
  have hok : (u.port p).sopOk .sopp = true := by
    rw [← hu, State.start_eq, State.port_setPort_self, State.modPol_eq, State.port_setPort_self]
    exact Bool.and_eq_true_iff.2 ⟨hv, hc⟩
  refine ⟨_, u, if_pos hok, ?_, ?_, ?_⟩ <;> rw [← hu]
  · rw [State.start_port_pol, State.modPol_eq, State.port_setPort_self]
  · rw [State.start_port_ef, State.modPol_eq, State.port_setPort_self]
  · exact State.runs_start _

theorem State.onBand_cable {v : Int} (hseq : (s.port p).pol.seq = .startup) (hon : (s.port p).ef.path = .on)
    (hv : (s.port p).cc.vconnOn = true) (hc : (s.port p).pd.cfgNow.getLsbD 1 = true) :
    ((s.onBand p v true).port p).pol.seq = .cableDisc ∧ ((s.onBand p v true).port p).pol.cableReq = 1 ∧ (s.onBand p v true).runs p .cableDisc = true := by
  have e : s.onBand p v true = ((s.modPol p fun x => { x with seq := .cableDisc, cableReq := 1 }).start p .cableDisc).cableSend p := by
    simp [State.onBand, hseq, hon, hv, hc, Word.bit]
  obtain ⟨m, u, hu, hpol, -, hrun⟩ := State.askCable hv hc
  rw [e, hu, State.say_pol, hpol]
  exact ⟨rfl, rfl, State.said.runs _ hrun⟩

theorem State.onBand_caps {v : Int} (hseq : (s.port p).pol.seq = .startup) (hon : (s.port p).ef.path = .on)
    (hv : (s.port p).cc.vconnOn = false) : s.onBand p v true = s.toSendCaps p true := by
  simp [State.onBand, hseq, hon, hv]

theorem State.toNoPd_port (sub : Nat) : ((s.toNoPd p sub).port p).pol = { (s.port p).pol with seq := .noPd, reneg := false, capsDue := false }
    ∧ ((s.toNoPd p sub).port p).swap = (s.port p).swap ∧ ((s.toNoPd p sub).port p).ef = (s.port p).ef := by
  unfold State.toNoPd
  extract_lets u
  obtain ⟨c, w, h⟩ := State.setILim_port (s := u) (p := p) (u.port p).rpLimit
  rw [State.eventP_port, h]
  unfold u
  rw [State.modPol_eq, State.port_setPort_self]
  exact ⟨rfl, rfl, rfl⟩

theorem State.onBand_hardReset {v : Int} (hseq : (s.port p).pol.seq = .hardReset) (hstep : (s.port p).swap.hrStep = 6) :
    s.onBand p v true = (s.modSwap p fun w => { w with hrStep := 0 }).toNoPd p 2 := by
  unfold State.onBand
  simp only [hseq, hstep]
  rfl

theorem State.onBand_ef (v : Int) : ((s.onBand p v true).port p).ef = (s.port p).ef := by
  unfold State.onBand
  dsimp only
  split
  · split
    · rfl
    · split
      next h =>
        obtain ⟨m, u, hu, -, hef, -⟩ := State.askCable h.1 h.2
        rw [hu, State.say_ef, hef]
      · exact State.toSendCaps_ef _
  · split
    · rw [(State.toNoPd_port _).2.2, State.modSwap_eq, State.port_setPort_self]
    · rfl
  · split
    · split
      · rw [State.say_ef, State.stop_port_ef]
      · rfl
    · rfl
  · split
    · rw [State.say_ef, State.modSwap_eq, State.port_setPort_self]
    · rfl
  · rfl

/-! ### Shedding, renegotiation and the connector's temperature -/

theorem State.hrRequest_pend {goal : SeqSt} : ((s.hrRequest p goal).port p).pd.hrPend = true := by
  unfold State.hrRequest
  rw [State.modPd_eq, State.port_setPort_self]

theorem State.Rests.shedBudget {b : Bool} {n : Nat} (h : s.Rests b t) : s.Rests b (State.shedBudget n t) := by
  induction n generalizing t with
  | zero => exact h
  | succ n ih =>
    unfold State.shedBudget
    split
    · exact h
    · split
      · exact h
      · exact ih h.hrRequest

theorem State.shedBudget_fits {n : Nat} (h : s.committed ≤ s.limit) : State.shedBudget n s = s := by
  cases n with
  | zero => rfl
  | succ n => exact if_pos h

/-- The port furthest above its target is shed first. -/
theorem State.shedBudget_worst {n : Nat} (h : s.limit < s.committed) (hp : s.worstExcess = some p) :
    State.shedBudget (n + 1) s = State.shedBudget n (s.hrRequest p) := by
  rw [State.shedBudget, if_neg (Nat.not_le.2 h), hp]

/-- Only once a decrease of LIMIT has had its time are ports shed. -/
theorem execBudgetHardResetExpiry_lowered (h : s.bud.lowered = true) :
    execBudgetHardResetExpiry s = .next (State.shedBudget 16 { s with bud := { s.bud with lowered := false } }) :=
  congrArg Host.Outcome.next (if_pos h)

/-- The connector's temperature taken. -/
def State.tempTaken (s : State) (p : PortId) (d : Int) : State :=
  (s.modPol p fun x => { x with tempDeciC := some d }).modMtr p fun m => { m with tMax := some (max (m.tMax.getD (d / 10)) (d / 10)) }

theorem State.latchReneg_port : ∃ b, (s.latchReneg p).port p = { s.port p with pol := { (s.port p).pol with reneg := b } } := by
  unfold State.latchReneg
  rw [State.modPol_eq, State.port_setPort_self]
  dsimp only
  split
  · exact ⟨(s.port p).pol.reneg, rfl⟩
  · exact ⟨true, rfl⟩

/-- A temperature read is taken; it may ask for a renegotiation. -/
theorem execConnectorTempRead_eq (d : Int) : ∃ t, execConnectorTempRead p d s = .next t
    ∧ (t = s.tempTaken p d ∨ ∃ x n, t = ((s.tempTaken p d).modPol p fun y => { y with tempReneg := x, iLimTemp := n }).latchReneg p) := by
  unfold execConnectorTempRead
  extract_lets base u v now again
  split
  · exact ⟨_, rfl, .inr ⟨_, _, rfl⟩⟩
  · exact ⟨_, rfl, .inl rfl⟩

theorem State.tempTaken_port (d : Int) : (s.tempTaken p d).port p = { s.port p with
    pol := { (s.port p).pol with tempDeciC := some d }
    mtr := { (s.port p).mtr with tMax := some (max ((s.port p).mtr.tMax.getD (d / 10)) (d / 10)) } } := by
  simp only [State.tempTaken, State.modPol_eq, State.modMtr_eq, State.port_setPort_self]

theorem State.tempTaken_onlyPort (d : Int) : s.OnlyPort p (s.tempTaken p d) := State.OnlyPort.refl.setPort.setPort

theorem State.OnlyPort.port_ne (h : s.OnlyPort p t) {r : PortId} (hr : r ≠ p) : t.port r = s.port r := by
  obtain ⟨x, rfl⟩ := h
  exact State.port_setPort_ne _ hr.symm

/-- Settles O35: a round's targets are set before anything that keeps them; what the sequencer does at vSafe5V, by its state. -/
theorem budgetCommands : Obligations.BudgetCommands := by
  unfold Obligations.BudgetCommands
  refine ⟨fun s => ⟨?_, fun p hr hi hf => ?_, fun p hr => ?_, fun hl hc => ?_, fun p hl hc hw => ?_, fun hl => ?_, fun p d => ?_⟩,
    fun s p mv h1 h2 => ?_⟩
  · have hb := execAllocationRound_bud (s := s)
    refine ⟨Res.st (execAllocationRound s) s, execAllocationRound_next, ?_, ?_, fun p => execAllocationRound_target⟩ <;> rw [hb]
  · obtain ⟨hseq, hreneg⟩ := State.toSendCaps_pol (s := s) (p := p) true
    exact ⟨_, congrArg Host.Outcome.next (if_pos ⟨hr, hi⟩), hseq, hreneg hf⟩
  · exact congrArg Host.Outcome.next (if_neg fun k => by simp [hr] at k)
  · exact (execBudgetHardResetExpiry_lowered hl).trans (congrArg Host.Outcome.next (State.shedBudget_fits hc))
  · have hshed : State.shedBudget 16 { s with bud := { s.bud with lowered := false } } = _ := State.shedBudget_worst hc hw
    refine ⟨_, (execBudgetHardResetExpiry_lowered hl).trans (congrArg Host.Outcome.next hshed), ?_, ?_⟩
    · exact congrArg BudState.lowered (State.Rests.refl (b := true)).hrRequest.shedBudget.bud
    · exact ((State.Rests.refl (b := true)).shedBudget.port p).pend rfl State.hrRequest_pend
  · exact congrArg Host.Outcome.next (if_neg fun k => by simp [hl] at k)
  · obtain ⟨t, ht, rfl | ⟨x, n, rfl⟩⟩ := execConnectorTempRead_eq (s := s) (p := p) d
    · refine ⟨_, ht, ?_, ?_, fun r hr => (State.tempTaken_onlyPort d).port_ne hr⟩ <;> rw [State.tempTaken_port]
    · obtain ⟨b, hb⟩ := State.latchReneg_port (s := (s.tempTaken p d).modPol p fun y => { y with tempReneg := x, iLimTemp := n }) (p := p)
      refine ⟨_, ht, ?_, ?_, fun r hr => (State.tempTaken_onlyPort d).setPort.setPort.port_ne hr⟩ <;>
        rw [hb, State.modPol_eq, State.port_setPort_self, State.tempTaken_port]
  · intro q
    have hband : exec (.vbusInBand p mv) s = _ := execVbusInBand_eq h1 h2
    have hs := State.atBand_seen (s := s) (p := p) mv true
    refine ⟨fun hq hon hv hc => ?_, fun hq hon hv => ?_, fun hq hstep => ?_, fun hsoft hon => ?_⟩
    · exact ⟨_, hband, State.onBand_cable (by rw [hs.pol, hq]) (hs.path.trans hon) (hs.vconnOn.trans hv) (by rw [hs.pd, hc])⟩
    · refine ⟨_, hband, ?_⟩
      rw [State.onBand_caps (by rw [hs.pol, hq]) (hs.path.trans hon) (hs.vconnOn.trans hv)]
      exact (State.toSendCaps_pol true).1
    · refine ⟨_, hband, ?_⟩
      rw [State.onBand_hardReset (by rw [hs.pol, hq]) (by rw [hs.swap, hstep]), (State.toNoPd_port 2).1, (State.toNoPd_port 2).2.1,
        State.modSwap_eq, State.port_setPort_self]
      exact ⟨rfl, rfl⟩
    · exact ⟨_, hband, (congrArg EfState.softStart (State.onBand_ef _)).trans (State.atBand_softStart hon)⟩

end Sys2Proof.Machine
end

section
/-! PROOF of O26 (06 Policy registers, 17 Target port, 19 Registers, 20 Warm reset, 22 Lock), of a device that is awake. -/
namespace Sys2Proof.Machine

variable {s t : State} {v : Word}

/-! ### LIMIT_WRITE and LOCK_SET -/

/-- A field is given by its bits. -/
theorem Word.fld_congr {x y : Word} {hi lo : Nat} (h : ∀ k, lo ≤ k → k ≤ hi → x.getLsbD k = y.getLsbD k) : x.fld hi lo = y.fld hi lo := by
  unfold Word.fld
  refine Nat.eq_of_testBit_eq fun k => ?_
  rw [Nat.testBit_mod_two_pow, Nat.testBit_mod_two_pow, Nat.testBit_shiftRight, Nat.testBit_shiftRight]
  by_cases hk : k < hi + 1 - lo
  · have e := h (lo + k) (by omega) (by omega)
    rw [BitVec.testBit_toNat, BitVec.testBit_toNat, e]
  · simp [hk]

/-- GLB_BUDGET_CFG with LIMIT and HOLDUP_GRANT as written. -/
def State.limitTaken (s : State) (v : Word) : Word := (s.bud.cfg &&& 0xFFF0F000) ||| (v &&& 0x000F0FFF)

theorem limitTaken_limit : (s.limitTaken v).fld 11 0 = v.toNat % 4096 := by
  have h : (s.limitTaken v).fld 11 0 = v.fld 11 0 := Word.fld_congr fun k _ hk => by
    unfold State.limitTaken
    simp only [BitVec.getLsbD_or, BitVec.getLsbD_and]
    interval_cases k <;> simp
  exact h

theorem limitTaken_grant : (s.limitTaken v).fld 19 16 = v.toNat / 65536 % 16 := by
  have h : (s.limitTaken v).fld 19 16 = v.fld 19 16 := Word.fld_congr fun k hl hk => by
    unfold State.limitTaken
    simp only [BitVec.getLsbD_or, BitVec.getLsbD_and]
    interval_cases k <;> simp
  rw [h]
  simp [Word.fld, Nat.shiftRight_eq_div_pow]

theorem exec_limitWrite_bar0 (ha : s.awake = true) : exec (.limitWrite .bar0 v) s = .next (s.limitWrite s.hif.lock v) := by
  refine congrArg Host.Outcome.next ((if_neg (by decide)).trans ?_)
  rw [State.wakeSet_of_awake ha]
  rfl

/-- What an unlocked write of GLB_BUDGET_CFG does. -/
theorem State.limitWrite_unlocked : s.limitWrite false v =
    let t : State := { s with bud := { s.bud with cfg := s.limitTaken v } }
    if ¬ (24 ≤ v.toNat % 4096 ∧ v.toNat % 4096 ≤ 3840 ∧ 5 ≤ v.toNat / 65536 % 16) then { s with bud := { s.bud with err := s.bud.err ||| 2 } }
    else if t.limit < t.floorSum then { s with bud := { s.bud with err := s.bud.err ||| 1 } }
    else if s.limitTaken v = s.bud.cfg then t
    else Res.st (execAllocationRound
      { t with bud := { t.bud with lowered := t.bud.lowered || decide (t.limit < s.limit ∧ t.limit < s.reserved) } }) t := by
  have hn : regMerge 0xFFF 0xF0000 false s.bud.cfg v = s.limitTaken v := rfl
  have hr : (s.limitTaken v).inR 11 0 24 3840 ∧ (s.limitTaken v).inR 19 16 5 15 ↔
      24 ≤ v.toNat % 4096 ∧ v.toNat % 4096 ≤ 3840 ∧ 5 ≤ v.toNat / 65536 % 16 := by
    simp only [Word.inR, limitTaken_limit, limitTaken_grant, Bool.and_eq_true, decide_eq_true_eq, and_assoc]
    exact and_congr_right fun _ => and_congr_right fun _ => and_iff_left (Nat.le_of_lt_succ (Nat.mod_lt _ (by decide)))
  unfold State.limitWrite
  simp only [hn, hr, Bool.false_eq_true, false_and, if_false]
  rfl

theorem execAllocationRound_st : Res.st (execAllocationRound s) t = Res.st (execAllocationRound s) s := by
  unfold execAllocationRound
  simp only [Res.st]

theorem State.limitWrite_taken (hr : 24 ≤ v.toNat % 4096 ∧ v.toNat % 4096 ≤ 3840 ∧ 5 ≤ v.toNat / 65536 % 16)
    (hf : ¬ State.limit { s with bud := { s.bud with cfg := s.limitTaken v } } < State.floorSum { s with bud := { s.bud with cfg := s.limitTaken v } }) :
    (s.limitWrite false v).bud.cfg = s.limitTaken v ∧ (s.limitWrite false v).bud.err = s.bud.err := by
  rw [State.limitWrite_unlocked]
  dsimp only
  rw [if_neg (not_not.2 hr), if_neg hf]
  split
  · exact ⟨rfl, rfl⟩
  · rw [execAllocationRound_st, execAllocationRound_bud]
    exact ⟨rfl, rfl⟩

theorem exec_lockSet_bar0 (ha : s.awake = true) : exec (.lockSet .bar0 v) s = .next (s.lockWrite .bar0 v) := by
  refine congrArg Host.Outcome.next ((if_neg (by decide)).trans ?_)
  rw [State.wakeSet_of_awake ha]
  rfl

theorem State.lockWrite_bar0 : (s.lockWrite .bar0 v).hif.lock = (s.hif.lock || v.getLsbD 0)
    ∧ (s.lockWrite .bar0 v).hif.viol = (s.hif.viol && !v.getLsbD 1)
    ∧ (s.lockWrite .bar0 v).rst.byTwt = if v.getLsbD 0 = true ∧ s.hif.lock = false then false else s.rst.byTwt := by
  unfold State.lockWrite
  dsimp only
  split
  next h =>
    have h' : v.getLsbD 0 = true ∧ s.hif.lock = false := by simpa [Word.bit] using h
    exact ⟨rfl, rfl, (if_pos h').symm⟩
  next h =>
    have h' : ¬ (v.getLsbD 0 = true ∧ s.hif.lock = false) := by simpa [Word.bit] using h
    exact ⟨rfl, rfl, (if_neg h').symm⟩

/-! ### Warm reset -/

theorem exec_warmReset_bar0 (ha : s.awake = true) : exec (.warmReset .bar0 v) s = .next (s.hifRst .bar0 v) := by
  refine congrArg Host.Outcome.next ((if_neg (by decide)).trans ?_)
  rw [State.wakeSet_of_awake ha]

/-- A warm reset leaves its record and no posted buffer. -/
theorem State.warmRun_record : s.warmRun.rst.last = (if s.rst.warmBy = 2 then 6 else 5) ∧ s.warmRun.rst.warmPend = false
    ∧ s.warmRun.rst.warmCount = satInc s.rst.warmCount ∧ s.warmRun.hif.mtrBufs = [] ∧ s.warmRun.hif.wavBufs = [] := by
  have h0 : s.Meets (Inv.sound False s.pending {}) := State.meets_sound_iff.2 ⟨nofun, rfl, nofun, nofun, nofun⟩
  have h := State.meets_sound_iff.1 (State.Meets.warmRun (wr := {}) h0.recorded)
  obtain ⟨-, -, hw, -, hb⟩ := h
  have hr := hw _ rfl
  simp only [RstState.warm, Prod.mk.injEq] at hr
  exact ⟨hr.1, hr.2.1, hr.2.2, (hb rfl).1, (hb rfl).2⟩

/-- A warm reset asked for by the host of a device that is awake. -/
def State.asked (s : State) (force : Bool) : State :=
  { s with rst := { s.rst with warmPend := true, warmBy := if s.rst.warmPend then s.rst.warmBy else 1, warmForce := s.rst.warmForce || force } }

theorem State.hifRst_bar0 (ha : s.awake = true) (hk : v.toNat % 65536 = 0x5752) (hw : v.getLsbD 16 = true) :
    s.hifRst .bar0 v = if (s.asked (v.getLsbD 17)).warmMay then (s.asked (v.getLsbD 17)).warmRun else s.asked (v.getLsbD 17) := by
  obtain ⟨hst, hentry⟩ := State.pwr_of_awake ha
  have hkey : ¬ (v.fld 15 0 ≠ 0x5752) := not_not.2 hk
  have h16 : ¬ ¬ (v.bit 16 = true) := not_not.2 hw
  have h1 : ¬ s.pwr.entry = 1 := by rw [hentry]; decide
  have h2 : ¬ (s.pwr.st = .doze ∧ ¬ s.pwr.wakeLatch) := by rw [hst]; nofun
  unfold State.hifRst
  rw [if_neg hkey, if_neg h16, State.warmRequest, if_neg h1, if_neg h2]
  rfl

theorem State.warmMay_iff (ha : s.awake = true) : s.warmMay = ((!s.hu.active || s.rst.warmForce) && (s.rst.booted || s.rst.rescue)) := by
  obtain ⟨hst, hentry⟩ := State.pwr_of_awake ha
  simp [State.warmMay, hst, hentry]

/-! ### The calendar's setting -/

theorem State.timeFix_bkp (c : Quad) : (s.timeFix c).bkp = s.bkp := congrArg Off.bkp (State.Meets.timeFix State.Meets.self).ok

theorem State.alarmCheck_cal : s.alarmCheck.bkp.cal = s.bkp.cal ∧ s.alarmCheck.bkp.valid = s.bkp.valid ∧ s.alarmCheck.bkp.frac = s.bkp.frac := by
  by_cases h : s.bkp.due
  · rw [State.alarmCheck_bkp h]
    exact ⟨rfl, rfl, rfl⟩
  · rw [State.alarmCheck_of_not_due h]
    exact ⟨rfl, rfl, rfl⟩

theorem State.setCalendar_bkp (q : Quad) (n : Nat) : (s.setCalendar q n).bkp.cal = q ∧ (s.setCalendar q n).bkp.valid = true
    ∧ (s.setCalendar q n).bkp.frac = 0 := by
  unfold State.setCalendar
  extract_lets b d diff u
  obtain ⟨h1, h2, h3⟩ := State.alarmCheck_cal (s := u.timeFix q)
  rw [h1, h2, h3, State.timeFix_bkp]
  unfold u
  rw [State.eventD_bkp]
  exact ⟨rfl, rfl, rfl⟩

theorem exec_bkpSet_awake (ha : s.awake = true) (h0 : v.getLsbD 0 = true) : exec (.bkpSet v) s = .next
    (if (s.bkp.setLo.toNat + 2 ^ 32 * s.bkp.setHi.toNat) / 65536 < 631152000 then { s with bkp := { s.bkp with cfgErr := true } }
     else s.setCalendar (BitVec.ofNat 64 (s.bkp.setLo.toNat + 2 ^ 32 * s.bkp.setHi.toNat)) 2) := by
  refine congrArg Host.Outcome.next ?_
  rw [State.wakeSet_of_awake ha]
  exact if_neg (not_not.2 h0)

/-- Settles O26: by what each write does, on a device that no wake source changes. -/
theorem limitLockResetWrites : Obligations.LimitLockResetWrites := by
  unfold Obligations.LimitLockResetWrites
  refine ⟨fun s v ha => ?_, fun s v => ⟨fun ha hk => ?_, fun ha hk hw hp hboot hmay => ?_, fun ha hk hw hact h17 hforce hp => ?_, fun hp hmay => ?_,
    fun h => ?_, fun ha h0 => ⟨fun hq => ?_, fun hq => ?_⟩, fun ha => ?_, fun b h5 hb => ?_, fun b h5 h1 h2 => ?_, fun b h5 => ?_⟩⟩
  · intro n u inRange
    rw [exec_limitWrite_bar0 ha, exec_lockSet_bar0 ha]
    refine ⟨fun hl hr hf => ?_, fun hl hr hf => ?_, fun hl hr => ?_, ⟨_, rfl, State.lockWrite_bar0⟩⟩
    · rw [hl]
      exact ⟨_, rfl, State.limitWrite_taken hr (Nat.not_lt.2 hf)⟩
    · rw [hl, State.limitWrite_unlocked]
      exact congrArg Host.Outcome.next ((if_neg (not_not.2 hr)).trans (if_pos hf))
    · rw [hl, State.limitWrite_unlocked]
      exact congrArg Host.Outcome.next (if_pos hr)
  · exact (exec_warmReset_bar0 ha).trans (congrArg Host.Outcome.next (if_pos hk))
  · have hm : (s.asked (v.getLsbD 17)).warmMay = true := by
      rw [State.warmMay_iff (s := s.asked _) ha]
      rcases hmay with h | h <;> simp [State.asked, h, hboot]
    have hby : (s.asked (v.getLsbD 17)).rst.warmBy = 1 := by simp [State.asked, hp]
    obtain ⟨h1, h2, h3, h4⟩ := State.warmRun_record (s := s.asked (v.getLsbD 17))
    refine ⟨_, (exec_warmReset_bar0 ha).trans (congrArg Host.Outcome.next ((State.hifRst_bar0 ha hk hw).trans (if_pos hm))), ?_, h2, h3, h4⟩
    rw [h1, hby]
    rfl
  · have hm : ¬ (s.asked (v.getLsbD 17)).warmMay = true := by
      rw [State.warmMay_iff (s := s.asked _) ha]
      rw [h17]
      simp [State.asked, hact, hforce]
    refine (exec_warmReset_bar0 ha).trans (congrArg Host.Outcome.next ((State.hifRst_bar0 ha hk hw).trans ((if_neg hm).trans ?_)))
    rw [h17]
    simp [State.asked, hp]
  · obtain ⟨h1, h2, h3, -⟩ := State.warmRun_record (s := s)
    exact ⟨_, congrArg Host.Outcome.next (if_pos ⟨hp, hmay⟩), h2, h1, h3⟩
  · exact congrArg Host.Outcome.next (if_neg fun k => by rcases h with h | h <;> simp [h] at k)
  · obtain ⟨h1, h2, h3⟩ := State.setCalendar_bkp (s := s) (BitVec.ofNat 64 (s.bkp.setLo.toNat + 2 ^ 32 * s.bkp.setHi.toNat)) 2
    refine ⟨_, (exec_bkpSet_awake ha h0).trans (congrArg Host.Outcome.next (if_neg (Nat.not_lt.2 hq))), ?_, h2, h3⟩
    rw [h1, BitVec.toNat_ofNat]
    exact Nat.mod_eq_of_lt (by have := s.bkp.setLo.isLt; have := s.bkp.setHi.isLt; omega)
  · exact (exec_bkpSet_awake ha h0).trans (congrArg Host.Outcome.next (if_pos hq))
  · have hclear : exec (.tamperLatchClear v) s = .next (s.clearTamper v) :=
      congrArg (fun u : State => Host.Outcome.next (u.clearTamper v)) (State.wakeSet_of_awake ha 4 0xFF)
    refine ⟨_, hclear, fun k hk => ?_, rfl, rfl, rfl, rfl⟩
    simp [State.clearTamper, State.modBkp, hk]
  · exact congrArg Host.Outcome.next ((if_pos h5).trans (by rcases hb with rfl | rfl <;> rfl))
  · refine congrArg Host.Outcome.next ((if_pos h5).trans (if_neg fun k => ?_))
    have hb : b.toNat = 1 ∨ b.toNat = 2 := by omega
    exact hb.elim (fun e => h1 (BitVec.eq_of_toNat_eq e)) fun e => h2 (BitVec.eq_of_toNat_eq e)
  · exact congrArg Host.Outcome.next (if_neg (by rw [show s.twi.tcfg.bit 5 = false from h5]; decide))

end Sys2Proof.Machine
end

section
/-! PROOF of O30 (04 Table 4-1). -/
namespace Sys2Proof.Machine

variable {s t : State} {p : PortId}

/-! ### The class that eight readings give -/

/-- An operation that picks one of two values picks, folded, one of them all. -/
theorem foldl_mem_of_choice {f : Nat → Nat → Nat} (hf : ∀ a x, f a x = a ∨ f a x = x) (l : List Nat) (a : Nat) :
    l.foldl f a = a ∨ l.foldl f a ∈ l := by
  induction l generalizing a with
  | nil => exact .inl rfl
  | cons x l ih =>
    rw [List.foldl_cons, List.mem_cons]
    refine (ih (f a x)).elim (fun h => ?_) fun h => .inr (.inr h)
    exact (hf a x).imp (fun e => h.trans e) fun e => .inl (h.trans e)

/-- What any two readings meet as to their distance, the largest and the smallest meet. -/
theorem spread_of_pairs {l : List Nat} {P : Nat → Prop} (h0 : P 0) (h : ∀ x ∈ l, ∀ y ∈ l, P (x - y)) :
    P (l.foldl max 0 - l.foldl min (l.foldl max 0)) := by
  rcases foldl_mem_of_choice max_choice l 0 with hmax | hmax
  · rw [hmax, Nat.zero_sub]
    exact h0
  · rcases foldl_mem_of_choice min_choice l (l.foldl max 0) with hmin | hmin
    · rw [hmin, Nat.sub_self]
      exact h0
    · exact h _ hmax _ hmin

section
variable {l : List (Option Nat)}

/-- The readings lie within a 20th of their mean of one another. -/
def Tight (l : List (Option Nat)) : Prop := ∀ x ∈ l.filterMap id, ∀ y ∈ l.filterMap id, 160 * (x - y) ≤ (l.filterMap id).sum

theorem reads_eq : reads l = l.filterMap id := rfl

theorem classify_opn (h : ∀ x ∈ l, x = none) : classify l = .opn := by
  have hr : reads l = [] := List.filterMap_eq_nil_iff.2 h
  simp [classify, hr]

theorem reads_isEmpty (h : ∃ x ∈ l, x ≠ none) : (reads l).isEmpty = false := by
  obtain ⟨x, hx, hne⟩ := h
  obtain ⟨y, rfl⟩ := Option.ne_none_iff_exists'.1 hne
  exact List.isEmpty_eq_false_iff_exists_mem.2 ⟨y, List.mem_filterMap.2 ⟨_, hx, rfl⟩⟩

theorem classify_wet (hn : ∃ x ∈ l, x = none) (hs : ∃ x ∈ l, x ≠ none) : classify l = .wet := by
  have hlt : (reads l).length < l.length := by
    obtain ⟨x, hx, rfl⟩ := hn
    rw [reads_eq, List.length_filterMap_lt_length_iff_exists]
    exact ⟨none, hx, rfl⟩
  simp [classify, reads_isEmpty hs, hlt]

theorem reads_length (h : ∀ x ∈ l, x ≠ none) : (reads l).length = l.length :=
  List.filterMap_length_eq_length.2 fun x hx => Option.isSome_iff_ne_none.2 (h x hx)

/-- The class of eight readings, none of them above 250 kOhm: by range and spread. -/
theorem classify_full (hl : l.length = 8) (h : ∀ x ∈ l, x ≠ none) : classify l =
    let hi := (reads l).foldl max 0
    let lo := (reads l).foldl min hi
    let within (a b : Nat) : Bool := (reads l).all fun x => decide (a ≤ x) && decide (x ≤ b)
    if within 0 599 ∧ (160 * (hi - lo) ≤ (reads l).sum ∨ hi - lo ≤ 30) then .foreign
    else if within 800 1200 ∧ 160 * (hi - lo) ≤ (reads l).sum then .ra
    else if within 4590 5610 ∧ 160 * (hi - lo) ≤ (reads l).sum then .rd
    else .wet := by
  have hlen := (reads_length h).trans hl
  have he : ¬ (reads l).isEmpty := by
    rw [List.isEmpty_iff_length_eq_zero, hlen]
    decide
  unfold classify
  simp only [if_neg he, hlen, hl, lt_irrefl, if_false, decide_eq_true_eq, ← List.sum_eq_foldl]

theorem within_iff {a b : Nat} : ((reads l).all fun x => decide (a ≤ x) && decide (x ≤ b)) = true ↔ ∀ x ∈ reads l, a ≤ x ∧ x ≤ b := by
  simp

theorem reads_nonempty (hl : l.length = 8) (h : ∀ x ∈ l, x ≠ none) : ∃ x, x ∈ reads l :=
  List.exists_mem_of_length_pos (by rw [reads_length h, hl]; decide)

theorem classify_foreign (hl : l.length = 8) (h : ∀ x ∈ l, x ≠ none) (hr : ∀ x ∈ reads l, x < 600)
    (ht : Tight l ∨ ∀ x ∈ reads l, ∀ y ∈ reads l, x - y ≤ 30) : classify l = .foreign := by
  rw [classify_full hl h]
  refine if_pos ⟨within_iff.2 fun x hx => ⟨Nat.zero_le x, Nat.le_of_lt_succ (hr x hx)⟩, ht.imp (fun k => ?_) fun k => ?_⟩
  · exact spread_of_pairs (P := fun d => 160 * d ≤ (reads l).sum) (Nat.zero_le _) k
  · exact spread_of_pairs (P := fun d => d ≤ 30) (Nat.zero_le _) k

/-- Readings within a range are within no range that is disjoint from it. -/
theorem not_within {a b : Nat} (hl : l.length = 8) (h : ∀ x ∈ l, x ≠ none) (hr : ∀ x ∈ reads l, b < x ∨ x < a) :
    ¬ ((reads l).all fun x => decide (a ≤ x) && decide (x ≤ b)) = true := by
  intro k
  obtain ⟨x, hx⟩ := reads_nonempty hl h
  have := within_iff.1 k x hx
  have := hr x hx
  omega

theorem Tight.spread (ht : Tight l) : 160 * ((reads l).foldl max 0 - (reads l).foldl min ((reads l).foldl max 0)) ≤ (reads l).sum :=
  spread_of_pairs (P := fun d => 160 * d ≤ (reads l).sum) (Nat.zero_le _) ht

theorem classify_ra (hl : l.length = 8) (h : ∀ x ∈ l, x ≠ none) (hr : ∀ x ∈ reads l, 800 ≤ x ∧ x ≤ 1200) (ht : Tight l) :
    classify l = .ra := by
  have h1 := not_within (a := 0) (b := 599) hl h fun x hx => .inl (by have := hr x hx; omega)
  rw [classify_full hl h]
  exact (if_neg fun k => h1 k.1).trans (if_pos ⟨within_iff.2 hr, ht.spread⟩)

theorem classify_rd (hl : l.length = 8) (h : ∀ x ∈ l, x ≠ none) (hr : ∀ x ∈ reads l, 4590 ≤ x ∧ x ≤ 5610) (ht : Tight l) :
    classify l = .rd := by
  have h1 := not_within (a := 0) (b := 599) hl h fun x hx => .inl (by have := hr x hx; omega)
  have h2 := not_within (a := 800) (b := 1200) hl h fun x hx => .inl (by have := hr x hx; omega)
  rw [classify_full hl h]
  exact (if_neg fun k => h1 k.1).trans ((if_neg fun k => h2 k.1).trans (if_pos ⟨within_iff.2 hr, ht.spread⟩))

theorem classify_high (hl : l.length = 8) (h : ∀ x ∈ l, x ≠ none) (hr : ∀ x ∈ reads l, 5610 < x) : classify l = .wet := by
  have h1 := not_within (a := 0) (b := 599) hl h fun x hx => .inl (by have := hr x hx; omega)
  have h2 := not_within (a := 800) (b := 1200) hl h fun x hx => .inl (by have := hr x hx; omega)
  have h3 := not_within (a := 4590) (b := 5610) hl h fun x hx => .inl (hr x hx)
  rw [classify_full hl h]
  exact (if_neg fun k => h1 k.1).trans ((if_neg fun k => h2 k.1).trans (if_neg fun k => h3 k.1))

end

/-! ### Samples and the window's end -/

/-- A reading as it is kept. -/
def seenOf (r : Option Nat) : Option Nat := if r.any (· ≤ 250000) then r else none

theorem seenOf_eq (r : Option Nat) : (r.bind fun x => if x ≤ 250000 then some x else none) = seenOf r := by
  cases r with
  | none => rfl
  | some x => simp [seenOf]

/-- A sample that counts. -/
def State.sampled (s : State) (p : PortId) (r1 r2 : Option Nat) : State :=
  s.modCc p fun c => { c with smp1 := c.smp1 ++ [seenOf r1], smp2 := c.smp2 ++ [seenOf r2] }

theorem execProbeSample_counts {r1 r2 : Option Nat} (hw : (s.port p).cc.win ≠ none) (hv : (s.port p).ef.vbusMv ≤ 800)
    (hg : (s.port p).ef.gateOn = false) : execProbeSample p r1 r2 s =
      .next (if 8 ≤ ((s.sampled p r1 r2).port p).cc.smp1.length then (s.sampled p r1 r2).windowEnd p else s.sampled p r1 r2) := by
  have h1 : ¬ (s.port p).cc.win.isNone = true := by rwa [Option.isNone_iff_eq_none]
  have h2 : ¬ (800 < (s.port p).ef.vbusMv ∨ (s.port p).ef.gateOn = true) := by simp [hg, hv]
  refine congrArg Host.Outcome.next ((if_neg h1).trans ((if_neg h2).trans ?_))
  simp only [seenOf_eq]
  rfl

/-- A window's end leaves each pin the class of its readings. -/
theorem State.windowEnd_classes : ((s.windowEnd p).port p).cc.cls1 = classify (s.port p).cc.smp1
    ∧ ((s.windowEnd p).port p).cc.cls2 = classify (s.port p).cc.smp2 := by
  have h := State.Meets.windowEnd_of (s := s) (p := p)
    (I := { off := fun _ => True, gauge := fun r g => r = p → g.cls1 = classify (s.port p).cc.smp1 ∧ g.cls2 = classify (s.port p).cc.smp2 })
    ⟨trivial, List.nil_prefix, fun r hr => by subst hr; rw [State.modCc_eq, State.port_setPort_self]; exact ⟨rfl, rfl⟩, nofun, nofun, nofun⟩
  exact h.gauge p rfl

/-- The classes of Table 4-1, as the statement gives them. -/
theorem classify_shows {l : List (Option Nat)} (hl : l.length = 8) :
    ((∀ x ∈ l, x = none) → classify l = .opn) ∧ ((∃ x ∈ l, x = none) → (∃ x ∈ l, x ≠ none) → classify l = .wet)
      ∧ ((∀ x ∈ l, x ≠ none) →
        ((∀ x ∈ reads l, x < 600) → (Tight l ∨ ∀ x ∈ reads l, ∀ y ∈ reads l, x - y ≤ 30) → classify l = .foreign)
        ∧ ((∀ x ∈ reads l, 800 ≤ x ∧ x ≤ 1200) → Tight l → classify l = .ra)
        ∧ ((∀ x ∈ reads l, 4590 ≤ x ∧ x ≤ 5610) → Tight l → classify l = .rd)
        ∧ ((∀ x ∈ reads l, 5610 < x) → classify l = .wet)) :=
  ⟨classify_opn, classify_wet, fun h => ⟨classify_foreign hl h, classify_ra hl h, classify_rd hl h, classify_high hl h⟩⟩

/-- Settles O30: what follows a window's end changes neither pin's class. -/
theorem pinClasses : Obligations.PinClasses := by
  unfold Obligations.PinClasses
  intro s p r1 r2 c seen shows
  have hsmp : ((s.sampled p r1 r2).port p).cc = { c with smp1 := c.smp1 ++ [seen r1], smp2 := c.smp2 ++ [seen r2] } := by
    unfold State.sampled
    rw [State.modCc_eq, State.port_setPort_self]
    rfl
  refine ⟨fun hw => congrArg Host.Outcome.next (if_pos (by rw [Option.isNone_iff_eq_none]; exact hw)), fun hw hv hg h1 h2 => ?_, fun hw hv => ?_,
    fun hw hv hg h1 h2 => ?_⟩
  · refine ⟨_, (execProbeSample_counts hw hv hg).trans (congrArg Host.Outcome.next (if_neg ?_)), hsmp⟩
    rw [hsmp, List.length_append, List.length_singleton]
    omega
  · refine ⟨_, congrArg Host.Outcome.next ((if_neg (by rwa [Option.isNone_iff_eq_none])).trans (if_pos hv)), ?_⟩
    rw [State.modCc_eq, State.port_setPort_self]
  · have hl1 : (c.smp1 ++ [seen r1]).length = 8 := by rw [List.length_append, h1, List.length_singleton]
    have hl2 : (c.smp2 ++ [seen r2]).length = 8 := by rw [List.length_append, h2, List.length_singleton]
    obtain ⟨hc1, hc2⟩ := State.windowEnd_classes (s := s.sampled p r1 r2) (p := p)
    rw [hsmp] at hc1 hc2
    refine ⟨_, (execProbeSample_counts hw hv hg).trans (congrArg Host.Outcome.next (if_pos ?_)), ?_, ?_⟩
    · rw [hsmp]
      exact hl1.ge
    · rw [hc1]
      exact classify_shows hl1
    · rw [hc2]
      exact classify_shows hl2

end Sys2Proof.Machine
end

section
/-! PROOF of O32 (05 Tables 5-2 and 5-5). -/
namespace Sys2Proof.Machine

variable {s t : State} {p : PortId}

/-! ### The head of PDTX, and the end of a message -/

theorem State.meet_clean {f : Nat} {c : Cell} (h : c.ue = none ∧ c.ce = []) : s.meet f c = (none, s) := by
  obtain ⟨hu, hc⟩ := h
  have hcorrect : s.correct f c = s := if_pos (by rw [hc]; rfl)
  unfold State.meet
  rw [hcorrect, hu]

/-- A head without errors is read as it stands. -/
theorem State.meetHead_clean {f : Nat} (h : ∀ c ∈ (s.flow f).headCells, c.ue = none ∧ c.ce = []) : s.meetHead f = (false, s) := by
  unfold State.meetHead
  generalize (s.flow f).headCells = l at h
  induction l with
  | nil => rfl
  | cons c l ih =>
    rw [List.foldl_cons]
    simp only [State.meet_clean (h c List.mem_cons_self)]
    exact ih fun d hd => h d (List.mem_cons_of_mem c hd)

/-- A message's end is told, whatever comes after. -/
theorem State.endTx_out {x : PdTx} {o : TxOutcome} : .pdOutcome p x.msg x.prod o s.tb.count x.tries ∈ (s.endTx p x o).out := by
  have h := (State.Records.popMsg (s := (((s.modPd p fun y => { y.counts x.msg.sopx o (decide (0 < x.tries)) with tx := none }).stopAll p
    [.tReceive, .chunkTx, .amsWait]).emit (.pdOutcome p x.msg x.prod o s.tb.count x.tries))) (f := fPdTx p) (m := x.msg)).out
  exact h.mem (List.mem_append_right _ List.mem_cons_self)

/-- What has left the block is not taken back. -/
theorem State.settle_out {l : List PdNote} {o : Out} (h : o ∈ s.out) : o ∈ (s.settle p l).out :=
  (State.Meets.settle (s := s) (p := p) (l := l) (I := { off := fun _ => True, sent := s.out })
    ⟨trivial, List.prefix_rfl, fun _ => trivial, nofun, nofun, nofun⟩).sent.mem h

theorem State.notes_out {l : List PdNote} {o : Out} (h : o ∈ s.out) : o ∈ (l.foldl (fun s n => s.note p n) s).out :=
  (State.Meets.foldl (s := s) (I := { off := fun _ => True, sent := s.out }) (f := fun s n => s.note p n) (l := l)
    ⟨trivial, List.prefix_rfl, fun _ => trivial, nofun, nofun, nofun⟩ fun _ _ h => h.note).sent.mem h

/-- A message taken into PDTX waits in its turn. -/
theorem State.pdSend_taken {m : PdMsg} {prod : PdProd} {first : Bool} {u : State} (hr : (s.port p).pdRuns = true) (hs : (s.port p).sendable m = true)
    (hw : (s.flow (fPdTx p)).waiters = []) (hp : s.putMsg (fPdTx p) (s.txCell p m prod first) m = some u) :
    s.pdSend p m prod first = u.nextTx p := by
  unfold State.pdSend
  dsimp only
  rw [if_neg (not_not.2 hr), if_neg (not_not.2 hs), hw, if_pos (by rfl), hp]

/-! ### A message that stays at the head -/

/-- While a message is at hand, the sequencer's idle work waits. -/
theorem State.idleWork_busy (h : (s.port p).pd.tx.isSome = true) : s.idleWork p = s := by
  have hn : (s.port p).pd.tx.isNone = false := by rwa [Option.isNone_eq_false_iff]
  have hready : (s.port p).readyIdle = false := by simp [Port.readyIdle, hn]
  have hbase : (s.port p).baseIdle = false := by simp [Port.baseIdle, hready, hn]
  have h1 : s.reevaluate p = s := by simp [State.reevaluate, hbase]
  have h2 : s.retryWait p = s := by simp [State.retryWait, hbase]
  have h3 : s.autoReturn p = s := by simp [State.autoReturn, hbase]
  have h4 : s.eprCheck p = s := by simp [State.eprCheck, hready]
  have h5 : s.cableDue p = s := by simp [State.cableDue, hready]
  rw [State.idleWork, h1, h2, h3, h4, h5]

theorem State.nextTx_busy (h : (s.port p).pd.tx.isSome = true) : s.nextTx p = s := by
  unfold State.nextTx
  exact if_pos (.inl h)

theorem State.admitTx_port : (s.admitTx p).port p = s.port p := by
  unfold State.admitTx
  split
  · split
    next u e => exact State.port_of_aside ((State.Records.putMsg e).modFlow).aside p
    · rfl
  · rfl

/-- With a message at hand, settling changes nothing of its port. -/
theorem State.settle_busy (h : (s.port p).pd.tx.isSome = true) : (s.settle p []).port p = s.port p := by
  have ha : ((s.admitTx p).port p).pd.tx.isSome = true := by rwa [State.admitTx_port]
  unfold State.settle
  rw [List.foldl_nil, State.nextTx_busy ha, State.idleWork_busy ha, State.admitTx_port]

/-! ### The frame on the wire -/

theorem chunkOf_sopx (m : PdMsg) (k : Nat) : (chunkOf m k).sopx = m.sopx := by
  unfold chunkOf
  split <;> rfl

theorem PdState.sendRev_lt (x : PdState) (k : Sopx) : x.sendRev k < 4 := by
  have h1 := x.revSop.isLt
  have h2 := x.revCable.isLt
  have hown : x.own < 4 := by
    unfold PdState.own
    split <;> decide
  unfold PdState.sendRev PdState.revOf
  split <;> split <;> omega

theorem Port.roleBits_lt (q : Port) (k : Sopx) : q.roleBits k < 512 := by
  have hb (b : Bool) : b2n b ≤ 1 := by cases b <;> decide
  have h1 := hb (k == .sop)
  have h2 := hb (k == .sop && q.cc.st != .attachedSnk)
  have h3 := q.pd.sendRev_lt k
  unfold Port.roleBits
  dsimp only
  omega

/-- The first message of a lane that has been cleared goes with MessageID 0. -/
theorem Port.onWire_mid {q : Port} {x : PdTx} (h : (q.pd.lane x.msg.sopx).txId = 0) : (q.onWire x).mid = 0 := by
  have hr := q.roleBits_lt x.msg.sopx
  unfold Port.onWire PdMsg.mid
  dsimp only
  rw [chunkOf_sopx, h]
  refine BitVec.eq_of_getLsbD_eq fun k hk => ?_
  have hbit : (BitVec.ofNat 16 (q.roleBits x.msg.sopx)).getLsbD (k + 9) = false := by
    rw [BitVec.getLsbD_ofNat, Nat.testBit_lt_two_pow (hr.trans_le (Nat.pow_le_pow_right (n := 2) (i := 9) (by decide) (by omega))), Bool.and_false]
  have hmask : (0xF01F : BitVec 16).getLsbD (k + 9) = false := by
    interval_cases k <;> rfl
  have hdiv (w : BitVec 16) : (BitVec.ofNat 3 (w.toNat / 512)).getLsbD k = w.getLsbD (k + 9) := by
    rw [BitVec.getLsbD_ofNat, decide_eq_true hk, Bool.true_and, show (512 : Nat) = 2 ^ 9 from rfl, Nat.testBit_div_two_pow, BitVec.testBit_toNat]
  rw [hdiv, BitVec.getLsbD_or, BitVec.getLsbD_and, hmask, Bool.and_false, Bool.false_or]
  simpa using hbit

/-- A lane that has been cleared. -/
theorem PdState.lane_modLane (x : PdState) (k : Sopx) (f : PdLane → PdLane) : (x.modLane k f).lane k = f (x.lane k) := by cases k <;> rfl

/-- With the assembly or the message changed, each lane is as it was. -/
theorem PdState.lane_setTx (x : PdState) (k : Sopx) (y : Option PdTx) : ({ x with tx := y }).lane k = x.lane k := by cases k <;> rfl

theorem PdState.lane_setAsm (x : PdState) (k : Sopx) (y : Option PdAsm) : ({ x with asm := y }).lane k = x.lane k := by cases k <;> rfl

theorem State.laneReset_lane (k : Sopx) : ((s.laneReset p k).port p).pd.lane k = {} := by
  unfold State.laneReset
  extract_lets mine u
  rw [State.modPd_eq, State.port_setPort_self, PdState.lane_setAsm, PdState.lane_modLane]

section
variable {x : PdTx}

/-- The head of PDTX, sent. -/
def State.sent (s : State) (p : PortId) (x : PdTx) : State :=
  s.modPd p fun y => { y with tx := some { x with ph := .wire, tries := x.tries + 1, cur := x.cur + 1 } }

theorem execChannelIdle_silent {u : State} (h : s.startFrame p = (u, [])) : execChannelIdle p s = .next u := by
  unfold execChannelIdle
  rw [h]
  rfl

theorem State.startFrame_held (hx : (s.port p).pd.tx = some x) (hph : x.ph = .held) (hs : (s.port p).sendable x.msg = true)
    (hc : ∀ c ∈ (s.flow (fPdTx p)).headCells, c.ue = none ∧ c.ce = []) :
    s.startFrame p =
      let u := (if x.tries = 0 ∧ x.msg.isCtrl 13 then s.laneReset p x.msg.sopx else s).sent p x
      (u.emit (.frame p ((u.port p).onWire x)), []) := by
  unfold State.startFrame
  rw [hx]
  dsimp only
  rw [if_neg (not_not.2 hph), if_neg (not_not.2 hs), State.meetHead_clean hc]
  rfl

theorem State.startFrame_refused (hx : (s.port p).pd.tx = some x) (hph : x.ph = .held) (hs : (s.port p).sendable x.msg = false) :
    s.startFrame p = (s.endTx p x (if x.tries = 0 then .refused else .exhausted),
      [.outcome x.msg x.prod (if x.tries = 0 then .refused else .exhausted)]) := by
  unfold State.startFrame
  rw [hx]
  dsimp only
  rw [if_neg (not_not.2 hph), if_pos (by simp [hs])]

theorem execChannelIdle_settled {u : State} {n : PdNote} (h : s.startFrame p = (u, [n])) : execChannelIdle p s = .next (u.settle p [n]) := by
  unfold execChannelIdle
  rw [h]
  exact congrArg Host.Outcome.next (if_neg (List.cons_ne_nil n []))

theorem State.startFrame_other (hx : (s.port p).pd.tx = some x) (hph : x.ph ≠ .held) : s.startFrame p = (s, []) := by
  unfold State.startFrame
  rw [hx]
  exact if_pos hph

theorem State.sent_onWire : ((s.sent p x).port p).onWire x = (s.port p).onWire x := by
  unfold State.sent
  rw [State.modPd_eq, State.port_setPort_self]
  unfold Port.onWire Port.roleBits
  simp only [PdState.lane_setTx]
  rfl

theorem State.onGoodCrc_last (hx : (s.port p).pd.tx = some x) (hph : x.ph = .waitCrc) (hl : x.chunk + 1 = chunksOf x.msg) :
    s.onGoodCrc p x.msg.sopx ((s.port p).pd.lane x.msg.sopx).txId = (s.endTx p x .acked, [.outcome x.msg x.prod .acked]) := by
  unfold State.onGoodCrc
  rw [hx]
  dsimp only
  rw [if_neg (by simp [hph]), if_neg (by omega)]

theorem State.onTReceive_wait (hx : (s.port p).pd.tx = some x) (hph : x.ph = .waitCrc) : s.onTReceive p =
    if x.cur ≤ (s.port p).pd.retries x.msg.sopx then (s.modPd p fun y => { y with tx := some { x with ph := .held } }, [])
    else (s.endTx p x .exhausted, [.outcome x.msg x.prod .exhausted]) := by
  unfold State.onTReceive
  rw [hx]
  exact if_neg (not_not.2 hph)

/-- tReceive, with the message that waits for its GoodCRC. -/
theorem execTreceiveExpiry_wait (hrun : s.runs p .tReceive = true) (hx : (s.port p).pd.tx = some x) (hph : x.ph = .waitCrc) :
    execTreceiveExpiry p s = .next (if x.cur ≤ (s.port p).pd.retries x.msg.sopx
      then ((s.stop p .tReceive).modPd p fun y => { y with tx := some { x with ph := .held } }).settle p []
      else ((s.stop p .tReceive).endTx p x .exhausted).settle p [.outcome x.msg x.prod .exhausted]) := by
  unfold execTreceiveExpiry
  rw [State.onExpiry_runs _ _ hrun]
  have h := State.onTReceive_wait (s := s.stop p .tReceive) (by rw [State.stop_port_pd]; exact hx) hph
  rw [State.stop_port_pd] at h
  simp only [h]
  split <;> rfl

theorem State.dropFirst_held (hx : (s.port p).pd.tx = some x) (hf : x.first = true) (ht : x.tries = 0) (hph : x.ph = .held) :
    s.dropFirst p = ((s.endTx p x .abandoned).modPd p fun y => { y with ams := .partner }, [.withdrawn x.msg x.prod]) := by
  unfold State.dropFirst
  rw [hx]
  exact if_pos ⟨hf, ht, .inl hph⟩

end

/-- Settles O32: by the phase of the message at the head of PDTX. -/
theorem pdTransmission : Obligations.PdTransmission := by
  unfold Obligations.PdTransmission
  intro s p q
  refine ⟨fun m prod hr => ?_, fun m prod hr hs => ?_, fun m prod u hr hs hw hu => ?_, fun x hx => ⟨fun hph hs h13 hc => ?_, fun hph hs h13 ht hc => ?_,
    fun hph hs => ?_, fun hph => ?_, fun hph => ?_, fun hph hl => ⟨?_, fun hrun hcur => ?_⟩, fun hph hrun hcur => ?_, fun hph hrun => ?_, fun hph hst => ?_,
    fun set hset hr hf ht hph => ?_⟩, fun set hset => ?_, fun hst => ?_, fun hr => ?_, fun hr => ?_⟩
  · exact congrArg Host.Outcome.next (if_pos (by rw [hr]; decide))
  · exact congrArg Host.Outcome.next ((if_neg (not_not.2 hr)).trans (if_pos (by rw [hs]; decide)))
  · exact congrArg Host.Outcome.next (State.pdSend_taken hr hs hw hu)
  · have hno : ¬ (x.tries = 0 ∧ x.msg.isCtrl 13 = true) := fun k => h13.elim (fun e => by simp [e] at k) fun e => e k.1
    refine (execChannelIdle_silent ((State.startFrame_held hx hph hs hc).trans ?_))
    rw [if_neg hno]
    dsimp only
    rw [State.sent_onWire]
    rfl
  · have hyes : x.tries = 0 ∧ x.msg.isCtrl 13 = true := ⟨ht, h13⟩
    have hframe := State.startFrame_held hx hph hs hc
    rw [if_pos hyes] at hframe
    have hlane : (((s.laneReset p x.msg.sopx).sent p x).port p).pd.lane x.msg.sopx = {} := by
      unfold State.sent
      rw [State.modPd_eq, State.port_setPort_self, PdState.lane_setTx, State.laneReset_lane]
    refine ⟨_, execChannelIdle_silent hframe, hlane, List.mem_append_right _ List.mem_cons_self, ?_⟩
    exact Port.onWire_mid (congrArg PdLane.txId hlane)
  · exact ⟨_, execChannelIdle_settled (State.startFrame_refused hx hph hs), State.settle_out State.endTx_out⟩
  · exact execChannelIdle_silent (State.startFrame_other hx hph)
  · refine ⟨(s.modPd p fun y => { y with tx := some { x with ph := .waitCrc } }).start p .tReceive, ?_, ?_, State.runs_start _⟩
    · show Host.Outcome.next (match (s.port p).pd.tx with | some x => _ | none => _) = _
      rw [hx]
      exact congrArg Host.Outcome.next (if_pos hph)
    · rw [State.start_port_pd, State.modPd_eq, State.port_setPort_self]
  · refine ⟨(s.endTx p x .acked).settle p [.outcome x.msg x.prod .acked], ?_, State.settle_out State.endTx_out⟩
    show execGoodcrcReceived p x.msg.sopx ((s.port p).pd.lane x.msg.sopx).txId s = _
    unfold execGoodcrcReceived
    rw [State.onGoodCrc_last hx hph hl]
  · refine ⟨_, (execTreceiveExpiry_wait hrun hx hph).trans (congrArg Host.Outcome.next (if_neg (Nat.not_le.2 hcur))), ?_⟩
    exact State.settle_out (State.endTx_out (s := s.stop p .tReceive))
  · refine ⟨_, (execTreceiveExpiry_wait hrun hx hph).trans (congrArg Host.Outcome.next (if_pos hcur)), ?_⟩
    rw [State.settle_busy (by rw [State.modPd_eq, State.port_setPort_self]; rfl), State.modPd_eq, State.port_setPort_self]
  · refine ⟨_, congrArg Host.Outcome.next (State.onExpiry_runs _ _ hrun), ?_⟩
    rw [State.modPd_eq, State.port_setPort_self, State.stop_port_pd, hx]
    exact congrArg some (if_pos hph)
  · refine ⟨_, congrArg Host.Outcome.next ((if_neg (not_not.2 hst)).trans (if_pos rfl)), ?_, ?_⟩
    · rw [State.modPd_eq, State.port_setPort_self, hx]
      exact congrArg some (if_pos hph)
    · rw [State.modPd_eq, State.port_setPort_self]
  · refine ⟨_, congrArg Host.Outcome.next (if_pos ⟨hr, hset⟩), ?_⟩
    show _ ∈ (((s.dropFirst p).2.foldl (fun u n => u.note p n) (s.dropFirst p).1).out)
    rw [State.dropFirst_held hx hf ht hph, ← ht]
    exact State.notes_out (s := (s.endTx p x .abandoned).modPd p fun y => { y with ams := .partner }) State.endTx_out
  · exact congrArg Host.Outcome.next (if_neg fun k => hset k.2)
  · refine ⟨_, congrArg Host.Outcome.next ((if_neg (not_not.2 hst)).trans (if_neg Bool.false_ne_true)), ?_⟩
    rw [State.modPd_eq, State.port_setPort_self]
  · exact congrArg Host.Outcome.next (if_pos hr)
  · exact congrArg Host.Outcome.next (if_neg fun k => absurd (hr.symm.trans k) (by decide))

end Sys2Proof.Machine
end

section
/-! PROOF of O33 (05 Message IDs, GoodCRC and retries; Soft reset, Hard Reset and Cable Reset). -/
namespace Sys2Proof.Machine

variable {s t u : State} {p : PortId}

/-! ### What a session's end leaves of a port -/

/-- A port but for its metering. -/
def Port.unmetered (x : Port) : Port := { x with mtr := {} }

/-- t is s, at port p, but for its metering. -/
def State.Metered (p : PortId) (s t : State) : Prop := (t.port p).unmetered = (s.port p).unmetered

theorem State.Metered.refl : s.Metered p s := rfl

theorem State.Metered.modMtr {f : MtrState → MtrState} (h : s.Metered p t) : s.Metered p (t.modMtr p f) := by
  unfold State.Metered at h ⊢
  rw [State.modMtr_eq, State.port_setPort_self]
  exact h

theorem State.Metered.records (h : s.Metered p t) (k : t.Records u) : s.Metered p u := by
  unfold State.Metered at h ⊢
  rw [State.port_of_aside k.aside]
  exact h

theorem State.Metered.setCtx {k : Nat} {l : List Byte} (h : s.Metered p t) : s.Metered p (t.setCtx k l) := by
  unfold State.setCtx
  split <;> exact h

theorem State.Records.sendCell {f : Nat} {r : Payload} : s.Records (s.sendCell f r) := by
  unfold State.sendCell
  split
  next u e => exact State.Records.refl.putCell (Option.ite_none_right_eq_some.mp e).2
  · exact State.Records.refl.modFlow.modFlow

theorem State.Metered.setSes {x : SesState} (h : s.Metered p t) : s.Metered p { t with ses := x } := h

theorem State.Metered.journal {e : JrnEntry} (h : s.Metered p t) : s.Metered p (t.journal e) := (h.records State.Records.sendCell).setSes

theorem State.Metered.modSes {f : List Byte → List Byte} (h : s.Metered p t) : s.Metered p (t.modSes p f) := by
  unfold State.modSes
  dsimp only
  split
  · exact h
  · split
    · exact h.modMtr.setCtx
    · exact h.modMtr

theorem State.closeSession_metered {r : EndReason} : s.Metered p (s.closeSession p r) := by
  have h : s.Metered p s := .refl
  unfold State.closeSession
  dsimp only
  split
  · exact h
  · have k : s.Metered p (((s.sesMeter p).sesProfile p).modSes p fun b => putLE (putLE (putLE (putLE (putLE b 3 1 1) 4 1 r.code) 40 8 s.now.toNat)
        48 8 s.cal.toNat) 124 1 (getLE (putLE (putLE (putLE (putLE b 3 1 1) 4 1 r.code) 40 8 s.now.toNat) 48 8 s.cal.toNat) 124 1
          ||| if s.bkp.valid then 0 else 2)) := State.Metered.modSes (State.Metered.modSes (State.Metered.modSes h))
    split
    · exact k
    · split
      · exact ((k.records State.Records.refl.event).modMtr.setCtx).journal
      · exact (k.records State.Records.refl.event).modMtr.modMtr

/-! ### A message received -/

/-- What a dropped message of the device's own leaves of a port: its role, the revisions and the duplicates counted. -/
structure Port.Heard (x y : Port) : Prop where
  cc : y.cc = x.cc
  rev : ∀ k, y.pd.revOf k = x.pd.revOf k
  own : y.pd.own = x.pd.own
  dupRx : y.pd.dupRx = x.pd.dupRx

theorem Port.Heard.refl {x : Port} : x.Heard x := ⟨rfl, fun _ => rfl, rfl, rfl⟩

theorem Port.Heard.trans {x y z : Port} (h : x.Heard y) (k : y.Heard z) : x.Heard z :=
  ⟨k.cc.trans h.cc, fun n => (k.rev n).trans (h.rev n), k.own.trans h.own, k.dupRx.trans h.dupRx⟩

theorem PdState.modLane_rev (x : PdState) (k n : Sopx) (f : PdLane → PdLane) : (x.modLane k f).revOf n = x.revOf n ∧ (x.modLane k f).own = x.own := by
  cases k <;> exact ⟨rfl, rfl⟩

theorem PdState.counts_rev (x : PdState) (k n : Sopx) (o : TxOutcome) (b : Bool) : (x.counts k o b).revOf n = x.revOf n ∧ (x.counts k o b).own = x.own := by
  unfold PdState.counts
  dsimp only
  split
  · exact PdState.modLane_rev x k n _
  · exact ⟨rfl, rfl⟩

theorem State.endTx_port (x : PdTx) (o : TxOutcome) : (s.endTx p x o).port p = { s.port p with
    pd := { (s.port p).pd.counts x.msg.sopx o (decide (0 < x.tries)) with tx := none }
    tmr := (s.port p).tmr.filter fun t => !([.tReceive, .chunkTx, .amsWait] : List Tmr).contains t } := by
  unfold State.endTx
  rw [State.port_of_aside State.Records.popMsg.aside, State.emit_port, State.stopAll, State.modPort_eq, State.port_setPort_self,
    State.modPd_eq, State.port_setPort_self]

theorem State.endTx_heard (x : PdTx) (o : TxOutcome) : (s.port p).Heard ((s.endTx p x o).port p) := by
  rw [State.endTx_port]
  exact ⟨rfl, fun k => (PdState.counts_rev _ _ k _ _).1, (PdState.counts_rev _ _ .sop _ _).2, PdState.counts_dupRx _ _ _ _⟩

theorem State.dropFirst_heard : (s.port p).Heard ((s.dropFirst p).1.port p) := by
  unfold State.dropFirst
  split
  next x _ =>
    split
    · rw [State.modPd_eq, State.port_setPort_self]
      exact (State.endTx_heard x .abandoned).trans ⟨rfl, fun _ => rfl, rfl, rfl⟩
    · exact .refl
  · exact .refl

theorem State.dropPending_heard (m : PdMsg) : (s.port p).Heard ((s.dropPending p m).1.port p) := by
  unfold State.dropPending
  split
  next x _ =>
    split
    · exact State.endTx_heard x .abandoned
    · exact .refl
  · exact .refl

/-- The port as it answers. -/
theorem State.answered_spec (m : PdMsg) : (s.port p).Heard ((s.answered p m).port p)
    ∧ ((s.answered p m).port p).goodCrcOf p m ∈ (s.answered p m).out := by
  unfold State.answered
  have ht : (s.port p).Heard ((if m.sopx = .sop then s.dropFirst p else (s, [])).1.port p) := by
    split
    · exact State.dropFirst_heard
    · exact .refl
  exact ⟨ht.trans (State.dropPending_heard m), List.mem_append_right _ List.mem_cons_self⟩

theorem Port.Heard.goodCrcOf {x y : Port} (h : x.Heard y) (m : PdMsg) : y.goodCrcOf p m = x.goodCrcOf p m := by
  unfold Port.goodCrcOf
  rw [h.cc, h.rev, h.own]

/-- A duplicate is counted after it has been answered. -/
theorem State.pdTake_dup {m : PdMsg} (hr : (s.port p).pdRuns = true) (hs : (s.port p).sopOk m.sopx = true)
    (hd : ((s.port p).pd.lane m.sopx).rxId = some m.mid) (h13 : m.isCtrl 13 = false) :
    (s.pdTake p m).1 = ((s.answered p m).modPd p fun x => { x with dupRx := satInc x.dupRx }).nextTx p := by
  unfold State.pdTake
  extract_lets +onlyGivenNames q
  split
  next k => exact absurd k (by simp [q, hr, hs])
  · split
    next t n1 eq1 =>
    split
    next u n2 eq2 =>
    extract_lets +onlyGivenNames s1 soft dup
    have hdup : dup = true := by simp [dup, soft, q, hd, h13]
    have h1 : s.answered p m = s1 := by
      unfold State.answered
      rw [eq1]
      dsimp only
      rw [eq2]
    rw [if_pos hdup, h1]

section
variable {pin : Pin} {set : OrdSet} {m : PdMsg} {k : Sopx}

theorem Port.hears_active {q : Port} (hr : q.pdRuns = true) (hpin : q.cc.active = some pin) : q.hears pin = true := by
  simp [Port.hears, hr, hpin]

/-- A message taken: the revision of a first Request is noted, and the sequencer goes on. -/
theorem execPdMessageReceived_taken (hset : set.sopx = some k) (hr : (s.port p).pdRuns = true) (hst : (s.port p).cc.st ≠ .debugAcc)
    (hpin : (s.port p).cc.active = some pin) (hlen : m.lenOk = true) : ∃ (u : State) (l : List PdNote), execPdMessageReceived p pin ⟨set, m⟩ s = .next (u.settle p l)
      ∧ ∀ I : Inv, (s.pdTake p { m with sopx := k }).1.Meets I → u.Meets I := by
  have hpin' : s.takePin p pin k = s := if_neg fun h => hst h.1
  refine ⟨if k = .sop ∧ m.isData 2 then (s.pdTake p { m with sopx := k }).1.modPd p fun x =>
    if x.revSop ≠ 0 then x else { x with revSop := BitVec.ofNat 2 (max 1 (min x.own m.rev)) } else (s.pdTake p { m with sopx := k }).1,
    (s.pdTake p { m with sopx := k }).2, ?_, fun I h => ?_⟩
  · show Host.Outcome.next (match set.sopx with | none => s | some k => _) = _
    rw [hset]
    dsimp only
    have hlen' : ({ m with sopx := k } : PdMsg).lenOk = true := hlen
    rw [if_neg (not_not.2 (Port.hears_active hr hpin)), if_neg (not_not.2 hlen'), hpin', if_neg (not_not.2 hpin)]
    rfl
  · exact (h.modPd (by intro _; split <;> rfl) fun _ e => by split <;> exact e).either h

end

theorem Port.gauge_dupRx {q : Port} : q.gauge.dupRx = q.pd.dupRx := rfl

/-! ### Hard Reset -/

theorem State.enterHold_pend (st : PortSt) : ((s.enterHold p st).port p).pd.hrPend = false := by
  have hstop : ((s.pdStop p).port p).pd.hrPend = false := by
    unfold State.pdStop
    rw [State.modPd_eq, State.port_setPort_self]
  unfold State.enterHold
  extract_lets +onlyGivenNames gone s1 s2 s3 s4
  have h3 : (s3.port p).pd.hrPend = false := by
    simp only [s3, s2, s1, State.start_port_pd, State.modSwap_eq, State.modCc_eq, State.modEf_eq, State.port_setPort_self]
    exact hstop
  have h4 : (s4.port p).pd.hrPend = false := by
    unfold s4
    split
    · simp only [State.detachRecord, State.modMtr_eq, State.port_setPort_self, State.eventP_port]
      exact h3
    · exact h3
  clear_value s4
  split
  · simp only [State.presentWin, State.modCc_eq, State.port_setPort_self]
    exact h4
  · exact h4

theorem State.tripSignalled_pend (h : (s.port p).pd.hrPend = false) : ((s.tripSignalled p).port p).pd.hrPend = false := by
  unfold State.tripSignalled
  split
  · split
    · exact State.enterHold_pend _
    · exact h
  · split
    · exact State.enterHold_pend _
    · exact h

/-- The wait of a Hard Reset: tPSHardReset where it has just been asked for. -/
theorem State.hrWait_port : ((s.hrWait p).port p).pd = { (s.port p).pd with hrPend := false } ∧ ((s.hrWait p).port p).pol = (s.port p).pol
    ∧ ((s.port p).swap.hrStep = 1 → ((s.hrWait p).port p).swap.hrStep = 2 ∧ (s.hrWait p).runs p .psHardReset = true) := by
  unfold State.hrWait
  extract_lets u
  have hpd : (u.port p).pd = { (s.port p).pd with hrPend := false } := by
    unfold u
    rw [State.modPd_eq, State.port_setPort_self]
  have hpol : (u.port p).pol = (s.port p).pol := by
    unfold u
    rw [State.modPd_eq, State.port_setPort_self]
  have hswap : (u.port p).swap = (s.port p).swap := by
    unfold u
    rw [State.modPd_eq, State.port_setPort_self]
  clear_value u
  split
  · refine ⟨?_, ?_, fun _ => ⟨?_, State.runs_start _⟩⟩
    · rw [State.start_port_pd, State.modSwap_eq, State.port_setPort_self, hpd]
    · rw [State.start_port_pol, State.modSwap_eq, State.port_setPort_self, hpol]
    · rw [State.start_port_swap, State.modSwap_eq, State.port_setPort_self]
  next h => exact ⟨hpd, hpol, fun k => absurd (hswap ▸ k) h⟩

/-- The record of a received Hard Reset leaves the sequencer, the PD layer and the swap. -/
theorem State.hrRecord_received : ((s.hrRecord p true).port p).pd = (s.port p).pd ∧ ((s.hrRecord p true).port p).pol = (s.port p).pol
    ∧ ((s.hrRecord p true).port p).swap = (s.port p).swap := by
  have hnote : s.Metered p (s.hrNote p true) := ((State.Metered.refl (s := s)).records State.Records.refl.eventP).modSes
  unfold State.hrRecord
  rw [State.endPort_port]
  simp only [State.stop_port_pd, State.stop_port_pol, State.stop_port_swap, State.modCnv_eq, State.port_setPort_self, State.finishAll_port]
  generalize s.hrNote p true = u at hnote ⊢
  have hpd := congrArg Port.pd hnote
  have hpol := congrArg Port.pol hnote
  have hswap := congrArg Port.swap hnote
  exact ⟨hpd, hpol, hswap⟩

theorem State.pdClear_tx (o : TxOutcome) : ((s.pdClear p o).port p).pd.tx = none := by
  unfold State.pdClear
  rw [State.modPd_eq, State.port_setPort_self, State.stop_port_pd]
  unfold State.flushTx
  extract_lets x u v w
  rw [State.stopAll, State.modPort_eq, State.port_setPort_self, State.modPd_eq, State.port_setPort_self]

theorem State.endEpr_pd (n : Nat) : ((s.endEpr p n).port p).pd = (s.port p).pd := by
  unfold State.endEpr
  split
  · rw [State.eventP_port, State.modPol_eq, State.port_setPort_self, State.stop_port_pd]
  · rfl

theorem State.endContract_port : ((s.endContract p).port p).pd.tx = (s.port p).pd.tx ∧ ((s.endContract p).port p).pol.contract = none := by
  unfold State.endContract State.commitFloor
  simp only [State.modPol_eq, State.modPd_eq, State.port_setPort_self, State.endEpr_pd, true_and]

theorem State.fleetCut_port : ((s.fleetCut p).port p).pd = (s.port p).pd ∧ ((s.fleetCut p).port p).pol = (s.port p).pol := by
  unfold State.fleetCut
  dsimp only
  split
  · exact ⟨rfl, rfl⟩
  · rw [State.eventP_port, State.modPod_eq, State.port_setPort_self]
    exact ⟨rfl, rfl⟩

theorem State.dropPartnerWork_port : ((s.dropPartnerWork p).port p).pd = (s.port p).pd
    ∧ ((s.dropPartnerWork p).port p).pol.contract = (s.port p).pol.contract := by
  obtain ⟨hpd, hpol⟩ := State.fleetCut_port (s := s) (p := p)
  unfold State.dropPartnerWork
  simp only [State.modPol_eq, State.modPod_eq, State.port_setPort_self, hpd, hpol, and_self]

theorem State.hrLanding_port : ((s.hrLanding p).port p).pd = (s.port p).pd ∧ ((s.hrLanding p).port p).pol = (s.port p).pol := by
  unfold State.hrLanding
  extract_lets w u
  have hu : (u.port p).pd = (s.port p).pd ∧ (u.port p).pol = (s.port p).pol := by
    unfold u
    split
    · have h := State.closeSession_metered (s := s) (p := p) (r := .supply)
      have hpd := congrArg Port.pd h
      have hpol := congrArg Port.pol h
      simp only [State.cnvStop, State.modSwap_eq, State.modCnv_eq, State.port_setPort_self]
      exact ⟨hpd, hpol⟩
    · exact ⟨rfl, rfl⟩
  rw [State.modSwap_eq, State.port_setPort_self]
  exact hu

theorem State.stopAll_port (l : List Tmr) : ((s.stopAll p l).port p).pd = (s.port p).pd ∧ ((s.stopAll p l).port p).pol = (s.port p).pol := by
  unfold State.stopAll
  rw [State.modPort_eq, State.port_setPort_self]
  exact ⟨rfl, rfl⟩

/-- A Hard Reset begun: no message in transmission, no contract, step H1. -/
theorem State.hrStart_port : ((s.hrStart p .hardReset).port p).pd.tx = none ∧ ((s.hrStart p .hardReset).port p).pol.contract = none
    ∧ ((s.hrStart p .hardReset).port p).pol.seq = .hardReset ∧ ((s.hrStart p .hardReset).port p).swap.hrStep = 1 := by
  unfold State.hrStart
  extract_lets s1 s2 s3 s4 s5
  have h2 : (s2.port p).pd.tx = none := State.pdClear_tx _
  have h3 : (s3.port p).pd.tx = none ∧ (s3.port p).pol.contract = none := by
    obtain ⟨e1, e2⟩ := State.endContract_port (s := s2) (p := p)
    obtain ⟨d1, d2⟩ := State.dropPartnerWork_port (s := s2.endContract p) (p := p)
    have hpd : (((s2.endContract p).dropPartnerWork p).port p).pd.tx = none := by rw [d1, e1, h2]
    rw [e2] at d2
    obtain ⟨t1, t2⟩ := State.stopAll_port (s := (s2.endContract p).dropPartnerWork p) (p := p) polTimers
    have hs3 : s3 = (((s2.endContract p).dropPartnerWork p).stopAll p polTimers).hrLanding p := rfl
    generalize ((s2.endContract p).dropPartnerWork p).stopAll p polTimers = u at t1 t2 hs3
    clear_value s3
    subst hs3
    obtain ⟨l1, l2⟩ := State.hrLanding_port (s := u) (p := p)
    exact ⟨by rw [l1, t1, hpd], by rw [l2, t2, d2]⟩
  have h5 : (s5.port p).pd.tx = none ∧ (s5.port p).pol.contract = none ∧ (s5.port p).pol.seq = .hardReset := by
    clear_value s3
    simp only [s5, s4, State.modCc_eq, State.modPol_eq, State.port_setPort_self]
    exact ⟨h3.1, h3.2, trivial⟩
  clear_value s5
  rw [if_pos (rfl : SeqSt.hardReset = SeqSt.hardReset), State.modSwap_eq, State.port_setPort_self]
  exact ⟨h5.1, h5.2.1, h5.2.2, rfl⟩

/-- Settles O33: what follows a message's GoodCRC takes nothing back, and counts no duplicate. -/
theorem pdReceipt : Obligations.PdReceipt := by
  unfold Obligations.PdReceipt
  intro s p pin set m q sop
  refine ⟨fun k hset hr hst hpin hok hlen => ?_, fun k hset hr hst hpin hok hlen hd h13 => ?_, fun k hset hr hpin hlen => ?_, fun hset => ?_,
    fun hst hpin => ?_, fun a hrun ha => ?_, fun hp => ?_, fun hp => ?_, fun hr hp hst => ?_, fun hr => ?_, rfl⟩
  · obtain ⟨u, l, he, hI⟩ := execPdMessageReceived_taken hset hr hst hpin hlen
    obtain ⟨hh, ho⟩ := State.answered_spec (s := s) (p := p) { m with sopx := k }
    have h1 : (s.pdTake p { m with sopx := k }).1.Meets { off := fun _ => True, sent := (s.answered p { m with sopx := k }).out } :=
      State.Meets.pdTake_of (not_or.2 ⟨not_not.2 hr, not_not.2 hok⟩) ⟨trivial, List.prefix_rfl, fun _ => trivial, nofun, nofun, nofun⟩ ⟨fun _ _ => trivial, rfl⟩
    refine ⟨_, he, (hI _ h1).settle.sent.mem ?_⟩
    rw [hh.goodCrcOf] at ho
    exact ho
  · obtain ⟨u, l, he, hI⟩ := execPdMessageReceived_taken hset hr hst hpin hlen
    have hh := (State.answered_spec (s := s) (p := p) { m with sopx := k }).1
    have h1 : (s.pdTake p { m with sopx := k }).1.Meets { off := fun _ => True, gauge := fun r g => r = p → g.dupRx = satInc q.pd.dupRx } := by
      rw [State.pdTake_dup (m := { m with sopx := k }) hr hok hd h13]
      refine State.Meets.nextTx ⟨trivial, List.nil_prefix, fun r e => ?_, nofun, nofun, nofun⟩
      subst e
      rw [State.modPd_eq, State.port_setPort_self]
      exact congrArg satInc hh.dupRx
    exact ⟨_, he, Port.gauge_dupRx.symm.trans ((hI _ h1).settle.gauge p rfl)⟩
  · show Host.Outcome.next (match set.sopx with | none => s | some k => _) = _
    rw [hset]
    dsimp only
    rw [if_neg (not_not.2 (Port.hears_active hr hpin)), if_pos (by rw [show ({ m with sopx := k } : PdMsg).lenOk = m.lenOk from rfl, hlen]; decide)]
    exact congrArg Host.Outcome.next (if_pos hr)
  · show Host.Outcome.next (match set.sopx with | none => s | some k => _) = _
    rw [hset]
  · have hno : (s.port p).hears pin = false := by
      simp only [Port.hears, Bool.and_eq_false_iff, Bool.or_eq_false_iff, beq_eq_false_iff_ne]
      exact .inr ⟨hpin, .inl hst⟩
    show Host.Outcome.next (match set.sopx with | none => s | some k => _) = _
    cases set.sopx with
    | none => rfl
    | some k => exact congrArg Host.Outcome.next (if_pos (by rw [hno]; decide))
  · refine ⟨_, congrArg Host.Outcome.next ((if_pos hrun).trans (if_pos ?_)), ?_⟩
    · rw [State.stop_port_pd, show (s.port p).pd.asm = some a from ha]
      rfl
    · refine (State.Meets.settle (I := { off := fun _ => True, idleRx := some p }) ⟨trivial, List.nil_prefix, fun _ => trivial, nofun, nofun, ?_⟩).idleRx p rfl
      intro r e
      cases e
      rw [State.modPd_eq, State.port_setPort_self]
  · refine ⟨_, congrArg Host.Outcome.next (if_pos hp), State.tripSignalled_pend (by rw [State.hrWait_port.1]), ?_⟩
    exact (State.Meets.hrRecord (s := s.emit (.hardReset p)) (I := { off := fun _ => True, sent := s.out ++ [.hardReset p] })
      ⟨trivial, List.prefix_rfl, fun _ => trivial, nofun, nofun, nofun⟩).hrWait.tripSignalled.sent.mem (List.mem_append_right _ List.mem_cons_self)
  · exact congrArg Host.Outcome.next (if_neg fun k => absurd (hp.symm.trans k) (by decide))
  · obtain ⟨htx, hcon, hseq, hstep⟩ := State.hrStart_port (s := s) (p := p)
    obtain ⟨rpd, rpol, rswap⟩ := State.hrRecord_received (s := s.hrStart p .hardReset) (p := p)
    obtain ⟨wpd, wpol, wstep⟩ := State.hrWait_port (s := (s.hrStart p .hardReset).hrRecord p true) (p := p)
    refine ⟨_, congrArg Host.Outcome.next ((if_neg (not_not.2 hr)).trans ((if_neg fun k => absurd (hp.symm.trans k) (by decide)).trans (if_neg hst))),
      ?_, ?_, ?_, wstep (by rw [rswap, hstep])⟩
    · rw [wpol, rpol, hseq]
    · rw [wpol, rpol, hcon]
    · rw [wpd, rpd, htx]
  · exact congrArg Host.Outcome.next (if_pos fun k => absurd (hr.symm.trans k) (by decide))

end Sys2Proof.Machine
end

section
/-! SUPPORT AND PROOFS for the path guard (O38): what the path's moves, the start of the converter and a trip leave of a port, and from
there on `State.Rests`: a path that is OPENING, the latch and a converter at rest stay through the rest of a trip. -/
namespace Sys2Proof.Machine

variable {s : State} {p : PortId}

/-! ### Moves of the path -/

/-- A move to a state other than CLOSING and OFF: the path's outputs, the monitors' routing and the good-service time. -/
theorem State.pathTo_port {st : PathSt} (hc : st ≠ .closing) (ho : st ≠ .off) : ∃ m l, (s.pathTo p st).port p =
    { s.port p with ef := (s.port p).ef.enter st, wm := { (s.port p).wm with mode := m }, tmr := l } := by
  unfold State.pathTo
  extract_lets old s1 s2 s3 s4 s5
  have h2 : ∃ m, s2.port p = { s.port p with ef := (s.port p).ef.enter st, wm := { (s.port p).wm with mode := m } } := by
    have e : s2 = s1 := if_neg hc
    rw [e]
    unfold s1
    simp only [State.modEf_eq, State.modWm_eq, State.setPort_setPort, State.port_setPort_self]
    exact ⟨_, rfl⟩
  obtain ⟨m, h2⟩ := h2
  clear_value s2
  rw [if_neg ho]
  unfold s3
  split
  · exact ⟨m, _, by rw [State.start_eq, State.port_setPort_self, h2]⟩
  · exact ⟨m, _, by rw [State.stop_eq, State.port_setPort_self, h2]⟩

/-- A path that is on opens, and the converter stops. -/
theorem State.openPath_port (h : (s.port p).ef.path.live = true) : ∃ c m l, c.run = false ∧ (s.openPath p).port p =
    { s.port p with
      cnv := c, ef := { (s.port p).ef with reason := .none, bfCmd := false, bfOn := false }.enter .opening
      wm := { (s.port p).wm with mode := m }, tmr := l } := by
  unfold State.openPath
  extract_lets s1 s2
  have h2 : ∃ c, c.run = false ∧ s2.port p =
      { s.port p with cnv := c, ef := { (s.port p).ef with reason := .none, bfCmd := false, bfOn := false } } := by
    unfold s2 s1 State.cnvStop
    simp only [State.modEf_eq, State.modCnv_eq, State.setPort_setPort, State.port_setPort_self]
    exact ⟨_, rfl, rfl⟩
  obtain ⟨c, hc, h2⟩ := h2
  clear_value s2
  have hpath : (s2.port p).ef.path = (s.port p).ef.path := by rw [h2]
  obtain ⟨m, l, k⟩ := State.pathTo_port (s := s2) (p := p) (st := .opening) (by decide) (by decide)
  have hlive : ¬ ((s2.port p).ef.path = .off ∨ (s2.port p).ef.path = .opening) := by
    rw [hpath]
    rintro (e | e) <;> simp [e, PathSt.live] at h
  rw [if_neg hlive]
  exact ⟨c, m, l, hc, by rw [k, h2]⟩

/-! ### The converter's start -/

theorem State.track_port (m : Fin 32) (f : Port → Wm → Wm) : ∃ v, (s.track p m f).port p = { s.port p with wm := { (s.port p).wm with m := v } } :=
  ⟨_, by unfold State.track State.modMon; rw [State.modWm_eq, State.port_setPort_self]⟩

theorem State.trackPeaks_port : ∃ v, (s.trackPeaks p).port p = { s.port p with wm := { (s.port p).wm with m := v } } := by
  unfold State.trackPeaks
  obtain ⟨_, h1⟩ := State.track_port (s := s) (p := p) 1 fun q => trackPeak q .a
  generalize s.track p 1 _ = u at h1 ⊢
  obtain ⟨_, h2⟩ := State.track_port (s := u) (p := p) 2 fun q => trackPeak q .b
  generalize u.track p 2 _ = v at h2 ⊢
  obtain ⟨_, h3⟩ := State.track_port (s := v) (p := p) 3 fun q => trackPeak q .c
  exact ⟨_, by rw [h3, h2, h1]⟩

/-- The converter starts for 5 V. -/
theorem State.startUp_port : ∃ c w, c.run = true ∧ c.setMv = 5000 ∧ (s.startUp p).port p = { s.port p with cnv := c, wm := w } := by
  unfold State.startUp State.setILim
  generalize (s.port p).ef.now.inrush.fld 7 0 * 50 = ma
  have h1 : ∃ c, c.run = true ∧ c.setMv = 5000 ∧ ((s.cnvStart p).modCnv p fun c => { c with ilSeq := ma }).port p = { s.port p with cnv := c } := by
    unfold State.cnvStart
    simp only [State.modCnv_eq, State.setPort_setPort, State.port_setPort_self]
    exact ⟨_, rfl, rfl, rfl⟩
  obtain ⟨c, hr, hm, h1⟩ := h1
  generalize (s.cnvStart p).modCnv p _ = u at h1 ⊢
  obtain ⟨v, h2⟩ := State.trackPeaks_port (s := u) (p := p)
  exact ⟨c, _, hr, hm, by rw [h2, h1]⟩

theorem State.vconnStart_port : ∃ c w, (s.vconnStart p).port p = { s.port p with cc := c, swap := w } := by
  unfold State.vconnStart State.vconnApply
  split
  · simp only [State.modCc_eq, State.modSwap_eq, State.setPort_setPort, State.port_setPort_self]
    exact ⟨_, _, rfl⟩
  · exact ⟨_, _, rfl⟩

/-- The path is ON and its converter runs for 5 V. -/
theorem State.onRise_port : ∃ c w cc sw l, c.run = true ∧ c.setMv = 5000
    ∧ (((((s.pathTo p .on).modEf p fun e => { e with reason := .none }).vconnStart p).startUp p).port p) =
      { s.port p with ef := { (s.port p).ef.enter .on with reason := .none }, cnv := c, wm := w, cc := cc, swap := sw, tmr := l } := by
  obtain ⟨m, l, h1⟩ := State.pathTo_port (s := s) (p := p) (st := .on) (by decide) (by decide)
  generalize s.pathTo p .on = u1 at h1 ⊢
  have h2 : (u1.modEf p fun e => { e with reason := .none }).port p = { u1.port p with ef := { (u1.port p).ef with reason := .none } } := by
    rw [State.modEf_eq, State.port_setPort_self]
  generalize (u1.modEf p fun e => { e with reason := .none }) = u2 at h2 ⊢
  obtain ⟨cc, sw, h3⟩ := State.vconnStart_port (s := u2) (p := p)
  generalize u2.vconnStart p = u3 at h3 ⊢
  obtain ⟨c, w, hr, hm, h4⟩ := State.startUp_port (s := u3) (p := p)
  exact ⟨c, w, cc, sw, l, hr, hm, by rw [h4, h3, h2, h1]⟩

/-! ### Trips and latching faults -/

/-- After the opening, the latch of a fault stays. -/
theorem State.latchPort_rests (code : Nat) :
    ((s.openPath p).modEf p fun e => { e with latch := BitVec.ofNat 4 code }).Rests false (s.latchPort p code) := by
  unfold State.latchPort
  extract_lets u
  exact State.Rests.refl.enterHold.either (State.Rests.refl.either State.Rests.refl.tripAway)

theorem State.latchPort_opening (h : (s.port p).ef.path = .opening) (code : Nat) : ((s.latchPort p code).port p).ef.path = .opening
    ∧ ((s.latchPort p code).port p).ef.gateOn = (s.port p).ef.gateOn ∧ ((s.latchPort p code).port p).cnv.run = false := by
  have hr := (State.latchPort_rests (s := s) (p := p) code).port p
  have h1 : ((s.openPath p).port p).cnv.run = false := by
    unfold State.openPath
    extract_lets u v
    have hv : (v.port p).cnv.run = false := by
      unfold v u State.cnvStop
      simp only [State.modEf_eq, State.modCnv_eq, State.setPort_setPort, State.port_setPort_self]
    have hp : (v.port p).ef.path = .opening := by
      unfold v u State.cnvStop
      simp only [State.modEf_eq, State.modCnv_eq, State.setPort_setPort, State.port_setPort_self, h]
    rw [if_pos (.inr hp)]
    exact hv
  obtain ⟨h2, h3⟩ := ((State.Rests.refl (b := false) (s := s)).openPath.port p).ef.path h
  generalize s.openPath p = u at h1 h2 h3 hr
  generalize s.latchPort p code = v at hr ⊢
  rw [State.modEf_eq, State.port_setPort_self] at hr
  obtain ⟨h4, h5⟩ := hr.ef.path h2
  exact ⟨h4, h5.trans h3, hr.cnv.run h1⟩

theorem State.latchPort_latch (code : Nat) : ((s.latchPort p code).port p).ef.latch = BitVec.ofNat 4 code := by
  rw [((State.latchPort_rests code).port p).ef.latch, State.modEf_eq, State.port_setPort_self]

theorem EfState.afterTrip_counted {e : EfState} {c : TripCause} (hc : c.counted = true) :
    (e.afterTrip [c]).1.retryCnt = e.retryCnt + 1 ∧ (e.afterTrip [c]).1.path = e.path := by
  have hn : BitVec.ofNat 4 (e.retryCnt.toNat + 1) = e.retryCnt + 1 := by
    apply BitVec.eq_of_toNat_eq
    simp
  cases c <;> simp [TripCause.counted] at hc <;> (unfold EfState.afterTrip; simp [TripCause.counted]; split <;> simp [hn])

/-- A counted cause on a path that is on: the path opens, the converter stops, the retry counter goes up, and the rest of the trip leaves
that so. -/
theorem State.trip_counted {c : TripCause} {mon : Option Nat} (ht : (s.port p).ef.tripping = none) (hl : (s.port p).ef.path.live = true)
    (hc : c.counted = true) : ∃ u : State, u.Rests false (s.trip p c mon) ∧ (u.port p).ef.path = .opening ∧ (u.port p).ef.gateOn = false
      ∧ (u.port p).ef.retryCnt = (s.port p).ef.retryCnt + 1 ∧ (u.port p).cnv.run = false ∧ (u.port p).wm.ffActive = (s.port p).wm.ffActive := by
  unfold State.trip
  extract_lets +onlyGivenNames q
  unfold q
  rw [ht]
  dsimp -zeta only
  rw [if_neg (not_not.2 hl)]
  obtain ⟨hcnt, hpath⟩ := EfState.afterTrip_counted (e := (s.port p).ef) hc
  extract_lets +onlyGivenNames acts gate counted donor dest' e' s1 s2 s3 s4
  have he' : e'.path.live = true ∧ e'.retryCnt = (s.port p).ef.retryCnt + 1 := ⟨(congrArg PathSt.live hpath).trans hl, hcnt⟩
  clear_value e'
  have hm : (s.modEf p fun _ => e').port p = { s.port p with ef := e' } := by rw [State.modEf_eq, State.port_setPort_self]
  obtain ⟨d, m, l, hrun, h1⟩ := State.openPath_port (s := s.modEf p fun _ => e') (p := p) (by rw [hm]; exact he'.1)
  rw [hm] at h1
  refine ⟨s1, ?_, by rw [h1]; rfl, by rw [h1]; rfl, by rw [h1]; exact he'.2, by rw [h1]; exact hrun, by rw [h1]⟩
  have r2 : s1.Rests false s2 := State.Rests.refl.start.either State.Rests.refl
  have r4 : s1.Rests false s4 := r2.event.gateRecord.either r2.event
  clear_value s4
  refine r4.frF3.either ?_
  cases dest' with
  | some st => exact r4.tripAway
  | none => exact r4.pathLost.vconnOff.endPort

/-- Settles O38: from the moves of the path; the trips through `State.Rests`. -/
theorem pathGuard : Obligations.PathGuard := by
  unfold Obligations.PathGuard
  intro s p q e u
  have hu : u.port p = { q with ef := { e with vbusMv := min e.vbusMv 800, provenWait := false } } := by
    unfold u
    rw [State.modEf_eq, State.port_setPort_self]
  have huPath : (u.port p).ef.path = e.path := by rw [hu]
  refine ⟨fun hp hd => ?_, fun hp hd => ?_, fun hp => ?_, fun hp hr => ?_, fun hp hr hc => ?_, fun hp hr hc => ?_, fun hp => ?_,
    fun mv hp => ?_, fun hp ht => ?_, fun hs hp ht => ?_, fun hd hx => ?_, fun hd hg ht => ?_, fun hd => ?_, fun hrun hp => ?_⟩
  · have hl : (u.port p).wm.legsDone = true := by rw [hu]; exact hd
    show execVsafe0vProven p s = _
    unfold execVsafe0vProven
    extract_lets v
    rw [show v = u from rfl, huPath, hp]
    exact congrArg Host.Outcome.next (if_pos hl)
  · have hl : (u.port p).wm.legsDone = false := by rw [hu]; exact hd
    show execVsafe0vProven p s = _
    unfold execVsafe0vProven
    extract_lets v
    rw [show v = u from rfl, huPath, hp]
    exact congrArg Host.Outcome.next (if_neg (by rw [hl]; decide))
  · show execVsafe0vProven p s = _
    unfold execVsafe0vProven
    extract_lets v
    rw [show v = u from rfl, huPath, hp]
  · obtain ⟨c, w, cc, sw, l, hrun, hmv, h⟩ := State.onRise_port (s := s) (p := p)
    show ∃ t, execGateRiseComplete p s = .next t ∧ _
    unfold execGateRiseComplete
    rw [if_neg (not_not.2 hp)]
    rw [show (s.port p).ef.reason = .attach from hr]
    refine ⟨_, rfl, ?_⟩
    dsimp only
    generalize ((((s.pathTo p .on).modEf p fun e => { e with reason := .none }).vconnStart p).startUp p) = v at h ⊢
    simp only [State.eventP_port, State.toStartup, State.modCc_eq, State.modPd_eq, State.modPol_eq, State.port_setPort_self, h]
    exact ⟨rfl, rfl, trivial, trivial, trivial, trivial, hrun, hmv⟩
  · obtain ⟨c, w, cc, sw, l, hrun, hmv, h⟩ := State.onRise_port (s := s) (p := p)
    show ∃ t, execGateRiseComplete p s = .next t ∧ _
    unfold execGateRiseComplete
    rw [if_neg (not_not.2 hp)]
    rw [show (s.port p).ef.reason = .hardReset from hr]
    refine ⟨_, rfl, ?_⟩
    dsimp only
    generalize ((((s.pathTo p .on).modEf p fun e => { e with reason := .none }).vconnStart p).startUp p) = v at h ⊢
    have hle : ((v.modSwap p fun w => { w with hrStep := 6 }).port p).pol.hrCtr ≤ 2 := by
      rw [State.modSwap_eq, State.port_setPort_self, h]
      exact hc
    rw [if_pos hle]
    simp only [State.toStartup, State.modSwap_eq, State.modPol_eq, State.port_setPort_self, h]
    exact ⟨rfl, trivial, trivial⟩
  · obtain ⟨c, w, cc, sw, l, hrun, hmv, h⟩ := State.onRise_port (s := s) (p := p)
    show ∃ t, execGateRiseComplete p s = .next t ∧ _
    unfold execGateRiseComplete
    rw [if_neg (not_not.2 hp)]
    rw [show (s.port p).ef.reason = .hardReset from hr]
    refine ⟨_, rfl, ?_⟩
    dsimp only
    generalize ((((s.pathTo p .on).modEf p fun e => { e with reason := .none }).vconnStart p).startUp p) = v at h ⊢
    have hle : ¬ ((v.modSwap p fun w => { w with hrStep := 6 }).port p).pol.hrCtr ≤ 2 := by
      rw [State.modSwap_eq, State.port_setPort_self, h]
      exact Nat.not_le.2 hc
    rw [if_neg hle]
    simp only [State.modSwap_eq, State.port_setPort_self, h]
    exact ⟨rfl, trivial⟩
  · exact congrArg Host.Outcome.next (if_pos hp)
  · refine ⟨_, congrArg Host.Outcome.next (if_pos hp), State.latchPort_latch 2, ?_⟩
    have hl : (s.port p).ef.path.live = true := by rw [show (s.port p).ef.path = .closing from hp]; rfl
    obtain ⟨c, m, l, hrun, h⟩ := State.openPath_port hl
    have h1 : ((s.openPath p).gateRecord p 1 mv).port p = (s.openPath p).port p := State.eventP_port ..
    obtain ⟨h2, h3, h4⟩ := State.latchPort_opening (s := (s.openPath p).gateRecord p 1 mv) (p := p) (by rw [h1, h]; rfl) 2
    exact ⟨h2, h3.trans (by rw [h1, h]; rfl), h4⟩
  · have hl : (s.port p).ef.path.live = true := by rw [show (s.port p).ef.path = .closing from hp]; rfl
    obtain ⟨v, hr, hpath, -, hcnt, hrun, -⟩ := State.trip_counted (c := .inrush) (mon := none) ht hl rfl
    exact ⟨_, congrArg Host.Outcome.next (if_pos hp), ((hr.port p).ef.path hpath).1, (hr.port p).ef.retryCnt.trans hcnt, (hr.port p).cnv.run hrun⟩
  · have hl : (s.port p).ef.path.live = true := by rw [show (s.port p).ef.path = .on from hp]; rfl
    obtain ⟨v, hr, hpath, hgate, hcnt, -, -⟩ := State.trip_counted (c := .softstart) (mon := none) ht hl rfl
    obtain ⟨h1, h2⟩ := (hr.port p).ef.path hpath
    exact ⟨_, congrArg Host.Outcome.next (if_pos hs), h1, h2.trans hgate, (hr.port p).ef.retryCnt.trans hcnt⟩
  · exact congrArg Host.Outcome.next (if_pos ⟨hd, by rw [show (s.port p).ef.unexpSeen = false from hx]; decide⟩)
  · show ∃ t, execPassFetShorted p s = .next t ∧ _
    unfold execPassFetShorted
    extract_lets f v
    have hn : ¬ (¬ f.dsch = true ∨ f.gateOn = true) := not_or.2 ⟨not_not.2 hd, by rw [show f.gateOn = false from hg]; decide⟩
    rw [if_neg hn, show f.tripping = none from ht]
    exact ⟨v.latchPort p 4, rfl, State.latchPort_latch 4⟩
  · exact congrArg Host.Outcome.next (if_pos (.inl (by rw [show (s.port p).ef.dsch = false from hd]; decide)))
  · have hon : ((s.stop p .goodService).port p).ef = e := State.stop_port_ef _
    refine ⟨_, congrArg Host.Outcome.next ((State.onExpiry_runs _ _ hrun).trans (if_pos (by rw [hon]; exact hp))), ?_⟩
    simp only [State.clearRetry, State.modEf_eq, State.modWm_eq, State.port_setPort_self, hon]
    exact ⟨trivial, trivial, hp⟩

end Sys2Proof.Machine
end

section
/-! SUPPORT AND PROOFS for the events of the converter (O40). What is known of the phases stays through the orderly power-down of a
converter fault (`State.Rests`). -/
namespace Sys2Proof.Machine

variable {s : State} {p : PortId}

/-! ### Phases -/

theorem CnvState.ph_modPh (c : CnvState) (x : Ph) (f : PhaseSt → PhaseSt) : (c.modPh x f).ph x = f (c.ph x) := by cases x <;> rfl

theorem CnvState.ph_modAll (c : CnvState) (x : Ph) (f : PhaseSt → PhaseSt) : (c.modAll f).ph x = f (c.ph x) := by cases x <;> rfl

theorem CnvState.activePh_all {c : CnvState} (ha : c.a.active = true) (hb : c.b.active = true) (hc : c.c.active = true) : c.activePh.length = 3 := by
  simp [CnvState.activePh, phases, CnvState.ph, ha, hb, hc]

/-- A light load sheds the third phase. -/
theorem CnvState.shedOne_third {c : CnvState} (hr : c.run = true) (he : c.eff.cfg.getLsbD 11 = true) (hs : c.slewing = false)
    (hc : c.continuous = false) (na : c.a.next = true) (nb : c.b.next = true) (nc : c.c.next = true) (sa : c.a.shed = false)
    (sb : c.b.shed = false) (sc : c.c.shed = false) (ht : c.totMa < 50 * (c.eff.ilim.toNat / 256 % 256 : Nat)) :
    c.shedOne = { c with c := { c.c with shed := true, next := false, offset := true } } := by
  have hshed : (phases.filter fun x => (c.ph x).shed).length = 0 := by simp [phases, CnvState.ph, sa, sb, sc]
  have hnext : (phases.filter fun x => (c.ph x).next).reverse = [.c, .b, .a] := by simp [phases, CnvState.ph, na, nb, nc]
  have hthr : ¬ ((c.eff.ilim.fld 15 8 : Nat) : Int) * 50 ≤ c.totMa := by
    have hf : c.eff.ilim.fld 15 8 = c.eff.ilim.toNat / 256 % 256 := by simp [Word.fld, Nat.shiftRight_eq_div_pow]
    rw [hf]
    omega
  unfold CnvState.shedOne
  extract_lets shed thr
  have hgo : ¬ (¬ c.run = true ∨ ¬ c.eff.cfg.bit 11 = true ∨ c.slewing = true ∨ c.continuous = true ∨ thr ≤ c.totMa ∨ 2 ≤ shed) := by
    unfold thr shed
    simp [hshed, Word.bit, hr, he, hs, hc, hthr]
  rw [if_neg hgo, hnext]
  rfl

theorem CnvState.shedOne_rest {c : CnvState} (hr : c.run = false) : c.shedOne = c := by
  unfold CnvState.shedOne
  rw [hr]
  rfl

/-- The compensation moves by at most 10 mV. -/
theorem CnvState.compStep_bound {c : CnvState} {ma : Int} (h : c.eff.cfg.getLsbD 14 = true) :
    (c.compStep ma).compMv ≤ c.compMv + 10 ∧ c.compMv ≤ (c.compStep ma).compMv + 10 := by
  unfold CnvState.compStep
  extract_lets want v
  have hv : v = if c.compMv < want then min want (c.compMv + 10) else max want (c.compMv - 10) :=
    if_neg (not_not.2 h)
  clear_value v
  subst hv
  show (ite _ _ _) ≤ _ ∧ _ ≤ (ite _ _ _) + 10
  split <;> omega

theorem execCompensationSample_bound {vout vsns ma : Int} {t : State} (he : (s.port p).cnv.eff.cfg.getLsbD 14 = true)
    (ht : execCompensationSample p vout vsns ma s = .next t) :
    (t.port p).cnv.compMv ≤ (s.port p).cnv.compMv + 10 ∧ (s.port p).cnv.compMv ≤ (t.port p).cnv.compMv + 10 := by
  unfold execCompensationSample at ht
  injection ht with ht
  subst ht
  extract_lets +onlyGivenNames q c take first u v
  have hu : (u.port p).cnv.compMv = c.compMv ∧ (u.port p).cnv.eff = c.eff := by
    unfold u
    split
    · exact ⟨rfl, rfl⟩
    · rw [State.modCnv_eq, State.port_setPort_self]
      dsimp only
      split
      · exact ⟨rfl, rfl⟩
      · split <;> exact ⟨rfl, rfl⟩
  have hv : (v.port p).cnv = (u.port p).cnv.compStep ma := by
    unfold v
    rw [State.modCnv_eq, State.port_setPort_self]
  clear_value u v
  have hb := CnvState.compStep_bound (c := (u.port p).cnv) (ma := ma) (by rw [hu.2]; exact he)
  rw [← hv, hu.1] at hb
  split
  · split
    · rw [State.eventP_port]
      exact hb
    · exact hb
  · exact hb

/-! ### Converter faults -/

/-- After the fault's latch the power-down changes nothing of what is known. -/
theorem State.convFault_rests : (s.modEf p fun e => { e with latch := 5 }).Rests false (s.convFault p) := by
  unfold State.convFault
  extract_lets q u
  have hu : (s.modEf p fun e => { e with latch := 5 }).Rests false u := State.Rests.refl.closeSession
  exact (hu.either hu.hrRequest).either hu.openPath.seqOff.vconnOff.endPort.enterHold

theorem State.convFault_port : ((s.convFault p).port p).ef.latch = 5 ∧ (s.port p).cnv.Rests ((s.convFault p).port p).cnv := by
  have h := (State.convFault_rests (s := s) (p := p)).port p
  generalize s.convFault p = u at h ⊢
  rw [State.modEf_eq, State.port_setPort_self] at h
  exact ⟨h.ef.latch, h.cnv⟩

/-- A phase declared failed: it stops switching, the shunt takes its role, and with another failed one the port is stopped. -/
theorem State.declare_port {x : Ph} {sense : Bool} {r : FailRule} : (((s.declare p x sense r).port p).cnv.ph x).failed = true
    ∧ (((s.declare p x sense r).port p).cnv.ph x).sense = sense ∧ (((s.declare p x sense r).port p).cnv.ph x).active = false
    ∧ ((s.declare p x sense r).port p).cnv.shuntTotal = true
    ∧ ((∃ z, ((s.port p).cnv.ph z).failed = true) → ((s.declare p x sense r).port p).ef.latch = 5) := by
  unfold State.declare
  extract_lets c latch s1 s2 s3
  have h2 : ((s2.port p).cnv.ph x).failed = true ∧ ((s2.port p).cnv.ph x).sense = sense ∧ ((s2.port p).cnv.ph x).active = false
      ∧ (s2.port p).cnv.shuntTotal = true := by
    unfold s2
    clear_value s1
    rw [State.modCnv_eq, State.port_setPort_self]
    cases x <;> exact ⟨rfl, rfl, rfl, rfl⟩
  clear_value s2
  have h3 : (s3.port p).cnv = (s2.port p).cnv := by
    obtain ⟨v, hv⟩ := State.trackPeaks_port (s := s2) (p := p)
    obtain ⟨b, hb⟩ := State.latchReneg_port (s := s2.trackPeaks p) (p := p)
    unfold s3
    rw [hb, hv]
  clear_value s3
  rw [← h3] at h2
  obtain ⟨hf, hs, ha, ht⟩ := h2
  by_cases hl : latch = true
  · rw [if_pos hl]
    obtain ⟨h5, hk⟩ := State.convFault_port (s := s3) (p := p)
    exact ⟨(hk.known x).1.trans hf, (hk.known x).2.trans hs, hk.active x ha, hk.total ⟨x, hf⟩ ht, fun _ => h5⟩
  · rw [if_neg hl]
    exact ⟨hf, hs, ha, ht, fun hz => absurd (CnvState.phases_any hz) hl⟩

theorem State.pathNamed_port : ((s.pathNamed p).port p).cnv.pathFail = true ∧ ((s.pathNamed p).port p).ef.latch = 5 := by
  unfold State.pathNamed
  generalize s.senseRecord p true none .inconsistent true = u
  have h1 : ∀ f : CnvState → CnvState, (∀ c, (f c).pathFail = true) → ((u.modCnv p f).port p).cnv.pathFail = true := fun f hf => by
    rw [State.modCnv_eq, State.port_setPort_self]
    exact hf _
  obtain ⟨h5, hk⟩ := State.convFault_port (s := u.modCnv p fun c =>
    { c.modAll (fun y => { y with held := false }) with pathFail := true, isoPending := false, isoWait := 0, isoHold := none, isoOk := []
                                                        incRun := 0, cnt := c.cnt.cntInc 3 }) (p := p)
  exact ⟨hk.pathFail.trans (h1 _ fun _ => rfl), h5⟩

theorem State.endTrim_trim {status : Nat} {d : Quad} : ((s.endTrim p status d).port p).cnv.trim = none := by
  unfold State.endTrim
  split
  next h => exact h
  · simp only [State.finish_port, State.modCnv_eq, State.port_setPort_self]

/-! ### The isolation check -/

/-- What the measurement of a held phase leaves in `isoOk`. -/
def CnvState.found (c : CnvState) (m : IsoMeas) (x : Ph) : List Ph :=
  if decide ((m.sum - m.shunt).natAbs * 10 ≤ m.shunt.natAbs + 1500) then c.isoOk ++ [x] else c.isoOk

theorem CnvState.found_ok {c : CnvState} {m : IsoMeas} (x : Ph) (h : (m.sum - m.shunt).natAbs * 10 ≤ m.shunt.natAbs + 1500) :
    c.found m x = c.isoOk ++ [x] := if_pos (decide_eq_true h)

theorem CnvState.found_bad {c : CnvState} {m : IsoMeas} (x : Ph) (h : ¬ (m.sum - m.shunt).natAbs * 10 ≤ m.shunt.natAbs + 1500) :
    c.found m x = c.isoOk := if_neg (by rw [decide_eq_false h]; decide)

/-- The held phase is released with its verdict. -/
def State.isoDone (s : State) (p : PortId) (x : Ph) (l : List Ph) : State :=
  s.modCnv p fun c => { c.modPh x (fun y => { y with held := false }) with isoOk := l }

section
variable {m : IsoMeas} (hp : (s.port p).cnv.isoPending = true) (hs : (s.port p).cnv.swarmOn = false) (hw : (s.port p).cnv.isoWait = 0)
include hp hs hw

theorem execIsolationCheck_due : execIsolationCheck p m s = .next (match (s.port p).cnv.isoHold with
    | none => if (s.port p).cnv.activePh.length = 3 then (s.modCnv p fun c => { c with isoOk := [] }).isoTake p .a else s
    | some x => match x with
      | .a => (s.isoDone p .a ((s.port p).cnv.found m .a)).isoTake p .b
      | .b => (s.isoDone p .b ((s.port p).cnv.found m .b)).isoTake p .c
      | .c => match (s.port p).cnv.found m .c with
        | [y] => (s.isoDone p .c ((s.port p).cnv.found m .c)).declare p y true .inconsistent
        | _ => (s.isoDone p .c ((s.port p).cnv.found m .c)).pathNamed p) := by
  have hd : ¬ (¬ (s.port p).cnv.isoPending = true ∨ (s.port p).cnv.swarmOn = true ∨ 0 < (s.port p).cnv.isoWait) := by
    rw [hp, hs, hw]
    decide
  unfold execIsolationCheck
  extract_lets c
  rw [if_neg hd]
  unfold c
  cases (s.port p).cnv.isoHold with
  | none => rfl
  | some x => cases x <;> rfl

end

/-- Settles O40: from the moves of the converter's state; the faults through `State.Rests`. -/
theorem converterEvents : Obligations.ConverterEvents := by
  unfold Obligations.ConverterEvents
  refine ⟨fun s p => ?_, fun s p x => ?_⟩
  · intro q c
    refine ⟨fun hr he hs hc na nb nc sa sb sc ht => ?_, fun hr => ?_, fun vout fall hok hdue => ?_, fun vout fall h => ?_, fun hs => ?_,
      fun x mv hp hi => ?_, fun vout vsns h0 hon hm => ?_, fun vout vsns ma he => ?_, fun hrun ht => ?_⟩
    · show execPhaseShed p s = _
      unfold execPhaseShed
      rw [State.modCnv_eq, State.modCnv_eq, CnvState.shedOne_third hr he hs hc na nb nc sa sb sc ht]
    · refine ⟨_, rfl, fun r => ?_⟩
      rw [State.modCnv_eq, CnvState.shedOne_rest hr, State.port_setPort]
      split
      next e => subst e; rfl
      · rfl
    · refine ⟨_, congrArg Host.Outcome.next (if_pos ⟨hok, hdue⟩), ?_⟩
      rw [State.modCnv_eq, State.port_setPort_self]
      refine ⟨rfl, fun x hx => ?_⟩
      have hx' : ¬ (c.ph x).failed = true := by rw [hx]; decide
      cases x <;> exact ⟨congrArg PhaseSt.active (if_neg hx'), congrArg PhaseSt.pwm (if_neg hx')⟩
    · refine congrArg Host.Outcome.next (if_neg fun k => ?_)
      rcases h with e | e
      · exact absurd (e.symm.trans k.1) (by decide)
      · exact absurd (e.symm.trans k.2) (by decide)
    · refine ⟨_, congrArg Host.Outcome.next (if_pos hs), ?_⟩
      rw [State.modCnv_eq, State.port_setPort_self]
      exact ⟨rfl, rfl, rfl⟩
    · have hf : ((c.eff.ilim.fld 7 0 * 50 : Nat) : Int) = 50 * (c.eff.ilim.toNat % 256 : Int) := by
        simp [Word.fld]
        omega
      have hlim : (c.eff.ilim.fld 7 0 * 50 : Int) < imonMa (c.imcal x) (1000 * (mv : Int)) := by
        rw [← hf] at hi
        exact_mod_cast hi
      refine ⟨_, congrArg Host.Outcome.next (if_pos ⟨hp, hlim⟩), ?_⟩
      rw [State.modCnv_eq, State.port_setPort_self]
      cases x <;> exact ⟨rfl, rfl⟩
    · refine ⟨_, congrArg Host.Outcome.next (if_pos ⟨h0, hon, hm⟩), ?_⟩
      rw [State.modCnv_eq, State.port_setPort_self]
      refine ⟨?_, ?_, rfl⟩ <;> dsimp only <;> omega
    · exact ⟨_, rfl, execCompensationSample_bound he rfl⟩
    · have hstop : ((s.stop p .trimLimit).port p).cnv = c := State.stop_port_cnv _
      have hsome : ¬ ((s.stop p .trimLimit).port p).cnv.trim.isNone = true := by
        rw [hstop, Option.isNone_iff_eq_none]
        exact ht
      refine ⟨_, congrArg Host.Outcome.next ((State.onExpiry_runs _ _ hrun).trans (if_neg hsome)), ?_, State.hrRequest_pend⟩
      generalize s.stop p .trimLimit = u
      generalize u.eventP 0x0204 p 2 (u.port p).timeoutValue = v
      exact (((State.Rests.refl (b := false)).hrRequest (goal := .hardReset)).port p).cnv.trim State.endTrim_trim
  · intro q y
    refine ⟨fun hf ha h16 => ?_, fun hf ha h16 => ?_, fun h r => ?_, fun m hp hs hw => ⟨fun hh ha hb hc => ?_, fun hh => ?_, fun hh x hx => ?_,
      fun hh hok hi => ?_⟩, fun m hp => ?_⟩
    · have hgo : ¬ (y.failed = true ∨ ¬ y.active = true) := not_or.2 ⟨by rw [hf]; decide, not_not.2 ha⟩
      obtain ⟨h1, h2, h3, h4, h5⟩ := State.declare_port (s := s) (p := p) (x := x) (sense := true) (r := .rail)
      exact ⟨_, congrArg Host.Outcome.next ((if_neg hgo).trans (if_pos h16)), h1, h2, h3, h4, h5⟩
    · have hgo : ¬ (y.failed = true ∨ ¬ y.active = true) := not_or.2 ⟨by rw [hf]; decide, not_not.2 ha⟩
      exact congrArg Host.Outcome.next ((if_neg hgo).trans (if_neg (Nat.not_le.2 h16)))
    · have hno : y.failed = true ∨ ¬ y.active = true := h.imp id fun e => by rw [e]; decide
      exact congrArg Host.Outcome.next (if_pos hno)
    · have h := execIsolationCheck_due (m := m) hp hs hw
      rw [show (s.port p).cnv.isoHold = none from hh] at h
      dsimp only at h
      rw [if_pos (CnvState.activePh_all ha hb hc)] at h
      refine ⟨_, h, ?_⟩
      unfold State.isoTake
      rw [State.modCnv_eq, State.port_setPort_self]
      exact ⟨rfl, rfl⟩
    · refine ⟨_, (execIsolationCheck_due hp hs hw).trans (by rw [show (s.port p).cnv.isoHold = some .a from hh]), ?_⟩
      unfold State.isoTake State.isoDone
      simp only [State.modCnv_eq, State.port_setPort_self]
      exact ⟨rfl, rfl, trivial, fun h => CnvState.found_ok .a h, fun h => CnvState.found_bad .a h⟩
    · have hfound : q.cnv.found m .c = [x] := by
        rcases hx with ⟨hb, hl⟩ | ⟨hg, hl, rfl⟩
        · rw [CnvState.found_bad .c hb, hl]
        · rw [CnvState.found_ok .c hg, hl]
          rfl
      obtain ⟨h1, h2, -⟩ := State.declare_port (s := s.isoDone p .c (q.cnv.found m .c)) (p := p) (x := x) (sense := true) (r := .inconsistent)
      refine ⟨_, (execIsolationCheck_due hp hs hw).trans (by rw [show (s.port p).cnv.isoHold = some .c from hh]), ?_⟩
      dsimp only
      rw [show (s.port p).cnv.found m .c = [x] from hfound]
      rw [hfound] at h1 h2
      exact ⟨h1, h2⟩
    · have hfound : q.cnv.found m .c = [] := by rw [CnvState.found_bad .c hok, hi]
      refine ⟨_, (execIsolationCheck_due hp hs hw).trans (by rw [show (s.port p).cnv.isoHold = some .c from hh]), ?_⟩
      dsimp only
      rw [show (s.port p).cnv.found m .c = [] from hfound]
      exact State.pathNamed_port
    · have hno : ¬ q.cnv.isoPending = true ∨ q.cnv.swarmOn = true ∨ 0 < q.cnv.isoWait := .inl (by rw [hp]; decide)
      exact congrArg Host.Outcome.next (if_pos hno)

end Sys2Proof.Machine
end

section
/-! SUPPORT AND PROOFS for the window monitors (O41, O42). `s.Watches t` says that t has the monitors of s and its power state. -/
namespace Sys2Proof.Machine

variable {s t u : State} {p : PortId} {b : Bool}

/-! ### Meter records that go to the host -/

theorem State.Rests.dropCell {f i : Nat} (h : s.Rests b t) : s.Rests b (t.dropCell f i) := h.records (State.Records.refl.modFlow.freeCell)

theorem State.Rests.ueNote {i w : Nat} {f : Option Nat} (h : s.Rests b t) : s.Rests b (t.ueNote i w f) := h.frame.eventD

theorem State.Rests.meet {f : Nat} {c : Cell} (h : s.Rests b t) : s.Rests b (t.meet f c).2 := by
  have hc : s.Rests b (t.correct f c) := h.either h.modFlow.frame
  unfold State.meet
  dsimp only
  split
  · exact hc
  · exact hc.modFlow.ueNote

theorem State.Rests.putMerged (h : s.Rests b t) : s.Rests b (t.putMerged p) := by
  unfold State.putMerged
  split
  · exact h
  · split
    · exact h
    next v e => exact (h.records (State.Records.refl.putRecord e)).modMtr

theorem State.Rests.pumpMtrN {n : Nat} (h : s.Rests b t) : s.Rests b (State.pumpMtrN n t) := by
  induction n generalizing t with
  | zero => exact h
  | succ n ih =>
    unfold State.pumpMtrN
    split
    · exact h
    · split
      · exact h
      next q _ =>
        split
        · exact ih h.frame.finish
        · split
          · exact h
          next c _ _ =>
            have hm : s.Rests b (t.meet (fMtr q) c).2 := h.meet
            split
            next e =>
              rw [e] at hm
              exact ih hm.dropCell.modMtr
            next e =>
              rw [e] at hm
              split
              · exact ih ((hm.emit.records State.Records.refl.readRecord).putMerged.frame)
              · exact ih (hm.records State.Records.refl.readRecord)

theorem State.Rests.pumpMtr (h : s.Rests b t) : s.Rests b t.pumpMtr := h.either h.pumpMtrN

theorem State.Rests.intervalEnd (h : s.Rests b t) : s.Rests b (t.intervalEnd p) := by
  unfold State.intervalEnd
  dsimp only
  split
  · exact h.modMtr.modSes
  · split
    · exact h.modMtr.modSes.modMtr.countNoCredit.modMtr
    · split
      next v e =>
        have hv := h.modMtr.modSes.modMtr.records (State.Records.refl.putRecord e)
        exact hv.pumpMtr.either hv
      · exact h.modMtr.modSes.modMtr.countNoCredit.modMtr

/-! ### What leaves the monitors -/

structure State.Watches (s t : State) : Prop where
  mons : ∀ r, (t.port r).wm.m = (s.port r).wm.m
  st : t.pwr.st = s.pwr.st

theorem State.Watches.refl : s.Watches s := ⟨fun _ => rfl, rfl⟩

theorem State.Watches.trans (h : s.Watches t) (k : t.Watches u) : s.Watches u := ⟨fun r => (k.mons r).trans (h.mons r), k.st.trans h.st⟩

theorem State.Watches.rests (h : s.Watches t) (k : t.Rests b u) : s.Watches u :=
  h.trans ⟨fun r => (k.port r).mons, congrArg PwrState.st k.pwr⟩

theorem State.Watches.records (h : s.Watches t) (k : t.Records u) : s.Watches u := h.rests (b := false) (State.Rests.refl.records k)

theorem State.Watches.setPort {x : Port} (h : s.Watches t) (hx : x.wm.m = (t.port p).wm.m) : s.Watches (t.setPort p x) := by
  refine h.trans ⟨fun r => ?_, rfl⟩
  rw [State.port_setPort]
  split
  next e => rw [← e]; exact hx
  · rfl

theorem State.Watches.modEf {f : EfState → EfState} (h : s.Watches t) : s.Watches (t.modEf p f) := h.setPort rfl

theorem State.Watches.modWm {f : WmState → WmState} (h : s.Watches t) (hf : ∀ x, (f x).m = x.m := by intro _; rfl) : s.Watches (t.modWm p f) :=
  h.setPort (hf _)

theorem State.Watches.start {x : Tmr} (h : s.Watches t) : s.Watches (t.start p x) := h.setPort rfl

theorem State.Watches.either {c : Prop} {_ : Decidable c} (h : s.Watches t) (k : s.Watches u) : s.Watches (if c then t else u) := by
  split <;> assumption

theorem State.Watches.pathTo {st : PathSt} (h : s.Watches t) : s.Watches (t.pathTo p st) := by
  unfold State.pathTo
  extract_lets old s1 s2 s3 s4 s5
  have h1 : s.Watches s1 := h.modEf.modWm
  have h2 : s.Watches s2 := State.Watches.either (h1.setPort rfl) h1
  have h3 : s.Watches s3 := State.Watches.either (h2.setPort rfl) (h2.setPort rfl)
  have h4 : s.Watches s4 := h3.either (h3.rests (b := false) State.Rests.refl.intervalEnd)
  have h5 : s.Watches s5 := h4.setPort rfl
  exact h5.modWm.either h3

theorem State.Watches.tryPath (h : s.Watches t) : s.Watches (t.tryPath p) := h.pathTo.either h

theorem State.Watches.openPath (h : s.Watches t) : s.Watches (t.openPath p) := h.rests (b := false) State.Rests.refl.openPath

theorem State.Watches.openBf (h : s.Watches t) : s.Watches (t.openBf p) := h.pathTo.either h.modEf

theorem State.Watches.eventP {cause sub v : Nat} (h : s.Watches t) : s.Watches (t.eventP cause p sub v) := h.records State.Records.refl.eventP

theorem State.Watches.donorFail {why : Nat} (h : s.Watches t) : s.Watches (t.donorFail p why) := by
  unfold State.donorFail
  extract_lets s1 s2
  have h2 : s.Watches s2 := h.eventP.openBf.modEf
  exact h2.rests (b := false) State.Rests.refl.hrRequest.modSwap

theorem State.Watches.bfOpened {c : BfCause} (h : s.Watches t) : s.Watches (t.bfOpened p c) := by
  unfold State.bfOpened
  extract_lets q s1 s2
  have h2 : s.Watches s2 := h.openBf.modEf.eventP
  exact h.either (h2.donorFail.either (h2.start.either h2))

theorem State.Watches.laterCause {x : TripSt} {c : TripCause} (h : s.Watches t) : s.Watches (t.laterCause p x c) := by
  unfold State.laterCause
  have h1 : ∀ f : EfState → EfState, s.Watches ((t.modEf p f).gateRecord p 2 (t.port p).gateMv) := fun f => h.modEf.eventP
  exact ((h1 _).either ((h1 _).rests (b := false) State.Rests.refl.tripAway)).either h

/-- A trip: after the opening come the ways out, which rest. -/
theorem State.Watches.trip {c : TripCause} {mon : Option Nat} {also : List TripCause} (h : s.Watches t) : s.Watches (t.trip p c mon also) := by
  unfold State.trip
  extract_lets +onlyGivenNames q
  split
  · exact h.laterCause
  · refine h.either ?_
    dsimp -zeta only
    extract_lets +onlyGivenNames l gate counted donor dest e s1 s2 s3 s4
    have h1 : s.Watches s1 := h.modEf.openPath
    have r2 : State.Rests false s1 s2 := State.Rests.refl.start.either State.Rests.refl
    have r4 : State.Rests false s1 s4 := r2.event.gateRecord.either r2.event
    clear_value s4
    refine h1.rests (b := false) (r4.frF3.either ?_)
    cases dest with
    | some st => exact r4.tripAway
    | none => exact r4.pathLost.vconnOff.endPort

theorem State.Watches.fullAction {m : Fin 32} {also : List TripCause} (h : s.Watches t) : s.Watches (t.fullAction p m also) := by
  unfold State.fullAction
  extract_lets +onlyGivenNames q u
  have hu : s.Watches u := h.modWm
  clear_value u
  cases q.ef.path with
  | closing | on | opening =>
    dsimp only
    split
    · exact hu.trip
    · exact hu
  | backfeed => exact hu.bfOpened
  | proving => exact hu.pathTo
  | off => exact hu

end Sys2Proof.Machine
end

section
/-! SUPPORT AND PROOFS for a monitor's crossing (O41): the crossing is entered, the monitor acts, and what follows is a capture frame and a
wake (`State.After`). -/
namespace Sys2Proof.Machine

variable {s t u : State} {p : PortId} {m : Fin 32} {e : Edge} {code : BitVec 10}

/-! ### What follows an action -/

/-- A port but for its capture frame. -/
def Port.uncaptured (q : Port) : Port := { q with wm := { q.wm with frame := none, skipped := 0 } }

structure State.After (s t : State) : Prop where
  port : ∀ r, (t.port r).uncaptured = (s.port r).uncaptured
  hu : t.hu = s.hu
  out : s.out <+: t.out

theorem State.After.refl : s.After s := ⟨fun _ => rfl, rfl, List.prefix_rfl⟩

theorem State.After.trans (h : s.After t) (k : t.After u) : s.After u :=
  ⟨fun r => (k.port r).trans (h.port r), k.hu.trans h.hu, h.out.trans k.out⟩

theorem State.After.records (h : s.After t) (k : t.Records u) : s.After u := by
  obtain ⟨-, hhu, -⟩ := State.aside_fields k.aside
  exact h.trans ⟨fun r => by rw [State.port_of_aside k.aside], hhu, k.out⟩

theorem State.After.either {c : Prop} {_ : Decidable c} (h : s.After t) (k : s.After u) : s.After (if c then t else u) := by
  split <;> assumption

theorem State.After.modWm {f : WmState → WmState} (h : s.After t)
    (hf : ∀ x, { f x with frame := none, skipped := 0 } = { x with frame := none, skipped := 0 } := by intro _; rfl) : s.After (t.modWm p f) := by
  refine h.trans ⟨fun r => ?_, rfl, List.prefix_rfl⟩
  rw [State.modWm_eq, State.port_setPort]
  split
  next e =>
    subst e
    simp only [Port.uncaptured, hf]
  · rfl

theorem State.After.capture (h : s.After t) : s.After (t.capture p m e) := by
  unfold State.capture
  extract_lets +onlyGivenNames q
  split
  · exact h
  · split
    · exact h.modWm
    · extract_lets +onlyGivenNames n f
      split
      · exact (h.records State.Records.refl.modFlow).modWm
      next v e => exact (h.records (State.Records.refl.takeCell (Option.ite_none_right_eq_some.mp e).2).queueCell).modWm

/-- The power state set. -/
theorem State.After.setPwr {w : PwrState} (h : s.After t) : s.After { t with pwr := w } := h.trans ⟨fun _ => rfl, rfl, List.prefix_rfl⟩

theorem State.After.wakeSet {src port : Nat} (h : s.After t) : s.After (t.wakeSet src port) := by
  have ha : s.After (t.abandonWake src port) := by
    unfold State.abandonWake
    have h1 : s.After t.entryOver := h.setPwr
    dsimp only
    split
    · exact h1.records State.Records.refl.eventD.finish
    · exact h1.records State.Records.refl.eventD
  unfold State.wakeSet
  exact h.either ((h.either (ha.setPwr.either ha)).either (h.setPwr.either h))

/-! ### The crossing entered -/

/-- The monitor after a crossing. -/
def Wm.crossed (w : Wm) (e : Edge) (code : BitVec 10) (note : Bool) : Wm := { w.cross e code with recorded := note }

/-- The crossing is entered, before the monitor acts. -/
def State.crossed (s : State) (p : PortId) (m : Fin 32) (e : Edge) (code : BitVec 10) (note : Bool) : State :=
  let u := (s.vconnIn p m code.toNat).modMon p m fun w => w.crossed e code note
  let u := if m.val = 5 then u.wm5Crossed p else u
  if m.val = 7 then u.modEf p fun e => { e with otIn := none } else u

theorem State.holdupActive_spec : s.holdupActive.port p = s.port p ∧ s.holdupActive.hu.active = true := by
  unfold State.holdupActive
  split
  next h => exact ⟨rfl, h⟩
  · extract_lets c w u
    have hr : u.Records (u.eventD 0x0300 [(24, 2, (mapOf fun p => (u.port p).swap.armed).toNat)]) := State.Records.refl.eventD
    obtain ⟨-, hhu, -⟩ := State.aside_fields hr.aside
    exact ⟨State.port_of_aside hr.aside p, congrArg HoldupState.active hhu⟩

theorem State.crossed_port {note : Bool} : ∃ cc h r o, (s.crossed p m e code note).port p = { s.port p with
    cc := cc, wm := { (s.port p).wm with m := (s.port p).wm.m.set m.val ((s.wm p m).crossed e code note), hold5 := h }
    swap := { (s.port p).swap with returnMet := r }, ef := { (s.port p).ef with otIn := o } } := by
  unfold State.crossed
  extract_lets u v
  have hu : ∃ cc, u.port p = { s.port p with
      cc := cc, wm := { (s.port p).wm with m := (s.port p).wm.m.set m.val ((s.wm p m).crossed e code note) } } := by
    unfold u State.vconnIn State.modMon
    split
    · simp only [State.modCc_eq, State.modWm_eq, State.setPort_setPort, State.port_setPort_self]
      exact ⟨_, rfl⟩
    · simp only [State.modWm_eq, State.port_setPort_self]
      exact ⟨_, rfl⟩
  obtain ⟨cc, hu⟩ := hu
  clear_value u
  have hv : ∃ h r, v.port p = { u.port p with wm := { (u.port p).wm with hold5 := h }, swap := { (u.port p).swap with returnMet := r } } := by
    unfold v State.wm5Crossed
    split
    · rw [State.holdupActive_spec.1]
      simp only [State.modSwap_eq, State.modWm_eq, State.setPort_setPort, State.port_setPort_self]
      exact ⟨_, _, rfl⟩
    · exact ⟨_, _, rfl⟩
  obtain ⟨h, r, hv⟩ := hv
  clear_value v
  split
  · exact ⟨cc, h, r, none, by rw [State.modEf_eq, State.port_setPort_self, hv, hu]⟩
  · exact ⟨cc, h, r, (s.port p).ef.otIn, by rw [hv, hu]⟩

theorem State.crossed_active {note : Bool} (h5 : m.val = 5) : (s.crossed p m e code note).hu.active = true := by
  unfold State.crossed
  extract_lets u v
  rw [if_neg (by omega : ¬ m.val = 7)]
  unfold v State.wm5Crossed
  rw [if_pos h5]
  exact (State.holdupActive_spec (p := p)).2

/-- A crossing is entered, the monitor acts where it drives, and what follows leaves the ports. -/
theorem execMonitorCrossing_acts (hw : s.wmPowered p m = true) (hon : (s.wm p m).edgeOn e = true) (hout : (s.wm p m).isOut = false)
    (hb : (s.wm p m).beyond e code.toNat = true) (h8 : ¬ (m.val = 8 ∧ (s.port p).wm8Held = true ∧ e = .lower)) :
    ∃ (note : Bool) (v t : State), execMonitorCrossing p m e code s = .next t ∧ v.After t
      ∧ ((s.port p).armed m = true → v = (s.crossed p m e code note).firefly p m)
      ∧ ((s.port p).armed m = false → (s.crossed p m e code note).Records v) := by
  unfold execMonitorCrossing
  extract_lets q w s1 d drives quiet note s2 s3 s4 s5 s6
  have hgo : ¬ (¬ s.wmPowered p m = true ∨ ¬ w.edgeOn e = true ∨ w.isOut = true ∨ ¬ w.beyond e code.toNat = true
      ∨ (m.val = 8 ∧ q.wm8Held = true ∧ e = .lower)) := by
    rintro (k | k | k | k | k)
    · exact k hw
    · exact k hon
    · exact absurd (hout.symm.trans k) (by decide)
    · exact k hb
    · exact h8 k
  rw [if_neg hgo]
  have h4 : s4 = s.crossed p m e code note := rfl
  have h6 : s5.After s6 := State.After.refl.capture.either State.After.refl
  refine ⟨note, s5, _, rfl, (h6.wakeSet.either h6), fun ha => ?_, fun ha => ?_⟩
  · rw [← h4]
    exact if_pos ha
  · rw [← h4]
    have h5 : s5 = if note then s4.wmRecord p m e false code.toNat (w.thrOf e) else s4 := if_neg (by rw [show drives = false from ha]; decide)
    rw [h5]
    exact .ite State.Records.refl.offer .refl

/-! ### Hold-up on a donor -/

/-- The path's state and the hold-up record stay. -/
structure State.Calm (p : PortId) (s t : State) : Prop where
  ef : (t.port p).ef = (s.port p).ef
  hu : t.hu = s.hu

theorem State.Calm.refl : s.Calm p s := ⟨rfl, rfl⟩

theorem State.Calm.trans (h : s.Calm p t) (k : t.Calm p u) : s.Calm p u := ⟨k.ef.trans h.ef, k.hu.trans h.hu⟩

theorem State.Calm.records (h : s.Calm p t) (k : t.Records u) : s.Calm p u := by
  obtain ⟨-, hhu, -⟩ := State.aside_fields k.aside
  exact h.trans ⟨by rw [State.port_of_aside k.aside], hhu⟩

theorem State.Calm.setPort {x : Port} (h : s.Calm p t) (hx : x.ef = (t.port p).ef) : s.Calm p (t.setPort p x) :=
  h.trans ⟨by rw [State.port_setPort_self, hx], rfl⟩

theorem State.Calm.modPd {f : PdState → PdState} (h : s.Calm p t) : s.Calm p (t.modPd p f) := h.setPort rfl

theorem State.Calm.modPod {f : PodPort → PodPort} (h : s.Calm p t) : s.Calm p (t.modPod p f) := h.setPort rfl

theorem State.Calm.modPol {f : PolState → PolState} (h : s.Calm p t) : s.Calm p (t.modPol p f) := h.setPort rfl

theorem State.Calm.modCnv {f : CnvState → CnvState} (h : s.Calm p t) : s.Calm p (t.modCnv p f) := h.setPort rfl

theorem State.Calm.modSwap {f : SwapState → SwapState} (h : s.Calm p t) : s.Calm p (t.modSwap p f) := h.setPort rfl

theorem State.Calm.stop {x : Tmr} (h : s.Calm p t) : s.Calm p (t.stop p x) := h.setPort rfl

theorem State.Calm.stopAll {l : List Tmr} (h : s.Calm p t) : s.Calm p (t.stopAll p l) := h.setPort rfl

theorem State.Calm.emit {o : Out} (h : s.Calm p t) : s.Calm p (t.emit o) := h.records State.Records.refl.emit

theorem State.Calm.finish {d : Desc} {status : Nat} {r : Quad} (h : s.Calm p t) : s.Calm p (t.finish d status r) :=
  h.records State.Records.refl.finish

theorem State.Calm.foldl {α : Type} {g : State → α → State} {l : List α} (h : s.Calm p t) (hg : ∀ u a, s.Calm p u → s.Calm p (g u a)) :
    s.Calm p (l.foldl g t) := by
  induction l generalizing t with
  | nil => exact h
  | cons a l ih => exact ih (hg t a h)

theorem State.Calm.either {c : Prop} {_ : Decidable c} (h : s.Calm p t) (k : s.Calm p u) : s.Calm p (if c then t else u) := by
  split <;> assumption

theorem State.Calm.flushMsg {o : TxOutcome} {x : PdMsg} {pr : PdProd} {n : Nat} (h : s.Calm p t) : s.Calm p (t.flushMsg p o x pr n) :=
  h.modPd.emit

theorem State.Calm.emptyFlow {f : Nat} (h : s.Calm p t) : s.Calm p (t.emptyFlow f) := by
  refine h.foldl fun u _ hu => ?_
  cases e : u.popCell f with
  | none => exact hu
  | some x => exact hu.records (State.Records.refl.popCell e)

theorem State.Calm.flushTx {o : TxOutcome} (h : s.Calm p t) : s.Calm p (t.flushTx p o) := by
  unfold State.flushTx
  extract_lets +onlyGivenNames x s1 s2 s3
  have h1 : s.Calm p s1 := h.foldl fun u r hu => by
    split
    · exact hu.flushMsg
    · exact hu
  have h2 : s.Calm p s2 := h1.foldl fun u r hu => by
    split
    · exact hu.flushMsg
    · exact hu
  have h3 : s.Calm p s3 := h2.emptyFlow.records State.Records.refl.modFlow
  exact h3.modPd.stopAll

theorem State.Calm.amsDrop (h : s.Calm p t) : s.Calm p (t.amsDrop p) := by
  unfold State.amsDrop
  extract_lets u
  have hc : s.Calm p (t.fleetCut p) := by
    unfold State.fleetCut
    exact h.either (h.modPod.records State.Records.refl.eventP)
  have hu : s.Calm p u := h.either (hc.records State.Records.refl.finishAll)
  clear_value u
  exact hu.stopAll.modPod.modPol

theorem State.Calm.setPoint {src : SetSrc} {mv up down : Nat} (h : s.Calm p t) : s.Calm p (t.setPoint p src mv up down) := by
  unfold State.setPoint
  have he : s.Calm p (t.endTrim p stSuperseded) := by
    unfold State.endTrim
    split
    · exact h
    · exact h.stop.modCnv.finish
  exact he.modCnv

theorem State.setPoint_setMv {src : SetSrc} {mv up down : Nat} : ((s.setPoint p src mv up down).port p).cnv.setMv = mv := by
  unfold State.setPoint
  rw [State.modCnv_eq, State.port_setPort_self]

theorem State.Rests.amsDrop {b : Bool} (h : s.Rests b t) : s.Rests b (t.amsDrop p) := by
  unfold State.amsDrop
  exact ((h.either h.fleetCut.finishAll).stopAll.modPod).modPol

theorem State.Rests.setPoint {b : Bool} {src : SetSrc} {mv up down : Nat} (h : s.Rests b t) : s.Rests b (t.setPoint p src mv up down) := by
  unfold State.setPoint
  have he : s.Rests b (t.endTrim p stSuperseded) := by
    unfold State.endTrim
    split
    · exact h
    · exact (h.stop.modCnv ⟨id, fun _ => rfl, rfl, fun x => by cases x <;> exact ⟨rfl, rfl⟩, fun x => by cases x <;> exact id,
        fun _ => id⟩).finish
  exact he.modCnv ⟨id, id, rfl, fun x => by cases x <;> exact ⟨rfl, rfl⟩, fun x => by cases x <;> exact id, fun _ => id⟩

/-- F1 and F2 leave the monitors. -/
theorem State.Rests.holdupStart {b : Bool} (h : s.Rests b t) : s.Rests b (t.holdupStart p) := by
  unfold State.holdupStart
  extract_lets +onlyGivenNames s1 s2 s3 s4 rate s5 s6
  have h4 : s.Rests b s4 := h.flushTx.amsDrop.stopAll.modPd.modPod.modPol
  clear_value s4
  have h5 : s.Rests b s5 := h4.setPoint
  clear_value s5
  exact ((h5.modCnv ⟨id, id, rfl, fun x => by cases x <;> exact ⟨rfl, rfl⟩, fun x => by cases x <;> exact id, fun _ => id⟩).modSwap).emit

/-- F1 and F2: the swap begins at 5 V, and the signal goes out. -/
theorem State.holdupStart_spec : ((s.holdupStart p).port p).swap.kind = .fr ∧ ((s.holdupStart p).port p).swap.step = 2
    ∧ ((s.holdupStart p).port p).cnv.setMv = 5000 ∧ s.Calm p (s.holdupStart p) ∧ .frSignal p ∈ (s.holdupStart p).out := by
  unfold State.holdupStart
  extract_lets s1 s2 s3 s4 rate s5 s6
  have h1 : s.Calm p s1 := State.Calm.refl.flushTx.amsDrop.stopAll
  have h4 : s.Calm p s4 := h1.modPd.modPod.modPol
  clear_value s4
  have h5 : s.Calm p s5 := h4.setPoint
  have hmv : (s5.port p).cnv.setMv = 5000 := State.setPoint_setMv
  clear_value s5
  have h6 : s.Calm p s6 := h5.modCnv.modSwap
  have hp : (s6.port p).swap.kind = .fr ∧ (s6.port p).swap.step = 2 ∧ (s6.port p).cnv.setMv = 5000 := by
    unfold s6
    rw [State.modSwap_eq, State.port_setPort_self, State.modCnv_eq, State.port_setPort_self]
    exact ⟨rfl, rfl, hmv⟩
  clear_value s6
  obtain ⟨hk, hs, hm⟩ := hp
  exact ⟨hk, hs, hm, h6.emit, List.mem_append_right _ List.mem_cons_self⟩

theorem State.Watches.firefly (h : s.Watches t) : s.Watches (t.firefly p m) := by
  unfold State.firefly
  exact State.Watches.either (h.either (h.rests (b := false) State.Rests.refl.holdupStart.endPort)) h.fullAction

theorem Port.uncaptured_m {x y : Port} (h : x.uncaptured = y.uncaptured) : x.wm.m = y.wm.m :=
  show x.uncaptured.wm.m = y.uncaptured.wm.m by rw [h]

theorem Port.uncaptured_ef {x y : Port} (h : x.uncaptured = y.uncaptured) : x.ef = y.ef := show x.uncaptured.ef = y.uncaptured.ef by rw [h]

theorem Wm.crossed_out (w : Wm) (note : Bool) : (w.crossed e code note).outOf e = true ∧ (w.crossed e code note).cnt = satInc w.cnt
    ∧ (w.crossed e code note).last = code
    ∧ (if e = .lower then (w.crossed e code note).latLo = true else (w.crossed e code note).latHi = true) := by
  cases e <;> simp [Wm.crossed, Wm.cross, Wm.outOf]

theorem State.wmPowered_of_run (h : s.pwr.st = .run) : s.wmPowered p m = true := by
  unfold State.wmPowered
  rw [h]

theorem Wm.beyond_of_past {w : Wm} (h : if e = .lower then code.toNat < w.lt else w.ut < code.toNat) : w.beyond e code.toNat = true := by
  cases e <;> simp [Wm.beyond, Wm.lt, Wm.ut] at h ⊢ <;> exact .inl h

theorem Port.uncaptured_acts {x y : Port} (h : x.uncaptured = y.uncaptured) : x.wm.ffActive = y.wm.ffActive :=
  show x.uncaptured.wm.ffActive = y.uncaptured.wm.ffActive by rw [h]

theorem Port.uncaptured_swap {x y : Port} (h : x.uncaptured = y.uncaptured) : x.swap = y.swap ∧ x.cnv = y.cnv :=
  show x.uncaptured.swap = y.uncaptured.swap ∧ x.uncaptured.cnv = y.uncaptured.cnv by rw [h]; exact ⟨rfl, rfl⟩

/-- With the path ON the short-circuit and the bus monitor act. -/
theorem Port.armed_on {q : Port} (hm : m.val = 0 ∨ m.val = 5) (hp : q.ef.path = .on) (hmode : q.wm.mode ≠ .test) : q.armed m = true := by
  have hph : wmPhase m = none := by rcases hm with h | h <;> simp [wmPhase, h]
  have hd : q.disarmed m = false := by simp [Port.disarmed, hph]
  rcases hm with h | h <;> simp [Port.armed, hd, hp, hmode, h, armedIn]

/-- The short-circuit monitor opens a path that is ON. -/
theorem State.fullAction_short (hm : m.val = 0) (hp : (s.port p).ef.path = .on) (ht : (s.port p).ef.tripping = none) :
    ((s.fullAction p m).port p).ef.path = .opening ∧ ((s.fullAction p m).port p).ef.gateOn = false
      ∧ ((s.fullAction p m).port p).ef.retryCnt = (s.port p).ef.retryCnt + 1 ∧ ((s.fullAction p m).port p).wm.ffActive = true := by
  have hc : (s.port p).tripCause m = some .short := by simp [Port.tripCause, hm, wmCause]
  unfold State.fullAction
  extract_lets q u
  unfold q
  rw [hp, hc]
  dsimp only
  have hu : (u.port p).ef = (s.port p).ef ∧ (u.port p).wm.ffActive = true := by
    unfold u
    rw [State.modWm_eq, State.port_setPort_self]
    exact ⟨rfl, rfl⟩
  clear_value u
  obtain ⟨hef, hact⟩ := hu
  obtain ⟨v, hr, h1, h2, h3, -, h4⟩ := State.trip_counted (s := u) (p := p) (c := .short) (mon := some m.val) (by rw [hef]; exact ht)
    (by rw [hef, hp]; rfl) rfl
  have hk := hr.port p
  obtain ⟨k1, k2⟩ := hk.ef.path h1
  exact ⟨k1, k2.trans h2, hk.ef.retryCnt.trans (h3.trans (by rw [hef])), hk.acts.trans (h4.trans hact)⟩

/-- Settles O41: the crossing is entered, and neither the monitor's action nor what follows takes it back. -/
theorem monitorCrossings : Obligations.MonitorCrossings := by
  unfold Obligations.MonitorCrossings
  intro s p m e code hrun hon hout hb q
  have hpw : s.wmPowered p m = true := State.wmPowered_of_run hrun
  have hby : (s.wm p m).beyond e code.toNat = true := Wm.beyond_of_past hb
  refine ⟨fun h8 => ?_, fun h0 hpath hmode htrip => ?_, fun h5 hpath hmode hsel hkind => ?_⟩
  · have h8' : ¬ (m.val = 8 ∧ (s.port p).wm8Held = true ∧ e = .lower) := by
      rintro ⟨k1, k2, k3⟩
      rcases h8 with k | k | k
      · exact k k1
      · rw [k] at k3
        cases k3
      · exact absurd (k.symm.trans k2) (by decide)
    obtain ⟨note, v, t, he, haft, hd, hn⟩ := execMonitorCrossing_acts hpw hon hout hby h8'
    have hv : (s.crossed p m e code note).Watches v := by
      cases ha : (s.port p).armed m with
      | true =>
        rw [hd ha]
        exact State.Watches.refl.firefly
      | false => exact State.Watches.refl.records (hn ha)
    have ht : t.wm p m = (s.wm p m).crossed e code note := by
      obtain ⟨cc, h, r, o, hp⟩ := State.crossed_port (s := s) (p := p) (m := m) (e := e) (code := code) (note := note)
      unfold State.wm
      rw [Port.uncaptured_m (haft.port p), hv.mons p, hp]
      exact Vector.getElem_set_self _
    rw [show exec (.monitorCrossing p m e code) s = execMonitorCrossing p m e code s from rfl]
    refine ⟨t, he, ?_⟩
    rw [ht]
    exact Wm.crossed_out _ _
  · have h8' : ¬ (m.val = 8 ∧ (s.port p).wm8Held = true ∧ e = .lower) := fun k => by omega
    obtain ⟨note, v, t, he, haft, hd, -⟩ := execMonitorCrossing_acts hpw hon hout hby h8'
    rw [show exec (.monitorCrossing p m e code) s = execMonitorCrossing p m e code s from rfl]
    refine ⟨t, he, ?_⟩
    obtain ⟨cc, h, r, o, hp⟩ := State.crossed_port (s := s) (p := p) (m := m) (e := e) (code := code) (note := note)
    have hv : v = (s.crossed p m e code note).fullAction p m :=
      (hd (Port.armed_on (.inl h0) hpath hmode)).trans (if_neg fun k => by omega)
    generalize s.crossed p m e code note = u at hp hv
    obtain ⟨h1, h2, h3, h4⟩ := State.fullAction_short (s := u) (p := p) h0 (by rw [hp]; exact hpath) (by rw [hp]; exact htrip)
    rw [← hv] at h1 h2 h3 h4
    have hef := Port.uncaptured_ef (haft.port p)
    rw [hef]
    refine ⟨h1, h2, h3.trans (by rw [hp]), ?_⟩
    rw [Port.uncaptured_acts (haft.port p)]
    exact h4
  · have h8' : ¬ (m.val = 8 ∧ (s.port p).wm8Held = true ∧ e = .lower) := fun k => by omega
    obtain ⟨note, v, t, he, haft, hd, -⟩ := execMonitorCrossing_acts hpw hon hout hby h8'
    rw [show exec (.monitorCrossing p m e code) s = execMonitorCrossing p m e code s from rfl]
    refine ⟨t, he, ?_⟩
    obtain ⟨cc, h, r, o, hp⟩ := State.crossed_port (s := s) (p := p) (m := m) (e := e) (code := code) (note := note)
    have hact := State.crossed_active (s := s) (p := p) (m := m) (e := e) (code := code) (note := note) h5
    have hv := hd (Port.armed_on (.inr h5) hpath hmode)
    generalize s.crossed p m e code note = u at hp hv hact
    have hsel' : m.val = 5 ∧ (u.port p).wm.holdupSel = true := ⟨h5, by rw [hp]; exact hsel⟩
    have hkind' : ¬ (u.port p).swap.kind = .fr := by rw [hp]; exact hkind
    have hv' : v = (u.holdupStart p).endPort p stAbortedHoldup := hv.trans ((if_pos hsel').trans (if_neg hkind'))
    obtain ⟨h1, h2, h3, h4, h6⟩ := State.holdupStart_spec (s := u) (p := p)
    have hr : (u.holdupStart p).Records v := by
      rw [hv']
      exact State.Records.refl.endPort
    have ha := (State.After.refl.records hr).trans haft
    have hx := Port.uncaptured_swap (ha.port p)
    refine ⟨?_, ?_, ?_, ?_, ha.out.mem h6, ?_⟩
    · rw [ha.hu, h4.hu]
      exact hact
    · rw [hx.1]
      exact h1
    · rw [hx.1]
      exact h2
    · rw [hx.2]
      exact h3
    · rw [Port.uncaptured_ef (ha.port p), h4.ef, hp]
      exact hpath

end Sys2Proof.Machine
end

section
/-! PROOF of O42: returns, thresholds, leg checks and the end of a frame. -/
namespace Sys2Proof.Machine

variable {s t u : State} {p : PortId} {m : Fin 32}

theorem State.wm_modMon (f : Wm → Wm) (n : Fin 32) : (s.modMon p m f).wm p n = if m = n then f (s.wm p n) else s.wm p n := by
  unfold State.wm State.modMon
  rw [State.modWm_eq, State.port_setPort_self]
  simp only [Vector.getElem_set, Fin.ext_iff]
  split
  next h => rw [← Fin.ext h]
  · rfl

theorem State.wm_modMon_self (f : Wm → Wm) : (s.modMon p m f).wm p m = f (s.wm p m) := (State.wm_modMon f m).trans (if_pos rfl)

theorem State.Watches.wm (h : s.Watches t) : t.wm p m = s.wm p m := by
  unfold State.wm
  rw [h.mons p]

theorem State.Watches.modMon {f : Wm → Wm} (h : s.Watches t) : (s.modMon p m f).Watches (t.modMon p m f) := by
  refine ⟨fun r => ?_, h.st⟩
  unfold State.modMon
  rw [State.modWm_eq, State.modWm_eq, State.port_setPort, State.port_setPort]
  split
  · dsimp only
    rw [h.mons p]
  · exact h.mons r

/-! ### Returns -/

/-- The monitor after a return. -/
def Wm.returned (w : Wm) (e : Edge) : Wm := { w with below := w.below && e != .lower, above := w.above && e != .upper, recorded := false }

theorem Wm.back_of_in {w : Wm} {e : Edge} {code : BitVec 10}
    (h : if e = .lower then w.lt + w.hyst < code.toNat else code.toNat + w.hyst < w.ut) : w.back e code.toNat = true := by
  cases e <;> simp [Wm.back, Wm.lt, Wm.ut, Wm.hyst] at h ⊢ <;> exact .inl h

theorem execMonitorReturn_in {e : Edge} {code : BitVec 10} (hw : s.wmPowered p m = true) (ho : (s.wm p m).outOf e = true)
    (hb : (s.wm p m).back e code.toNat = true) :
    ∃ t, execMonitorReturn p m ⟨e, code⟩ s = .next t ∧ (s.modMon p m fun w => w.returned e).Watches t := by
  unfold execMonitorReturn
  extract_lets e' c w s1 s2 s3 s4 now s5 q s6
  have hgo : ¬ (¬ s.wmPowered p m = true ∨ ¬ w.outOf e' = true ∨ ¬ w.back e' c.toNat = true) := by
    rintro (k | k | k)
    · exact k hw
    · exact k ho
    · exact k hb
  rw [if_neg hgo]
  have h1 : (s.modMon p m fun w => w.returned e).Watches s1 := State.Watches.refl
  have h2 : (s.modMon p m fun w => w.returned e).Watches s2 := State.Watches.either (h1.setPort rfl) h1
  have h3 : (s.modMon p m fun w => w.returned e).Watches s3 := (h2.records State.Records.refl.offer).either h2
  have h4 : (s.modMon p m fun w => w.returned e).Watches s4 := h3.modWm.either h3
  have h5 : (s.modMon p m fun w => w.returned e).Watches s5 := h4.modEf.either h4
  have h6 : (s.modMon p m fun w => w.returned e).Watches s6 := h5.modWm.either h5
  exact ⟨_, rfl, h6.tryPath⟩

/-! ### Legs -/

/-- The FULL action of a monitor whose legs have both failed leaves it forced. -/
theorem State.Watches.monitorFailed {check : Nat} : (s.modMon p m fun w => { w with forced := true }).Watches (s.monitorFailed p m check) := by
  unfold State.monitorFailed
  extract_lets u v
  have hv : (s.modMon p m fun w => { w with forced := true }).Watches v :=
    (State.Watches.refl.records State.Records.refl.eventO).modMon
  clear_value v
  cases (v.port p).ef.path with
  | closing | on => exact hv.rests (b := false) State.Rests.refl.openPath.pathLost.vconnOff.endPort
  | backfeed => exact hv.openBf.rests (b := false) State.Rests.refl.closeSession
  | proving => exact hv.pathTo.rests (b := false) State.Rests.refl.closeSession
  | _ => exact hv.rests (b := false) State.Rests.refl.closeSession

/-- A monitor one of whose legs has failed. -/
def Wm.lost (w : Wm) (leg : Nat) : Wm :=
  { w with leg0 := w.leg0 || leg == 0, leg1 := w.leg1 || leg == 1, actLeg1 := if w.leg0 ∨ w.leg1 then w.actLeg1 else leg == 0 }

theorem State.legFailed_wm {leg check : Nat} : ∃ f, (s.legFailed p m leg check).wm p m = { (s.wm p m).lost leg with forced := f }
    ∧ (((s.wm p m).lost leg).leg0 = true → ((s.wm p m).lost leg).leg1 = true → f = true) ∧ (s.legFailed p m leg check).pwr.st = s.pwr.st := by
  unfold State.legFailed
  extract_lets u w
  have hw : w = (s.wm p m).lost leg := State.wm_modMon_self _
  have hst : u.pwr.st = s.pwr.st := rfl
  have hu : u.wm p m = w := rfl
  clear_value u
  split
  next h =>
    have hm := State.Watches.monitorFailed (s := u) (p := p) (m := m) (check := check)
    refine ⟨true, ?_, fun _ _ => rfl, hm.st.trans hst⟩
    rw [hm.wm, State.wm_modMon_self, hu, hw]
  next h =>
    refine ⟨w.forced, hu.trans (by rw [hw]), fun h0 h1 => ?_, hst⟩
    rw [← hw] at h0 h1
    by_contra hf
    exact h ⟨h0, h1, hf⟩

theorem State.faultN_of_legs {k : Fin 32} (hk : k.val < 8) (h0 : (s.wm p k).leg0 = true) (h1 : (s.wm p k).leg1 = true)
    (hst : s.pwr.st ≠ .hibernate) : s.faultN = .low := by
  have hb : (s.port p).bothLegsFailed = true := by
    refine List.any_eq_true.2 ⟨s.wm p k, ?_, by rw [h0, h1]; rfl⟩
    refine List.mem_iff_getElem.2 ⟨k.val, by simp; omega, ?_⟩
    simp [State.wm]
  have hf : s.faultHolds = true := by
    refine Bool.or_eq_true_iff.2 (.inl (List.any_eq_true.2 ⟨s.port p, ?_, by rw [hb, Bool.or_true]⟩))
    exact Vector.mem_toList_iff.2 (Vector.getElem_mem p.isLt)
  exact if_pos ⟨hst, hf⟩

theorem Wm.checkedLeg_standby {w : Wm} (h1 : w.leg1 = false) (ha : w.actLeg1 = false) : w.checkedLeg = some 1 := by
  unfold Wm.checkedLeg
  rw [h1, ha]
  cases w.leg0 <;> rfl

section
variable {k : Fin 8} (hw : s.wmPowered p (⟨k.val, by omega⟩ : Fin 32) = true) (hl : (s.wm p (⟨k.val, by omega⟩ : Fin 32)).loading = none)
  (hc : (s.wm p (⟨k.val, by omega⟩ : Fin 32)).checkedLeg = some 1)
include hw hl hc

theorem execLegCheck_fail {c : LegChk} {err : Int} : execLegCheck p k (some (c, err)) s =
    .next ((s.checkRecord p ⟨k.val, by omega⟩ 1 c err).legFailed p ⟨k.val, by omega⟩ 1 c.code) := by
  have hgo : ¬ ((s.wm p (⟨k.val, by omega⟩ : Fin 32)).loading.isSome = true ∨ ¬ s.wmPowered p (⟨k.val, by omega⟩ : Fin 32) = true) := by
    rw [hl, hw]
    decide
  unfold execLegCheck
  extract_lets m w
  rw [show w.checkedLeg = some 1 from hc]
  exact congrArg Host.Outcome.next (if_neg hgo)

theorem execLegCheck_pass : ∃ t, execLegCheck p k none s = .next t ∧ (s.modMon p ⟨k.val, by omega⟩ fun w =>
    { w with passed := w.passed ||| 2 ^ 1, zeroed := w.zeroed ||| 2 ^ 1, actLeg1 := if w.leg0 ∨ w.leg1 then w.actLeg1 else 1 == 1 }).Watches t := by
  have hgo : ¬ ((s.wm p (⟨k.val, by omega⟩ : Fin 32)).loading.isSome = true ∨ ¬ s.wmPowered p (⟨k.val, by omega⟩ : Fin 32) = true) := by
    rw [hl, hw]
    decide
  unfold execLegCheck
  extract_lets m w
  rw [show w.checkedLeg = some 1 from hc]
  refine ⟨_, congrArg Host.Outcome.next (if_neg hgo), ?_⟩
  exact State.Watches.refl.modWm.tryPath.either State.Watches.refl

end

/-! ### Frames -/

theorem execCaptureFrameEnd_spec {f : CapFrame} {samples : List Byte} (hf : (s.port p).wm.frame = some f) :
    ∃ t, execCaptureFrameEnd p samples s = .next t ∧ (t.port p).wm.frame = none
      ∧ (f.cells = 1 → (s.flow (fWave p)).cells ≠ [] →
          (t.flow (fWave p)).cells.getLast?.map Cell.pay = some [.bytes (getBytes (capHeader f ++ samples) 0 256)]) := by
  unfold execCaptureFrameEnd
  rw [hf]
  dsimp -zeta only
  extract_lets whole u v
  refine ⟨_, rfl, by rw [State.modWm_eq, State.port_setPort_self], fun h1 hne => ?_⟩
  have hv : v = u := by
    unfold v
    rw [h1]
    rfl
  have hw : whole = getBytes (capHeader f ++ samples) 0 256 := by
    unfold whole
    rw [h1]
  rw [hv]
  show ((u.flow (fWave p)).cells.getLast?.map Cell.pay) = _
  unfold u
  rw [State.flow_modFlow (by unfold fWave; omega)]
  obtain ⟨l, c, hc⟩ : ∃ l c, (s.flow (fWave p)).cells = l ++ [c] := ⟨_, _, (List.dropLast_append_getLast hne).symm⟩
  simp [hc, hw]

/-- Settles O42: what is entered of a monitor stays through the path's moves that follow. -/
theorem monitorUpkeep : Obligations.MonitorUpkeep := by
  unfold Obligations.MonitorUpkeep
  intro s p
  refine ⟨fun m e code hrun ho hb => ?_, fun m e code ho => ?_, fun m w hl => ?_, fun m => ?_, fun m h8 => ?_, fun m err h8 => ?_,
    fun f samples hf => execCaptureFrameEnd_spec hf⟩
  · obtain ⟨t, he, ht⟩ := execMonitorReturn_in (State.wmPowered_of_run hrun) ho (Wm.back_of_in hb)
    refine ⟨t, he, ?_⟩
    rw [ht.wm, State.wm_modMon_self]
    cases e <;> simp [Wm.returned, Wm.outOf]
  · exact congrArg Host.Outcome.next (if_pos (.inr (.inl (by rw [ho]; decide))))
  · refine ⟨_, rfl, ?_⟩
    rw [State.wm_modMon_self, hl]
    refine ⟨rfl, rfl, ?_, fun n hn => (State.wm_modMon _ n).trans (if_neg (Ne.symm hn))⟩
    simp [and_assoc]
  · intro k w hrun hl h1 ha
    have hc := Wm.checkedLeg_standby h1 ha
    have hw : s.wmPowered p k = true := State.wmPowered_of_run hrun
    refine ⟨fun h0 => ?_, fun c err => ?_⟩
    · obtain ⟨t, he, ht⟩ := execLegCheck_pass hw hl hc
      refine ⟨t, he, ?_⟩
      rw [ht.wm, State.wm_modMon_self]
      exact ⟨rfl, if_neg (not_or.2 ⟨fun k => absurd (h0.symm.trans k) (by decide), fun k => absurd (h1.symm.trans k) (by decide)⟩)⟩
    · obtain ⟨f, hwm, hf, hst⟩ := State.legFailed_wm (s := s.checkRecord p k 1 c err) (p := p) (m := k) (leg := 1) (check := c.code)
      have hs : (s.checkRecord p k 1 c err).wm p k = w := (State.Watches.refl.records State.Records.refl.eventO).wm
      have hs' : (s.checkRecord p k 1 c err).pwr.st = .run := (State.Watches.refl.records State.Records.refl.eventO).st.trans hrun
      rw [hs] at hwm hf
      refine ⟨_, execLegCheck_fail hw hl hc, ?_, ?_, fun h0 => ⟨?_, ?_⟩⟩
      · rw [hwm]
        exact Bool.or_true _
      · rw [hwm]
        show (if w.leg0 = true ∨ w.leg1 = true then w.actLeg1 else (1 == 0 : Bool)) = false
        rw [ha]
        exact ite_self _
      · rw [hwm]
        exact hf (by simp [Wm.lost, h0]) (by simp [Wm.lost])
      · refine State.faultN_of_legs (p := p) (k := k) m.isLt ?_ ?_ (by rw [hst, hs']; decide)
        · rw [hwm]
          simp [Wm.lost, h0]
        · rw [hwm]
          simp [Wm.lost]
  · exact congrArg Host.Outcome.next (if_neg (Nat.not_lt.2 h8))
  · have hno : ¬ (LegChk.readback = .tie ∧ (s.port p).armed m = true ∨ LegChk.readback = .swap ∨ LegChk.readback = .input) := by simp
    refine ⟨_, congrArg Host.Outcome.next ((if_neg (Nat.not_lt.2 h8)).trans (if_neg hno)), ?_⟩
    rw [State.checkRecord, (State.Watches.refl.records State.Records.refl.eventO).wm, State.wm_modMon_self]

end Sys2Proof.Machine
end

section
/-! PROOF of O45: entries to sleep and wakes. A wake source changes the latch and the entry, and nothing else of the power state. -/
namespace Sys2Proof.Machine

variable {s t u : State} {p : PortId}

theorem State.Records.pwr (h : s.Records t) : t.pwr = s.pwr := by
  obtain ⟨-, -, -, -, -, -, -, hpwr, -⟩ := State.aside_fields h.aside
  exact hpwr

/-! ### Wake sources -/

theorem State.wakeSet_off {src port : Nat} (h : s.pwr.wakeEn.getLsbD src = false) : s.wakeSet src port = s := by
  unfold State.wakeSet
  exact if_pos (by rw [Word.bit, h]; decide)

/-- An enabled source sets the latch of a device that sleeps. -/
theorem State.wakeSet_asleep {src port : Nat} (he : s.pwr.wakeEn.getLsbD src = true) (h2 : s.pwr.entry = 2)
    (hs : (s.pwr.st = .doze ∧ wakeHas 2 src = true) ∨ (s.pwr.st = .hibernate ∧ wakeHas 3 src = true)) : s.wakeSet src port = s.latchWake src port := by
  unfold State.wakeSet
  extract_lets w
  have hen : ¬ ¬ w.wakeEn.bit src = true := not_not.2 he
  have h1 : ¬ w.entry = 1 := by
    rw [show w.entry = 2 from h2]
    decide
  rw [if_neg hen, if_neg h1, if_pos hs]

/-- What a wake source leaves of the power state. -/
def PwrState.asked (w : PwrState) : BitVec 8 × BitVec 8 × PwrSt × Word := (w.target, w.reqBy, w.st, w.wakeEn)

theorem State.wakeSet_asked {src port : Nat} : (s.wakeSet src port).pwr.asked = s.pwr.asked := by
  have ha : (s.abandonWake src port).pwr.asked = s.pwr.asked := by
    unfold State.abandonWake
    have he : s.entryOver.pwr.asked = s.pwr.asked := rfl
    dsimp only
    split
    · rw [(State.Records.refl.eventD.finish).pwr, he]
    · rw [State.Records.refl.eventD.pwr, he]
  have hl : ∀ v : State, (v.latchWake src port).pwr.asked = v.pwr.asked := fun _ => rfl
  unfold State.wakeSet
  extract_lets w u
  split
  · rfl
  · split
    · split
      · rfl
      · split
        · exact (hl u).trans ha
        · exact ha
    · split
      · exact hl s
      · rfl

theorem State.heldSources_asked : s.heldSources.pwr.asked = s.pwr.asked := by
  unfold State.heldSources
  extract_lets rd mon u v
  have hu : u.pwr.asked = s.pwr.asked := by
    unfold u
    cases rd with
    | none => rfl
    | some p => exact State.wakeSet_asked
  have hv : v.pwr.asked = s.pwr.asked := by
    unfold v
    split
    · exact State.wakeSet_asked.trans hu
    · exact hu
  clear_value v
  split
  · exact State.wakeSet_asked.trans hv
  · exact hv

theorem State.heldSources_off (h : s.pwr.wakeEn = 0) : s.heldSources = s := by
  have hw : ∀ src port, s.wakeSet src port = s := fun src port => State.wakeSet_off (by rw [h]; simp)
  unfold State.heldSources
  extract_lets rd mon u v
  have hu : u = s := by
    unfold u
    cases rd with
    | none => rfl
    | some p => exact hw _ _
  have hv : v = s := by
    unfold v
    rw [hu, hw, ite_self]
  rw [hv, hw, ite_self]

/-- E1: the target and who asked for it; without an enabled source entry has begun. -/
theorem State.enterSleep_pwr {target reqBy : Nat} : (s.enterSleep target reqBy).pwr.target = BitVec.ofNat 8 target
    ∧ (s.enterSleep target reqBy).pwr.reqBy = BitVec.ofNat 8 reqBy ∧ (s.enterSleep target reqBy).pwr.st = s.pwr.st
    ∧ (s.pwr.wakeEn = 0 → (s.enterSleep target reqBy).pwr.entry = 1) := by
  unfold State.enterSleep
  generalize hu : ({ s with pwr := { s.pwr with
    entry := 1, target := BitVec.ofNat 8 target, reqBy := BitVec.ofNat 8 reqBy, wakeLatch := false, wakeSrc := 0, wakePortNo := 0xFF, after := false } } : State) = u
  have ha : u.pwr.asked = (BitVec.ofNat 8 target, BitVec.ofNat 8 reqBy, s.pwr.st, s.pwr.wakeEn) := by rw [← hu]; rfl
  have he : u.pwr.entry = 1 := by rw [← hu]
  have hen : u.pwr.wakeEn = s.pwr.wakeEn := by rw [← hu]
  have h := (State.heldSources_asked (s := u)).trans ha
  simp only [PwrState.asked, Prod.mk.injEq] at h
  obtain ⟨h1, h2, h3, -⟩ := h
  exact ⟨h1, h2, h3, fun h0 => by rw [State.heldSources_off (hen.trans h0), he]⟩

/-! ### Entry -/

theorem State.abandonEntry_pwr {why row : Nat} : (s.abandonEntry why row).pwr.st = s.pwr.st
    ∧ (s.abandonEntry why row).pwr.lastAbandon = BitVec.ofNat 8 why ∧ (s.abandonEntry why row).pwr.entry = if s.pwr.st = .doze then 2 else 0 := by
  unfold State.abandonEntry
  extract_lets t u
  have hu : u.pwr = { s.entryOver.pwr with lastAbandon := BitVec.ofNat 8 why } := State.Records.refl.eventD.pwr
  have hr : ∀ v, u.Records v → v.pwr.st = s.pwr.st ∧ v.pwr.lastAbandon = BitVec.ofNat 8 why ∧ v.pwr.entry = if s.pwr.st = .doze then 2 else 0 := by
    intro v hv
    rw [hv.pwr, hu]
    exact ⟨rfl, rfl, rfl⟩
  split
  · split
    · exact hr _ State.Records.refl.finish
    · exact hr _ State.Records.refl.finish
  · exact hr _ .refl

theorem State.hibernatePins_keeps {α : Type} (π : State → α) (hπ : ∀ (u : State) p x, π (u.setPort p x) = π u) : π s.hibernatePins = π s := by
  refine State.forPorts_keeps π _ (fun u r => ?_) s
  split
  · exact hπ u r _
  · rfl

theorem State.commitSleep_pwr : s.commitSleep.pwr.entry = 2 ∧ s.commitSleep.pwr.sleepFrom = s.bkp.cal
    ∧ s.commitSleep.pwr.st = (if s.pwr.target = 2 then .doze else .hibernate)
    ∧ (s.pwr.target ≠ 2 → s.commitSleep.pwr.coreEn = false ∧ s.commitSleep.hif = ({} : State).hif) := by
  unfold State.commitSleep
  extract_lets w t s1 s2 s3 s4 n
  have h1 : s1.pwr.sleeps = (2, s.bkp.cal) := rfl
  have hr : s1.Records s3 := by
    have h2 : s1.Records s2 := .ite State.Records.refl.eventD .refl
    unfold s3
    split
    · exact h2.finish
    · exact h2
  have h3 : s3.pwr.sleeps = (2, s.bkp.cal) := by rw [hr.pwr, h1]
  have ht : t = 2 ↔ s.pwr.target = 2 := by
    unfold t w
    rw [BitVec.toNat_eq]
    rfl
  by_cases hd : t = 2
  · rw [if_pos hd, if_pos (ht.1 hd)]
    exact ⟨congrArg Prod.fst h3, congrArg Prod.snd h3, rfl, fun hn => absurd (ht.1 hd) hn⟩
  · rw [if_neg hd, if_neg (mt ht.2 hd)]
    have h4 : s4.pwr.sleeps = (2, s.bkp.cal) :=
      (State.Meets.flushHost (I := { off := fun _ => True, slept := some s.bkp.cal })
        ⟨trivial, List.nil_prefix, fun _ => trivial, fun v hv => by rw [h3]; exact congrArg _ (Option.some.inj hv), nofun, nofun⟩).slept _ rfl
    clear_value s4
    rw [State.hibernatePins_keeps State.pwr fun _ _ _ => rfl, State.hibernatePins_keeps State.hif fun _ _ _ => rfl]
    exact ⟨congrArg Prod.fst h4, congrArg Prod.snd h4, rfl, fun _ => ⟨rfl, rfl⟩⟩

/-! ### Leaving DOZE -/

theorem State.Rests.tryPath {b : Bool} (h : s.Rests b t) : s.Rests b (t.tryPath p) := by
  unfold State.tryPath
  split
  next hp =>
    have hne : (t.port p).ef.path ≠ .opening := by rw [hp.1]; decide
    unfold State.pathTo
    extract_lets +onlyGivenNames old s1 s2 s3
    have h1 : s.Rests b s1 := (h.modEf ⟨rfl, rfl, fun e => absurd e hne⟩).modWm
    exact h1.stop
  · exact h

theorem State.woken_wakeRecord {left ms n : Nat} : ((s.wakeRecord left n).woken ms).pwr.st = s.pwr.st ∧ ((s.wakeRecord left n).woken ms).pwr.entry = 0
    ∧ ((s.wakeRecord left n).woken ms).pwr.wakeLatch = false ∧ ((s.wakeRecord left n).woken ms).pwr.lastWake = s.pwr.wakeSrc := by
  have h : (s.wakeRecord left n).pwr = s.pwr := State.Records.refl.eventD.pwr
  generalize s.wakeRecord left n = u at h ⊢
  unfold State.woken State.modPwr
  rw [h]
  exact ⟨rfl, rfl, rfl, rfl⟩

/-- The device runs again, and its legs are checked. -/
def State.awoken (s : State) : State := (s.modPwr fun w => { w with st := .run }).recheckLegs

theorem State.recheckLegs_pwr : s.recheckLegs.pwr = s.pwr := by
  unfold State.recheckLegs
  refine State.forPorts_keeps State.pwr _ (fun u r => ?_) s
  rw [State.modWm_eq, State.setPort_pwr]

theorem State.awoken_pwr : s.awoken.pwr = { s.pwr with st := .run } := State.recheckLegs_pwr

theorem State.tryPath_pwr : (s.forPorts State.tryPath).pwr = s.pwr :=
  ((State.Rests.refl (b := false)).forPorts (s := s) (g := State.tryPath) fun _ _ hv => hv.tryPath).pwr

theorem execWakeFromDoze_pwr (hs : s.pwr.st = .doze) (hl : s.pwr.wakeLatch = true) : ∃ t, execWakeFromDoze s = .next t ∧ t.pwr.st = .run
    ∧ t.pwr.entry = 0 ∧ t.pwr.wakeLatch = false ∧ t.pwr.lastWake = s.pwr.wakeSrc := by
  have hgo : ¬ (s.pwr.st ≠ .doze ∨ ¬ s.pwr.wakeLatch = true) := not_or.2 ⟨not_not.2 hs, not_not.2 hl⟩
  have hx : execWakeFromDoze s =
      .next (((s.awoken.wakeRecord 2 (s.msSince s.pwr.sleepTb)).woken (s.msSince s.pwr.sleepTb)).forPorts State.tryPath) :=
    congrArg Host.Outcome.next (if_neg hgo)
  obtain ⟨h1, h2, h3, h4⟩ := State.woken_wakeRecord (s := s.awoken) (left := 2) (ms := s.msSince s.pwr.sleepTb) (n := s.msSince s.pwr.sleepTb)
  rw [State.awoken_pwr] at h1 h4
  refine ⟨_, hx, ?_⟩
  rw [State.tryPath_pwr]
  exact ⟨h1, h2, h3, h4⟩

/-- Settles O45: entries through `State.enterSleep` and `State.commitSleep`, wakes through `State.wakeSet`. -/
theorem sleepAndWake : Obligations.SleepAndWake := by
  unfold Obligations.SleepAndWake
  refine ⟨fun s => ?_, fun s => ?_⟩
  · intro pathsOff
    have hoff : pathsOff ↔ (List.finRange 16).all (fun p => (s.port p).ef.path == .off && !(s.port p).ef.bfOn) = true := by
      simp [pathsOff]
    have hisNone : ∀ k, s.entryRow k = none ↔ (s.entryRow k).isNone = true := fun k => Option.isNone_iff_eq_none.symm
    have hfld : s.pwr.cfg.fld 23 16 = s.pwr.cfg.toNat / 65536 % 256 := by simp [Word.fld, Nat.shiftRight_eq_div_pow]
    have hfld' : s.pwr.cfg.fld 31 24 = s.pwr.cfg.toNat / 2 ^ 24 := by
      have := s.pwr.cfg.isLt
      simp [Word.fld, Nat.shiftRight_eq_div_pow]
      omega
    refine ⟨fun hs he hc hp => ?_, fun h => ?_, fun hs he hm hr => ?_, fun h => ?_, fun hs he hl hm hr => ?_, fun h => ?_, fun he hq hr => ?_,
      fun r he hq hr => ?_, fun he => ?_, fun he => ⟨?_, ?_⟩⟩
    · refine ⟨_, congrArg Host.Outcome.next (if_pos ⟨hs, he, hc, hoff.1 hp⟩), ?_⟩
      rw [State.Records.refl.eventD.pwr]
      rfl
    · refine congrArg Host.Outcome.next (if_neg fun ⟨h1, h2, h3, h4⟩ => ?_)
      rcases h with k | k | k | k
      · exact k h1
      · exact k h2
      · exact absurd (k.symm.trans h3) (by decide)
      · exact k (hoff.2 h4)
    · obtain ⟨h1, h2, h3, h4⟩ := State.enterSleep_pwr (s := s) (target := 2) (reqBy := 2)
      exact ⟨_, congrArg Host.Outcome.next (if_pos ⟨hs, he, by rw [hfld]; exact hm, (hisNone 2).1 hr⟩), h1, h2, h3, h4⟩
    · refine congrArg Host.Outcome.next (if_neg fun ⟨_, _, h3, h4⟩ => ?_)
      rcases h with k | k
      · exact h3 (hfld.trans k)
      · exact k ((hisNone 2).2 h4)
    · obtain ⟨h1, h2, -, h4⟩ := State.enterSleep_pwr (s := s) (target := 3) (reqBy := 3)
      exact ⟨_, congrArg Host.Outcome.next (if_pos ⟨hs, he, by rw [hl]; decide, by rw [hfld']; exact hm, (hisNone 3).1 hr⟩), h1, h2, h4⟩
    · exact congrArg Host.Outcome.next (if_neg fun k => h k.1)
    · have hgo : ¬ (s.pwr.entry ≠ 1 ∨ ¬ s.quiesced = true) := not_or.2 ⟨not_not.2 he, not_not.2 hq⟩
      have hx : execQuiesceComplete s = .next s.commitSleep := by
        unfold execQuiesceComplete
        rw [if_neg hgo, hr]
      exact ⟨_, hx, State.commitSleep_pwr⟩
    · have hgo : ¬ (s.pwr.entry ≠ 1 ∨ ¬ s.quiesced = true) := not_or.2 ⟨not_not.2 he, not_not.2 hq⟩
      have hx : execQuiesceComplete s = .next (s.abandonEntry 1 r) := by
        unfold execQuiesceComplete
        rw [if_neg hgo, hr]
      exact ⟨_, hx, State.abandonEntry_pwr⟩
    · exact ⟨_, congrArg Host.Outcome.next (if_pos he), State.abandonEntry_pwr⟩
    · exact congrArg Host.Outcome.next (if_pos (.inl he))
    · exact congrArg Host.Outcome.next (if_neg he)
  · refine ⟨execWakeFromDoze_pwr, fun h => ?_, fun hs hl => ?_, fun h => ?_, fun p hs he hp hw => ?_, fun p h => ?_, fun hs he hw => ?_,
      fun h => ?_, fun hs he hw => ?_, fun h => ?_, fun a n ha hs he hl hw => ?_, fun a ha => ?_⟩
    · exact congrArg Host.Outcome.next (if_pos (h.imp id fun k => by rw [k]; decide))
    · exact congrArg Host.Outcome.next (if_pos ⟨hs, hl⟩)
    · refine congrArg Host.Outcome.next (if_neg fun ⟨h1, h2⟩ => ?_)
      rcases h with k | k
      · exact k h1
      · exact absurd (k.symm.trans h2) (by decide)
    · refine ⟨_, congrArg Host.Outcome.next ((if_pos ⟨hs, hp⟩).trans (State.wakeSet_asleep hw he (.inr ⟨hs, rfl⟩))), rfl, rfl, ?_, fun hn => ?_⟩
      · show (s.pwr.wakeOut || s.pwr.st == .hibernate) = true
        rw [hs]
        exact Bool.or_true _
      · exact if_pos ⟨by decide, hn⟩
    · refine congrArg Host.Outcome.next (if_neg fun ⟨h1, h2⟩ => ?_)
      rcases h with k | k
      · exact k h1
      · exact absurd (k.symm.trans h2) (by decide)
    · exact ⟨_, congrArg Host.Outcome.next ((if_pos hs).trans (State.wakeSet_asleep hw he (.inr ⟨hs, rfl⟩))), rfl, rfl⟩
    · exact congrArg Host.Outcome.next (if_neg h)
    · have hsleep : (s.pwr.st = .doze ∧ wakeHas 2 7 = true) ∨ (s.pwr.st = .hibernate ∧ wakeHas 3 7 = true) :=
        hs.symm.imp (fun k => ⟨k, rfl⟩) fun k => ⟨k, rfl⟩
      exact ⟨_, congrArg Host.Outcome.next (State.wakeSet_asleep hw he hsleep), rfl, rfl⟩
    · exact congrArg Host.Outcome.next (State.wakeSet_off h)
    · have hx : execAddressMatchWake a s = .next ((s.modPwr fun w => { w with twWake := some (BitVec.ofNat 16 (a.toNat + 256 * n)) }).wakeSet 3) := by
        unfold execAddressMatchWake
        rw [ha]
        exact congrArg Host.Outcome.next (if_pos ⟨hs, by rw [hl]; decide, hw⟩)
      refine ⟨_, hx.trans (congrArg Host.Outcome.next (State.wakeSet_asleep hw he (.inr ⟨hs, rfl⟩))), rfl, rfl, rfl⟩
    · show execAddressMatchWake a s = .next s
      unfold execAddressMatchWake
      rw [ha]

end Sys2Proof.Machine
end

section
/-! REFUTATION of O55: a state in which a command of the two-wire ports reaches a port of the other side of the block. -/
namespace Sys2Proof.Machine

/-! ### O55 (03 R87) -/

/-- Cell 7 stands both in the meter stream of port 0 and, with an uncorrectable error, at the head of TWQ 0: no cell has two owners in a
store that its own commands have filled, but the statement does not ask for that. -/
def sharedCellState : State :=
  (State.reset.modFlow (fMtr 0) fun x => { x with cells := [{ idx := 7, pay := [.bytes [1]] }] }).modFlow (fTwq 0) fun x =>
    { x with cells := [{ idx := 7, pay := [.bytes [2]], ue := some 0 }] }

/-- Refutes O55: the controller of bus 0 meets the error, and the store tells it to the first flow that holds the cell
(`State.cellOwner`), here the meter stream, whose port counts a lost sample. -/
theorem not_deviceFrame : ¬ Obligations.DeviceFrame := by
  unfold Obligations.DeviceFrame
  intro h
  obtain ⟨hports, -⟩ := h (.twcItem 0 .stretched) sharedCellState _ rfl rfl
  have e := congrArg (fun v : Vector Port 16 => v[0].mtr.lost) hports
  exact absurd e (by decide +kernel)

end Sys2Proof.Machine
end

section
/-! SUPPORT for O29: what stopping a port and taking its work up again leave. `s.Stays t` says that t has the state and the pull-ups of every
port of s, what its eFuse has latched or is opening for, the power state, and the Timebase but for the numbering of records. -/
-- One declaration after another: elaborated side by side, the many short proofs of this file take more threads than the check has memory for.
set_option Elab.async false

namespace Sys2Proof.Machine

variable {s t u : State} {p : PortId} {b : Bool}

/-- What decides whether a lost Timebase stops the port, and the pull-ups it then has. -/
def Port.stand (x : Port) : PortSt × Bool × Option TripSt × BitVec 4 := (x.cc.st, x.cc.rpOn, x.ef.tripping, x.ef.latch)

structure State.Stays (s t : State) : Prop where
  port : ∀ r, (t.port r).stand = (s.port r).stand
  pwr : t.pwr = s.pwr
  tb : t.tb.clock = s.tb.clock

theorem State.Stays.refl : s.Stays s := ⟨fun _ => rfl, rfl, rfl⟩

theorem State.Stays.trans (h : s.Stays t) (k : t.Stays u) : s.Stays u :=
  ⟨fun r => (k.port r).trans (h.port r), k.pwr.trans h.pwr, k.tb.trans h.tb⟩

theorem State.Stays.records (h : s.Stays t) (k : t.Records u) : s.Stays u := by
  obtain ⟨-, -, -, -, -, -, -, hpwr, -⟩ := State.aside_fields k.aside
  exact h.trans ⟨fun r => by rw [State.port_of_aside k.aside], hpwr, k.tb⟩

theorem State.Stays.setPort {x : Port} (h : s.Stays t) (hx : x.stand = (t.port p).stand := by rfl) : s.Stays (t.setPort p x) :=
  h.trans ⟨fun r => by
    rw [State.port_setPort]
    split
    next e => rw [hx, e]
    · rfl, rfl, rfl⟩

theorem State.Stays.either {c : Prop} {_ : Decidable c} (h : s.Stays t) (k : s.Stays u) : s.Stays (if c then t else u) := by
  split <;> assumption

theorem State.Stays.foldl {α : Type} {g : State → α → State} {l : List α} (h : s.Stays t) (hg : ∀ u a, s.Stays u → s.Stays (g u a)) :
    s.Stays (l.foldl g t) := by
  induction l generalizing t with
  | nil => exact h
  | cons a l ih => exact ih (hg t a h)

theorem State.Stays.frame {sto hu bud pod ses hif flog wvl twi img bkp rst latB latT out fresh pending} (h : s.Stays t) :
    s.Stays ⟨t.tb, sto, t.ports, hu, bud, pod, ses, hif, flog, wvl, twi, img, t.pwr, bkp, rst, latB, latT, out, fresh, pending⟩ :=
  h.trans ⟨fun _ => rfl, rfl, rfl⟩

theorem State.Stays.emit {o : Out} (h : s.Stays t) : s.Stays (t.emit o) := h.frame

theorem State.Stays.modPd {f : PdState → PdState} (h : s.Stays t) : s.Stays (t.modPd p f) := h.setPort
theorem State.Stays.modPod {f : PodPort → PodPort} (h : s.Stays t) : s.Stays (t.modPod p f) := h.setPort
theorem State.Stays.modPol {f : PolState → PolState} (h : s.Stays t) : s.Stays (t.modPol p f) := h.setPort
theorem State.Stays.modSwap {f : SwapState → SwapState} (h : s.Stays t) : s.Stays (t.modSwap p f) := h.setPort
theorem State.Stays.modCnv {f : CnvState → CnvState} (h : s.Stays t) : s.Stays (t.modCnv p f) := h.setPort
theorem State.Stays.modMtr {f : MtrState → MtrState} (h : s.Stays t) : s.Stays (t.modMtr p f) := h.setPort
theorem State.Stays.modWm {f : WmState → WmState} (h : s.Stays t) : s.Stays (t.modWm p f) := h.setPort
theorem State.Stays.start {x : Tmr} (h : s.Stays t) : s.Stays (t.start p x) := h.setPort
theorem State.Stays.stop {x : Tmr} (h : s.Stays t) : s.Stays (t.stop p x) := h.setPort
theorem State.Stays.stopAll {l : List Tmr} (h : s.Stays t) : s.Stays (t.stopAll p l) := h.setPort

/-! ### Records, sessions and meter records -/

theorem State.Stays.eventP {cause sub v : Nat} (h : s.Stays t) : s.Stays (t.eventP cause p sub v) := h.records State.Records.refl.eventP

theorem State.Stays.eventD {cause : Nat} {fs : List (Nat × Nat × Nat)} (h : s.Stays t) : s.Stays (t.eventD cause fs) :=
  h.records State.Records.refl.eventD

theorem State.Stays.finish {d : Desc} {status : Nat} {r : Quad} (h : s.Stays t) : s.Stays (t.finish d status r) :=
  h.records State.Records.refl.finish

theorem State.Stays.modFlow {f : Nat} {g : Flow → Flow} (h : s.Stays t) : s.Stays (t.modFlow f g) := h.records State.Records.refl.modFlow

theorem State.Stays.popMsg {f : Nat} {m : PdMsg} (h : s.Stays t) : s.Stays (t.popMsg f m) := h.records State.Records.popMsg

theorem State.Stays.sendCell {f : Nat} {r : Payload} (h : s.Stays t) : s.Stays (t.sendCell f r) := by
  unfold State.sendCell
  split
  next u e => exact h.records (State.Records.refl.putCell (Option.ite_none_right_eq_some.mp e).2)
  · exact h.records State.Records.refl.modFlow.modFlow

theorem State.Stays.setCtx {k : Nat} {l : List Byte} (h : s.Stays t) : s.Stays (t.setCtx k l) := by
  unfold State.setCtx
  split
  · exact h.frame
  · exact h

theorem State.Stays.modSes {f : List Byte → List Byte} (h : s.Stays t) : s.Stays (t.modSes p f) := by
  unfold State.modSes
  dsimp only
  split
  · exact h
  · split
    · exact h.modMtr.setCtx
    · exact h.modMtr

theorem State.Stays.storeClose {k : Nat} {l : List Byte} (h : s.Stays t) : s.Stays (t.storeClose k l) := h.setCtx.sendCell.frame

theorem State.Stays.closeSession {r : EndReason} (h : s.Stays t) : s.Stays (t.closeSession p r) := by
  unfold State.closeSession
  dsimp only
  split
  · exact h
  · split
    · exact h.modSes.modSes.modSes
    · split
      · exact (h.modSes.modSes.modSes.records State.Records.refl.event).modMtr.storeClose
      · exact (h.modSes.modSes.modSes.records State.Records.refl.event).modMtr.modMtr

theorem State.Stays.meet {f : Nat} {c : Cell} (h : s.Stays t) : s.Stays (t.meet f c).2 := by
  have hc : s.Stays (t.correct f c) := h.either h.modFlow.frame
  unfold State.meet
  dsimp only
  split
  · exact hc
  · exact hc.modFlow.frame.eventD

theorem State.Stays.putMerged (h : s.Stays t) : s.Stays (t.putMerged p) := by
  unfold State.putMerged
  split
  · exact h
  · split
    · exact h
    next v e => exact (h.records (State.Records.refl.putRecord e)).modMtr

theorem State.Stays.pumpMtrN {n : Nat} (h : s.Stays t) : s.Stays (State.pumpMtrN n t) := by
  induction n generalizing t with
  | zero => exact h
  | succ n ih =>
    unfold State.pumpMtrN
    split
    · exact h
    · split
      · exact h
      next q _ =>
        split
        · exact ih h.frame.finish
        · split
          · exact h
          next c _ _ =>
            have hm : s.Stays (t.meet (fMtr q) c).2 := h.meet
            split
            next e =>
              rw [e] at hm
              exact ih (hm.records State.Records.refl.modFlow.freeCell).modMtr
            next e =>
              rw [e] at hm
              split
              · exact ih ((hm.emit.records State.Records.refl.readRecord).putMerged.frame)
              · exact ih (hm.records State.Records.refl.readRecord)

theorem State.Stays.pumpMtr (h : s.Stays t) : s.Stays t.pumpMtr := h.either h.pumpMtrN

theorem State.Stays.intervalEnd (h : s.Stays t) : s.Stays (t.intervalEnd p) := by
  unfold State.intervalEnd
  dsimp only
  split
  · exact h.modMtr.modSes
  · split
    · exact h.modMtr.modSes.modMtr.modFlow.modMtr
    · split
      next v e =>
        have hv := h.modMtr.modSes.modMtr.records (State.Records.refl.putRecord e)
        exact hv.pumpMtr.either hv
      · exact h.modMtr.modSes.modMtr.modFlow.modMtr

/-! ### The path -/

theorem State.Stays.modEf {f : EfState → EfState} (h : s.Stays t)
    (hf : ∀ e, (f e).tripping = e.tripping ∧ (f e).latch = e.latch := by intro _; exact ⟨rfl, rfl⟩) : s.Stays (t.modEf p f) := by
  obtain ⟨ht, hl⟩ := hf (t.port p).ef
  refine h.setPort ?_
  simp only [Port.stand, ht, hl]

theorem State.Stays.pathTo {st : PathSt} (h : s.Stays t) : s.Stays (t.pathTo p st) := by
  unfold State.pathTo
  extract_lets old s1 s2 s3 s4 s5
  have h1 : s.Stays s1 := h.modEf.modWm
  have h2 : s.Stays s2 := h1.modMtr.either h1
  have h3 : s.Stays s3 := h2.start.either h2.stop
  have h4 : s.Stays s4 := h3.either h3.intervalEnd
  have h5 : s.Stays s5 := h4.modMtr
  exact h5.modWm.either h3

theorem State.Stays.tryPath (h : s.Stays t) : s.Stays (t.tryPath p) := h.pathTo.either h

theorem State.Stays.openPath (h : s.Stays t) : s.Stays (t.openPath p) := by
  unfold State.openPath
  extract_lets s1 s2
  have h2 : s.Stays s2 := h.modCnv.modEf
  exact h2.either h2.pathTo

theorem State.Stays.modCc {f : CcState → CcState} (h : s.Stays t)
    (hf : ∀ c, (f c).st = c.st ∧ (f c).rpOn = c.rpOn := by intro _; exact ⟨rfl, rfl⟩) : s.Stays (t.modCc p f) := by
  obtain ⟨hs, hr⟩ := hf (t.port p).cc
  refine h.setPort ?_
  simp only [Port.stand, hs, hr]

theorem State.Stays.vconnOff (h : s.Stays t) : s.Stays (t.vconnOff p) := h.modCc.modSwap.either h

/-! ### The message layer and the sequencer -/

theorem State.Stays.nextTx (h : s.Stays t) : s.Stays (t.nextTx p) := by
  unfold State.nextTx
  generalize (t.flow (fPdTx p)).cells.length + 1 = n
  induction n generalizing t with
  | zero => exact h
  | succ n ih =>
    unfold State.nextTxN
    dsimp only
    split
    · exact h
    · split
      · exact (ih h.emit.popMsg).either (h.modPd.start.either h.modPd)
      · exact h

theorem State.Stays.pdSend {m : PdMsg} {prod : PdProd} {first : Bool} (h : s.Stays t) : s.Stays (t.pdSend p m prod first) := by
  unfold State.pdSend
  dsimp only
  split
  · exact h.emit
  · split
    · exact h.emit
    · split
      next u e => exact (h.records (State.Records.putMsg (Option.ite_none_right_eq_some.mp e).2)).nextTx
      · exact h.modFlow.modFlow

theorem State.Stays.say {m : PdMsg} {first : Bool} (h : s.Stays t) : s.Stays (t.say p m first) := h.pdSend

theorem State.Stays.flushMsg {o : TxOutcome} {m : PdMsg} {prod : PdProd} {n : Nat} (h : s.Stays t) : s.Stays (t.flushMsg p o m prod n) := by
  unfold State.flushMsg
  exact h.modPd.emit

theorem State.Stays.emptyFlow {f : Nat} (h : s.Stays t) : s.Stays (t.emptyFlow f) := h.foldl fun _ _ h => by
  rename_i v _
  cases e : v.popCell f with
  | none => exact h
  | some x => exact h.records (State.Records.refl.popCell e)

theorem State.Stays.flushTx {o : TxOutcome} (h : s.Stays t) : s.Stays (t.flushTx p o) := by
  unfold State.flushTx
  extract_lets +onlyGivenNames x s1 s2
  have h1 : s.Stays s1 := h.foldl fun u r h => by
    split
    · exact h.flushMsg
    · exact h
  have h2 : s.Stays s2 := h1.foldl fun u r h => by
    split
    · exact h.flushMsg
    · exact h
  exact h2.emptyFlow.modFlow.modPd.stopAll

theorem State.Stays.pdStop (h : s.Stays t) : s.Stays (t.pdStop p) := h.flushTx.stop.modPd.modPd

theorem State.Stays.endEpr {sub : Nat} (h : s.Stays t) : s.Stays (t.endEpr p sub) := h.stop.modPol.eventP.either h

theorem State.Stays.commitFloor (h : s.Stays t) : s.Stays (t.commitFloor p) := by
  unfold State.commitFloor
  exact h.modPol

theorem State.Stays.endContract (h : s.Stays t) : s.Stays (t.endContract p) := h.endEpr.modPd.modPol.commitFloor

theorem State.Stays.dropPartnerWork (h : s.Stays t) : s.Stays (t.dropPartnerWork p) :=
  (State.Stays.either h h.modPod.eventP).modPod.modPol

theorem State.Stays.seqOff (h : s.Stays t) : s.Stays (t.seqOff p) := by
  unfold State.seqOff
  exact h.endContract.dropPartnerWork.stopAll.modPol.modSwap

theorem State.Stays.sendCaps {first : Bool} (h : s.Stays t) : s.Stays (t.sendCaps p first) := by
  have hl : s.Stays ((t.modPol p fun x => { x with cfgNow := x.cfg, limNow := x.lim }).eprLeave p) := h.modPol.say.endEpr.either h.modPol
  exact (State.Stays.either hl.frame hl).modPol.say

theorem State.Stays.toSendCaps {first : Bool} (h : s.Stays t) : s.Stays (t.toSendCaps p first) := h.modPol.modPol.either h.modPol.sendCaps

theorem State.Stays.holdupEnd (h : s.Stays t) : s.Stays t.holdupEnd := h.frame.eventD.either h

/-! ### A port's waiting work -/

theorem State.Stays.swapAsk {k : SwapKind} (h : s.Stays t) : s.Stays (t.swapAsk p k) :=
  (State.Stays.either h.modSwap h.modSwap.modPol).say

theorem State.Stays.cableSend (h : s.Stays t) : s.Stays (t.cableSend p) :=
  h.say.either ((h.say.modPol.stopAll.modPd.toSendCaps).either ((h.say.stop.modPol.say.eventP).either h.say.modPol.modPd))

theorem State.Stays.reevaluate (h : s.Stays t) : s.Stays (t.reevaluate p) := by
  unfold State.reevaluate
  dsimp only
  split
  · exact h
  · split
    · split
      · exact h.modSwap.finish
      · split
        · exact h.modSwap.swapAsk
        · exact h.modSwap.finish
    · split
      · exact h.modSwap.finish
      · split
        · exact h.modSwap.swapAsk
        · exact h.modSwap.finish
    · exact h.modSwap

theorem State.Stays.retryWait (h : s.Stays t) : s.Stays (t.retryWait p) := by
  unfold State.retryWait
  dsimp only
  split
  · exact h
  · split
    · exact h
    · exact h.modSwap.say
    · exact h.either h.swapAsk
    · exact h.either h.swapAsk

theorem State.Stays.idleWork (h : s.Stays t) : s.Stays (t.idleWork p) := by
  have h1 : s.Stays (((t.reevaluate p).retryWait p).autoReturn p) := h.reevaluate.retryWait.swapAsk.either h.reevaluate.retryWait
  have h2 : s.Stays ((((t.reevaluate p).retryWait p).autoReturn p).eprCheck p) := h1.toSendCaps.either h1
  exact (h2.modPol.cableSend).either h2

end Sys2Proof.Machine
end

section
/-! PROOF of O29: the store's upkeep, and the loss, the return and the calibration of the Timebase (03 R64 to R88, 02 R43 to R48). -/
namespace Sys2Proof.Machine

variable {s t u : State} {p q : PortId} {cell f : Nat} {bad : Bool}

/-! ### Scrubbing and suspect cells -/

/-- A scrub read moves the pass on and nothing else. -/
theorem StoState.scrubbed_keeps (x : StoState) (now : Quad) : (x.scrubbed now).ue = x.ue ∧ (x.scrubbed now).ce = x.ce
    ∧ (x.scrubbed now).flows = x.flows := by
  unfold StoState.scrubbed
  dsimp only
  split <;> exact ⟨rfl, rfl, rfl⟩

theorem execScrubRead_on {w : Fin 32} {r : EccRes} (hc : cell < 16384) (hr : s.sto.retired.contains cell = false) (he : s.sto.cfg.getLsbD 0 = true) :
    let u : State := { s with sto := s.sto.scrubbed s.now }
    exec (.scrubRead cell w r) s = .next (match r with
      | .clean => u
      | .single => { u with sto := { u.sto with ce := satInc u.sto.ce } }
      | .double => u.storeUe cell w.val) := by
  intro u
  refine congrArg Host.Outcome.next ((if_neg ?_).trans (if_pos he))
  rintro (k | k)
  · omega
  · rw [hr] at k; exact absurd k (by decide)

theorem execScrubRead_off {w : Fin 32} {r : EccRes} (hc : cell < 16384) (hr : s.sto.retired.contains cell = false) (he : s.sto.cfg.getLsbD 0 = false) :
    exec (.scrubRead cell w r) s = .next (match s.cellOwner cell with
      | none => s
      | some (f, _) => s.modFlow f fun x => { x with cells := x.cells.map fun c =>
        if c.idx = cell then
          match r with
          | .clean => c
          | .single => { c with ce := insertNew w.val c.ce }
          | .double => { c with ue := some w.val }
        else c }) := by
  refine congrArg Host.Outcome.next ((if_neg ?_).trans (if_neg fun k => ?_))
  · rintro (k | k)
    · omega
    · rw [hr] at k; exact absurd k (by decide)
  · exact absurd (he.symm.trans k) (by decide)

theorem execScrubRead_retired {w : Fin 32} {r : EccRes} (hr : s.sto.retired.contains cell = true) : exec (.scrubRead cell w r) s = .next s :=
  congrArg Host.Outcome.next (if_pos (.inr hr))

theorem StoState.upkeep_notes {x y : StoState} (h : x.upkeep = y.upkeep) : x.ue = y.ue ∧ x.suspect = y.suspect ∧ x.ueLast = y.ueLast := by
  have hu := congrArg StoState.ue h
  have hs := congrArg StoState.suspect h
  have hl := congrArg StoState.ueLast h
  exact ⟨hu, hs, hl⟩

theorem StoState.upkeep_retired {x y : StoState} (h : x.upkeep = y.upkeep) : x.retired = y.retired := by
  have hr := congrArg StoState.retired h
  exact hr

theorem State.eventD_store (cause : Nat) (fs : List (Nat × Nat × Nat)) :
    (s.eventD cause fs).sto.suspect = s.sto.suspect ∧ (s.eventD cause fs).sto.retired = s.sto.retired := by
  have k := (State.Records.refl (s := s).eventD (cause := cause) (fs := fs)).sto
  exact ⟨(StoState.upkeep_notes k).2.1, StoState.upkeep_retired k⟩

/-- An error in a cell that no flow holds is counted and kept with its place. -/
theorem State.storeUe_free {w : Nat} (ho : s.cellOwner cell = none) (hl : s.looseOwner cell = none) :
    (s.storeUe cell w).sto.ue = satInc s.sto.ue ∧ (cell, w) ∈ (s.storeUe cell w).sto.suspect
      ∧ (s.storeUe cell w).sto.ueLast = BitVec.ofNat 32 (cell + 2 ^ 14 * w + 2 ^ 19 * 0xFF) := by
  have e : s.storeUe cell w = s.ueNote cell w none := by unfold State.storeUe; rw [ho, hl]
  rw [e]
  unfold State.ueNote
  extract_lets x y z
  have hz : z.ue = y.ue ∧ z.suspect = y.suspect ∧ z.ueLast = y.ueLast := by
    unfold z
    split
    · exact ⟨rfl, rfl, rfl⟩
    · split <;> exact ⟨rfl, rfl, rfl⟩
  obtain ⟨hue, hsus, hlast⟩ := StoState.upkeep_notes (State.Records.refl (s := { s with sto := z }).eventD (cause := 0x0003)
    (fs := [(24, 2, cell), (26, 1, w), (27, 1, Option.getD none 0xFF)])).sto
  rw [hue, hsus, hlast, hz.1, hz.2.1, hz.2.2]
  exact ⟨rfl, List.mem_append_right _ (List.mem_singleton.2 rfl), rfl⟩

theorem execCellRewriteCheck_other (h : ∀ x ∈ s.sto.suspect, x.1 ≠ cell) : exec (.cellRewriteCheck cell bad) s = .next s := by
  have e : (s.sto.suspect.find? fun x => x.1 == cell) = none := List.find?_eq_none.2 fun x hx k => h x hx (eq_of_beq k)
  refine congrArg Host.Outcome.next ?_
  dsimp only
  rw [e]

theorem execCellRewriteCheck_owned (h : (s.cellOwner cell).isSome = true ∨ (s.looseOwner cell).isSome = true) :
    exec (.cellRewriteCheck cell bad) s = .next s := by
  refine congrArg Host.Outcome.next ?_
  dsimp only
  split
  · rfl
  next i w e =>
    have hi := List.find?_some e
    obtain rfl := eq_of_beq hi
    exact if_pos h

/-- A suspect cell that no flow holds. -/
theorem execCellRewriteCheck_free (hs : (s.sto.suspect.any fun x => x.1 == cell) = true) (ho : s.cellOwner cell = none)
    (hl : s.looseOwner cell = none) :
    let t := { s.sto with suspect := s.sto.suspect.filter fun x => x.1 != cell }
    ∃ w, exec (.cellRewriteCheck cell bad) s = .next (
      if ¬ bad ∨ ¬ s.sto.cfg.getLsbD 1 then { s with sto := { t with freed := t.freed ++ [cell] } }
      else if s.sto.c2Cap ≤ 4096 then State.eventD { s with sto := { t with freed := t.freed ++ [cell] } } 0x0003
        [(24, 2, cell), (26, 1, w), (27, 1, 0xFF), (28, 1, 0), (29, 1, 1)]
      else State.eventD { s with sto := { t with retired := t.retired ++ [cell] } } 0x0003
        [(24, 2, cell), (26, 1, w), (27, 1, 0xFF), (28, 1, 1), (29, 1, 0)]) := by
  intro t
  obtain ⟨x, hx⟩ := Option.isSome_iff_exists.1 ((List.find?_isSome (p := fun x : Nat × Nat => x.1 == cell)).2 (List.any_eq_true.1 hs))
  obtain ⟨i, w⟩ := x
  have hi := List.find?_some hx
  obtain rfl := eq_of_beq hi
  refine ⟨w, congrArg Host.Outcome.next ?_⟩
  dsimp only
  rw [hx]
  refine if_neg ?_
  rw [ho, hl]
  exact fun k => by simp at k

/-! ### Credit -/

theorem execCreditReturn_none (h : s.credit f = 0) : exec (.creditReturn f) s = .next s := congrArg Host.Outcome.next (if_pos h)

theorem execCreditReturn_some (h : 0 < s.credit f) : exec (.creditReturn f) s = .next (
    if 0x10 ≤ f ∧ f < 0x20 then (s.admitTx ⟨f % 16, Nat.mod_lt _ (by decide)⟩).nextTx ⟨f % 16, Nat.mod_lt _ (by decide)⟩
    else if 0x40 ≤ f ∧ f < 0x50 then s.putMerged ⟨f % 16, Nat.mod_lt _ (by decide)⟩
    else if 0x50 ≤ f ∧ f < 0x60 then (s.admitCell f).pumpWave
    else if f = fPodUpd then s.podBlocksGo
    else if f = fImg then s.imgBlocksGo
    else if f = fJrn ∨ 0x70 ≤ f then s.admitCell f
    else s) := congrArg Host.Outcome.next (if_neg (Nat.ne_of_gt h))

theorem State.flow_setFlow (hf : f < 117) (x : Flow) : (s.setFlow f x).flow f = x := State.flow_modFlow hf fun _ => x

/-- A flow with credit takes a cell, with its queue and its waiting producers as they were. -/
theorem State.takeCell_flow (hf : f < 117) (h : s.credit f ≠ 0) : ∃ i u, s.takeCell f = some (i, u)
    ∧ (u.flow f).waiters = (s.flow f).waiters ∧ (u.flow f).cells = (s.flow f).cells := by
  have hd : (s.sto.drawFor (s.flow f)).waiters = (s.flow f).waiters ∧ (s.sto.drawFor (s.flow f)).cells = (s.flow f).cells := by
    unfold StoState.drawFor
    split
    · exact ⟨rfl, rfl⟩
    · split <;> exact ⟨rfl, rfl⟩
  unfold State.takeCell
  rw [if_neg h]
  extract_lets x
  split
  next i t _ =>
    extract_lets y
    refine ⟨i, _, rfl, ?_⟩
    rw [State.flow_setFlow hf]
    exact hd

/-- The cell that a flow with credit takes stands at the end of its queue; the flow's waiting producers are as they were. -/
theorem State.putCell_flow {pay : List Payload} (hf : f < 117) (h : s.credit f ≠ 0) : ∃ i u, s.putCell f pay = some u
    ∧ (u.flow f).waiters = (s.flow f).waiters ∧ (u.flow f).cells = (s.flow f).cells ++ [{ idx := i, pay }] := by
  obtain ⟨i, v, hv, hwait, hcells⟩ := State.takeCell_flow hf h
  refine ⟨i, v.queueCell f { idx := i, pay }, congrArg (Option.map _) hv, ?_⟩
  unfold State.queueCell
  rw [State.flow_modFlow hf]
  exact ⟨hwait, congrArg (· ++ _) hcells⟩

/-- The first waiting producer has its cell queued. -/
theorem State.admitCell_flow {r : Payload} {l : List Waiter} (hf : f < 117) (h : 0 < s.credit f) (hw : (s.flow f).waiters = .cell r :: l) :
    ((s.admitCell f).flow f).waiters = l ∧ ((s.admitCell f).flow f).cells.map Cell.pay = (s.flow f).cells.map Cell.pay ++ [[r]] := by
  obtain ⟨i, u, hu, -, hcells⟩ := s.putCell_flow (pay := [r]) hf (Nat.ne_of_gt h)
  unfold State.admitCell
  rw [hw]
  dsimp only
  rw [hu]
  dsimp only
  rw [State.flow_modFlow hf]
  refine ⟨rfl, ?_⟩
  dsimp only
  rw [hcells, List.map_append]
  rfl

/-! ### The Timebase -/

/-- A port that is stopped for want of the Timebase. -/
def Port.stopped (x : Port) : Prop := x.cc.st = .disabled ∧ x.cc.rpOn = false

theorem Port.stand_st {x y : Port} (h : x.stand = y.stand) : x.cc.st = y.cc.st := by
  simp only [Port.stand, Prod.mk.injEq] at h
  exact h.1

theorem Port.stand_stopped {x y : Port} (h : x.stand = y.stand) : x.stopped ↔ y.stopped := by
  simp only [Port.stand, Prod.mk.injEq] at h
  obtain ⟨hs, hr, -⟩ := h
  unfold Port.stopped
  rw [hs, hr]

theorem Port.stand_lossStops {x y : Port} (h : x.stand = y.stand) : x.lossStops = y.lossStops := by
  simp only [Port.stand, Prod.mk.injEq] at h
  obtain ⟨hs, -, ht, hl⟩ := h
  unfold Port.lossStops Port.latching
  rw [hs, ht, hl]

/-- A port that the loss stops is in DISABLED with its pull-ups off, and every other port stands as before. -/
theorem State.disable_stand {r : EndReason} : ((s.disable p r).port p).stopped ∧ (∀ q, q ≠ p → ((s.disable p r).port q).stand = (s.port q).stand)
    ∧ (s.disable p r).pwr = s.pwr ∧ (s.disable p r).tb.clock = s.tb.clock := by
  unfold State.disable
  extract_lets st s1 s2 s3 s4
  have h4 : s.Stays s4 := State.Stays.refl.openPath.vconnOff.closeSession.seqOff.pdStop.stopAll.modCnv.modEf.modSwap
  clear_value s4
  have h : ∀ u : State, u.Stays u.holdupEnd := fun u => State.Stays.refl.holdupEnd
  refine ⟨(Port.stand_stopped ((h _).port p)).2 ?_, fun q hq => ((h _).port q).trans ?_, (h _).pwr.trans h4.pwr, (h _).tb.trans h4.tb⟩
  · rw [State.modCc_eq, State.port_setPort_self]; exact ⟨rfl, rfl⟩
  · rw [State.modCc_eq, State.port_setPort_ne _ hq.symm]; exact h4.port q

/-- The table of ports stopped, but for which every command of a port leaves the Timebase. -/
def TbState.unmarked (b : TbState) : TbState := { b.clock with tbDisabled := 0 }

theorem TbState.unmarked_of_clock {x y : TbState} (h : x.clock = y.clock) : x.unmarked = y.unmarked ∧ x.tbDisabled = y.tbDisabled := by
  have hm := congrArg TbState.tbDisabled h
  unfold TbState.unmarked
  rw [h]
  exact ⟨rfl, hm⟩

/-- What the stop of one port for want of the Timebase does. -/
structure State.LossStopped (p : PortId) (s t : State) : Prop where
  self : (s.port p).lossStops = true → (t.port p).stopped ∧ t.tb.tbDisabled = s.tb.tbDisabled ||| BitVec.ofNat 16 (2 ^ p.val)
  spared : (s.port p).lossStops = false → t = s
  other : ∀ q, q ≠ p → (t.port q).stand = (s.port q).stand
  marks : ∀ i, s.tb.tbDisabled.getLsbD i = true → t.tb.tbDisabled.getLsbD i = true
  pwr : t.pwr = s.pwr
  tb : t.tb.unmarked = s.tb.unmarked

theorem State.lossStop_spec : s.LossStopped p (s.lossStop p) := by
  unfold State.lossStop
  split
  next h =>
    exact ⟨fun k => absurd k h, fun _ => rfl, fun _ _ => rfl, fun _ => id, rfl, rfl⟩
  next h =>
    extract_lets +onlyGivenNames b d
    have hstop : (s.port p).lossStops = true := Decidable.not_not.1 h
    obtain ⟨hself, hother, hpwr, htb⟩ := State.disable_stand (p := p) (r := .timebase)
      (s := { s with tb := { s.tb with tbDisabled := s.tb.tbDisabled ||| BitVec.ofNat 16 (2 ^ p.val) } })
    have hd : d.Stays ((d.hif.table.filter fun o => o.onPort p && o.ph != .done && o.ph != .fetched && o.d.op.toNat != 0x03).foldl
        (fun s o => s.finish o.d stStateConflict (s.conflict o.d 12)) d) := State.Stays.refl.foldl fun _ _ h => h.finish
    obtain ⟨hun, hmark⟩ := TbState.unmarked_of_clock (hd.tb.trans htb)
    refine ⟨fun _ => ⟨(Port.stand_stopped (hd.port p)).2 hself, hmark⟩, fun k => absurd (hstop.symm.trans k) (by decide),
      fun q hq => (hd.port q).trans (hother q hq), fun i hi => ?_, hd.pwr.trans hpwr, hun⟩
    rw [hmark]
    exact (BitVec.getLsbD_or ..).trans (by rw [hi]; rfl)

/-- A fold over the ports that reaches a condition at one port, from one that the ports before it keep, ends with it where the ports after
it keep it. -/
theorem State.forPorts_reach {g : State → PortId → State} {A B : State → Prop} (p : PortId) (ha : ∀ u r, r ≠ p → A u → A (g u r))
    (hab : ∀ u, A u → B (g u p)) (hb : ∀ u r, r ≠ p → B u → B (g u r)) (h : A s) : B (s.forPorts g) := by
  obtain ⟨l, m, hl⟩ := List.append_of_mem (List.mem_finRange p)
  have hn : (l ++ p :: m).Nodup := hl ▸ List.nodup_finRange 16
  have hkeep : ∀ {C : State → Prop} (k : List PortId) (u : State), (∀ u r, r ≠ p → C u → C (g u r)) → p ∉ k → C u → C (k.foldl g u) := by
    intro C k
    induction k with
    | nil => exact fun _ _ _ hu => hu
    | cons r k ih => exact fun u hg hp hu => ih _ hg (fun e => hp (List.mem_cons_of_mem _ e)) (hg u r (fun e => hp (e ▸ List.mem_cons_self)) hu)
  unfold State.forPorts
  rw [hl, List.foldl_append, List.foldl_cons]
  have hpl : p ∉ l := fun e => List.disjoint_of_nodup_append hn e List.mem_cons_self
  have hpm : p ∉ m := (List.nodup_cons.1 (List.nodup_append.1 hn).2.1).1
  exact hkeep m _ hb hpm (hab _ (hkeep l _ ha hpl h))

/-- What the loss of the Timebase does to the ports. -/
theorem State.lossStops_spec : (s.forPorts State.lossStop).pwr = s.pwr ∧ (s.forPorts State.lossStop).tb.unmarked = s.tb.unmarked
    ∧ ((s.port p).lossStops = true → ((s.forPorts State.lossStop).port p).stopped
        ∧ (s.forPorts State.lossStop).tb.tbDisabled.getLsbD p.val = true)
    ∧ ((s.port p).lossStops = false → ((s.forPorts State.lossStop).port p).stand = (s.port p).stand) := by
  refine ⟨State.forPorts_keeps State.pwr _ (fun u r => State.lossStop_spec.pwr) s,
    State.forPorts_keeps (fun u => u.tb.unmarked) _ (fun u r => State.lossStop_spec.tb) s, fun h => ?_, fun h => ?_⟩
  · refine State.forPorts_reach (A := fun u => (u.port p).lossStops = true)
      (B := fun u => (u.port p).stopped ∧ u.tb.tbDisabled.getLsbD p.val = true) p (fun u r hr hu => ?_) (fun u hu => ?_) (fun u r hr hu => ?_) h
    · exact (Port.stand_lossStops (State.lossStop_spec.other p hr.symm)).trans hu
    · obtain ⟨hs, hm⟩ := State.lossStop_spec.self hu
      refine ⟨hs, ?_⟩
      rw [hm, BitVec.getLsbD_or, BitVec.getLsbD_ofNat, Nat.testBit_two_pow_self]
      simp
    · exact ⟨(Port.stand_stopped (State.lossStop_spec.other p hr.symm)).2 hu.1, State.lossStop_spec.marks _ hu.2⟩
  · have hk : ∀ u : State, (u.port p).stand = (s.port p).stand → (u.port p).lossStops = false := fun u hu => (Port.stand_lossStops hu).trans h
    refine State.forPorts_reach (A := fun u => (u.port p).stand = (s.port p).stand)
      (B := fun u => (u.port p).stand = (s.port p).stand) p (fun u r hr hu => ?_) (fun u hu => ?_) (fun u r hr hu => ?_) rfl
    · exact (State.lossStop_spec.other p hr.symm).trans hu
    · rw [State.lossStop_spec.spared (hk u hu)]; exact hu
    · exact (State.lossStop_spec.other p hr.symm).trans hu

theorem TbState.unmarked_fields {x y : TbState} (h : x.unmarked = y.unmarked) : x.running = y.running ∧ x.fallback = y.fallback
    ∧ x.lostSeen = y.lostSeen ∧ x.lossCount = y.lossCount ∧ x.count = y.count ∧ x.calDone = y.calDone := by
  have h1 := congrArg TbState.running h
  have h2 := congrArg TbState.fallback h
  have h3 := congrArg TbState.lostSeen h
  have h4 := congrArg TbState.lossCount h
  have h5 := congrArg TbState.count h
  have h6 := congrArg TbState.calDone h
  exact ⟨h1, h2, h3, h4, h5, h6⟩

theorem State.faultN_of_fallback (hf : s.tb.fallback = true) (hp : s.pwr.st ≠ .hibernate) : s.faultN = .low := by
  unfold State.faultN State.faultHolds
  rw [hf, Bool.or_true]
  exact if_pos ⟨hp, rfl⟩

/-- A calibration cycle at the return of the Timebase. -/
theorem State.calibrate_spec : (s.calibrate.port p).stand = (s.port p).stand ∧ s.calibrate.tb.running = true ∧ s.calibrate.tb.calDone = true
    ∧ s.calibrate.tb.fallback = s.tb.fallback ∧ s.calibrate.tb.tbDisabled = s.tb.tbDisabled := by
  unfold State.calibrate
  split
  next v u e =>
    have hu : (u.port p).stand = (s.port p).stand ∧ u.tb = s.tb := by
      obtain ⟨-, rfl⟩ := Prod.mk.inj e
      exact ⟨rfl, rfl⟩
    extract_lets b w
    have hg (x : State) (r : PortId) : x.Stays (match x.draw with | (v, s) => s.modCnv r fun c => { c with dlySteps := v.toNat % 65536 }) := by
      split
      next v' x' e' =>
        obtain ⟨-, rfl⟩ := Prod.mk.inj e'
        exact State.Stays.refl.frame.modCnv
    have hw : w.Stays (w.forPorts fun s p => match s.draw with | (v, s) => s.modCnv p fun c => { c with dlySteps := v.toNat % 65536 }) :=
      State.Stays.refl.foldl fun x r h => h.trans (hg x r)
    obtain ⟨hrun, hfall, -, -, -, hcal⟩ := TbState.unmarked_fields (TbState.unmarked_of_clock hw.tb).1
    exact ⟨(hw.port p).trans hu.1, hrun, hcal, hfall.trans (by rw [← hu.2]),
      (TbState.unmarked_of_clock hw.tb).2.trans (by rw [← hu.2])⟩

/-- A port that goes to UNATTACHED leaves the others as they stand. -/
theorem State.toUnattached_stand : ((s.toUnattached p).port p).cc.st = .unattached
    ∧ (∀ q, q ≠ p → ((s.toUnattached p).port q).stand = (s.port q).stand) ∧ (s.toUnattached p).tb.clock = s.tb.clock := by
  unfold State.toUnattached
  extract_lets s1 s2
  have h1 : (s1.port p).cc.st = .unattached := by
    unfold s1; rw [State.modCc_eq, State.port_setPort_self]
  have ho (q) (hq : q ≠ p) : s1.port q = s.port q := State.port_setPort_ne _ hq.symm
  have ht : s1.tb = s.tb := rfl
  clear_value s1
  have hr : s1.Stays ((s2.takeRp p).start p .reprobe) := by
    have h2 : s1.Stays s2 := State.Stays.refl.modPd.modPol
    have h3 : s1.Stays (s2.takeRp p) := h2.modCc.either h2.modCc.frame
    exact h3.start
  exact ⟨(Port.stand_st (hr.port p)).trans h1, fun q hq => (hr.port q).trans (congrArg Port.stand (ho q hq)), hr.tb.trans (congrArg TbState.clock ht)⟩

/-- What the Timebase's return does to one port. -/
def State.resumed (map : BitVec 16) (s : State) (p : PortId) : State :=
  let s := if map.getLsbD p.val ∧ (s.port p).cc.st = .disabled then s.toUnattached p else s
  (s.tryPath p).idleWork p

theorem State.resumed_spec (map : BitVec 16) : (∀ q, q ≠ p → ((s.resumed map p).port q).stand = (s.port q).stand)
    ∧ (s.resumed map p).tb.clock = s.tb.clock
    ∧ (map.getLsbD p.val = true → (s.port p).cc.st = .disabled → ((s.resumed map p).port p).cc.st = .unattached) := by
  obtain ⟨hst, hother, htb⟩ := s.toUnattached_stand (p := p)
  have hwork (u : State) : u.Stays ((u.tryPath p).idleWork p) := State.Stays.refl.tryPath.idleWork
  unfold State.resumed
  dsimp only
  refine ⟨fun q hq => ((hwork _).port q).trans ?_, (hwork _).tb.trans ?_, fun hm hd => ?_⟩
  · split
    · exact hother q hq
    · rfl
  · split
    · exact htb
    · rfl
  · refine (Port.stand_st ((hwork _).port p)).trans ?_
    rw [if_pos ⟨hm, hd⟩]
    exact hst

/-- The block after the calibration at the Timebase's return, with the return recorded. -/
def State.recalibrated (s : State) : State :=
  (State.calibrate { s with tb := { s.tb with fallback := false, tbDisabled := 0 } }).eventD 0x0005 [(24, 8, s.tb.lossCount.toNat)]

theorem execTimebaseRestored_eq (hf : s.tb.fallback = true) :
    exec .timebaseRestored s = .next (s.recalibrated.forPorts (State.resumed s.tb.tbDisabled)) := by
  have e : execTimebaseRestored s
      = .next (if ¬ s.tb.fallback = true then s else s.recalibrated.forPorts (State.resumed s.tb.tbDisabled)) := rfl
  exact e.trans (congrArg Host.Outcome.next (if_neg fun k => k hf))

theorem execTimebaseRestored_spec (hf : s.tb.fallback = true) : ∃ t, exec .timebaseRestored s = .next t ∧ t.tb.running = true
    ∧ t.tb.fallback = false ∧ t.tb.calDone = true ∧ t.tb.tbDisabled = 0
    ∧ ∀ p, s.tb.tbDisabled.getLsbD p.val = true → (s.port p).cc.st = .disabled → (t.port p).cc.st = .unattached := by
  refine ⟨_, execTimebaseRestored_eq hf, ?_⟩
  obtain ⟨-, hrun, hcal, hfall, hdis⟩ :=
    State.calibrate_spec (s := { s with tb := { s.tb with fallback := false, tbDisabled := 0 } }) (p := 0)
  have h2 : State.Stays (State.calibrate { s with tb := { s.tb with fallback := false, tbDisabled := 0 } }) s.recalibrated := State.Stays.refl.eventD
  generalize s.recalibrated = s2 at h2 ⊢
  generalize s.tb.tbDisabled = map
  have htb := (State.forPorts_keeps (fun u => u.tb.clock) (State.resumed map) (fun u r => (u.resumed_spec map).2.1) s2).trans h2.tb
  obtain ⟨hun, hmark⟩ := TbState.unmarked_of_clock htb
  obtain ⟨krun, kfall, -, -, -, kcal⟩ := TbState.unmarked_fields hun
  refine ⟨krun.trans hrun, kfall.trans hfall, kcal.trans hcal, hmark.trans hdis, fun p hp hst => ?_⟩
  have hs1 := (State.calibrate_spec (s := { s with tb := { s.tb with fallback := false, tbDisabled := 0 } }) (p := p)).1
  have hd : (s2.port p).cc.st = .disabled :=
    (Port.stand_st ((h2.port p).trans hs1)).trans hst
  refine State.forPorts_reach (g := State.resumed map) (A := fun u => (u.port p).cc.st = .disabled) (B := fun u => (u.port p).cc.st = .unattached)
    p (fun u r hr hu => ?_) (fun u hu => (u.resumed_spec map).2.2 hp hu) (fun u r hr hu => ?_) hd
  · exact (Port.stand_st ((u.resumed_spec map).1 p hr.symm)).trans hu
  · exact (Port.stand_st ((u.resumed_spec map).1 p hr.symm)).trans hu

/-- The block at the loss of the Timebase, with the loss recorded, before its ports stop. -/
def State.lostEdge (noEdge : Bool) (s : State) : State :=
  State.eventD { s with tb := { s.tb with running := false, fallback := true, lostSeen := true, lossCount := s.tb.count, tbDisabled := 0 } } 0x0004
    [(24, 1, if noEdge then 1 else 2)]

theorem execTimebaseLost_eq {noEdge : Bool} (hr : s.tb.running = true) :
    exec (.timebaseLost noEdge) s = .next ((s.lostEdge noEdge).forPorts State.lossStop) := by
  have e : execTimebaseLost noEdge s = .next (if ¬ s.tb.running = true then s else (s.lostEdge noEdge).forPorts State.lossStop) := rfl
  exact e.trans (congrArg Host.Outcome.next (if_neg fun k => k hr))

theorem execTimebaseLost_spec {noEdge : Bool} (hr : s.tb.running = true) : ∃ t, exec (.timebaseLost noEdge) s = .next t ∧ t.tb.running = false
    ∧ t.tb.fallback = true ∧ (s.pwr.st ≠ .hibernate → t.faultN = .low) ∧ t.tb.lostSeen = true ∧ t.tb.lossCount = s.tb.count
    ∧ t.tb.count = s.tb.count
    ∧ ∀ p, ((s.port p).lossStops = true → (t.port p).stopped ∧ t.tb.tbDisabled.getLsbD p.val = true)
      ∧ ((s.port p).lossStops = false → (t.port p).stand = (s.port p).stand) := by
  refine ⟨_, execTimebaseLost_eq hr, ?_⟩
  have k2 : State.Stays { s with tb := { s.tb with running := false, fallback := true, lostSeen := true, lossCount := s.tb.count, tbDisabled := 0 } }
    (s.lostEdge noEdge) := State.Stays.refl.eventD
  generalize s.lostEdge noEdge = s2 at k2 ⊢
  obtain ⟨hpwr, htb, -, -⟩ := s2.lossStops_spec (p := 0)
  obtain ⟨krun, kfall, kseen, kloss, kcount, -⟩ := TbState.unmarked_fields (htb.trans (TbState.unmarked_of_clock k2.tb).1)
  refine ⟨krun, kfall, fun hp => State.faultN_of_fallback kfall ?_, kseen, kloss, kcount, fun p => ?_⟩
  · rw [hpwr, k2.pwr]; exact hp
  · obtain ⟨-, -, hstop, hstay⟩ := s2.lossStops_spec (p := p)
    have e : (s2.port p).stand = (s.port p).stand := k2.port p
    exact ⟨fun k => hstop ((Port.stand_lossStops e).trans k), fun k => (hstay ((Port.stand_lossStops e).trans k)).trans e⟩

/-- The block with a calibration cycle's duration, and the steps it sets in one port. -/
def State.cycled (us : Nat) (s : State) : State := { s with tb := { s.tb with calDone := true, calCycleUs := BitVec.ofNat 8 us } }

def Port.calibrated (steps : List Nat) (r : PortId) (x : Port) : Port :=
  { x with cnv := { x.cnv with dlySteps := steps.getD r.val x.cnv.dlySteps } }

theorem execCalibrationCycle_eq {us : Nat} {steps : List Nat} (hr : s.tb.running = true) : exec (.calibrationCycle us steps) s
    = .next ((s.cycled (satN 8 us)).forPorts fun u r => u.setPort r ((u.port r).calibrated steps r)) := by
  have e : execCalibrationCycle us steps s = .next (if ¬ s.tb.running = true then s
    else (s.cycled (satN 8 us)).forPorts fun u r => u.setPort r ((u.port r).calibrated steps r)) := rfl
  exact e.trans (congrArg Host.Outcome.next (if_neg fun k => k hr))

theorem execCalibrationCycle_spec {us : Nat} {steps : List Nat} (hr : s.tb.running = true) (hu : us < 256) (hl : steps.length = 16) :
    ∃ t, exec (.calibrationCycle us steps) s = .next t ∧ t.tb = { s.tb with calDone := true, calCycleUs := BitVec.ofNat 8 us }
      ∧ ∀ p, (t.port p).cnv.dlySteps = steps.getD p.val 0 := by
  refine ⟨_, execCalibrationCycle_eq hr, ?_, fun p => ?_⟩
  · have e : satN 8 us = us := by simp [satN]; omega
    refine (State.forPorts_keeps State.tb _ (fun u r => rfl) _).trans ?_
    rw [e]
    rfl
  · have hp : p.val < steps.length := by omega
    rw [State.port_forPorts (g := Port.calibrated steps) fun u r => rfl]
    unfold Port.calibrated
    simp only [List.getD_eq_getElem _ _ hp]

/-! ### O29 -/

/-- Settles O29: the store's commands by their equations, and the Timebase's by what the fold over the ports leaves of each. -/
theorem storeAndTimebase : Obligations.StoreAndTimebase := by
  unfold Obligations.StoreAndTimebase
  refine ⟨fun s cell w hc => ⟨?_, ?_, ?_, ?_, ?_, ?_, ?_, ?_, ?_, ?_, ?_⟩, fun s => ⟨?_, ?_, ?_, ?_, ?_, ?_, ?_⟩⟩
  · intro hr he
    obtain ⟨hue, hce, hf⟩ := s.sto.scrubbed_keeps s.now
    refine ⟨execScrubRead_on (r := .clean) hc hr he, hce ▸ execScrubRead_on (r := .single) hc hr he, execScrubRead_on (r := .double) hc hr he,
      fun ho hl => ?_⟩
    have h := State.storeUe_free (s := { s with sto := s.sto.scrubbed s.now }) (w := w.val) (cell := cell)
      (by simpa only [State.cellOwner, State.flow, hf] using ho) (by simpa only [State.looseOwner, State.flow, hf] using hl)
    exact hue ▸ h
  · intro hr he
    refine ⟨fun r ho => ?_, fun f c ho => ⟨?_, ?_⟩⟩
    · rw [execScrubRead_off hc hr he, ho]
    · rw [execScrubRead_off hc hr he, ho]
    · rw [execScrubRead_off hc hr he, ho]
  · exact fun hr r => execScrubRead_retired hr
  · exact fun bad h => execCellRewriteCheck_other h
  · exact fun bad h => execCellRewriteCheck_owned h
  · intro bad hs ho hl
    obtain ⟨w, h⟩ := execCellRewriteCheck_free (bad := bad) hs ho hl
    dsimp only at h ⊢
    refine ⟨fun k => h.trans (congrArg Host.Outcome.next (if_pos ?_)), fun hb he hcap => ⟨_, h, ?_⟩, fun hb he hcap => ⟨_, h, ?_⟩⟩
    · exact k.imp (fun e => by rw [e]; decide) (fun e => by rw [e]; decide)
    · rw [if_neg (by rw [hb, he]; decide), if_pos hcap]
      exact State.eventD_store _ _
    · rw [if_neg (by rw [hb, he]; decide), if_neg (by omega)]
      exact State.eventD_store _ _
  · exact fun f h => execCreditReturn_none h
  · intro f h hf r l hw
    refine ⟨fun k => ?_, fun k1 k2 => ?_⟩
    · refine ⟨s.admitCell f, (execCreditReturn_some h).trans (congrArg Host.Outcome.next ?_), State.admitCell_flow hf h hw⟩
      have k' : 0x6E ≤ f ∧ (f = 0x6E ∨ 0x70 ≤ f) := by unfold fJrn at k; omega
      rw [if_neg (by omega), if_neg (by omega), if_neg (by omega), if_neg (by unfold fPodUpd; omega), if_neg (by unfold fImg; omega), if_pos k]
    · rw [execCreditReturn_some h, if_neg (by omega), if_neg (by omega), if_pos ⟨k1, k2⟩]
  · intro q
    have hq := q.isLt
    refine ⟨fun h => ?_, fun h => ?_⟩
    · have e : (⟨fPdTx q % 16, Nat.mod_lt _ (by decide)⟩ : PortId) = q := Fin.ext (by simp only [fPdTx]; omega)
      rw [execCreditReturn_some h, e, if_pos (by unfold fPdTx; omega)]
    · have e : (⟨fMtr q % 16, Nat.mod_lt _ (by decide)⟩ : PortId) = q := Fin.ext (by simp only [fMtr]; omega)
      rw [execCreditReturn_some h, e, if_neg (by unfold fMtr; omega), if_pos (by unfold fMtr; omega)]
  · intro h
    rw [execCreditReturn_some h, if_neg (by decide), if_neg (by decide), if_neg (by decide), if_pos rfl]
  · intro h
    rw [execCreditReturn_some h, if_neg (by decide), if_neg (by decide), if_neg (by decide), if_neg (by decide), if_pos rfl]
  · intro noEdge hr
    obtain ⟨t, ht, hrun, hfall, hfault, hseen, hloss, hcount, hports⟩ := execTimebaseLost_spec (noEdge := noEdge) hr
    refine ⟨t, ht, hrun, hfall, hfault, hseen, hloss, hcount, fun p => ⟨fun k => ?_, fun k => Port.stand_st ((hports p).2 k)⟩⟩
    obtain ⟨⟨hst, hrp⟩, hm⟩ := (hports p).1 k
    exact ⟨hst, hrp, hm⟩
  · exact fun noEdge hr => congrArg Host.Outcome.next (if_pos (by rw [hr]; decide))
  · exact fun hf => execTimebaseRestored_spec hf
  · exact fun us steps hr hu hl => execCalibrationCycle_spec hr hu hl
  · exact fun ok h => congrArg Host.Outcome.next (if_pos (h.imp id fun k => by rw [k]; decide))
  · intro he hn
    refine congrArg Host.Outcome.next ((if_neg (by rw [he]; decide)).trans ?_)
    rw [decide_eq_false (by omega)]
    rfl
  · intro he hn
    refine congrArg Host.Outcome.next ((if_neg (by rw [he]; decide)).trans ?_)
    rw [decide_eq_true hn]
    rfl

end Sys2Proof.Machine
end

section
/-! PROOF of O24: the commands of a queue, and the function on its link (13 R391 to R419). -/
namespace Sys2Proof.Machine

variable {s t : State} {f g c : Nat}

/-! ### The records of a flow after one has been read -/

theorem State.flow_setFlow_ne (x : Flow) (h : g ≠ f) : (s.setFlow f x).flow g = s.flow g := by
  unfold State.setFlow
  split
  · simp [State.flow, h.symm]
  · rfl

/-- A change of a flow that leaves its cells leaves the cells of every flow. -/
theorem State.modFlow_cells {k : Flow → Flow} (hk : ∀ x, (k x).cells = x.cells) : ((s.modFlow f k).flow g).cells = (s.flow g).cells := by
  by_cases hf : f < 117
  · by_cases hg : g = f
    · rw [hg, State.flow_modFlow hf, hk]
    · exact congrArg Flow.cells (State.flow_setFlow_ne _ hg)
  · unfold State.modFlow State.setFlow
    rw [dif_neg hf]

theorem State.noteRegain_cells : (s.noteRegain.flow g).cells = (s.flow g).cells :=
  foldl_keeps (fun u => (u.flow g).cells) _ (fun u f => by
    split
    · split
      · exact State.modFlow_cells fun _ => rfl
      · rfl
    · rfl) _ s

theorem State.freeCell_cells (i : Nat) : ((s.freeCell f i).flow g).cells = (s.flow g).cells := by
  have h : ((s.modFlow f fun x => { x.giveBack with loose := x.loose.erase i }).flow g).cells = (s.flow g).cells :=
    State.modFlow_cells fun x => by
      unfold Flow.giveBack
      split
      · rfl
      · split <;> rfl
  unfold State.freeCell
  dsimp only
  generalize (s.modFlow f fun x => { x.giveBack with loose := x.loose.erase i }) = u at h ⊢
  split
  · exact h
  · exact State.noteRegain_cells.trans h

/-- The records of a list of cells. -/
def recordsOf (l : List Cell) : List Payload := (l.flatMap Cell.pay).filter (· ≠ .gone)

theorem recordsOf_cons (x : Cell) (l : List Cell) : recordsOf (x :: l) = x.pay.filter (· ≠ .gone) ++ recordsOf l := by
  simp [recordsOf]

theorem recordsOf_append (l m : List Cell) : recordsOf (l ++ m) = recordsOf l ++ recordsOf m := by
  simp [recordsOf]

theorem Cell.filter_of_spent {x : Cell} (h : x.spent = true) : x.pay.filter (· ≠ .gone) = [] := by
  simpa [Cell.spent] using h

/-- Cells that hold nothing more take no record with them. -/
theorem recordsOf_filter_spent (l : List Cell) : recordsOf (l.filter fun x => !x.spent) = recordsOf l := by
  induction l with
  | nil => rfl
  | cons x l ih =>
    rw [recordsOf_cons]
    by_cases hx : x.spent = true
    · rw [List.filter_cons_of_neg (by simp [hx]), ih, Cell.filter_of_spent hx, List.nil_append]
    · rw [List.filter_cons_of_pos (by simp [hx]), recordsOf_cons, ih]

theorem recordsOf_keptCells (l : List Cell) : recordsOf (keptCells l) = recordsOf l := by
  unfold keptCells
  split
  next h =>
    have e : l.filter (fun x => !x.spent) = [] := by simpa using h
    rw [← recordsOf_filter_spent l, e]
  · rcases List.eq_nil_or_concat l with rfl | ⟨m, x, rfl⟩
    · rfl
    · rw [List.concat_eq_append, List.dropLast_concat, List.getLast?_concat, recordsOf_append, recordsOf_filter_spent, recordsOf_append]
      rfl

/-- A record marked as read in a cell is gone from its records. -/
theorem filter_marked {r : Payload} (hr : r ≠ .gone) (l : List Payload) (h : l.any (· == r) = true) :
    (l.takeWhile (fun x => !x == r) ++ [Payload.gone] ++ (l.dropWhile fun x => !x == r).drop 1).filter (· ≠ .gone) = (l.filter (· ≠ .gone)).erase r := by
  induction l with
  | nil => simp at h
  | cons x l ih =>
    by_cases hx : x = r
    · subst hx
      simp [hr]
    · have hl : l.any (· == r) = true := by simpa [hx] using h
      have e : (!x == r) = true := by simp [hx]
      rw [List.takeWhile_cons_of_pos (by simp [hx]), List.dropWhile_cons_of_pos (by simp [hx]), List.cons_append, List.cons_append,
        List.filter_cons, ih hl]
      by_cases hg : x = .gone
      · simp [hg]
      · rw [List.filter_cons_of_pos (by simp [hg]), List.erase_cons_tail (by simp [hx]), if_pos (by simp [hg])]

theorem recordsOf_markRead {r : Payload} (hr : r ≠ .gone) (l : List Cell) : recordsOf (markRead (· == r) l) = (recordsOf l).erase r := by
  induction l with
  | nil => rfl
  | cons x l ih =>
    unfold markRead
    rw [recordsOf_cons x]
    split
    next h =>
      have hm : r ∈ x.pay.filter (· ≠ .gone) := by simpa [hr] using h
      rw [recordsOf_cons, List.erase_append_left _ hm]
      exact congrArg (· ++ _) (filter_marked hr _ h)
    next h =>
      have hm : r ∉ x.pay.filter (· ≠ .gone) := by simpa [hr] using h
      rw [recordsOf_cons, ih, List.erase_append_right _ hm]

theorem State.readRecord_cells (q : Payload → Bool) (hg : g ≠ f) : ((s.readRecord f q).flow g).cells = (s.flow g).cells := by
  unfold State.readRecord
  extract_lets x cs keep dead
  refine (foldl_keeps (fun u : State => (u.flow g).cells) _ (fun u i => ?_) dead _).trans (congrArg Flow.cells (State.flow_setFlow_ne _ hg))
  split
  · rfl
  · exact State.freeCell_cells i

theorem State.readRecord_records {r : Payload} (hf : f < 117) (hr : r ≠ .gone) :
    ((s.readRecord f (· == r)).flow f).records = (s.flow f).records.erase r := by
  have h : ((s.readRecord f (· == r)).flow f).cells = keptCells (markRead (· == r) (s.flow f).cells) := by
    unfold State.readRecord
    extract_lets x cs keep dead
    refine (foldl_keeps (fun u : State => (u.flow f).cells) _ (fun u i => ?_) dead _).trans (congrArg Flow.cells (State.flow_setFlow hf _))
    split
    · rfl
    · exact State.freeCell_cells i
  unfold Flow.records
  rw [h]
  exact (recordsOf_keptCells _).trans (recordsOf_markRead hr _)

/-! ### The orphans of a completion queue -/

/-- The record is an orphan of completion queue `k`. -/
def orphanOf (k : Nat) : Payload → Bool
  | .cpl x => x.orphan && x.cq == k
  | _ => false

/-- The orphans of completion queue `k` in one completion flow are read. -/
def State.discard (k : Nat) (s : State) (c : Nat) : State :=
  ((s.flow (fCpl c)).records.filter (orphanOf k)).foldl (fun s r => s.readRecord (fCpl c) (· == r)) s

theorem State.readAll_records (hf : f < 117) {l : List Payload} (hl : ∀ r ∈ l, r ≠ .gone) :
    ((l.foldl (fun s r => s.readRecord f (· == r)) s).flow f).records = (s.flow f).records.diff l := by
  induction l generalizing s with
  | nil => rfl
  | cons r l ih =>
    rw [List.foldl_cons, ih fun x hx => hl x (List.mem_cons_of_mem _ hx), State.readRecord_records hf (hl r List.mem_cons_self), List.diff_cons]

theorem State.discard_other {k : Nat} (hg : g ≠ fCpl c) : ((s.discard k c).flow g).records = (s.flow g).records := by
  have h : ((s.discard k c).flow g).cells = (s.flow g).cells :=
    foldl_keeps (fun u : State => (u.flow g).cells) _ (fun u r => State.readRecord_cells _ hg) _ s
  unfold Flow.records
  rw [h]

/-- No orphan is left, and nothing else has come. -/
theorem State.mem_discard {k : Nat} (hc : c < 3) {r : Payload} (h : r ∈ ((s.discard k c).flow (fCpl c)).records) :
    r ∈ (s.flow (fCpl c)).records ∧ orphanOf k r = false := by
  have hl : ∀ r ∈ (s.flow (fCpl c)).records.filter (orphanOf k), r ≠ .gone := by
    rintro r hr rfl
    exact Bool.noConfusion (List.mem_filter.1 hr).2
  unfold State.discard at h
  rw [State.readAll_records (by unfold fCpl; omega) hl] at h
  refine ⟨List.diff_subset _ _ h, Bool.eq_false_iff.2 fun ho => ?_⟩
  have hn := List.count_pos_iff.2 h
  rw [List.count_diff, List.count_filter ho] at hn
  omega

theorem State.discard_subset {k d : Nat} (hc : c < 3) {r : Payload} (h : r ∈ ((s.discard k d).flow (fCpl c)).records) :
    r ∈ (s.flow (fCpl c)).records := by
  by_cases hd : c = d
  · subst hd
    exact (State.mem_discard hc h).1
  · rwa [State.discard_other (by unfold fCpl; omega)] at h

theorem State.discardAll_subset {k : Nat} {l : List Nat} (hc : c < 3) {r : Payload} (h : r ∈ ((l.foldl (State.discard k) s).flow (fCpl c)).records) :
    r ∈ (s.flow (fCpl c)).records := by
  induction l generalizing s with
  | nil => exact h
  | cons d l ih => exact State.discard_subset hc (ih h)

theorem State.mem_discardAll {k : Nat} {l : List Nat} (hc : c < 3) (hl : c ∈ l) {r : Payload}
    (h : r ∈ ((l.foldl (State.discard k) s).flow (fCpl c)).records) : r ∈ (s.flow (fCpl c)).records ∧ orphanOf k r = false := by
  induction l generalizing s with
  | nil => exact absurd hl List.not_mem_nil
  | cons d l ih =>
    rcases List.mem_cons.1 hl with rfl | hl
    · exact State.mem_discard hc (State.discardAll_subset hc h)
    · obtain ⟨hm, ho⟩ := ih hl h
      exact ⟨State.discard_subset hc hm, ho⟩

theorem State.qResult_flow (n : Nat) : (s.qResult n).flow f = s.flow f := rfl

theorem State.qResult_done (n : Nat) : (s.qResult n).hif.qDone = true ∧ (s.qResult n).hif.qResult = BitVec.ofNat 4 n := ⟨rfl, rfl⟩

theorem State.qResult_sq (n : Nat) : (s.qResult n).hif.sq = s.hif.sq := rfl

theorem State.qResult_cq (n : Nat) : (s.qResult n).hif.cq = s.hif.cq := rfl

theorem execDiscardOrphans_spec (hk : s.hif.selKind = 1) : ∃ t, exec .discardOrphans s = .next t ∧ t.hif.qDone = true ∧ t.hif.qResult = 0
    ∧ ∀ c < 3, ∀ r ∈ (t.flow (fCpl c)).records, r ∈ (s.flow (fCpl c)).records ∧ orphanOf s.hif.selIx.val r = false := by
  have e : execDiscardOrphans s = .next (if s.hif.selKind ≠ 1 then s.qResult 6
    else ((List.range 3).foldl (State.discard s.hif.selIx.val) s).qResult 0) := rfl
  refine ⟨_, e.trans (congrArg Host.Outcome.next (if_neg fun k => k hk)), (State.qResult_done 0).1, (State.qResult_done 0).2, fun c hc r hr => ?_⟩
  rw [State.qResult_flow] at hr
  exact State.mem_discardAll hc (List.mem_range.2 hc) hr

/-- A completion of an index that `q` names is marked as an orphan. -/
def orphanMark (q : Nat → Bool) : Payload → Payload
  | .cpl x => .cpl { x with orphan := x.orphan || q x.cq }
  | r => r

def State.markOrphans (q : Nat → Bool) (s : State) (c : Nat) : State :=
  s.modFlow (fCpl c) fun x => { x with cells := x.cells.map fun y => { y with pay := y.pay.map (orphanMark q) } }

/-- Every completion in the flow of an index that `q` names is an orphan. -/
def Flow.Orphaned (q : Nat → Bool) (x : Flow) : Prop := ∀ y, .cpl y ∈ x.records → q y.cq = true → y.orphan = true

theorem orphanMark_cpl {q : Nat → Bool} {r : Payload} {y : CplRec} (h : orphanMark q r = .cpl y) (hq : q y.cq = true) : y.orphan = true := by
  unfold orphanMark at h
  split at h
  next x =>
    obtain rfl := Payload.cpl.inj h
    exact (congrArg (x.orphan || ·) hq).trans (Bool.or_true _)
  next hne =>
    exact absurd h (hne y)

theorem State.markOrphans_self {q : Nat → Bool} (hc : c < 3) : ((s.markOrphans q c).flow (fCpl c)).Orphaned q := by
  intro y hy
  unfold State.markOrphans at hy
  rw [State.flow_modFlow (by unfold fCpl; omega)] at hy
  simp only [Flow.records, List.mem_filter, List.mem_flatMap, List.mem_map] at hy
  obtain ⟨⟨x, ⟨z, -, rfl⟩, hx⟩, -⟩ := hy
  obtain ⟨r, -, hr⟩ := List.mem_map.1 hx
  exact orphanMark_cpl hr

theorem State.markOrphans_keeps {q : Nat → Bool} {d : Nat} (hc : c < 3) (h : (s.flow (fCpl c)).Orphaned q) :
    ((s.markOrphans q d).flow (fCpl c)).Orphaned q := by
  by_cases hd : c = d
  · subst hd
    exact State.markOrphans_self hc
  · have e : (s.markOrphans q d).flow (fCpl c) = s.flow (fCpl c) := State.flow_setFlow_ne _ (by unfold fCpl; omega)
    rwa [e]

theorem State.markAll_orphaned {q : Nat → Bool} {l : List Nat} (hc : c < 3) (hl : c ∈ l) :
    ((l.foldl (State.markOrphans q) s).flow (fCpl c)).Orphaned q := by
  have keep (m : List Nat) (u : State) (h : (u.flow (fCpl c)).Orphaned q) : ((m.foldl (State.markOrphans q) u).flow (fCpl c)).Orphaned q := by
    induction m generalizing u with
    | nil => exact h
    | cons d m ih => exact ih _ (State.markOrphans_keeps hc h)
  induction l generalizing s with
  | nil => exact absurd hl List.not_mem_nil
  | cons d l ih =>
    rcases List.mem_cons.1 hl with rfl | hl
    · exact keep l _ (State.markOrphans_self hc)
    · exact ih hl

theorem State.orphan_flow (q : Nat → Bool) : (s.orphan q).flow f = ((List.range 3).foldl (State.markOrphans q) s).flow f := rfl

/-- Marking orphans changes the table and the flows alone. -/
theorem State.orphan_hif (q : Nat → Bool) : (s.orphan q).hif = { s.hif with table := s.hif.table.map fun o => { o with orphan := o.orphan || q o.cq } } := by
  have e : s.orphan q = { (List.range 3).foldl (State.markOrphans q) s with
      hif := { ((List.range 3).foldl (State.markOrphans q) s).hif with
        table := ((List.range 3).foldl (State.markOrphans q) s).hif.table.map fun o => { o with orphan := o.orphan || q o.cq } } } := rfl
  have h : ((List.range 3).foldl (State.markOrphans q) s).hif = s.hif :=
    foldl_keeps State.hif _ (fun u d => by unfold State.markOrphans State.modFlow State.setFlow; split <;> rfl) _ s
  rw [e, h]

theorem State.orphan_ports (q : Nat → Bool) : (s.orphan q).ports = s.ports := by
  have e : (s.orphan q).ports = ((List.range 3).foldl (State.markOrphans q) s).ports := rfl
  rw [e]
  exact foldl_keeps State.ports _ (fun u d => by unfold State.markOrphans State.modFlow State.setFlow; split <;> rfl) _ s

/-! ### Creating and deleting a queue -/

theorem HifState.setUp_sq {x y : HifState} (h : x.setUp = y.setUp) : x.sq = y.sq := by
  have hs := congrArg HifState.sq h
  exact hs

theorem HifState.setUp_link {x y : HifState} (h : x.setUp = y.setUp) : x.link = y.link := by
  have hs := congrArg HifState.link h
  exact hs

/-- An SQ being deleted is absent once nothing of it is left. -/
theorem State.sqGone_st {k : Fin 16} (h : s.hif.sq[k.val].st = .deleting) :
    (s.sqGone k).hif.sq[k.val].st = .deleting ∨ (s.sqGone k).hif.sq[k.val].st = .absent := by
  unfold State.sqGone
  split
  · refine .inr ?_
    unfold State.modSq
    dsimp only
    rw [Vector.getElem_set_self]
  · exact .inl h

theorem State.deleteSq_st {k : Fin 16} : (s.deleteSq k).hif.sq[k.val].st = .deleting ∨ (s.deleteSq k).hif.sq[k.val].st = .absent := by
  unfold State.deleteSq
  extract_lets +onlyGivenNames s1 s2
  have h1 : s1.hif.sq[k.val].st = .deleting := by
    unfold s1 State.modSq
    dsimp only
    rw [Vector.getElem_set_self]
  have h2 : s1.Records s2 := State.Records.refl.foldl fun _ _ h => h.finish
  clear_value s2
  extract_lets mine bufs s3
  have h3 : s3.hif.sq = s2.hif.sq := rfl
  have h4 : s3.Records (bufs.foldl State.endBuf s3) := State.Records.refl.foldl fun _ _ h => h.finish
  clear_value s3
  refine State.sqGone_st ?_
  have e : (bufs.foldl State.endBuf s3).hif.sq = s1.hif.sq := (HifState.setUp_sq h4.hif).trans (h3.trans (HifState.setUp_sq h2.hif))
  simpa only [e] using h1

theorem execQueueDelete_refused (h : s.hif.selSt = .absent ∨ s.hif.selSt = .deleting) : exec .queueDelete s = .next (s.qResult 6) :=
  congrArg Host.Outcome.next (if_pos (by rcases h with h | h <;> rw [h] <;> decide))

/-- A live queue that is deleted, by its kind. -/
theorem execQueueDelete_live (h : s.hif.selSt = .live) : exec .queueDelete s = .next (
    if s.hif.selKind = 0 then (s.deleteSq s.hif.selIx).qResult 0
    else if s.hif.selKind = 1 then
      (if s.hif.sq.toList.any (fun q => q.st != .absent && q.cfg.fld 7 4 == s.hif.selIx.val) then s.qResult 3
       else ((s.modCq s.hif.selIx fun _ => {}).orphan fun k => k == s.hif.selIx.val).qResult 0)
    else (s.modEq fun _ => {}).qResult 0) :=
  congrArg Host.Outcome.next (if_neg fun k => k.1 h)

/-- A completion queue is in use where an SQ that is not absent names it. -/
theorem HifState.cq_used (h : HifState) (k : Fin 16) : h.sq.toList.any (fun q => q.st != .absent && q.cfg.fld 7 4 == k.val) = true
    ↔ ∃ i : Fin 16, h.sq[i.val].st ≠ .absent ∧ h.sq[i.val].cfg.toNat / 16 % 16 = k.val := by
  have e (w : Word) : w.fld 7 4 = w.toNat / 16 % 16 := by simp [Word.fld, Nat.shiftRight_eq_div_pow]
  rw [List.any_eq_true]
  simp only [Bool.and_eq_true, bne_iff_ne, beq_iff_eq, e, Vector.mem_toList_iff, Vector.mem_iff_getElem]
  constructor
  · rintro ⟨q, ⟨i, hi, rfl⟩, hq⟩
    exact ⟨⟨i, hi⟩, hq⟩
  · rintro ⟨i, hq⟩
    exact ⟨_, ⟨i.val, i.isLt, rfl⟩, hq⟩

/-! ### The function on its link -/

theorem State.hostBack_links : s.hostBack.hif.links = s.hif.links := congrArg Off.hif State.Meets.self.hostBack.ok

theorem State.msixPendAll_links : ((List.finRange 32).foldl State.msixPend s).hif.links = s.hif.links :=
  congrArg Off.hif (State.Meets.foldl (s := s) State.Meets.self fun _ _ h => h.msixPend).ok

theorem HifState.links_fields {x y : HifState} (h : x.links = y.links) : x.link = y.link ∧ x.bme = y.bme ∧ x.d3hot = y.d3hot
    ∧ x.msixEn = y.msixEn ∧ x.msixFmask = y.msixFmask := by
  simp only [HifState.links, Prod.mk.injEq] at h
  obtain ⟨hl, hb, hd, he, hm, -⟩ := h
  exact ⟨hl, hb, hd, he, hm⟩

/-- A reset of the function clears the host interface. -/
def State.cutOff (s : State) (k : FlrKind) : State := { s with hif := s.hif.cleared k }

theorem HifState.cleared_queues (h : HifState) (k : FlrKind) : (h.cleared k).anyQueue = false ∧ (h.cleared k).ringSel = 1 ∧ (h.cleared k).bme = false
    ∧ (h.cleared k).mtrBufs = [] ∧ (h.cleared k).wavBufs = [] ∧ (h.cleared k).msixEn = false ∧ (h.cleared k).pba = 0
    ∧ (k ≠ .flr → (h.cleared k).link = none) ∧ (k = .flr → (h.cleared k).link = h.link) := by
  refine ⟨by cases k <;> rfl, by cases k <;> rfl, by cases k <;> rfl, by cases k <;> rfl, by cases k <;> rfl, by cases k <;> rfl,
    by cases k <;> rfl, fun hk => ?_, fun hk => hk ▸ rfl⟩
  unfold HifState.cleared
  rw [if_neg hk]

theorem State.links_of (h : t.hif.links = s.hif.links) : t.hif.link = s.hif.link ∧ t.hif.bme = s.hif.bme ∧ t.hif.d3hot = s.hif.d3hot
    ∧ t.hif.msixEn = s.hif.msixEn ∧ t.hif.msixFmask = s.hif.msixFmask := HifState.links_fields h

theorem execPciPmStateChange_spec {d3 bme : Bool} : ∃ t, exec (.pciPmStateChange d3 bme) s = .next t ∧ t.hif.d3hot = d3 ∧ t.hif.bme = bme := by
  have e : execPciPmStateChange d3 bme s = .next (State.hostBack { s with hif := { s.hif with d3hot := d3, bme } }) := rfl
  obtain ⟨-, hb, hd, -⟩ := State.links_of (State.hostBack_links (s := { s with hif := { s.hif with d3hot := d3, bme } }))
  exact ⟨_, e, hd, hb⟩

theorem execLinkTrained_spec {rate : BitVec 2} (hr : rate ≠ 3) : ∃ t, exec (.linkTrained rate) s = .next t ∧ t.hif.link = some rate := by
  have e : execLinkTrained rate s = .next (if rate = 3 then s
    else State.hostBack { s with hif := { s.hif with link := some rate, l1 := false } }) := rfl
  obtain ⟨hl, -⟩ := State.links_of (State.hostBack_links (s := { s with hif := { s.hif with link := some rate, l1 := false } }))
  exact ⟨_, e.trans (congrArg Host.Outcome.next (if_neg hr)), hl⟩

theorem execMsixMask_spec {b : Bool} : ∃ t, exec (.configSpaceWrite (.msixMask b)) s = .next t ∧ t.hif.msixFmask = b := by
  have e : execConfigSpaceWrite (.msixMask b) s
    = .next ((List.finRange 32).foldl State.msixPend { s with hif := { s.hif with msixFmask := b } }) := rfl
  obtain ⟨-, -, -, -, hm⟩ := State.links_of (State.msixPendAll_links (s := { s with hif := { s.hif with msixFmask := b } }))
  exact ⟨_, e, hm⟩

theorem execMsixEn_spec {b : Bool} : ∃ t, exec (.configSpaceWrite (.msixEn b)) s = .next t ∧ t.hif.msixEn = b := by
  have e : execConfigSpaceWrite (.msixEn b) s
    = .next ((List.finRange 32).foldl State.msixPend { s with hif := { s.hif with msixEn := b } }) := rfl
  obtain ⟨-, -, -, he, -⟩ := State.links_of (State.msixPendAll_links (s := { s with hif := { s.hif with msixEn := b } }))
  exact ⟨_, e, he⟩

theorem execFunctionLevelReset_spec {k : FlrKind} : ∃ t, exec (.functionLevelReset k) s = .next t ∧ t.hif.anyQueue = false ∧ t.hif.ringSel = 1
    ∧ t.hif.bme = false ∧ t.hif.mtrBufs = [] ∧ t.hif.wavBufs = [] ∧ t.hif.msixEn = false ∧ t.hif.pba = 0 ∧ (k ≠ .flr → t.hif.link = none)
    ∧ (k = .flr → t.hif.link = s.hif.link) ∧ ∀ p, t.port p = s.port p := by
  have hr : s.Records (s.endWhere (fun o => o.ph == .fetched || o.ph == .waiting || o.d.op == 0) stAbortedDeviceReset) := State.Records.refl.endWhere
  have e : execFunctionLevelReset k s = .next (State.cutOff
    ((s.endWhere (fun o => o.ph == .fetched || o.ph == .waiting || o.d.op == 0) stAbortedDeviceReset).orphan fun _ => true) k) := rfl
  generalize s.endWhere (fun o => o.ph == .fetched || o.ph == .waiting || o.d.op == 0) stAbortedDeviceReset = u at hr e
  have hl : (u.orphan fun _ => true).hif.link = s.hif.link := by
    rw [State.orphan_hif]
    exact HifState.setUp_link hr.hif
  have hp : (u.orphan fun _ => true).ports = s.ports := (State.orphan_ports _).trans (State.aside_fields hr.aside).1
  generalize u.orphan (fun _ => true) = v at hl hp e
  obtain ⟨hq, hsel, hb, hm, hw, hen, hpba, hcold, hflr⟩ := v.hif.cleared_queues k
  refine ⟨v.cutOff k, e, hq, hsel, hb, hm, hw, hen, hpba, hcold, fun hk => (hflr hk).trans hl, fun p => ?_⟩
  exact congrArg (fun x : Vector Port 16 => x[p.val]) hp

/-! ### O24 -/

/-- Settles O24: the queue's commands by their equations and by what they leave of the completion flows, and the function's by what a
return to the host keeps of its link. -/
theorem hostQueues : Obligations.HostQueues := by
  unfold Obligations.HostQueues
  refine ⟨fun s => ⟨?_, ?_, ?_, ?_, ?_, ?_, ?_, ⟨?_, ?_⟩, ?_, ?_, ?_, ?_⟩, fun s => ⟨?_, ?_, ?_, ?_, ?_, ?_, ?_, ?_, ?_, ?_, ?_, ?_, ?_⟩⟩
  · exact fun hc => congrArg Host.Outcome.next (if_pos hc)
  · intro hc hk
    refine congrArg Host.Outcome.next ((if_neg fun k => k hc).trans ?_)
    dsimp only
    rw [if_pos hk]
    rfl
  · intro hc hk
    refine congrArg Host.Outcome.next ((if_neg fun k => k hc).trans ?_)
    dsimp only
    rw [if_neg (by omega), if_pos hk]
    rfl
  · intro hc hk
    refine congrArg Host.Outcome.next ((if_neg fun k => k hc).trans ?_)
    dsimp only
    rw [if_neg (by omega), if_neg (by omega)]
    rfl
  · exact fun h => execQueueDelete_refused h
  · intro hk hst
    rw [execQueueDelete_live hst, if_neg (by omega), if_neg (by omega)]
    rfl
  · intro hk hst
    refine ⟨_, (execQueueDelete_live hst).trans (by rw [if_pos hk]), (State.qResult_done 0).2, ?_⟩
    simp only [State.qResult_sq]
    exact State.deleteSq_st
  · intro hk hst hu
    rw [execQueueDelete_live hst, if_neg (by omega), if_pos hk, if_pos ((s.hif.cq_used s.hif.selIx).2 hu)]
    rfl
  · intro hk hst hu
    have e := (execQueueDelete_live hst).trans (congrArg Host.Outcome.next ((if_neg (by omega)).trans ((if_pos hk).trans
      (if_neg fun k => hu ((s.hif.cq_used s.hif.selIx).1 k)))))
    refine ⟨_, e, (State.qResult_done 0).2, ?_, fun c hc x hx hq => ?_⟩
    · rw [State.qResult_cq, State.orphan_hif]
      rfl
    · rw [State.qResult_flow, State.orphan_flow] at hx
      exact State.markAll_orphaned hc (List.mem_range.2 hc) x hx (beq_iff_eq.2 hq)
  · exact fun hk => congrArg Host.Outcome.next (if_pos hk)
  · intro hk
    obtain ⟨t, ht, hdone, hres, hrec⟩ := execDiscardOrphans_spec hk
    refine ⟨t, ht, hdone, hres, fun c hc x hx => ⟨(hrec c hc _ hx).1, fun ⟨ho, hq⟩ => ?_⟩⟩
    have h : (x.orphan && x.cq == s.hif.selIx.val) = false := (hrec c hc _ hx).2
    rw [ho, beq_iff_eq.2 hq] at h
    exact absurd h (by decide)
  · intro v ha hq hv
    have e : v.fld 23 16 = v.toNat / 2 ^ 16 % 256 := by simp [Word.fld, Nat.shiftRight_eq_div_pow]
    show execRingSelWrite v s = _
    unfold execRingSelWrite
    rw [State.wakeSet_of_awake ha, e]
    exact congrArg Host.Outcome.next (if_neg (by rw [hq]; simp; omega))
  · intro v ha hv
    have e : v.fld 23 16 = v.toNat / 2 ^ 16 % 256 := by simp [Word.fld, Nat.shiftRight_eq_div_pow]
    show execRingSelWrite v s = _
    unfold execRingSelWrite
    rw [State.wakeSet_of_awake ha, e]
    exact congrArg Host.Outcome.next (if_pos (hv.imp id (Or.imp (by omega) id)))
  · exact fun k => execFunctionLevelReset_spec
  · exact fun d3 bme => execPciPmStateChange_spec
  · exact fun h1 h2 h3 => congrArg Host.Outcome.next (if_pos ⟨h1, h2, by rw [h3]; decide⟩)
  · intro h
    refine congrArg Host.Outcome.next (if_neg ?_)
    rintro ⟨h1, h2, h3⟩
    rcases h with h | h | h
    · exact absurd (h.symm.trans h1) (by decide)
    · rw [h] at h2; exact absurd h2 (by decide)
    · exact h3 h
  · exact fun rate hr => execLinkTrained_spec hr
  · have e : s.hif.pmCfg.fld 7 0 = s.hif.pmCfg.toNat % 256 := by simp [Word.fld]
    exact congrArg (fun n => (Host.Outcome.next { s with hif := { s.hif with ltrEn := true }, out := s.out ++ [.ltr n] } : Res)) e
  · rfl
  · exact fun b => rfl
  · exact fun b => rfl
  · rfl
  · intro m
    refine ⟨_, rfl, fun n => ?_⟩
    refine (BitVec.getLsbD_and ..).trans ?_
    rw [BitVec.getLsbD_not]
    by_cases hn : n < 32
    · simp [hn]
    · rw [BitVec.getLsbD_of_ge _ _ (by omega)]; rfl
  · exact fun b => execMsixMask_spec
  · exact fun b => execMsixEn_spec

end Sys2Proof.Machine
end

section
/-! PROOF of O37: the partner's identity, its lookup and authentication, fleet mode, and the items of the cores (08 R224 to R250). -/
namespace Sys2Proof.Machine

variable {s t u : State} {p : PortId} {e : PodEntry}

/-! ### What leaves a port's Pod unit -/

theorem State.records_pod (k : s.Records t) : (t.port p).pod = (s.port p).pod := by rw [State.port_of_aside k.aside]

theorem Port.unmetered_pod {x y : Port} (h : x.unmetered = y.unmetered) : x.pod = y.pod := by
  have k := congrArg Port.pod h
  exact k

theorem State.sesProfile_pod : ((s.sesProfile p).port p).pod = (s.port p).pod :=
  Port.unmetered_pod (State.Metered.modSes State.Metered.refl)

theorem State.profChanged_pod (old : Option PodEntry × Bool) : ((s.profChanged p old).port p).pod = (s.port p).pod := by
  unfold State.profChanged
  dsimp only
  split
  · exact State.sesProfile_pod
  · unfold State.latchReneg
    rw [State.modPol_eq, State.port_setPort_self]
    exact State.sesProfile_pod

theorem State.modPod_pod (f : PodPort → PodPort) : ((s.modPod p f).port p).pod = f (s.port p).pod := by
  rw [State.modPod_eq, State.port_setPort_self]

/-- What follows a change of the entry in force: its record, the profile it brings, and the commands it ends. -/
theorem State.settled_pod {cause sub v op status : Nat} {old : Option PodEntry × Bool} {r : State → Quad} :
    ((((s.eventP cause p sub v).profChanged p old).finishAll op p status (r ((s.eventP cause p sub v).profChanged p old))).port p).pod
      = (s.port p).pod :=
  (State.records_pod State.Records.refl.finishAll).trans ((State.profChanged_pod old).trans (State.records_pod State.Records.refl.eventP))

/-! ### Identity and lookup -/

theorem idDigest_ne_zero (k : Sopx) (v : List Byte) : idDigest k v ≠ 0 := by
  unfold idDigest
  extract_lets d
  have hd : d < 2 ^ 64 := by
    refine Nat.lt_of_lt_of_le (leVal_lt _) ?_
    calc 256 ^ _ ≤ 256 ^ 8 := Nat.pow_le_pow_right (by decide) (List.length_take_le 8 _)
      _ = 2 ^ 64 := by decide
  split
  · decide
  next h =>
    intro k
    have hk := congrArg BitVec.toNat k
    rw [BitVec.toNat_ofNat, Nat.mod_eq_of_lt hd] at hk
    exact h hk

theorem State.modSes_block (f : List Byte → List Byte) : (s.modSes p f).pod = s.pod := by
  unfold State.modSes
  split
  · rfl
  · dsimp only
    split
    · unfold State.setCtx
      split <;> rfl
    · rfl

theorem State.settleIdentity_pod (d : Quad) : ((s.settleIdentity p d).port p).pod = (s.port p).pod ∧ (s.settleIdentity p d).pod = s.pod := by
  have hp : ((s.sesProfile p).port p).pod = (s.port p).pod := State.sesProfile_pod
  have hb : (s.sesProfile p).pod = s.pod := State.modSes_block _
  unfold State.settleIdentity
  dsimp only
  generalize s.sesProfile p = v at hp hb
  split
  · exact ⟨hp, hb⟩
  · split
    · rw [State.modEf_eq, State.port_setPort_self]
      exact ⟨hp, hb⟩
    · split
      · exact ⟨hp, hb⟩
      · have hr : ((v.clearRetry p).modEf p fun e => { e with cnt := e.cnt.cntInc 3 }).Records
            (((v.clearRetry p).modEf p fun e => { e with cnt := e.cnt.cntInc 3 }).event 0x0605 p.val
              (evData [(24, 4, (s.port p).ef.fd.toNat), (28, 4, d.toNat)])) := State.Records.refl.event
        refine ⟨(State.records_pod hr).trans ?_, ((State.aside_fields hr.aside).2.2.2.1).trans hb⟩
        unfold State.clearRetry
        rw [State.modEf_eq, State.port_setPort_self, State.modWm_eq, State.port_setPort_self, State.modEf_eq, State.port_setPort_self]
        exact hp

theorem State.askLookup_pod (r : LookupReq) : ((s.askLookup p r).port p).pod = { (s.port p).pod with lookPend := some r, lookAt := s.pod.asked } :=
  State.modPod_pod _

theorem State.lookNext_iff : s.lookNext p = true ↔ ∀ k, (s.port k).pod.lookPend = none ∨ (s.port p).pod.lookAt ≤ (s.port k).pod.lookAt := by
  simp [State.lookNext, List.all_eq_true]

theorem execPodLookup_of (h : ∀ k, (s.port k).pod.lookPend = none ∨ (s.port p).pod.lookAt ≤ (s.port k).pod.lookAt) :
    exec (.podLookup p) s = .next (s.lookup p) := congrArg Host.Outcome.next (if_pos (State.lookNext_iff.2 h))

theorem State.podMiss_pod {cause sub : Nat} : ((s.podMiss p cause sub).port p).pod
    = { (s.port p).pod with stale := false, lookPend := none, slot := 0, src := if s.pod.cfg.getLsbD 1 then 3 else 1, copy := none
                            discDone := true, discOn := false } :=
  (State.settled_pod (r := fun u => (u.port p).podResult)).trans (State.modPod_pod _)

theorem State.podHit_plain {k : Nat} (hd : e.deny = false) (ha : e.authReq = false) : ((s.podHit p k e).port p).pod
    = { (s.port p).pod with stale := false, lookPend := none, slot := BitVec.ofNat 12 k, src := 2, copy := some e, discDone := true } := by
  unfold State.podHit
  dsimp only
  rw [hd, ha, if_neg (by decide), if_neg fun k => absurd k.1 (by decide)]
  refine (State.settled_pod (r := fun u => (u.port p).podResult)).trans ?_
  rw [State.modPod_pod, State.modPod_pod]

theorem State.podHit_denied {k : Nat} (hd : e.deny = true) : ((s.podHit p k e).port p).pod
    = { (s.port p).pod with stale := false, lookPend := none, slot := 0, src := 3, copy := none, discDone := true } := by
  unfold State.podHit
  dsimp only
  rw [if_pos hd]
  refine (State.settled_pod (r := fun u => (u.port p).podResult)).trans ?_
  rw [State.modPod_pod, State.modPod_pod]

/-- The block once a lookup is served. -/
def State.served (s : State) : State := { s with pod := { s.pod with opSince := false } }

theorem State.lookup_sop (h : (s.port p).pod.lookPend = some .sop) : s.lookup p = s.served.sopLookup p := by
  unfold State.lookup
  rw [h]
  rfl

theorem State.lookup_cable (h : (s.port p).pod.lookPend = some .cable) : s.lookup p = s.served.cableLookup p := by
  unfold State.lookup
  rw [h]
  rfl

theorem State.sopLookup_hit {k : Nat} (hc : s.pod.cfg.getLsbD 0 = true) (hf : s.pod.find (s.port p).pod.digest.toNat = some (k, e)) (hk : e.kind ≠ 2) :
    s.served.sopLookup p = s.served.podHit p k e := by
  have e1 : (if s.served.pod.cfg.bit 0 then s.served.pod.find (s.served.port p).pod.digest.toNat else none) = some (k, e) := (if_pos hc).trans hf
  unfold State.sopLookup
  rw [e1]
  exact if_neg hk

theorem State.sopLookup_miss (hf : s.pod.find (s.port p).pod.digest.toNat = none) :
    s.served.sopLookup p = s.served.podMiss p 0x0401 0xFFFF := by
  have e1 : (if s.served.pod.cfg.bit 0 then s.served.pod.find (s.served.port p).pod.digest.toNat else none) = none := by
    split
    · exact hf
    · rfl
  unfold State.sopLookup
  rw [e1]

theorem State.cableLookup_hit {k : Nat} (hf : s.pod.find (s.port p).pod.cableDig.toNat = some (k, e)) (hk : e.kind = 2) :
    ((s.cableLookup p).port p).pod = { (s.port p).pod with lookPend := none, cableHit := true, cableEntry := some e } := by
  have hp : ((s.modPod p fun x => { x with lookPend := none }).port p).pod = { (s.port p).pod with lookPend := none } := State.modPod_pod _
  have e1 : (s.modPod p fun x => { x with lookPend := none }).pod.find ((s.modPod p fun x => { x with lookPend := none }).port p).pod.cableDig.toNat
      = some (k, e) := by rw [hp]; exact hf
  unfold State.cableLookup
  dsimp only
  rw [e1]
  dsimp only
  rw [if_pos hk, State.modPod_pod, hp]

/-- A fleet entry that fails is over, and so is its AMS. -/
theorem State.fleetFail_spec {why : Nat} : ((s.fleetFail p why).port p).pod.fleetCmd = 0 ∧ ((s.fleetFail p why).port p).pd.ams = .idle := by
  unfold State.fleetFail
  extract_lets k s1
  have h1 : (s1.port p).pod.fleetCmd = 0 ∧ (s1.port p).pd.ams = .idle := by
    unfold s1 State.amsEnd
    rw [State.modPd_eq, State.port_setPort_self, State.modPod_eq, State.port_setPort_self]
    exact ⟨rfl, rfl⟩
  clear_value s1
  rw [State.port_of_aside (State.Records.refl.eventP.finishAll (s := s1)).aside]
  exact h1

/-! ### Items at the head of VDMTX -/

theorem State.vdmMeet_clean (h : ∀ c ∈ (s.flow (fVdmTx p)).headCells, c.ue = none ∧ c.ce = []) : s.vdmMeet p = (false, s) := by
  unfold State.vdmMeet
  rw [State.meetHead_clean h]
  rfl

theorem State.vdmHead_none (h : s.vdmHead p = none) : (s.flow (fVdmTx p)).headCells = [] := by
  unfold State.vdmHead at h
  unfold Flow.headCells
  split at h
  · cases h
  next e => rw [e]

theorem State.Records.vdmPop : s.Records (s.vdmPop p) := by
  unfold State.vdmPop
  cases e : s.popCell (fVdmTx p) with
  | none => exact State.Records.refl
  | some x => exact State.Records.refl.popCell e

theorem State.vdmPop_now : (s.vdmPop p).now = s.tb.count := by
  have h := congrArg TbState.count (State.Records.vdmPop (s := s) (p := p)).tb
  exact h

theorem State.runs_start_ne {x y : Tmr} (h : x ≠ y) : (s.start p y).runs p x = s.runs p x := by
  unfold State.runs
  rw [State.start_eq, State.port_setPort_self]
  simp only [insertNew]
  split
  · rfl
  · simp [h]

theorem State.records_runs {x : Tmr} (k : s.Records t) : t.runs p x = s.runs p x := by
  unfold State.runs
  rw [State.port_of_aside k.aside]

/-- A message handed over starts no timer but the wait of its AMS. -/
theorem State.nextTx_runs {x : Tmr} (hx : x ≠ .amsWait) (h : s.runs p x = false) : (s.nextTx p).runs p x = false := by
  unfold State.nextTx
  generalize (s.flow (fPdTx p)).cells.length + 1 = n
  induction n generalizing s with
  | zero => exact h
  | succ n ih =>
    unfold State.nextTxN
    dsimp only
    split
    · exact h
    · split
      · split
        · exact ih ((State.records_runs (State.Records.refl.emit.trans State.Records.popMsg)).trans h)
        · have hm (f : PdState → PdState) : (s.modPd p f).runs p x = false := by
            unfold State.runs at h ⊢
            rw [State.modPd_eq, State.port_setPort_self]
            exact h
          split
          · exact (State.runs_start_ne hx).trans (hm _)
          · exact hm _
      · exact h

theorem State.pdSend_runs {x : Tmr} {m : PdMsg} {prod : PdProd} {first : Bool} (hx : x ≠ .amsWait) (h : s.runs p x = false) :
    (s.pdSend p m prod first).runs p x = false := by
  unfold State.pdSend
  dsimp only
  split
  · exact (State.records_runs State.Records.refl.emit).trans h
  · split
    · exact (State.records_runs State.Records.refl.emit).trans h
    · split
      next u e => exact State.nextTx_runs hx ((State.records_runs (State.Records.putMsg (Option.ite_none_right_eq_some.mp e).2)).trans h)
      · exact (State.records_runs State.Records.refl.modFlow.modFlow).trans h

/-- A message handed over leaves the port's Pod unit. -/
theorem State.pdSend_pod {m : PdMsg} {prod : PdProd} {first : Bool} : ((s.pdSend p m prod first).port p).pod = (s.port p).pod := by
  have k := congrArg Port.pod (State.Said.refl.pdSend (s := s) (p := p) (m := m) (prod := prod) (first := first)).port
  exact k

/-! ### Authentication -/

/-- The outcome of an authentication in the port's Pod unit. -/
def PodPort.judged (x : PodPort) (cfg : Word) (e : PodEntry) (code : Nat) : PodPort :=
  let x := { x with pendCopy := none, auth := BitVec.ofNat 4 code, discDone := true }
  if code = 2 then { x with src := 2, copy := some e, authPassed := true }
  else { x with src := if cfg.getLsbD 2 then 3 else 1, copy := none, slot := 0 }

theorem State.authEnd_pod {code : Nat} (h : (s.port p).pod.pendCopy = some e) :
    ((s.authEnd p code).port p).pod = (s.port p).pod.judged s.pod.cfg e code := by
  unfold State.authEnd
  rw [h]
  dsimp only
  refine (State.settled_pod (r := fun _ => evData [(24, 1, code)])).trans ?_
  rw [State.modPod_pod, State.stop_port_pod]
  rfl

/-- An item for a core leaves of the port's Pod unit all but the count of discarded items. -/
theorem State.jobItem_pod {item : Nat} : ∃ n, ((s.jobItem p item e).port p).pod = { (s.port p).pod with discards := n }
    ∧ (s.jobItem p item e).pod = s.pod := by
  unfold State.jobItem
  dsimp only
  cases h : s.putCell (fVdmRx p) [.bytes ((s.port p).itemHead item 0 0 (s.port p).pod.slot.toNat (some e) s.now)] with
  | some u =>
    have hr : s.Records u := State.Records.refl.putCell h
    exact ⟨_, State.records_pod hr, (State.aside_fields hr.aside).2.2.2.1⟩
  | none =>
    have hc : s.Records (s.countNoCredit (fVdmRx p)) := State.Records.refl.modFlow
    refine ⟨satN 32 ((s.port p).pod.discards + 1), ?_, ?_⟩
    · show ((s.vdmDiscard p 3).port p).pod = _
      unfold State.vdmDiscard
      refine (State.records_pod State.Records.refl.eventP).trans ?_
      rw [State.modPod_pod, State.records_pod hc]
    · show (s.vdmDiscard p 3).pod = _
      unfold State.vdmDiscard
      refine ((State.aside_fields State.Records.refl.eventP.aside).2.2.2.1).trans ?_
      exact (State.aside_fields hc.aside).2.2.2.1

/-- A core's answer to an authentication that awaits it. -/
theorem execAuthResult_done {b : List Byte} (hb : s.vdmHead p = some b) (hclean : ∀ c ∈ (s.flow (fVdmTx p)).headCells, c.ue = none ∧ c.ce = [])
    (hitem : getLE b 0 1 = 2) (hinst : getLE b 4 2 = (s.port p).cc.inst.toNat) (hcode : getLE b 6 1 = 2) (hold : (s.port p).pod.oldJob = false) :
    exec (.authResult p) s = .next ((s.vdmPop p).authEnd p 2) := by
  have hport : (s.vdmPop p).port p = s.port p := State.port_of_aside State.Records.vdmPop.aside p
  show execAuthResult p s = _
  unfold execAuthResult
  rw [State.vdmMeet_clean hclean]
  dsimp only
  rw [if_neg (by decide), hb]
  dsimp only
  rw [if_neg (by rw [hitem]; decide), hport, hold, if_neg fun k => absurd k.1 (by decide), hcode, if_pos ⟨hinst, by decide, by decide⟩]

theorem execAuthTimeout_spec (hr : s.runs p .auth = true) (he : (s.port p).pod.pendCopy = some e) : ∃ t, exec (.authTimeout p) s = .next t
    ∧ ∃ n, (t.port p).pod = PodPort.judged { (s.port p).pod with discards := n } s.pod.cfg e 6 := by
  have hstop : ((s.stop p .auth).port p).pod = (s.port p).pod := State.stop_port_pod _
  obtain ⟨n, hpod, hblock⟩ := State.jobItem_pod (s := s.stop p .auth) (p := p) (item := 3) (e := e)
  refine ⟨((s.stop p .auth).jobItem p 3 e).authEnd p 6, congrArg Host.Outcome.next ((State.onExpiry_runs _ _ hr).trans ?_), n, ?_⟩
  · rw [hstop, he]
  · rw [State.authEnd_pod (e := e) (by rw [hpod, hstop]; exact he), hpod, hblock, hstop]
    rfl

/-! ### The items of the cores -/

/-- An item at the head of VDMTX whose cells hold no error. -/
theorem execVdmtxItem_clean {b : List Byte} (hb : s.vdmHead p = some b)
    (hclean : ∀ c ∈ (s.flow (fVdmTx p)).headCells, c.ue = none ∧ c.ce = []) : exec (.vdmtxItem p) s = .next (
      let q := s.port p
      if getLE b 4 2 ≠ q.cc.inst.toNat then s.vdmPop p
      else if getLE b 0 1 = 1 then
        if ¬ s.coreMay (itemMsg b) then (s.vdmPop p).emit (.pdOutcome p (itemMsg b) .core .refused s.tb.count 0)
        else if q.readyIdle ∨ (q.pol.seq = .sink ∧ q.pd.ams = .idle) ∨ q.cc.st = .debugAcc then
          (s.vdmPop p).pdSend p (q.versioned (itemMsg b)) .core true
        else s
      else if getLE b 0 1 = 3 then
        if ¬ q.pod.vdmAwait then s.vdmPop p
        else if ¬ q.pod.answers (itemMsg b) then (s.vdmPop p).emit (.pdOutcome p (itemMsg b) .core .refused s.tb.count 0)
        else (((s.vdmPop p).stop p .vdmAnswer).modPod p fun x => { x with vdmAwait := false }).pdSend p (q.versioned (itemMsg b)) .core
      else if getLE b 0 1 = 2 then s
      else s.vdmPop p) := by
  show execVdmtxItem p s = _
  unfold execVdmtxItem
  rw [State.vdmMeet_clean hclean]
  dsimp only
  rw [if_neg (by decide), hb]
  dsimp only
  rw [State.vdmPop_now]
  rfl

/-- A wait for a core's answer that ends, with the message that ends it handed over. -/
theorem State.answer_spec {m : PdMsg} {prod : PdProd} {first : Bool} :
    ((((s.stop p .vdmAnswer).modPod p fun x => { x with vdmAwait := false }).pdSend p m prod first).port p).pod.vdmAwait = false
    ∧ (((s.stop p .vdmAnswer).modPod p fun x => { x with vdmAwait := false }).pdSend p m prod first).runs p .vdmAnswer = false := by
  refine ⟨?_, State.pdSend_runs (by decide) ?_⟩
  · rw [State.pdSend_pod, State.modPod_pod]
  · have h := State.runs_stop (s := s) (p := p) .vdmAnswer
    unfold State.runs at h ⊢
    rw [State.modPod_eq, State.port_setPort_self]
    exact h

/-! ### The identity's digest -/

/-- The digest of a partner's identity, taken. -/
def PodPort.identified (x : PodPort) (d : Quad) : PodPort := { x with ackSop := none, digest := d, idValid := true }

/-- The digest of a cable's identity, taken. -/
def PodPort.cableTaken (x : PodPort) (d : Quad) : PodPort := { x with ackCable := none, cableDig := d }

theorem execIdentityDigest_sop {v : List Byte} (hv : (s.port p).pod.ackSop = some v) (hl : (s.port p).pod.lookPend = none)
    (hcfg : s.pod.cfg.getLsbD 0 = true) : ∃ t, exec (.identityDigest p false) s = .next t
      ∧ (t.port p).pod.digest = idDigest .sop v ∧ (t.port p).pod.digest ≠ 0 ∧ (t.port p).pod.idValid = true
      ∧ (t.port p).pod.lookPend = some .sop ∧ (t.port p).pod.ackSop = none := by
  have e : execIdentityDigest p false s = .next (
      if ((s.modPod p (·.identified (idDigest .sop v))).settleIdentity p (idDigest .sop v)).pod.cfg.getLsbD 0 = true
      then ((s.modPod p (·.identified (idDigest .sop v))).settleIdentity p (idDigest .sop v)).askLookup p .sop
      else ((s.modPod p (·.identified (idDigest .sop v))).settleIdentity p (idDigest .sop v)).podMiss p 0x0401 0xFFFF) := by
    unfold execIdentityDigest
    dsimp only
    rw [if_neg (by decide), hv]
    dsimp only
    rw [hl, if_neg (by decide)]
    rfl
  have hne := idDigest_ne_zero .sop v
  generalize idDigest .sop v = d at e hne ⊢
  obtain ⟨hpod, hblock⟩ := State.settleIdentity_pod (s := s.modPod p (·.identified d)) (p := p) d
  rw [State.modPod_pod] at hpod
  generalize (s.modPod p (·.identified d)).settleIdentity p d = w at hpod hblock e
  have hw : w.pod.cfg.getLsbD 0 = true := by rw [hblock]; exact hcfg
  have ht : ((w.askLookup p .sop).port p).pod = { (s.port p).pod.identified d with lookPend := some .sop, lookAt := w.pod.asked } := by
    rw [State.askLookup_pod, hpod]
  refine ⟨_, e.trans (congrArg Host.Outcome.next (if_pos hw)), ?_⟩
  rw [ht]
  exact ⟨rfl, hne, rfl, rfl, rfl⟩

theorem execIdentityDigest_cable {v : List Byte} (hv : (s.port p).pod.ackCable = some v) (hl : (s.port p).pod.lookPend = none) :
    ∃ t, exec (.identityDigest p true) s = .next t ∧ (t.port p).pod.cableDig = idDigest .sopp v ∧ (t.port p).pod.ackCable = none
      ∧ (s.pod.cfg.getLsbD 4 = true → (t.port p).pod.lookPend = some .cable) := by
  have e : execIdentityDigest p true s = .next (if s.pod.cfg.getLsbD 4 = true
      then (s.modPod p (·.cableTaken (idDigest .sopp v))).askLookup p .cable
      else s.modPod p (·.cableTaken (idDigest .sopp v))) := by
    unfold execIdentityDigest
    dsimp only
    rw [if_pos rfl, hv]
    dsimp only
    rw [hl, if_neg (by decide)]
    rfl
  generalize idDigest .sopp v = d at e ⊢
  have hpod : ((s.modPod p (·.cableTaken d)).port p).pod = (s.port p).pod.cableTaken d := State.modPod_pod _
  generalize s.modPod p (·.cableTaken d) = w at hpod e
  refine ⟨_, e, ?_⟩
  by_cases hc : s.pod.cfg.getLsbD 4 = true
  · rw [if_pos hc, State.askLookup_pod, hpod]
    exact ⟨rfl, rfl, fun _ => rfl⟩
  · rw [if_neg hc, hpod]
    exact ⟨rfl, rfl, fun k => absurd k hc⟩

/-! ### O37 -/

/-- Settles O37: by what each command leaves of the port's Pod unit, and by the branches of an item's. -/
theorem partnerIdentity : Obligations.PartnerIdentity := by
  unfold Obligations.PartnerIdentity
  refine ⟨fun s p => ⟨?_, ?_, ?_, ?_, fun hnext => ⟨?_, ?_, ?_, ?_⟩, ?_, ?_, ?_, ?_, ?_, ?_⟩, fun s p => ⟨?_, fun hclean => ⟨?_, ?_, ?_⟩, ?_⟩⟩
  · exact fun v hv hl hcfg => execIdentityDigest_sop hv hl hcfg
  · exact fun v hv hl => execIdentityDigest_cable hv hl
  · intro hl
    refine congrArg Host.Outcome.next ?_
    split
    · unfold State.lookup
      rw [hl]
    · rfl
  · rintro ⟨k, hk, hlt⟩
    refine congrArg Host.Outcome.next (if_neg fun h => ?_)
    rcases State.lookNext_iff.1 h k with h | h
    · exact hk h
    · exact absurd h (by omega)
  · intro k e hl hc hf hk hd ha
    have ht := State.podHit_plain (s := s.served) (p := p) (k := k) hd ha
    exact ⟨_, (execPodLookup_of hnext).trans (congrArg Host.Outcome.next ((State.lookup_sop hl).trans (State.sopLookup_hit hc hf hk))),
      congrArg PodPort.src ht, congrArg PodPort.copy ht, congrArg PodPort.slot ht, congrArg PodPort.lookPend ht⟩
  · intro k e hl hc hf hk hd
    have ht := State.podHit_denied (s := s.served) (p := p) (k := k) hd
    exact ⟨_, (execPodLookup_of hnext).trans (congrArg Host.Outcome.next ((State.lookup_sop hl).trans (State.sopLookup_hit hc hf hk))),
      congrArg PodPort.src ht, congrArg PodPort.copy ht⟩
  · intro hl hf
    have ht := State.podMiss_pod (s := s.served) (p := p) (cause := 0x0401) (sub := 0xFFFF)
    exact ⟨_, (execPodLookup_of hnext).trans (congrArg Host.Outcome.next ((State.lookup_sop hl).trans (State.sopLookup_miss hf))),
      congrArg PodPort.src ht, congrArg PodPort.copy ht, congrArg PodPort.slot ht⟩
  · intro k e hl hf hk
    have ht := State.cableLookup_hit (s := s.served) (p := p) hf hk
    exact ⟨_, (execPodLookup_of hnext).trans (congrArg Host.Outcome.next (State.lookup_cable hl)), congrArg PodPort.cableHit ht,
      congrArg PodPort.cableEntry ht⟩
  · intro b e hb hclean hitem hinst hcode hold he
    have hpod : ((s.vdmPop p).port p).pod = (s.port p).pod := State.records_pod State.Records.vdmPop
    have ht := State.authEnd_pod (s := s.vdmPop p) (code := 2) (by rw [hpod]; exact he)
    rw [hpod] at ht
    exact ⟨_, execAuthResult_done hb hclean hitem hinst hcode hold, congrArg PodPort.src ht, congrArg PodPort.copy ht, congrArg PodPort.auth ht,
      congrArg PodPort.authPassed ht, congrArg PodPort.pendCopy ht⟩
  · intro e hr he
    obtain ⟨t, ht, n, hpod⟩ := execAuthTimeout_spec hr he
    exact ⟨t, ht, congrArg PodPort.auth hpod, congrArg PodPort.copy hpod, congrArg PodPort.pendCopy hpod, congrArg PodPort.src hpod⟩
  · exact fun h => congrArg Host.Outcome.next (if_pos h)
  · exact fun h => congrArg Host.Outcome.next (if_neg (by rw [h]; decide))
  · exact fun hl hi hc => congrArg Host.Outcome.next (if_pos ⟨by rw [hl]; rfl, hi, hc⟩)
  · intro hr hc
    refine ⟨_, congrArg Host.Outcome.next ((State.onExpiry_runs _ _ hr).trans (if_pos ?_)), State.fleetFail_spec⟩
    rw [State.stop_port_pod]
    exact hc
  · intro h
    show execVdmtxItem p s = _
    unfold execVdmtxItem
    rw [State.vdmMeet_clean (by rw [State.vdmHead_none h]; exact fun _ k => absurd k List.not_mem_nil)]
    dsimp only
    rw [if_neg (by decide), h]
  · exact fun b hb hinst => (execVdmtxItem_clean hb hclean).trans (congrArg Host.Outcome.next (if_pos hinst))
  · intro b hb hinst hitem
    refine ⟨fun hm => (execVdmtxItem_clean hb hclean).trans ?_, fun hm hi => (execVdmtxItem_clean hb hclean).trans ?_⟩
    · dsimp only
      rw [if_neg (not_not_intro hinst), if_pos hitem, if_pos (by rw [hm]; decide)]
    · dsimp only
      rw [if_neg (not_not_intro hinst), if_pos hitem, if_neg (by rw [hm]; decide), if_pos (.inl hi)]
  · intro b hb hinst hitem haw
    refine ⟨fun hm => ⟨(((s.vdmPop p).stop p .vdmAnswer).modPod p fun x => { x with vdmAwait := false }).pdSend p
      ((s.port p).versioned (itemMsg b)) .core, (execVdmtxItem_clean hb hclean).trans ?_, State.answer_spec⟩, fun hm => (execVdmtxItem_clean hb hclean).trans ?_⟩
    · dsimp only
      rw [if_neg (not_not_intro hinst), if_neg (by rw [hitem]; decide), if_pos hitem, if_neg (by rw [haw]; decide), if_neg (by rw [hm]; decide)]
    · dsimp only
      rw [if_neg (not_not_intro hinst), if_neg (by rw [hitem]; decide), if_pos hitem, if_neg (by rw [haw]; decide), if_pos (by rw [hm]; decide)]
  · intro hr haw
    refine ⟨_, congrArg Host.Outcome.next ((State.onExpiry_runs _ _ hr).trans (if_pos ?_)), State.answer_spec⟩
    rw [State.stop_port_pod]
    exact haw

end Sys2Proof.Machine
end
